-- ==== Sys2Proof/Word.lean ====
section
/-!
DEFINITION. Word types of the SVT6408 model: octets, 32-bit registers, 64-bit counters, and the plainest conversions.
-/

namespace Sys2Proof

/-- An octet. -/
abbrev Byte := BitVec 8

/-- A register word (R361). -/
abbrev W32 := BitVec 32

/-- A 64-bit counter or identifier. -/
abbrev W64 := BitVec 64

end Sys2Proof
end

