-- ==== Sys2Proof/Syntax.lean ====
section
/-!
DEFINITION. The commands of the block: one constructor of Instr per row of spec/opcode_table.json, in the table's order,
with the operands its rule of spec/ gives it; before it the operand types.
-/

namespace Sys2Proof

/-- The side of a logical port (R28). -/
inductive Side where | host | line
deriving DecidableEq, Repr

/-- A logical port HPn or LPn. -/
structure PortId where
  side : Side
  n    : Nat
deriving DecidableEq, Repr

/-- A bus master (R339, R340): privileged firmware of a service core, a user-level CA task on a core, the two PCIe
functions, the SMBus target, an Iaholt session. -/
inductive Origin where
  | core (c : Nat)
  | task (c ca : Nat)
  | pf0 | pf1 | smbus | iaholt
deriving DecidableEq, Repr

/-- The forms of the SecTAG protection registers SECY_CFG_WRITE acts on. -/
inductive SecReg where | cfg (n : Nat) | win (n : Nat) | ctl
deriving DecidableEq, Repr

/-- MACsec SAK Use as a peer reports it (R99, R107, R110): the latest key and the old one. -/
structure SakUse where
  latestMi : BitVec 96
  latestKn : W32
  latestAn : Nat
  latestRx : Bool
  latestTx : Bool
  oldMi    : BitVec 96
  oldKn    : W32
  oldTx    : Bool
  lowestPn : Nat          -- the peer's latest lowest acceptable PN
deriving DecidableEq, Repr

/-- A Distributed SAK parameter set (R105). -/
structure DistSak where
  an     : Nat
  conf   : Nat            -- confidentiality offset code, as SEC_SECY_CFG.CONF
  kn     : W32
  suite  : W64            -- 802.1AE cipher suite identifier
  wrap   : List Byte
deriving DecidableEq, Repr

/-- The switch-epoch TLV of R109. -/
structure EpochTlv where
  an  : Nat
  kn  : W32
  sec : Nat
  ns  : Nat
deriving DecidableEq, Repr

/-- A received MKPDU, its parameter sets taken apart (R99). The octet layouts are 802.1X-2020's. -/
structure Mkpdu where
  ckn     : List Byte
  wellFormed : Bool
  icvOk   : Bool
  mi      : BitVec 96
  mn      : Nat
  sci     : W64
  prio    : Nat
  isKs    : Bool
  cap     : Nat           -- MACsec Capability (R100)
  desired : Bool          -- MACsec protection desired
  live    : List (BitVec 96 × Nat)
  pot     : List (BitVec 96 × Nat)
  use     : Option SakUse
  sak     : Option DistSak
  epoch   : Option EpochTlv
  suites  : List W64      -- the MACsec Cipher Suites TLV of an Announcement (R99)
  ignored : Bool          -- carries a Distributed CAK or an EAPOL-Announcement request
deriving DecidableEq, Repr

/-- Where a pairing message arrived (R116, R232). -/
inductive PairCh where | line (n : Nat) | tether
deriving DecidableEq, Repr

/-- The read outcome of a cellar line as the stack reports it (R175, R189). -/
inductive ReadRes where | clean | corrected | uncorrectable
deriving DecidableEq, Repr

/-- A PTP message other than a Sync from the master (R209). -/
inductive PtpMsg where
  | announce (port : W64) (prio1 cls acc : Nat) (var : Nat) (prio2 : Nat) (gm : W64) (steps : Nat)
  | followUp (port : W64) (seq : Nat) (t1 : Int)
  | delayReq (port : W64) (seq : Nat)
  | delayResp (port : W64) (seq : Nat) (t4 : Int)
  | pdelayReq (port : W64) (seq : Nat)
  | pdelayResp (port : W64) (seq : Nat) (t2 t3 : Int)
deriving DecidableEq, Repr

/-- The PTP messages the service sends on its timers (R209). -/
inductive PtpTimer where | sync | announce | delayReq
deriving DecidableEq, Repr

/-- Pair states (R240, PAR_STATUS.STATE). -/
inductive PairState where | start | solo | standby | active | recovery | test | fenced
deriving DecidableEq, Repr

/-- The tag of a received tether record (R230, R231): zero (HELLO before a key), one that verifies, one that fails. -/
inductive TTag where | zero | ok | bad
deriving DecidableEq, Repr

/-- The body of a tether record, by kind (R234). -/
inductive TBody where
  | hello (serial : W64) (slot : Nat) (st : PairState) (fmt : Nat) (digest : List Byte) (base : BitVec 48)
      (nonce : List Byte) (prefer actOut : Bool)
  | status (st : PairState) (shed : Nat) (lease synced : Bool)
  | ack (upTo : Nat)
  | sak (ca : Nat) (wrap : List Byte) (klen : Nat) (kn : W32) (an : Nat) (sscis : List (W64 × W32)) (salt : BitVec 96)
  | saCmd (op : Nat) (sa : Nat) (pn : Nat)
  | pnLease (sa lease : Nat)
  | rxReplay (batch : List (Nat × Nat × Nat × W64))
  | mkaState (ca : Nat) (mi : BitVec 96) (isKs : Bool) (ksSci : W64) (kn : W32) (an oldAn : Nat)
  | mnLease (ca lease : Nat)
  | mkaPeer (ca : Nat) (mi : BitVec 96) (mn : Nat) (sci : W64) (live : Bool)
  | time (rate : W32) (t : Int)
  | epoch (ca an : Nat) (kn : W32) (at_ : Option Int)
  | cak (slot : Nat) (ckn : List Byte) (klen : Nat) (wrap : List Byte)
  | handover (leases : List (Nat × Nat)) (mns : List (Nat × Nat)) (role : PairState)
deriving DecidableEq, Repr

/-- A line as a stack returned it where it differs from a clean read of what was stored (R175, R189): its report,
and the 64 octets with the check octets when they are not those stored. -/
structure LineSeen where
  line : Nat
  res  : ReadRes
  data : Option (BitVec 512 × W64)
deriving DecidableEq, Repr

/-- A frame off the medium: its octets, and the FEC codewords that came with it corrected and not corrected (R49). -/
structure RxFrame where
  octets : List Byte
  corr   : Nat
  unc    : Nat
deriving DecidableEq, Repr

/-- A line to write (R184, R187): its octets, which of the 64 are written, and what the lines read on the way return. -/
structure LineData where
  data : BitVec 512
  mask : W64
  seen : List LineSeen
deriving DecidableEq, Repr

/-- What the entropy start-up test saw (R134): its samples, and whether the DRBG known-answer test passed. -/
structure StartUp where
  samples : List Bool
  kat     : Bool
deriving DecidableEq, Repr

/-- What the tests of ST09 found (R193, R197): stacks that do not come up, and lines that fail the pattern test. -/
structure StackTest where
  absent : List Nat
  lines  : List Nat
deriving DecidableEq, Repr

/-- A rind node to be restored (R190): a line of a stack, or a line of the on-die levels 6-9. -/
inductive NodeRef where
  | line (a : Nat)
  | die (stack level index : Nat)
deriving DecidableEq, Repr

/-- What causes a power-on reset (R247, STA_STATUS.CAUSE 0 and 1). -/
inductive PorCause where | powerGood | vcoreReset
deriving DecidableEq, Repr

/-- What a clock monitor finds over its window (R306). -/
inductive ClkRes where | inRange | high | low
deriving DecidableEq, Repr

/-- A TX descriptor as the part fetched it from host memory (R330), and the frame octets at its buffer. -/
structure TxDesc where
  len    : Nat
  port   : BitVec 8
  flags  : BitVec 8
  launch : W64
  zeros  : Bool            -- octets 12-15 and 24-31 read zero
  frame  : List Byte
  readOk : Bool            -- the buffer read succeeded on the link (R331 RESULT 5)
deriving DecidableEq, Repr

/-- Kinds of access the unlocked debug instructions 0x22-0x2F make (R346). -/
inductive DbgKind where
  | halt (c : Nat) | resume (c : Nat) | step (c : Nat)
  | read (c addr : Nat) | write (c addr : Nat) (v : W32) | scan
deriving DecidableEq, Repr

/-- An observation unit (R350). -/
inductive ObsUnit where | engine (e : Nat) | port (p : Nat) | core (c : Nat) | cellar
deriving DecidableEq, Repr

/-- The Iaholt OPEN body and the datagrams after it: octets as R336 and R337 lay them out. -/
structure IahHdr where
  session : W32
  seq     : Nat
  tagOk   : Bool
deriving DecidableEq, Repr

/-- The commands, one constructor per row of the table. An operand o is the bus master a register command comes from
(R339, R340). -/
inductive Instr where
  -- The secured path (01) and ports (02)
  | hostFrameReceived (port : Nat) (rx : RxFrame)
  | lineFrameReceived (port : Nat) (rx : RxFrame)
  | pauseRefresh (port : Nat)
  | parityRepair (slice : Nat) (word : Nat)
  | pnIssue (frame : Nat)
  | parkedFrameDrop (secy : Nat)
  | dispatch (frame : Nat)
  | coldSaFetchDone (sa : Nat) (res : ReadRes)
  | demotionWritebackDone (sa : Nat)
  | cipherComplete (frame seg : Nat)
  | reorderRelease (frame : Nat)
  | verdict (frame : Nat)
  | commitPoint (frame : Nat)
  | transmitSelection (port : PortId)
  | engineFault (eng cause : Nat)
  | engineStall (eng : Nat)
  | linkUp (port : PortId) (form fec : Nat)
  | linkDown (port : PortId)
  | trainingRestart (port : PortId)
  | forcedFormProbe (port : PortId) (reached : Bool)
  | recalReq (o : Origin) (port : PortId) (queue : Bool)
  | recalDone (port : PortId) (coefs : List W32)
  | maxFrameWrite (o : Origin) (port : Nat) (v : W32)
  | fcThrWrite (o : Origin) (port : Nat) (v : W32)
  | pauseFrameReceived (port : PortId) (quanta : Nat)
  | pfcFrameReceived (port : PortId) (enable : BitVec 8) (times : List Nat)
  | pauseExpired (port : PortId) (pri : Option Nat)
  | pauseStorm (port : PortId)
  | pauseStormQuiet (port : PortId)
  | portDormant (port : PortId)
  | beacon (port : PortId)
  | portWake (port : PortId)
  | wakeEnergyQualified (port : PortId)
  | dormantWake (o : Origin) (port : PortId)
  | statSnap (o : Origin) (port : PortId)
  -- Classification (03)
  | bankSwitch (o : Origin)
  | bankDrained
  | ageingSweep
  | ageWrite (o : Origin) (v : W32)
  | twRead (o : Origin) (slice table bank : Nat)
  | twWrite (o : Origin) (slice table bank : Nat)
  | twInsert (o : Origin) (slice : Nat)
  | twDelete (o : Origin) (slice : Nat)
  | twFlushLport (o : Origin) (slice : Nat)
  | twFlushPeer (o : Origin) (slice : Nat)
  | flushDone
  | lpModeWrite (o : Origin) (port : Nat) (v : W32)
  -- SecYs (04)
  | sawRead (o : Origin)
  | sawInstall (o : Origin)
  | sawRetire (o : Origin)
  | sawRaise (o : Origin)
  | sawArm (o : Origin) (epoch : Int)
  | sawDisarm (o : Origin)
  | sawSwitch (o : Origin)
  | rscwRead (o : Origin)
  | rscwInstall (o : Origin)
  | rscwRemove (o : Origin)
  | saDrained (sa : Nat)
  | keySwitchEpoch (secy : Nat)
  | secyCfgWrite (o : Origin) (r : SecReg) (v : W32)
  | loRegisterCapture (o : Origin) (addr : Nat)
  | minMaxRead (o : Origin) (addr : Nat)
  -- Key agreement (05)
  | mkpduReceived (port : Nat) (m : Mkpdu)
  | mkaHelloTimer (ca : Nat)
  | peerTimeout (ca : Nat) (mi : BitVec 96)
  | sakLifetimeExpired (ca : Nat)
  | sakSlotRetry (ca : Nat)
  | rxRetainExpired (ca : Nat)
  | caSaRetire (ca : Nat)
  | caStart (ca : Nat)
  | cawReadCa (o : Origin)
  | cawReadPeer (o : Origin)
  | cawRekey (o : Origin)
  | cawRestart (o : Origin)
  | mkaTimeWrite (o : Origin) (k : Nat) (v : W32)
  | presencePress
  | commitReceived (ch : PairCh) (pid : W64) (commitment : List Byte)
  | revealReceived (ch : PairCh) (pid : W64) (nonce pub : List Byte)
  | confirmReceived (ch : PairCh) (pid : W64) (tag : List Byte)
  | pairingMessageTimer
  | pairingWindowExpired
  | pairingConfirmExpired
  | codeSymbolTimer
  -- Key store and service cipher (06)
  | remaskSweep
  | slotwReadStatus (o : Origin)
  | slotwAllocate (o : Origin)
  | slotwRelease (o : Origin)
  | slotwGen128 (o : Origin)
  | slotwGen256 (o : Origin)
  | cakwRead (o : Origin)
  | cakwErase (o : Origin)
  | provBegin (o : Origin) (slot : Nat)
  | provCommit (o : Origin)
  | provAbort (o : Origin)
  | provDataAccess (o : Origin) (write : Bool) (v : W32)
  | provSessionTimeout
  | keyZero (o : Origin) (v : W32)
  | svcEcbEncrypt (o : Origin) (ctx : Nat)
  | svcEcbDecrypt (o : Origin) (ctx : Nat)
  | svcCbcEncrypt (o : Origin) (ctx : Nat)
  | svcCbcDecrypt (o : Origin) (ctx : Nat)
  | svcCtr (o : Origin) (ctx : Nat)
  | svcGcmEncrypt (o : Origin) (ctx : Nat)
  | svcGcmDecrypt (o : Origin) (ctx : Nat)
  | svcCmac (o : Origin) (ctx : Nat)
  | svcKeyWrap (o : Origin) (ctx : Nat) (fromSlot : Bool)
  | svcKeyUnwrap (o : Origin) (ctx : Nat) (toSlot : Bool)
  | svcKdf (o : Origin) (ctx : Nat) (toSlot : Bool)
  | svcContextSave (o : Origin) (ctx : Nat) (wrapped : Bool)
  | svcContextRestore (o : Origin) (ctx : Nat) (wrapped : Bool)
  | svcDrbgOutput (o : Origin) (ctx : Nat) (toSlot : Bool)
  | svcLoadContextKey (o : Origin) (ctx : Nat)
  | svcOperationDone (ctx : Nat)
  | drbgReseed (k : Bool)
  | entropyTestFailure
  | entropyRetestDone (test : StartUp)
  -- Engines and the yardmaster (07)
  | paceWindow (counts : List Nat)
  | marginPeriod
  | tplRead (o : Origin)
  | tplWrite (o : Origin)
  | rebalance
  | setShrink (rx : Bool) (sc : Nat)
  | engineRotation
  | testRequest (o : Origin) (op eng : Nat)
  | testRetry
  | testDeferExpired
  | engineDrained (eng : Nat)
  | engineTestDone (eng : Nat) (pass : Bool) (ratio tap : Nat)
  | shedEngineRecompute
  | engineWakeDone (eng pace : Nat)
  | scwRead (o : Origin)
  -- Traffic manager (08)
  | bucketRefill
  | shwRead (o : Origin)
  | shwWrite (o : Origin)
  | shwWriteAtEpoch (o : Origin)
  | qwRead (o : Origin)
  | qwWrite (o : Origin)
  | polwRead (o : Origin)
  | polwWrite (o : Origin)
  | gcwRead (o : Origin)
  | gcwWrite (o : Origin)
  | configChange (o : Origin) (port : Nat)
  | gateListChange (port : Nat)
  | gateEntryAdvance (port : Nat)
  | launchDue (port k : Nat)
  | launchRelease (port k : Nat)
  | launchLate (port : PortId) (k : Nat)
  | ptpDepartureMissed (frame : Nat)
  -- The cellar (09)
  | cellarLineRead (line : Nat)
  | cellarReadComplete (line : Nat) (seen : List LineSeen)
  | cellarLineWrite (line : Nat) (w : LineData)
  | nodeRestored (node : NodeRef) (seen : List LineSeen)
  | metadataWriteback
  | counterFlush
  | scrub (line : Nat) (seen : List LineSeen)
  | pageMove (stack : Nat) (seen : List LineSeen)
  | stackDrained (stack : Nat)
  | stackWakeDone (stack : Nat) (pass : Bool)
  | stackLost (stack : Nat)
  | copyRebuildDone (stack : Nat)
  | ovtReloadDone (pass : Bool)
  | rgwRead (o : Origin)
  | dgwRead (o : Origin)
  | dgwWrite (o : Origin)
  -- Time (10)
  | referenceSwitch
  | adjRate (o : Origin)
  | adjStep (o : Origin)
  | adjRateAndStep (o : Origin)
  | adjSet (o : Origin)
  | ownerWrite (o : Origin) (owner : Nat)
  | timeSnapshot (o : Origin)
  | ptpSyncReceived (port : W64) (seq : Nat) (twoStep : Bool) (t1 corr : Int)
  | ptpMessageReceived (m : PtpMsg)
  | ptpMessageTimer (k : PtpTimer)
  | announceTimeout
  | hostLockWrite (o : Origin) (lock : Bool)
  | hostLockWatchdog
  | holdoverAgeExpired
  | captureEdge (pin : Nat)
  | capturePop (o : Origin) (pin : Nat)
  | outputEdge (pin : Nat)
  -- The pair (11)
  | actInRise
  | actInFall
  | boltSettled
  | conflictTimeout
  | fenceInHigh
  | fenceInLow
  | fencePulseEnd
  | beatInEdge
  | beatLapse
  | leaseRenewal
  | leaseExpired
  | statusRecordTimer
  | tetherLost
  | helloTimer
  | helloReceived (seq : Nat) (tag : TTag) (serial : W64) (slot : Nat) (st : PairState) (fmt : Nat)
      (digest : List Byte) (base : BitVec 48) (nonce : List Byte) (prefer actOut : Bool)
  | statusReceived (seq : Nat) (tag : TTag) (st : PairState) (shed : Nat) (lease synced : Bool)
  | ackReceived (seq : Nat) (tag : TTag) (upTo : Nat)
  | sakRecord (seq : Nat) (tag : TTag) (ca : Nat) (wrap : List Byte) (klen : Nat) (kn : W32) (an : Nat)
      (sscis : List (W64 × W32)) (salt : BitVec 96)
  | saCommandRecord (seq : Nat) (tag : TTag) (op sa pn : Nat)
  | pnLeaseRecord (seq : Nat) (tag : TTag) (sa lease : Nat)
  | receiveReplayRecord (seq : Nat) (tag : TTag) (batch : List (Nat × Nat × Nat × W64))
  | mkaStateRecord (seq : Nat) (tag : TTag) (ca : Nat) (mi : BitVec 96) (isKs : Bool) (ksSci : W64) (kn : W32)
      (an oldAn : Nat)
  | mnLeaseRecord (seq : Nat) (tag : TTag) (ca lease : Nat)
  | mkaPeerRecord (seq : Nat) (tag : TTag) (ca : Nat) (mi : BitVec 96) (mn : Nat) (sci : W64) (live : Bool)
  | timeRecord (seq : Nat) (tag : TTag) (rate : W32) (t : Int)
  | epochRecord (seq : Nat) (tag : TTag) (ca an : Nat) (kn : W32) (epoch : Option Int)
  | cakRecord (seq : Nat) (tag : TTag) (slot : Nat) (ckn : List Byte) (klen : Nat) (wrap : List Byte)
  | handoverRecord (seq : Nat) (tag : TTag) (leases mns : List (Nat × Nat)) (role : PairState)
  | recordResend
  | rxMirrorTimer
  | timeRecordTimer
  | discoveryTimeout
  | handoverDrainEnd
  | handoverTimeout
  | parTest (o : Origin)
  | parExit (o : Origin)
  | parSwitch (o : Origin)
  | parAcceptDigest (o : Origin)
  | testMaxExpired
  | recoverHoldExpired
  | recoverMaxExpired
  -- Start and ledger (12)
  | powerOnReset (cause : PorCause)
  | coldReset
  | warmReset
  | startBegin
  | st01Done (answers advances monitors : Bool)
  | st02Done (fuseOk : Bool)
  | st03Done (trips : Bool) (rings : Nat) (test : StartUp) (refPin refT : Bool)
  | st04Done (readable : Bool)
  | st05Done
  | st06Done
  | st07Done
  | st08Done (failing : List Nat)
  | st09Done (test : StackTest)
  | st10Done (coefs : List (Nat × W32)) (failing : List Nat)
  | st11Done (failing : List Nat) (cal : List (Nat × Nat × Nat))
  | st12Done
  | st13Done
  | st14Done
  | st12MaxExpired
  | timeWaitExpired
  | stepWatchdog
  | restartAfterFailure
  | staResetWarm (o : Origin)
  | staResetCold (o : Origin)
  | clearHold (o : Origin)
  | clearAlt (o : Origin)
  | staLogwRead (o : Origin)
  | survivalCountWrite
  -- The rennet image (13)
  | xspiRead (o : Origin) (len : Nat)
  | xspiProgram (o : Origin)
  | xspiErase (o : Origin)
  | xspiVerify (o : Origin)
  | xspiCommandDone (ok : Bool)
  -- Supplies, domains and shedding (14)
  | supplyCrossing (supply mv : Nat)
  | vcoreReturnHold (mv : Nat)
  | tjSample (readings : List Int) (tack : Int)
  | tjReturnHold
  | paceLow
  | paceReturnHold
  | stepBack
  | forceStageWrite (o : Origin) (stage : Nat)
  -- Tamper and alarms (15)
  | sealSample (r10 : Nat) (tmp : BitVec 4) (strap : Bool)
  | clockMonitorWindow (ref : Nat) (res : ClkRes)
  | clockGlitch (ref : Nat)
  | crystalCheck (inRange : Bool)
  | supplyGlitch (supply : Nat)
  | alarmHoldExpired (src : Nat)
  | ack (o : Origin)
  | close (o : Origin)
  | stim (o : Origin) (src : Nat)
  | stimEnd (pass holds : Bool)
  | stimRotation
  | presenceWindowExpired
  | flagClear (o : Origin) (v : W32)
  | responseRecordWrite (o : Origin) (src : Nat) (win : Bool) (v : W32)
  | tckLogwRead (o : Origin)
  -- Host interfaces and access control (16)
  | registerWrite (o : Origin) (addr : Nat) (v : W32)
  | pf0Flr
  | pf1Flr
  | txDescriptor (ring : Nat) (d : TxDesc)
  | txWriteback (ring : Nat)
  | rxWriteback (ring : Nat) (addr : W64)
  | rxCoalesce (ring : Nat)
  | ringEnable (o : Origin) (tx : Bool) (ring : Nat)
  | ringDisable (o : Origin) (tx : Bool) (ring : Nat)
  | tailWrite (o : Origin) (tx : Bool) (ring : Nat) (v : W32)
  | smbAddr (pec : Bool) (addr : Nat)
  | smbRead
  | smbWrite (pec : Bool) (v : W32)
  | smbStatus
  | smbId
  | smbusTimeout
  | iaholtOpen (nonce pub : List Byte)
  | iaholtRead (h : IahHdr) (start count : Nat)
  | iaholtWrite (h : IahHdr) (pairs : List (Nat × W32))
  | iaholtClose (h : IahHdr)
  | iaholtIdleClose (slot : Nat)
  | acuCommit (o : Origin) (acu : Nat)
  | acuFenceDrained (acu : Nat)
  | extest
  | extestPulse
  | extestTrain
  | clamp
  | highz
  | idcode
  | samplePreload
  | bypass
  | dbgChal
  | dbgResp (pub r sig : List Byte)
  | debugAccess (k : DbgKind)
  -- Observation (17)
  | counterWrapSample (u : ObsUnit) (cnt : Nat) (d1 d2 : W32)
  | smpwPop (o : Origin)
  | freeze (o : Origin) (on : Bool)
  | eventLogEntry
  | obsLogwRead (o : Origin)
  | pcieFundamentalReset
  | presenceRelease
deriving DecidableEq, Repr

end Sys2Proof
end

