-- ==== Sys2Proof/Decode.lean ====
section
/-!
DEFINITION. The command a table word spells. No row of spec/opcode_table.json gives its command bits: the part takes
events, pins, frames and bus accesses, and the one word form it has, a register write, is decoded by the register map
(Machine/Bus.lean). So no word spells a command.
-/

namespace Sys2Proof

/-- The table gives no row any bits: no word spells a command. -/
def decodeTableWord (nbits w : Nat) : Option Instr :=
  match nbits, w with
  | _, _ => none

end Sys2Proof
end

