-- ==== Sys2Proof/Config.lean ====
section
/-!
DEFINITION. What one part fixes and the spec leaves open: free values, opaque constants of which no proof can see a
value (log entry 10), and the constants of the mask ROM.
-/

namespace Sys2Proof

/-- The k-th value drawn from a DRBG, a share mask or a nonce (R134): nothing constrains it. -/
opaque Config.draw : Nat → BitVec 512

/-- The fixed receive delay of a port form and FEC held in mask ROM, units of 2^-4 ns (R214, TIM_DLY.RX). -/
opaque Config.rxDelay : Nat → Nat → BitVec 16

/-- The fixed transmit delay of a port form and FEC, likewise (R214, TIM_DLY.TX). -/
opaque Config.txDelay : Nat → Nat → BitVec 16

/-- Whether the forced probe of 100GBASE-R on 4 lanes runs RS(528,514) (R32; log entry 35). -/
opaque Config.probeRs : Bool

/-- Half the range of a counter accumulator (R187), which the spec does not size (log entry 17). -/
opaque Config.accHalf : Nat

end Sys2Proof
end

