-- ==== Sys2Proof/Machine/RegMap.lean ====
section
/-!
DEFINITION. The register map (R361-R368 and each chapter's register rule): every register with its address, its copies
and its fields with their access codes and ranges, taken from the register tables of spec/.
-/

namespace Sys2Proof.Machine

/-- The access codes of R8. -/
inductive Acc where | ro | wo | rw | rwp | rwi | w1c | rws
deriving DecidableEq, Repr

/-- Copies of a register (R363, R364): one; one per origin group; one minimum or maximum per origin group. -/
inductive Copies where | single | window | minMax
deriving DecidableEq, Repr

/-- The registers, in address order. -/
inductive Reg where
  | GLB_DEV_ID | GLB_DEV_REV | GLB_SERIAL_LO | GLB_SERIAL_HI | GLB_MAC_LO | GLB_MAC_HI | GLB_ROM_ID | GLB_STRAP
  | STA_STATUS | STA_FAIL | STA_START | STA_ENTRY | STA_CMD | STA_INT_STAT | STA_INT_EN | STA_CFG | STA_RB_LO
  | STA_RB_HI | STA_SURV | STA_LEDGER | STA_STACK_ALT | STA_ENG_OUT_LO | STA_ENG_OUT_HI | STA_STEP | STA_LOGW_CMD
  | STA_LOGW_IDX | STA_LOGW_DATA | STA_IMG_RUN | STA_IMG_CNT_LO | STA_IMG_CNT_HI | STA_IMG_ERR | STA_IMG_SRC
  | STA_XSPI_CMD | STA_XSPI_ADDR | STA_XSPI_FLASH | STA_XSPI_VER | STA_XSPI_VER_CNT_LO | STA_XSPI_VER_CNT_HI
  | STA_XSPI_DATA | PWR_STATUS | PWR_DEMAND | PWR_CTL | PWR_VCORE | PWR_TJ | PWR_MARGIN67 | PWR_INT_STAT | PWR_INT_EN
  | PWR_EVT | PWR_SUP | PWR_DOM | PWR_CNT_SEL | PWR_CNT_LO | PWR_CNT_HI | TCK_STATUS | TCK_CTL | TCK_CMD
  | TCK_INT_STAT | TCK_INT_EN | TCK_RAISED | TCK_FLAG | TCK_PEND | TCK_TS_LO | TCK_TS_HI | TCK_SEAL | TCK_STIM
  | TCK_LOGW_CMD | TCK_LOGW_IDX | TCK_LOGW_DATA | TCK_CNT_SEL | TCK_CNT_LO | TCK_CNT_HI | TCK_RESP | TCK_RESP_WIN
  | ACU_CTL | ACU_FENCE | ACU_FAULT_LO | ACU_FAULT_HI | ACU_FAULT_INFO | ACU_FAULT_CNT | ACU_RBASE | ACU_RPAGES
  | ACU_RATTR | ACU_INT_STAT | ACU_INT_EN | ACU_EVT | ACU_DBG | TIM_CTL | TIM_REF | TIM_STATUS | TIM_INT_STAT
  | TIM_INT_EN | TIM_SNAP | TIM_CNT | TIM_DT_FRAC | TIM_DT_NS | TIM_DT_S_LO | TIM_DT_S_HI | TIM_OFS | TIM_RATE
  | TIM_ANCHOR | TIM_ADJ_CMD | TIM_ADJ_RATE | TIM_ADJ_STEP_LO | TIM_ADJ_STEP_HI | TIM_ADJ_SET_NS | TIM_ADJ_SET_S_LO
  | TIM_ADJ_SET_S_HI | TIM_PTP_CFG0 | TIM_PTP_CFG1 | TIM_PTP_CFG2 | TIM_PTP_CFG3 | TIM_HOST | TIM_TC_HP_LO
  | TIM_TC_HP_HI | TIM_PORT_EN | TIM_PORT_EN4 | TIM_DLY_SEL | TIM_DLY | TIM_CAP_CFG | TIM_CAP_S_LO | TIM_CAP_S_HI
  | TIM_CAP_NS | TIM_OUT_CFG | TIM_OUT_S_LO | TIM_OUT_S_HI | TIM_OUT_NS | TIM_OUT_PERIOD | TIM_OUT_WIDTH
  | TIM_CNT_SEL | TIM_CNT_LO | TIM_CNT_HI | HPT_CFG | HPT_AN | HPT_MAX_FRAME | HPT_FC | HPT_FC_THR | HPT_STORM
  | HPT_DORMANT | HPT_MAP | HPT_MAC_LO | HPT_MAC_HI | HPT_STATUS | HPT_INT_STAT | HPT_INT_EN | HPT_RECAL
  | HPT_STAT_IDX | HPT_STAT_LO | HPT_STAT_HI | HPT_STAT_SNAP | LPT_CFG | LPT_AN | LPT_MAX_FRAME | LPT_FC | LPT_STORM
  | LPT_DORMANT | LPT_MAC_LO | LPT_MAC_HI | LPT_STATUS | LPT_INT_STAT | LPT_INT_EN | LPT_RECAL | LPT_STAT_IDX
  | LPT_STAT_LO | LPT_STAT_HI | LPT_STAT_SNAP | MGT_CFG | MGT_IP4 | MGT_SESS | CLS_BANK | CLS_AGE | CLS_TPID
  | CLS_TW_CMD | CLS_TW_ADDR | CLS_TW_DATA | CLS_SL_INT_STAT | CLS_SL_INT_EN | CLS_SL_CNT_IDX | CLS_SL_CNT_LO
  | CLS_SL_CNT_HI | CLS_SL_MAC_COUNT | CLS_LP_MODE | CLS_LP_LEARN | CLS_LP_LCOUNT | CLS_HP_CLS | CLS_HP_DSCP0
  | CLS_HP_DSCP1 | CLS_HP_DSCP2 | CLS_HP_DSCP3 | CLS_HP_DSCP4 | CLS_HP_DSCP5 | CLS_HP_DSCP6 | CLS_HP_DSCP7 | SEC_CTL
  | SEC_INT_STAT | SEC_INT_EN | SEC_EVT | SEC_SAW_CMD | SEC_SAW_IDX | SEC_SAW_DATA0 | SEC_SAW_DATA1 | SEC_SAW_DATA2
  | SEC_SAW_DATA3 | SEC_SAW_DATA4 | SEC_SAW_DATA5 | SEC_SAW_DATA6 | SEC_RSCW_CMD | SEC_RSCW_IDX | SEC_RSCW_DATA0
  | SEC_RSCW_DATA1 | SEC_CNT_SEL | SEC_CNT_LO | SEC_CNT_HI | SEC_SECY_CFG | SEC_SECY_WIN | SEC_SECY_SCI_LO
  | SEC_SECY_SCI_HI | SEC_SECY_TX | ENG_STATE | ENG_PACE | ENG_LOAD | ENG_CAL | ENG_TEST_LAST | ENG_TPL_CMD
  | ENG_TPL_IDX | ENG_TPL_DATA | ENG_INT_STAT | ENG_INT_EN | ENG_EVT | YRD_CTL | YRD_STATUS | YRD_PIN | YRD_CAPDEM
  | YRD_MARGIN | YRD_TEST | YRD_SCW_CMD | YRD_SCW_IDX | YRD_SCW_DATA | YRD_RO_STAT | YRD_INT_STAT | YRD_INT_EN
  | YRD_CNT_SEL | YRD_CNT_LO | YRD_CNT_HI | MKA_CTL | MKA_TIME0 | MKA_TIME1 | MKA_TIME2 | MKA_TIME3 | MKA_STATUS
  | MKA_INT_STAT | MKA_INT_EN | MKA_EVT | MKA_PAIR_CFG | MKA_PAIR_RES | MKA_CAW_CMD | MKA_CAW_IDX | MKA_CAW_DATA
  | MKA_CNT_SEL | MKA_CNT_LO | MKA_CNT_HI | MKA_CA_CFG | MKA_CA_DEST | KEY_STATUS | KEY_INT_STAT | KEY_INT_EN
  | KEY_ZERO | KEY_SLOTW_CMD | KEY_SLOTW_IDX | KEY_SLOTW_DATA0 | KEY_CAKW_CMD | KEY_CAKW_IDX | KEY_CAKW_DATA0
  | KEY_CAKW_DATA1 | KEY_PROV_CMD | KEY_PROV_DATA | KEY_RNG_STAT | KEY_CNT_SEL | KEY_CNT_LO | KEY_CNT_HI | SVC_CTL
  | SVC_KEY | SVC_SRC | SVC_DST | SVC_LEN | SVC_AAD | SVC_STATUS | SVC_IV0 | SVC_IV1 | SVC_IV2 | SVC_TAG0 | SVC_TAG1
  | SVC_TAG2 | SVC_TAG3 | TMG_CTL | TMG_BUF_CFG | TMG_BUF_FREE | TMG_BUF_MIN | TMG_INT_STAT | TMG_INT_EN
  | TMG_CNT_SEL | TMG_CNT_LO | TMG_CNT_HI | TMG_SHW_CMD | TMG_SHW_IDX | TMG_SHW_DATA0 | TMG_SHW_DATA1 | TMG_SHW_DATA2
  | TMG_SHW_DATA3 | TMG_SHW_DATA4 | TMG_SHW_DATA5 | TMG_SHW_DATA6 | TMG_QW_CMD | TMG_QW_IDX | TMG_QW_DATA0
  | TMG_QW_DATA1 | TMG_QW_DATA2 | TMG_POLW_CMD | TMG_POLW_IDX | TMG_POLW_DATA0 | TMG_POLW_DATA1 | TMG_POLW_DATA2
  | TMG_GCW_CMD | TMG_GCW_IDX | TMG_GCW_DATA0 | TMG_GCW_DATA1 | TMG_PORT_CFG | TMG_PORT_PRIO | TMG_PORT_BASE_S_LO
  | TMG_PORT_BASE_S_HI | TMG_PORT_BASE_NS | TMG_PORT_CYCLE_NS | TMG_PORT_EXT_NS | TMG_PORT_LAUNCH | TMG_PORT_STATUS
  | TMG_PORT_PQ_FILL | CEL_CTL | CEL_FLUSH | CEL_STATUS | CEL_INT_STAT | CEL_INT_EN | CEL_EVT | CEL_EVT_ADDR_LO
  | CEL_EVT_ADDR_HI | CEL_CNT_SEL | CEL_CNT_LO | CEL_CNT_HI | CEL_RCFG | CEL_RGW_CMD | CEL_RGW_IDX | CEL_RGW_DATA
  | CEL_DGW_CMD | CEL_DGW_OFF | CEL_DGW_DATA | CEL_STK_STATE | CEL_STK_POOL | PAR_CTL | PAR_TIME0 | PAR_TIME1
  | PAR_TIME2 | PAR_TIME3 | PAR_STATUS | PAR_INT_STAT | PAR_INT_EN | PAR_CMD | PAR_PARTNER_LO | PAR_PARTNER_HI
  | PAR_EVT | PAR_CNT_SEL | PAR_CNT_LO | PAR_CNT_HI | PCI_STATUS | PCI_ISUM_LO | PCI_ISUM_HI | PCI_PSUM | PCI_IVEC
  | HFR_TX_BASE_LO | HFR_TX_BASE_HI | HFR_TX_CTL | HFR_TX_TAIL | HFR_TX_HEAD | HFR_RX_BASE_LO | HFR_RX_BASE_HI
  | HFR_RX_CTL | HFR_RX_TAIL | HFR_RX_HEAD | HFR_TRAP_MATCH | HFR_TRAP_DA_LO | HFR_TRAP_DA_HI | HFR_RING_STAT
  | HFR_RING_EN | HFR_CNT_SEL | HFR_CNT_LO | HFR_CNT_HI | OBS_CTL | OBS_STATUS | OBS_INT_STAT | OBS_INT_EN
  | OBS_RD_TS_LO | OBS_RD_TS_HI | OBS_SMPW_CMD | OBS_SMPW_DATA | OBS_LOGW_CMD | OBS_LOGW_IDX | OBS_LOGW_DATA
  | OBS_LOGW_SEQ | OBS_ENG_CYC_LO | OBS_ENG_CYC_HI | OBS_ENG_SEL | OBS_ENG_CNT_LO | OBS_ENG_CNT_HI | OBS_PRT_SEL
  | OBS_PRT_CNT_LO | OBS_PRT_CNT_HI | OBS_COR_SEL | OBS_COR_CNT_LO | OBS_COR_CNT_HI | OBS_CEL_SEL | OBS_CEL_CNT_LO
  | OBS_CEL_CNT_HI
deriving DecidableEq, Repr

/-- A field of a register: bits hi:lo, access code, and the ranges its value may take (empty: any). -/
structure FieldDef where
  hi  : Nat
  lo  : Nat
  acc : Acc
  lim : List (Nat × Nat) := []
deriving DecidableEq, Repr

/-- A register group: element i of outer element o lies at base + o * ostride + i * stride and has index
o * count + i. -/
structure RegInfo where
  reg     : Reg
  base    : Nat
  ostride : Nat := 0
  ocount  : Nat := 1
  stride  : Nat := 0
  count   : Nat := 1
  copies  : Copies := .single
  flds    : List FieldDef
deriving DecidableEq, Repr

/-- The GLB registers (R366). -/
def regsGLB : List RegInfo := [
  { reg := .GLB_DEV_ID, base := 0x0, flds := [⟨31, 16, .ro, []⟩, ⟨15, 0, .ro, []⟩] },
  { reg := .GLB_DEV_REV, base := 0x4, flds := [⟨15, 8, .ro, []⟩, ⟨7, 0, .ro, []⟩] },
  { reg := .GLB_SERIAL_LO, base := 0x8, flds := [⟨31, 0, .ro, []⟩] },
  { reg := .GLB_SERIAL_HI, base := 0xC, flds := [⟨31, 0, .ro, []⟩] },
  { reg := .GLB_MAC_LO, base := 0x10, flds := [⟨31, 0, .ro, []⟩] },
  { reg := .GLB_MAC_HI, base := 0x14, flds := [⟨15, 0, .ro, []⟩] },
  { reg := .GLB_ROM_ID, base := 0x18, flds := [⟨31, 0, .ro, []⟩] },
  { reg := .GLB_STRAP, base := 0x1C, flds := [⟨3, 3, .ro, []⟩, ⟨2, 1, .ro, []⟩, ⟨0, 0, .ro, []⟩] }]

/-- The STA registers (R263). -/
def regsSTA : List RegInfo := [
  { reg := .STA_STATUS, base := 0x10000, flds := [⟨31, 28, .ro, []⟩, ⟨27, 27, .ro, []⟩, ⟨26, 26, .ro, []⟩,
      ⟨25, 24, .ro, []⟩, ⟨23, 22, .ro, []⟩, ⟨21, 18, .ro, []⟩, ⟨13, 0, .ro, []⟩] },
  { reg := .STA_FAIL, base := 0x10004, flds := [⟨31, 31, .ro, []⟩, ⟨30, 27, .ro, []⟩, ⟨15, 8, .ro, []⟩,
      ⟨7, 0, .ro, []⟩] },
  { reg := .STA_START, base := 0x10008, flds := [⟨31, 0, .ro, []⟩] },
  { reg := .STA_ENTRY, base := 0x1000C, flds := [⟨15, 0, .ro, []⟩] },
  { reg := .STA_CMD, base := 0x10010, flds := [⟨31, 31, .ro, []⟩, ⟨30, 28, .ro, []⟩, ⟨2, 0, .wo, []⟩] },
  { reg := .STA_INT_STAT, base := 0x10014, flds := [⟨7, 0, .w1c, []⟩] },
  { reg := .STA_INT_EN, base := 0x10018, flds := [⟨7, 0, .rw, []⟩] },
  { reg := .STA_CFG, base := 0x1001C, flds := [⟨31, 16, .rwi, [(0, 60000)]⟩, ⟨15, 4, .rwi, [(5, 3600)]⟩] },
  { reg := .STA_RB_LO, base := 0x10020, flds := [⟨31, 0, .ro, []⟩] },
  { reg := .STA_RB_HI, base := 0x10024, flds := [⟨31, 0, .ro, []⟩] },
  { reg := .STA_SURV, base := 0x10028, flds := [⟨31, 31, .ro, []⟩, ⟨22, 0, .ro, []⟩] },
  { reg := .STA_LEDGER, base := 0x1002C, flds := [⟨24, 16, .ro, []⟩, ⟨15, 0, .ro, []⟩] },
  { reg := .STA_STACK_ALT, base := 0x10030, flds := [⟨7, 0, .ro, []⟩] },
  { reg := .STA_ENG_OUT_LO, base := 0x10034, flds := [⟨31, 0, .ro, []⟩] },
  { reg := .STA_ENG_OUT_HI, base := 0x10038, flds := [⟨31, 0, .ro, []⟩] },
  { reg := .STA_STEP, base := 0x10040, stride := 0x4, count := 14, flds := [⟨17, 16, .ro, []⟩, ⟨15, 0, .ro, []⟩] },
  { reg := .STA_LOGW_CMD, base := 0x10080, copies := .window, flds := [⟨31, 31, .ro, []⟩, ⟨0, 0, .wo, []⟩] },
  { reg := .STA_LOGW_IDX, base := 0x10084, copies := .window, flds := [⟨7, 0, .rw, []⟩] },
  { reg := .STA_LOGW_DATA, base := 0x10088, stride := 0x4, count := 6, copies := .window, flds := [
      ⟨31, 0, .ro, []⟩] }]

/-- The STA_IMG registers (R282). -/
def regsSTA_IMG : List RegInfo := [
  { reg := .STA_IMG_RUN, base := 0x10100, stride := 0x4, count := 12, flds := [⟨31, 0, .ro, []⟩] },
  { reg := .STA_IMG_CNT_LO, base := 0x10130, flds := [⟨31, 0, .ro, []⟩] },
  { reg := .STA_IMG_CNT_HI, base := 0x10134, flds := [⟨31, 0, .ro, []⟩] },
  { reg := .STA_IMG_ERR, base := 0x10138, flds := [⟨31, 20, .ro, []⟩, ⟨19, 4, .ro, []⟩, ⟨3, 0, .ro, []⟩] },
  { reg := .STA_IMG_SRC, base := 0x1013C, flds := [⟨1, 0, .ro, []⟩] },
  { reg := .STA_XSPI_CMD, base := 0x10200, copies := .window, flds := [⟨31, 31, .ro, []⟩, ⟨30, 28, .ro, []⟩,
      ⟨27, 27, .ro, []⟩, ⟨15, 8, .rw, []⟩, ⟨2, 0, .wo, []⟩] },
  { reg := .STA_XSPI_ADDR, base := 0x10204, copies := .window, flds := [⟨31, 0, .rw, []⟩] },
  { reg := .STA_XSPI_FLASH, base := 0x10208, flds := [⟨31, 0, .ro, []⟩] },
  { reg := .STA_XSPI_VER, base := 0x10240, stride := 0x4, count := 12, copies := .window, flds := [
      ⟨31, 0, .ro, []⟩] },
  { reg := .STA_XSPI_VER_CNT_LO, base := 0x10270, copies := .window, flds := [⟨31, 0, .ro, []⟩] },
  { reg := .STA_XSPI_VER_CNT_HI, base := 0x10274, copies := .window, flds := [⟨31, 0, .ro, []⟩] },
  { reg := .STA_XSPI_DATA, base := 0x10300, stride := 0x4, count := 64, copies := .window, flds := [
      ⟨31, 0, .rw, []⟩] }]

/-- The PWR registers (R301). -/
def regsPWR : List RegInfo := [
  { reg := .PWR_STATUS, base := 0x20000, flds := [⟨31, 29, .ro, []⟩, ⟨28, 26, .ro, []⟩, ⟨25, 25, .ro, []⟩,
      ⟨24, 24, .ro, []⟩, ⟨23, 19, .ro, []⟩] },
  { reg := .PWR_DEMAND, base := 0x20004, flds := [⟨31, 29, .ro, []⟩, ⟨28, 26, .ro, []⟩, ⟨25, 23, .ro, []⟩,
      ⟨22, 20, .ro, []⟩, ⟨19, 17, .ro, []⟩] },
  { reg := .PWR_CTL, base := 0x20008, flds := [⟨31, 29, .rwp, [(0, 6)]⟩, ⟨28, 28, .rwi, []⟩,
      ⟨27, 23, .rw, [(3, 30)]⟩, ⟨22, 11, .rw, [(1, 3600)]⟩, ⟨10, 5, .rw, [(1, 60)]⟩] },
  { reg := .PWR_VCORE, base := 0x2000C, copies := .minMax, flds := [⟨31, 16, .ro, []⟩, ⟨15, 0, .ro, []⟩] },
  { reg := .PWR_TJ, base := 0x20010, copies := .minMax, flds := [⟨28, 24, .ro, []⟩, ⟨23, 12, .ro, []⟩,
      ⟨11, 0, .ro, []⟩] },
  { reg := .PWR_MARGIN67, base := 0x20014, flds := [⟨15, 0, .ro, []⟩] },
  { reg := .PWR_INT_STAT, base := 0x20018, flds := [⟨7, 0, .w1c, []⟩] },
  { reg := .PWR_INT_EN, base := 0x2001C, flds := [⟨7, 0, .rw, []⟩] },
  { reg := .PWR_EVT, base := 0x20020, flds := [⟨31, 31, .ro, []⟩, ⟨30, 28, .ro, []⟩, ⟨27, 25, .ro, []⟩,
      ⟨24, 20, .ro, []⟩] },
  { reg := .PWR_SUP, base := 0x20040, stride := 0x4, count := 10, flds := [⟨31, 31, .ro, []⟩, ⟨30, 30, .ro, []⟩,
      ⟨15, 0, .ro, []⟩] },
  { reg := .PWR_DOM, base := 0x20080, stride := 0x4, count := 4, flds := [⟨31, 0, .ro, []⟩] },
  { reg := .PWR_CNT_SEL, base := 0x200A0, copies := .window, flds := [⟨3, 0, .rw, []⟩] },
  { reg := .PWR_CNT_LO, base := 0x200A4, copies := .window, flds := [⟨31, 0, .ro, []⟩] },
  { reg := .PWR_CNT_HI, base := 0x200A8, copies := .window, flds := [⟨31, 0, .ro, []⟩] }]

/-- The TCK registers (R323). -/
def regsTCK : List RegInfo := [
  { reg := .TCK_STATUS, base := 0x30000, flds := [⟨31, 31, .ro, []⟩, ⟨30, 30, .ro, []⟩, ⟨29, 29, .ro, []⟩,
      ⟨28, 28, .ro, []⟩, ⟨27, 27, .ro, []⟩, ⟨26, 26, .ro, []⟩, ⟨25, 25, .ro, []⟩, ⟨11, 0, .ro, []⟩] },
  { reg := .TCK_CTL, base := 0x30004, flds := [⟨31, 26, .rwp, [(1, 60)]⟩, ⟨25, 22, .rwp, []⟩, ⟨21, 18, .rwp, []⟩,
      ⟨17, 6, .rw, []⟩] },
  { reg := .TCK_CMD, base := 0x30008, flds := [⟨31, 31, .ro, []⟩, ⟨30, 28, .ro, []⟩, ⟨7, 3, .rw, []⟩,
      ⟨2, 0, .wo, []⟩] },
  { reg := .TCK_INT_STAT, base := 0x3000C, flds := [⟨7, 0, .w1c, []⟩] },
  { reg := .TCK_INT_EN, base := 0x30010, flds := [⟨7, 0, .rw, []⟩] },
  { reg := .TCK_RAISED, base := 0x30014, flds := [⟨25, 0, .ro, []⟩] },
  { reg := .TCK_FLAG, base := 0x30018, flds := [⟨25, 0, .rws, []⟩] },
  { reg := .TCK_PEND, base := 0x3001C, flds := [⟨31, 31, .ro, []⟩, ⟨30, 30, .ro, []⟩, ⟨29, 29, .ro, []⟩,
      ⟨28, 28, .ro, []⟩, ⟨27, 25, .ro, []⟩, ⟨4, 0, .ro, []⟩] },
  { reg := .TCK_TS_LO, base := 0x30020, flds := [⟨31, 0, .ro, []⟩] },
  { reg := .TCK_TS_HI, base := 0x30024, flds := [⟨31, 0, .ro, []⟩] },
  { reg := .TCK_SEAL, base := 0x30028, flds := [⟨31, 30, .ro, []⟩, ⟨15, 0, .ro, []⟩] },
  { reg := .TCK_STIM, base := 0x3002C, flds := [⟨31, 29, .ro, []⟩, ⟨4, 0, .ro, []⟩] },
  { reg := .TCK_LOGW_CMD, base := 0x30040, copies := .window, flds := [⟨31, 31, .ro, []⟩, ⟨0, 0, .wo, []⟩] },
  { reg := .TCK_LOGW_IDX, base := 0x30044, copies := .window, flds := [⟨5, 0, .rw, []⟩] },
  { reg := .TCK_LOGW_DATA, base := 0x30048, stride := 0x4, count := 4, copies := .window, flds := [
      ⟨31, 0, .ro, []⟩] },
  { reg := .TCK_CNT_SEL, base := 0x30060, copies := .window, flds := [⟨4, 0, .rw, []⟩] },
  { reg := .TCK_CNT_LO, base := 0x30064, copies := .window, flds := [⟨31, 0, .ro, []⟩] },
  { reg := .TCK_CNT_HI, base := 0x30068, copies := .window, flds := [⟨31, 0, .ro, []⟩] },
  { reg := .TCK_RESP, base := 0x30100, stride := 0x8, count := 32, flds := [⟨31, 31, .rwp, []⟩, ⟨30, 30, .rwp, []⟩,
      ⟨29, 29, .rwp, []⟩, ⟨28, 28, .rwp, []⟩, ⟨27, 25, .rwp, [(0, 6)]⟩, ⟨11, 0, .rwp, [(0, 3600)]⟩] },
  { reg := .TCK_RESP_WIN, base := 0x30104, stride := 0x8, count := 32, flds := [⟨31, 24, .rwp, [(1, 255)]⟩,
      ⟨21, 0, .rwp, [(1, 3600000)]⟩] }]

/-- The ACU registers (R349). -/
def regsACU : List RegInfo := [
  { reg := .ACU_CTL, base := 0x40000, stride := 0x200, count := 91, flds := [⟨31, 31, .wo, []⟩, ⟨30, 28, .ro, []⟩] },
  { reg := .ACU_FENCE, base := 0x40004, stride := 0x200, count := 91, flds := [⟨31, 31, .ro, []⟩] },
  { reg := .ACU_FAULT_LO, base := 0x40008, stride := 0x200, count := 91, flds := [⟨31, 0, .ro, []⟩] },
  { reg := .ACU_FAULT_HI, base := 0x4000C, stride := 0x200, count := 91, flds := [⟨11, 0, .ro, []⟩] },
  { reg := .ACU_FAULT_INFO, base := 0x40010, stride := 0x200, count := 91, flds := [⟨31, 31, .ro, []⟩,
      ⟨30, 28, .ro, []⟩, ⟨27, 24, .ro, []⟩, ⟨23, 23, .ro, []⟩] },
  { reg := .ACU_FAULT_CNT, base := 0x40014, stride := 0x200, count := 91, flds := [⟨31, 0, .ro, []⟩] },
  { reg := .ACU_RBASE, base := 0x40100, ostride := 0x200, ocount := 91, stride := 0x10, count := 16, flds := [
      ⟨31, 0, .rw, []⟩] },
  { reg := .ACU_RPAGES, base := 0x40104, ostride := 0x200, ocount := 91, stride := 0x10, count := 16, flds := [
      ⟨31, 0, .rw, []⟩] },
  { reg := .ACU_RATTR, base := 0x40108, ostride := 0x200, ocount := 91, stride := 0x10, count := 16, flds := [
      ⟨31, 27, .rw, []⟩] },
  { reg := .ACU_INT_STAT, base := 0x4F000, flds := [⟨2, 0, .w1c, []⟩] },
  { reg := .ACU_INT_EN, base := 0x4F004, flds := [⟨2, 0, .rw, []⟩] },
  { reg := .ACU_EVT, base := 0x4F008, flds := [⟨31, 31, .ro, []⟩, ⟨30, 24, .ro, []⟩] },
  { reg := .ACU_DBG, base := 0x4F00C, flds := [⟨31, 31, .ro, []⟩, ⟨30, 28, .ro, []⟩] }]

/-- The TIM registers (R220). -/
def regsTIM : List RegInfo := [
  { reg := .TIM_CTL, base := 0x80000, flds := [⟨31, 30, .rwp, [(0, 2)]⟩, ⟨29, 29, .rwi, []⟩, ⟨28, 26, .rwi, []⟩,
      ⟨25, 25, .rwi, []⟩, ⟨24, 24, .rwi, []⟩, ⟨23, 23, .rwi, []⟩, ⟨7, 0, .rwi, []⟩] },
  { reg := .TIM_REF, base := 0x80004, flds := [⟨31, 31, .rwi, []⟩, ⟨16, 0, .rwi, [(10000, 125000)]⟩] },
  { reg := .TIM_STATUS, base := 0x80008, flds := [⟨31, 29, .ro, []⟩, ⟨28, 28, .ro, []⟩, ⟨27, 27, .ro, []⟩,
      ⟨16, 0, .ro, []⟩] },
  { reg := .TIM_INT_STAT, base := 0x8000C, flds := [⟨8, 0, .w1c, []⟩] },
  { reg := .TIM_INT_EN, base := 0x80010, flds := [⟨8, 0, .rw, []⟩] },
  { reg := .TIM_SNAP, base := 0x80014, flds := [⟨0, 0, .wo, []⟩] },
  { reg := .TIM_CNT, base := 0x80018, stride := 0x4, count := 3, flds := [⟨31, 0, .ro, []⟩] },
  { reg := .TIM_DT_FRAC, base := 0x80024, flds := [⟨15, 0, .ro, []⟩] },
  { reg := .TIM_DT_NS, base := 0x80028, flds := [⟨29, 0, .ro, []⟩] },
  { reg := .TIM_DT_S_LO, base := 0x8002C, flds := [⟨31, 0, .ro, []⟩] },
  { reg := .TIM_DT_S_HI, base := 0x80030, flds := [⟨15, 0, .ro, []⟩] },
  { reg := .TIM_OFS, base := 0x80034, stride := 0x4, count := 3, flds := [⟨31, 0, .ro, []⟩] },
  { reg := .TIM_RATE, base := 0x80040, flds := [⟨31, 0, .ro, []⟩] },
  { reg := .TIM_ANCHOR, base := 0x80044, stride := 0x4, count := 3, flds := [⟨31, 0, .ro, []⟩] },
  { reg := .TIM_ADJ_CMD, base := 0x80050, copies := .window, flds := [⟨31, 31, .ro, []⟩, ⟨30, 28, .ro, []⟩,
      ⟨2, 0, .wo, []⟩] },
  { reg := .TIM_ADJ_RATE, base := 0x80054, copies := .window, flds := [⟨31, 0, .rw, []⟩] },
  { reg := .TIM_ADJ_STEP_LO, base := 0x80058, copies := .window, flds := [⟨31, 0, .rw, []⟩] },
  { reg := .TIM_ADJ_STEP_HI, base := 0x8005C, copies := .window, flds := [⟨31, 0, .rw, []⟩] },
  { reg := .TIM_ADJ_SET_NS, base := 0x80060, copies := .window, flds := [⟨29, 0, .rw, []⟩] },
  { reg := .TIM_ADJ_SET_S_LO, base := 0x80064, copies := .window, flds := [⟨31, 0, .rw, []⟩] },
  { reg := .TIM_ADJ_SET_S_HI, base := 0x80068, copies := .window, flds := [⟨15, 0, .rw, []⟩] },
  { reg := .TIM_PTP_CFG0, base := 0x80070, flds := [⟨31, 28, .rwi, [(9, 15), (0, 1)]⟩,
      ⟨27, 24, .rwi, [(13, 15), (0, 3)]⟩, ⟨23, 20, .rwi, [(9, 15), (0, 5)]⟩, ⟨19, 16, .rwi, [(2, 10)]⟩,
      ⟨15, 8, .rwi, []⟩, ⟨7, 0, .rwi, []⟩] },
  { reg := .TIM_PTP_CFG1, base := 0x80074, flds := [⟨31, 0, .rwi, [(1000, 1000000000)]⟩] },
  { reg := .TIM_PTP_CFG2, base := 0x80078, flds := [⟨16, 0, .rwi, [(100, 100000)]⟩] },
  { reg := .TIM_PTP_CFG3, base := 0x8007C, flds := [⟨16, 0, .rwi, [(10, 100000)]⟩] },
  { reg := .TIM_HOST, base := 0x80080, flds := [⟨31, 31, .rw, []⟩, ⟨26, 10, .rwp, [(1, 86400)]⟩,
      ⟨9, 0, .rw, [(1, 600)]⟩] },
  { reg := .TIM_TC_HP_LO, base := 0x80084, flds := [⟨31, 0, .rwi, []⟩] },
  { reg := .TIM_TC_HP_HI, base := 0x80088, flds := [⟨31, 0, .rwi, []⟩] },
  { reg := .TIM_PORT_EN, base := 0x8008C, stride := 0x4, count := 4, flds := [⟨31, 0, .rwi, []⟩] },
  { reg := .TIM_PORT_EN4, base := 0x8009C, flds := [⟨0, 0, .rwi, []⟩] },
  { reg := .TIM_DLY_SEL, base := 0x800A0, flds := [⟨6, 0, .rw, []⟩] },
  { reg := .TIM_DLY, base := 0x800A4, flds := [⟨31, 16, .ro, []⟩, ⟨15, 0, .ro, []⟩] },
  { reg := .TIM_CAP_CFG, base := 0x80100, stride := 0x10, count := 5, flds := [⟨31, 31, .rw, []⟩,
      ⟨30, 30, .rw, []⟩, ⟨29, 29, .rw, []⟩, ⟨28, 28, .wo, []⟩, ⟨4, 0, .ro, []⟩] },
  { reg := .TIM_CAP_S_LO, base := 0x80104, stride := 0x10, count := 5, flds := [⟨31, 0, .ro, []⟩] },
  { reg := .TIM_CAP_S_HI, base := 0x80108, stride := 0x10, count := 5, flds := [⟨31, 16, .ro, []⟩,
      ⟨15, 0, .ro, []⟩] },
  { reg := .TIM_CAP_NS, base := 0x8010C, stride := 0x10, count := 5, flds := [⟨29, 0, .ro, []⟩] },
  { reg := .TIM_OUT_CFG, base := 0x80200, stride := 0x20, count := 5, flds := [⟨31, 31, .rw, []⟩,
      ⟨30, 30, .rw, []⟩] },
  { reg := .TIM_OUT_S_LO, base := 0x80204, stride := 0x20, count := 5, flds := [⟨31, 0, .rw, []⟩] },
  { reg := .TIM_OUT_S_HI, base := 0x80208, stride := 0x20, count := 5, flds := [⟨15, 0, .rw, []⟩] },
  { reg := .TIM_OUT_NS, base := 0x8020C, stride := 0x20, count := 5, flds := [⟨29, 0, .rw, [(0, 999999999)]⟩] },
  { reg := .TIM_OUT_PERIOD, base := 0x80210, stride := 0x20, count := 5, flds := [
      ⟨29, 0, .rw, [(0, 0), (100, 1000000000)]⟩] },
  { reg := .TIM_OUT_WIDTH, base := 0x80214, stride := 0x20, count := 5, flds := [⟨29, 0, .rw, [(10, 999999999)]⟩] },
  { reg := .TIM_CNT_SEL, base := 0x80300, copies := .window, flds := [⟨3, 0, .rw, []⟩] },
  { reg := .TIM_CNT_LO, base := 0x80304, copies := .window, flds := [⟨31, 0, .ro, []⟩] },
  { reg := .TIM_CNT_HI, base := 0x80308, copies := .window, flds := [⟨31, 0, .ro, []⟩] }]

/-- The HPT registers (R48). -/
def regsHPT : List RegInfo := [
  { reg := .HPT_CFG, base := 0x100000, stride := 0x1000, count := 64, flds := [⟨31, 31, .rw, []⟩,
      ⟨29, 29, .rw, []⟩, ⟨27, 24, .rwi, [(0, 11), (15, 15)]⟩, ⟨23, 22, .rwi, []⟩, ⟨21, 21, .rwi, []⟩,
      ⟨20, 20, .rwi, []⟩] },
  { reg := .HPT_AN, base := 0x100004, stride := 0x1000, count := 64, flds := [⟨4, 0, .rwi, [(1, 30)]⟩] },
  { reg := .HPT_MAX_FRAME, base := 0x100008, stride := 0x1000, count := 64, flds := [
      ⟨13, 0, .rw, [(1518, 10240)]⟩] },
  { reg := .HPT_FC, base := 0x10000C, stride := 0x1000, count := 64, flds := [⟨23, 16, .rw, []⟩, ⟨15, 8, .rw, []⟩,
      ⟨2, 2, .rw, []⟩, ⟨1, 0, .rw, [(0, 2)]⟩] },
  { reg := .HPT_FC_THR, base := 0x100010, stride := 0x1000, count := 64, flds := [⟨26, 18, .rw, []⟩,
      ⟨17, 9, .rw, []⟩, ⟨8, 0, .rw, []⟩] },
  { reg := .HPT_STORM, base := 0x100014, stride := 0x1000, count := 64, flds := [
      ⟨13, 0, .rw, [(0, 0), (10, 10000)]⟩] },
  { reg := .HPT_DORMANT, base := 0x100018, stride := 0x1000, count := 64, flds := [⟨31, 31, .wo, []⟩,
      ⟨25, 12, .rw, [(100, 10000)]⟩, ⟨11, 0, .rw, [(1, 3600)]⟩] },
  { reg := .HPT_MAP, base := 0x10001C, stride := 0x1000, count := 64, flds := [⟨7, 7, .rwi, []⟩, ⟨5, 0, .rwi, []⟩] },
  { reg := .HPT_MAC_LO, base := 0x100020, stride := 0x1000, count := 64, flds := [⟨31, 0, .rwi, []⟩] },
  { reg := .HPT_MAC_HI, base := 0x100024, stride := 0x1000, count := 64, flds := [⟨15, 0, .rwi, []⟩] },
  { reg := .HPT_STATUS, base := 0x100040, stride := 0x1000, count := 64, flds := [⟨31, 31, .ro, []⟩,
      ⟨30, 30, .ro, []⟩, ⟨29, 29, .ro, []⟩, ⟨28, 28, .ro, []⟩, ⟨27, 24, .ro, []⟩, ⟨23, 22, .ro, []⟩,
      ⟨9, 0, .ro, []⟩] },
  { reg := .HPT_INT_STAT, base := 0x100044, stride := 0x1000, count := 64, flds := [⟨5, 0, .w1c, []⟩] },
  { reg := .HPT_INT_EN, base := 0x100048, stride := 0x1000, count := 64, flds := [⟨5, 0, .rw, []⟩] },
  { reg := .HPT_RECAL, base := 0x100050, stride := 0x1000, count := 64, flds := [⟨5, 4, .ro, []⟩, ⟨1, 1, .rw, []⟩,
      ⟨0, 0, .wo, []⟩] },
  { reg := .HPT_STAT_IDX, base := 0x100080, stride := 0x1000, count := 64, flds := [⟨5, 0, .rw, []⟩] },
  { reg := .HPT_STAT_LO, base := 0x100084, stride := 0x1000, count := 64, flds := [⟨31, 0, .ro, []⟩] },
  { reg := .HPT_STAT_HI, base := 0x100088, stride := 0x1000, count := 64, flds := [⟨31, 0, .ro, []⟩] },
  { reg := .HPT_STAT_SNAP, base := 0x10008C, stride := 0x1000, count := 64, flds := [⟨0, 0, .wo, []⟩] }]

/-- The LPT registers (R48). -/
def regsLPT : List RegInfo := [
  { reg := .LPT_CFG, base := 0x140000, stride := 0x1000, count := 64, flds := [⟨31, 31, .rw, []⟩,
      ⟨30, 30, .rwp, []⟩, ⟨29, 29, .rw, []⟩, ⟨28, 28, .rwi, []⟩, ⟨27, 24, .rwi, [(0, 11), (15, 15)]⟩,
      ⟨23, 22, .rwi, []⟩, ⟨21, 21, .rwi, []⟩, ⟨20, 20, .rwi, []⟩] },
  { reg := .LPT_AN, base := 0x140004, stride := 0x1000, count := 64, flds := [⟨4, 0, .rwi, [(1, 30)]⟩] },
  { reg := .LPT_MAX_FRAME, base := 0x140008, stride := 0x1000, count := 64, flds := [
      ⟨13, 0, .rwi, [(1518, 10240)]⟩] },
  { reg := .LPT_FC, base := 0x14000C, stride := 0x1000, count := 64, flds := [⟨2, 2, .rwp, []⟩] },
  { reg := .LPT_STORM, base := 0x140014, stride := 0x1000, count := 64, flds := [
      ⟨13, 0, .rwp, [(0, 0), (10, 10000)]⟩] },
  { reg := .LPT_DORMANT, base := 0x140018, stride := 0x1000, count := 64, flds := [⟨31, 31, .wo, []⟩,
      ⟨25, 12, .rw, [(100, 10000)]⟩, ⟨11, 0, .rw, [(1, 3600)]⟩] },
  { reg := .LPT_MAC_LO, base := 0x140020, stride := 0x1000, count := 64, flds := [⟨31, 0, .rwi, []⟩] },
  { reg := .LPT_MAC_HI, base := 0x140024, stride := 0x1000, count := 64, flds := [⟨15, 0, .rwi, []⟩] },
  { reg := .LPT_STATUS, base := 0x140040, stride := 0x1000, count := 64, flds := [⟨31, 31, .ro, []⟩,
      ⟨30, 30, .ro, []⟩, ⟨29, 29, .ro, []⟩, ⟨28, 28, .ro, []⟩, ⟨27, 24, .ro, []⟩, ⟨23, 22, .ro, []⟩,
      ⟨9, 0, .ro, []⟩] },
  { reg := .LPT_INT_STAT, base := 0x140044, stride := 0x1000, count := 64, flds := [⟨5, 0, .w1c, []⟩] },
  { reg := .LPT_INT_EN, base := 0x140048, stride := 0x1000, count := 64, flds := [⟨5, 0, .rw, []⟩] },
  { reg := .LPT_RECAL, base := 0x140050, stride := 0x1000, count := 64, flds := [⟨5, 4, .ro, []⟩, ⟨1, 1, .rw, []⟩,
      ⟨0, 0, .wo, []⟩] },
  { reg := .LPT_STAT_IDX, base := 0x140080, stride := 0x1000, count := 64, flds := [⟨5, 0, .rw, []⟩] },
  { reg := .LPT_STAT_LO, base := 0x140084, stride := 0x1000, count := 64, flds := [⟨31, 0, .ro, []⟩] },
  { reg := .LPT_STAT_HI, base := 0x140088, stride := 0x1000, count := 64, flds := [⟨31, 0, .ro, []⟩] },
  { reg := .LPT_STAT_SNAP, base := 0x14008C, stride := 0x1000, count := 64, flds := [⟨0, 0, .wo, []⟩] }]

/-- The MGT registers (R349). -/
def regsMGT : List RegInfo := [
  { reg := .MGT_CFG, base := 0x180000, flds := [⟨31, 31, .rwi, []⟩, ⟨30, 30, .rwi, []⟩, ⟨15, 0, .rwi, []⟩] },
  { reg := .MGT_IP4, base := 0x180004, flds := [⟨31, 0, .rwi, []⟩] },
  { reg := .MGT_SESS, base := 0x180008, flds := [⟨15, 4, .rw, [(10, 3600)]⟩, ⟨3, 0, .ro, []⟩] }]

/-- The CLS registers (R70). -/
def regsCLS : List RegInfo := [
  { reg := .CLS_BANK, base := 0x200000, flds := [⟨2, 2, .ro, []⟩, ⟨1, 1, .rwp, []⟩, ⟨0, 0, .ro, []⟩] },
  { reg := .CLS_AGE, base := 0x200004, flds := [⟨15, 0, .rw, [(0, 0), (30, 65535)]⟩] },
  { reg := .CLS_TPID, base := 0x200008, flds := [⟨15, 0, .rwi, []⟩] },
  { reg := .CLS_TW_CMD, base := 0x200010, copies := .window, flds := [⟨31, 31, .ro, []⟩, ⟨30, 30, .ro, []⟩,
      ⟨13, 12, .rw, []⟩, ⟨11, 8, .rw, []⟩, ⟨7, 7, .rw, []⟩, ⟨2, 0, .wo, []⟩] },
  { reg := .CLS_TW_ADDR, base := 0x200014, copies := .window, flds := [⟨22, 0, .rw, []⟩] },
  { reg := .CLS_TW_DATA, base := 0x200018, stride := 0x4, count := 3, copies := .window, flds := [
      ⟨31, 0, .rw, []⟩] },
  { reg := .CLS_SL_INT_STAT, base := 0x200100, stride := 0x20, count := 4, flds := [⟨2, 0, .w1c, []⟩] },
  { reg := .CLS_SL_INT_EN, base := 0x200104, stride := 0x20, count := 4, flds := [⟨2, 0, .rw, []⟩] },
  { reg := .CLS_SL_CNT_IDX, base := 0x200108, stride := 0x20, count := 4, flds := [⟨4, 0, .rw, []⟩] },
  { reg := .CLS_SL_CNT_LO, base := 0x20010C, stride := 0x20, count := 4, flds := [⟨31, 0, .ro, []⟩] },
  { reg := .CLS_SL_CNT_HI, base := 0x200110, stride := 0x20, count := 4, flds := [⟨31, 0, .ro, []⟩] },
  { reg := .CLS_SL_MAC_COUNT, base := 0x200114, stride := 0x20, count := 4, flds := [⟨18, 0, .ro, []⟩] },
  { reg := .CLS_LP_MODE, base := 0x201000, stride := 0x10, count := 64, flds := [⟨31, 30, .rwp, [(0, 2)]⟩,
      ⟨29, 29, .rwp, []⟩, ⟨19, 10, .rwp, []⟩, ⟨9, 0, .rwp, []⟩] },
  { reg := .CLS_LP_LEARN, base := 0x201004, stride := 0x10, count := 64, flds := [⟨31, 31, .rwp, []⟩,
      ⟨18, 0, .rwp, [(0, 262144)]⟩] },
  { reg := .CLS_LP_LCOUNT, base := 0x201008, stride := 0x10, count := 64, flds := [⟨18, 0, .ro, []⟩] },
  { reg := .CLS_HP_CLS, base := 0x202000, stride := 0x40, count := 64, flds := [⟨28, 28, .rwp, []⟩,
      ⟨26, 24, .rwp, []⟩, ⟨23, 0, .rwp, []⟩] },
  { reg := .CLS_HP_DSCP0, base := 0x202020, stride := 0x40, count := 64, flds := [⟨23, 0, .rwp, []⟩] },
  { reg := .CLS_HP_DSCP1, base := 0x202024, stride := 0x40, count := 64, flds := [⟨23, 0, .rwp, []⟩] },
  { reg := .CLS_HP_DSCP2, base := 0x202028, stride := 0x40, count := 64, flds := [⟨23, 0, .rwp, []⟩] },
  { reg := .CLS_HP_DSCP3, base := 0x20202C, stride := 0x40, count := 64, flds := [⟨23, 0, .rwp, []⟩] },
  { reg := .CLS_HP_DSCP4, base := 0x202030, stride := 0x40, count := 64, flds := [⟨23, 0, .rwp, []⟩] },
  { reg := .CLS_HP_DSCP5, base := 0x202034, stride := 0x40, count := 64, flds := [⟨23, 0, .rwp, []⟩] },
  { reg := .CLS_HP_DSCP6, base := 0x202038, stride := 0x40, count := 64, flds := [⟨23, 0, .rwp, []⟩] },
  { reg := .CLS_HP_DSCP7, base := 0x20203C, stride := 0x40, count := 64, flds := [⟨23, 0, .rwp, []⟩] }]

/-- The SEC registers (R94). -/
def regsSEC : List RegInfo := [
  { reg := .SEC_CTL, base := 0x300000, flds := [⟨7, 0, .rwp, [(0, 250)]⟩] },
  { reg := .SEC_INT_STAT, base := 0x300004, flds := [⟨7, 0, .w1c, []⟩] },
  { reg := .SEC_INT_EN, base := 0x300008, flds := [⟨7, 0, .rw, []⟩] },
  { reg := .SEC_EVT, base := 0x30000C, flds := [⟨31, 31, .ro, []⟩, ⟨30, 30, .ro, []⟩, ⟨16, 0, .ro, []⟩] },
  { reg := .SEC_SAW_CMD, base := 0x300040, copies := .window, flds := [⟨31, 31, .ro, []⟩, ⟨30, 28, .ro, []⟩,
      ⟨3, 0, .wo, []⟩] },
  { reg := .SEC_SAW_IDX, base := 0x300044, copies := .window, flds := [⟨16, 0, .rw, []⟩] },
  { reg := .SEC_SAW_DATA0, base := 0x300048, copies := .window, flds := [⟨31, 31, .ro, []⟩, ⟨30, 30, .ro, []⟩,
      ⟨29, 29, .ro, []⟩, ⟨28, 28, .ro, []⟩, ⟨27, 27, .ro, []⟩, ⟨15, 0, .rw, []⟩] },
  { reg := .SEC_SAW_DATA1, base := 0x30004C, copies := .window, flds := [⟨31, 0, .rw, []⟩] },
  { reg := .SEC_SAW_DATA2, base := 0x300050, copies := .window, flds := [⟨31, 0, .rw, []⟩] },
  { reg := .SEC_SAW_DATA3, base := 0x300054, copies := .window, flds := [⟨31, 0, .ro, []⟩] },
  { reg := .SEC_SAW_DATA4, base := 0x300058, copies := .window, flds := [⟨31, 0, .ro, []⟩] },
  { reg := .SEC_SAW_DATA5, base := 0x30005C, copies := .window, flds := [⟨31, 0, .rw, []⟩] },
  { reg := .SEC_SAW_DATA6, base := 0x300060, stride := 0x4, count := 3, copies := .window, flds := [
      ⟨31, 0, .rw, []⟩] },
  { reg := .SEC_RSCW_CMD, base := 0x300080, copies := .window, flds := [⟨31, 31, .ro, []⟩, ⟨30, 28, .ro, []⟩,
      ⟨3, 0, .wo, []⟩] },
  { reg := .SEC_RSCW_IDX, base := 0x300084, copies := .window, flds := [⟨13, 0, .rw, []⟩] },
  { reg := .SEC_RSCW_DATA0, base := 0x300088, copies := .window, flds := [⟨31, 31, .ro, []⟩, ⟨30, 30, .rw, []⟩,
      ⟨10, 0, .rw, []⟩] },
  { reg := .SEC_RSCW_DATA1, base := 0x30008C, stride := 0x4, count := 2, copies := .window, flds := [
      ⟨31, 0, .rw, []⟩] },
  { reg := .SEC_CNT_SEL, base := 0x3000C0, copies := .window, flds := [⟨31, 30, .rw, []⟩, ⟨23, 20, .rw, []⟩,
      ⟨16, 0, .rw, []⟩] },
  { reg := .SEC_CNT_LO, base := 0x3000C4, copies := .window, flds := [⟨31, 0, .ro, []⟩] },
  { reg := .SEC_CNT_HI, base := 0x3000C8, copies := .window, flds := [⟨31, 0, .ro, []⟩] },
  { reg := .SEC_SECY_CFG, base := 0x310000, stride := 0x20, count := 2048, flds := [⟨31, 31, .rwi, []⟩,
      ⟨30, 30, .rwi, []⟩, ⟨29, 28, .rwi, []⟩, ⟨27, 26, .rwi, []⟩, ⟨25, 24, .rwi, [(0, 2)]⟩,
      ⟨23, 22, .rwp, [(0, 2)]⟩, ⟨21, 21, .rwp, []⟩, ⟨19, 14, .rwi, []⟩, ⟨7, 0, .rwi, []⟩] },
  { reg := .SEC_SECY_WIN, base := 0x310004, stride := 0x20, count := 2048, flds := [
      ⟨30, 0, .rwp, [(0, 1073741824)]⟩] },
  { reg := .SEC_SECY_SCI_LO, base := 0x310008, stride := 0x20, count := 2048, flds := [⟨31, 0, .rwi, []⟩] },
  { reg := .SEC_SECY_SCI_HI, base := 0x31000C, stride := 0x20, count := 2048, flds := [⟨31, 0, .rwi, []⟩] },
  { reg := .SEC_SECY_TX, base := 0x310010, stride := 0x20, count := 2048, flds := [⟨31, 31, .ro, []⟩,
      ⟨30, 30, .ro, []⟩, ⟨29, 29, .ro, []⟩, ⟨28, 28, .ro, []⟩, ⟨25, 24, .ro, []⟩, ⟨17, 16, .ro, []⟩,
      ⟨7, 0, .ro, []⟩] }]

/-- The ENG registers (R156). -/
def regsENG : List RegInfo := [
  { reg := .ENG_STATE, base := 0x400000, stride := 0x1000, count := 64, flds := [⟨31, 29, .ro, []⟩,
      ⟨28, 26, .ro, []⟩, ⟨25, 15, .ro, []⟩, ⟨3, 0, .ro, []⟩] },
  { reg := .ENG_PACE, base := 0x400004, stride := 0x1000, count := 64, flds := [⟨31, 16, .ro, []⟩,
      ⟨15, 0, .ro, []⟩] },
  { reg := .ENG_LOAD, base := 0x400008, stride := 0x1000, count := 64, flds := [⟨31, 24, .ro, []⟩,
      ⟨14, 0, .ro, []⟩] },
  { reg := .ENG_CAL, base := 0x40000C, stride := 0x1000, count := 64, flds := [⟨31, 24, .ro, []⟩,
      ⟨15, 0, .ro, []⟩] },
  { reg := .ENG_TEST_LAST, base := 0x400010, stride := 0x1000, count := 64, flds := [⟨31, 31, .ro, []⟩,
      ⟨30, 30, .ro, []⟩, ⟨29, 0, .ro, []⟩] },
  { reg := .ENG_TPL_CMD, base := 0x440000, copies := .window, flds := [⟨31, 31, .ro, []⟩, ⟨30, 28, .ro, []⟩,
      ⟨1, 0, .wo, []⟩] },
  { reg := .ENG_TPL_IDX, base := 0x440004, copies := .window, flds := [⟨7, 0, .rw, []⟩] },
  { reg := .ENG_TPL_DATA, base := 0x440008, stride := 0x4, count := 8, copies := .window, flds := [
      ⟨31, 0, .rw, []⟩] },
  { reg := .ENG_INT_STAT, base := 0x440040, flds := [⟨3, 0, .w1c, []⟩] },
  { reg := .ENG_INT_EN, base := 0x440044, flds := [⟨3, 0, .rw, []⟩] },
  { reg := .ENG_EVT, base := 0x440048, flds := [⟨31, 31, .ro, []⟩, ⟨30, 28, .ro, []⟩, ⟨5, 0, .ro, []⟩] }]

/-- The YRD registers (R156). -/
def regsYRD : List RegInfo := [
  { reg := .YRD_CTL, base := 0x500000, flds := [⟨31, 22, .rwi, [(64, 1023)]⟩, ⟨21, 12, .rw, [(1, 600)]⟩,
      ⟨11, 0, .rw, [(0, 3600)]⟩] },
  { reg := .YRD_STATUS, base := 0x500004, flds := [⟨31, 25, .ro, []⟩, ⟨24, 18, .ro, []⟩, ⟨14, 0, .ro, []⟩] },
  { reg := .YRD_PIN, base := 0x500008, flds := [⟨13, 0, .ro, []⟩] },
  { reg := .YRD_CAPDEM, base := 0x50000C, flds := [⟨31, 16, .ro, []⟩, ⟨15, 0, .ro, []⟩] },
  { reg := .YRD_MARGIN, base := 0x500010, flds := [⟨15, 0, .ro, []⟩] },
  { reg := .YRD_TEST, base := 0x500014, flds := [⟨31, 31, .wo, []⟩, ⟨30, 29, .rw, []⟩, ⟨28, 26, .ro, []⟩,
      ⟨5, 0, .rw, []⟩] },
  { reg := .YRD_SCW_CMD, base := 0x500020, copies := .window, flds := [⟨31, 31, .ro, []⟩, ⟨0, 0, .wo, []⟩] },
  { reg := .YRD_SCW_IDX, base := 0x500024, copies := .window, flds := [⟨15, 15, .rw, []⟩, ⟨14, 0, .rw, []⟩] },
  { reg := .YRD_SCW_DATA, base := 0x500028, copies := .window, flds := [⟨31, 31, .ro, []⟩, ⟨30, 28, .ro, []⟩,
      ⟨23, 0, .ro, []⟩] },
  { reg := .YRD_RO_STAT, base := 0x500030, copies := .minMax, flds := [⟨31, 16, .ro, []⟩, ⟨15, 0, .ro, []⟩] },
  { reg := .YRD_INT_STAT, base := 0x500040, flds := [⟨4, 0, .w1c, []⟩] },
  { reg := .YRD_INT_EN, base := 0x500044, flds := [⟨4, 0, .rw, []⟩] },
  { reg := .YRD_CNT_SEL, base := 0x500050, copies := .window, flds := [⟨3, 0, .rw, []⟩] },
  { reg := .YRD_CNT_LO, base := 0x500054, copies := .window, flds := [⟨31, 0, .ro, []⟩] },
  { reg := .YRD_CNT_HI, base := 0x500058, copies := .window, flds := [⟨31, 0, .ro, []⟩] }]

/-- The MKA registers (R119). -/
def regsMKA : List RegInfo := [
  { reg := .MKA_CTL, base := 0x600000, flds := [⟨31, 31, .rwi, []⟩, ⟨30, 30, .rwi, []⟩] },
  { reg := .MKA_TIME0, base := 0x600004, flds := [⟨31, 16, .rwp, [(3000, 30000)]⟩, ⟨15, 0, .rwp, [(1000, 10000)]⟩] },
  { reg := .MKA_TIME1, base := 0x600008, flds := [⟨31, 22, .rwp, [(0, 1000)]⟩, ⟨21, 11, .rwp, [(10, 2000)]⟩] },
  { reg := .MKA_TIME2, base := 0x60000C, flds := [⟨13, 0, .rwp, [(100, 10000)]⟩] },
  { reg := .MKA_TIME3, base := 0x600010, flds := [⟨16, 0, .rwp, [(0, 0), (60, 86400)]⟩] },
  { reg := .MKA_STATUS, base := 0x600014, flds := [⟨31, 28, .ro, []⟩, ⟨11, 0, .ro, []⟩] },
  { reg := .MKA_INT_STAT, base := 0x600018, flds := [⟨9, 0, .w1c, []⟩] },
  { reg := .MKA_INT_EN, base := 0x60001C, flds := [⟨9, 0, .rw, []⟩] },
  { reg := .MKA_EVT, base := 0x600020, flds := [⟨31, 31, .ro, []⟩, ⟨30, 27, .ro, []⟩, ⟨10, 0, .ro, []⟩] },
  { reg := .MKA_PAIR_CFG, base := 0x600024, flds := [⟨9, 0, .rwi, []⟩] },
  { reg := .MKA_PAIR_RES, base := 0x600028, flds := [⟨31, 31, .ro, []⟩, ⟨15, 0, .ro, []⟩] },
  { reg := .MKA_CAW_CMD, base := 0x600040, copies := .window, flds := [⟨31, 31, .ro, []⟩, ⟨30, 28, .ro, []⟩,
      ⟨2, 0, .wo, []⟩] },
  { reg := .MKA_CAW_IDX, base := 0x600044, copies := .window, flds := [⟨26, 16, .rw, []⟩, ⟨7, 0, .rw, []⟩] },
  { reg := .MKA_CAW_DATA, base := 0x600048, stride := 0x4, count := 9, copies := .window, flds := [
      ⟨31, 0, .ro, []⟩] },
  { reg := .MKA_CNT_SEL, base := 0x600080, copies := .window, flds := [⟨26, 16, .rw, []⟩, ⟨3, 0, .rw, []⟩] },
  { reg := .MKA_CNT_LO, base := 0x600084, copies := .window, flds := [⟨31, 0, .ro, []⟩] },
  { reg := .MKA_CNT_HI, base := 0x600088, copies := .window, flds := [⟨31, 0, .ro, []⟩] },
  { reg := .MKA_CA_CFG, base := 0x610000, stride := 0x10, count := 2048, flds := [⟨31, 31, .rwi, []⟩,
      ⟨29, 20, .rwi, []⟩, ⟨19, 12, .rwi, []⟩, ⟨10, 0, .rwi, []⟩] },
  { reg := .MKA_CA_DEST, base := 0x610004, stride := 0x10, count := 2048, flds := [⟨1, 0, .rwi, [(0, 2)]⟩] }]

/-- The KEY registers (R136). -/
def regsKEY : List RegInfo := [
  { reg := .KEY_STATUS, base := 0x680000, flds := [⟨31, 31, .ro, []⟩, ⟨30, 30, .ro, []⟩, ⟨29, 29, .ro, []⟩,
      ⟨16, 0, .ro, []⟩] },
  { reg := .KEY_INT_STAT, base := 0x680004, flds := [⟨4, 0, .w1c, []⟩] },
  { reg := .KEY_INT_EN, base := 0x680008, flds := [⟨4, 0, .rw, []⟩] },
  { reg := .KEY_ZERO, base := 0x68000C, flds := [⟨15, 0, .rwp, []⟩] },
  { reg := .KEY_SLOTW_CMD, base := 0x680010, copies := .window, flds := [⟨31, 31, .ro, []⟩, ⟨30, 28, .ro, []⟩,
      ⟨2, 0, .wo, []⟩] },
  { reg := .KEY_SLOTW_IDX, base := 0x680014, copies := .window, flds := [⟨26, 16, .rw, []⟩, ⟨15, 0, .rw, []⟩] },
  { reg := .KEY_SLOTW_DATA0, base := 0x680018, copies := .window, flds := [⟨31, 30, .ro, []⟩, ⟨29, 28, .ro, []⟩,
      ⟨19, 11, .ro, []⟩, ⟨10, 0, .ro, []⟩] },
  { reg := .KEY_CAKW_CMD, base := 0x680040, copies := .window, flds := [⟨31, 31, .ro, []⟩, ⟨30, 28, .ro, []⟩,
      ⟨1, 0, .wo, []⟩] },
  { reg := .KEY_CAKW_IDX, base := 0x680044, copies := .window, flds := [⟨9, 0, .rw, []⟩] },
  { reg := .KEY_CAKW_DATA0, base := 0x680048, copies := .window, flds := [⟨31, 31, .ro, []⟩, ⟨30, 30, .ro, []⟩,
      ⟨29, 28, .ro, []⟩, ⟨5, 0, .ro, []⟩] },
  { reg := .KEY_CAKW_DATA1, base := 0x68004C, stride := 0x4, count := 8, copies := .window, flds := [
      ⟨31, 0, .ro, []⟩] },
  { reg := .KEY_PROV_CMD, base := 0x680080, copies := .window, flds := [⟨31, 31, .ro, []⟩, ⟨30, 28, .ro, []⟩,
      ⟨17, 8, .rwp, []⟩, ⟨1, 0, .rwp, []⟩] },
  { reg := .KEY_PROV_DATA, base := 0x680084, copies := .window, flds := [⟨31, 0, .rwp, []⟩] },
  { reg := .KEY_RNG_STAT, base := 0x6800C0, flds := [⟨31, 31, .ro, []⟩, ⟨30, 30, .ro, []⟩] },
  { reg := .KEY_CNT_SEL, base := 0x6800D0, copies := .window, flds := [⟨3, 0, .rw, []⟩] },
  { reg := .KEY_CNT_LO, base := 0x6800D4, copies := .window, flds := [⟨31, 0, .ro, []⟩] },
  { reg := .KEY_CNT_HI, base := 0x6800D8, copies := .window, flds := [⟨31, 0, .ro, []⟩] }]

/-- The SVC registers (R136). -/
def regsSVC : List RegInfo := [
  { reg := .SVC_CTL, base := 0x681000, stride := 0x40, count := 32, flds := [⟨31, 31, .rw, []⟩, ⟨30, 30, .rw, []⟩,
      ⟨3, 0, .wo, []⟩] },
  { reg := .SVC_KEY, base := 0x681004, stride := 0x40, count := 32, flds := [⟨31, 29, .rw, []⟩, ⟨16, 0, .rw, []⟩] },
  { reg := .SVC_SRC, base := 0x681008, stride := 0x40, count := 32, flds := [⟨31, 0, .rw, []⟩] },
  { reg := .SVC_DST, base := 0x68100C, stride := 0x40, count := 32, flds := [⟨31, 0, .rw, []⟩] },
  { reg := .SVC_LEN, base := 0x681010, stride := 0x40, count := 32, flds := [⟨15, 0, .rw, []⟩] },
  { reg := .SVC_AAD, base := 0x681014, stride := 0x40, count := 32, flds := [⟨15, 0, .rw, []⟩] },
  { reg := .SVC_STATUS, base := 0x681018, stride := 0x40, count := 32, flds := [⟨31, 31, .ro, []⟩,
      ⟨30, 28, .ro, []⟩] },
  { reg := .SVC_IV0, base := 0x68101C, stride := 0x40, count := 32, flds := [⟨31, 0, .rw, []⟩] },
  { reg := .SVC_IV1, base := 0x681020, stride := 0x40, count := 32, flds := [⟨31, 0, .rw, []⟩] },
  { reg := .SVC_IV2, base := 0x681024, stride := 0x40, count := 32, flds := [⟨31, 0, .rw, []⟩] },
  { reg := .SVC_TAG0, base := 0x681028, stride := 0x40, count := 32, flds := [⟨31, 0, .rw, []⟩] },
  { reg := .SVC_TAG1, base := 0x68102C, stride := 0x40, count := 32, flds := [⟨31, 0, .rw, []⟩] },
  { reg := .SVC_TAG2, base := 0x681030, stride := 0x40, count := 32, flds := [⟨31, 0, .rw, []⟩] },
  { reg := .SVC_TAG3, base := 0x681034, stride := 0x40, count := 32, flds := [⟨31, 0, .rw, []⟩] }]

/-- The TMG registers (R174). -/
def regsTMG : List RegInfo := [
  { reg := .TMG_CTL, base := 0x700000, flds := [⟨31, 24, .rwi, [(1, 100)]⟩] },
  { reg := .TMG_BUF_CFG, base := 0x700004, flds := [⟨31, 24, .rwi, [(1, 140)]⟩, ⟨23, 12, .rwi, []⟩] },
  { reg := .TMG_BUF_FREE, base := 0x700008, flds := [⟨27, 0, .ro, []⟩] },
  { reg := .TMG_BUF_MIN, base := 0x70000C, copies := .minMax, flds := [⟨27, 0, .ro, []⟩] },
  { reg := .TMG_INT_STAT, base := 0x700010, flds := [⟨6, 0, .w1c, []⟩] },
  { reg := .TMG_INT_EN, base := 0x700014, flds := [⟨6, 0, .rw, []⟩] },
  { reg := .TMG_CNT_SEL, base := 0x700020, copies := .window, flds := [⟨31, 30, .rw, []⟩, ⟨23, 20, .rw, []⟩,
      ⟨13, 0, .rw, []⟩] },
  { reg := .TMG_CNT_LO, base := 0x700024, copies := .window, flds := [⟨31, 0, .ro, []⟩] },
  { reg := .TMG_CNT_HI, base := 0x700028, copies := .window, flds := [⟨31, 0, .ro, []⟩] },
  { reg := .TMG_SHW_CMD, base := 0x700040, copies := .window, flds := [⟨31, 31, .ro, []⟩, ⟨30, 28, .ro, []⟩,
      ⟨1, 0, .wo, []⟩] },
  { reg := .TMG_SHW_IDX, base := 0x700044, copies := .window, flds := [⟨31, 30, .rw, []⟩, ⟨13, 0, .rw, []⟩] },
  { reg := .TMG_SHW_DATA0, base := 0x700048, copies := .window, flds := [⟨31, 26, .rw, []⟩, ⟨19, 0, .rw, []⟩] },
  { reg := .TMG_SHW_DATA1, base := 0x70004C, copies := .window, flds := [⟨19, 0, .rw, []⟩] },
  { reg := .TMG_SHW_DATA2, base := 0x700050, copies := .window, flds := [⟨31, 20, .rw, []⟩, ⟨15, 0, .rw, []⟩] },
  { reg := .TMG_SHW_DATA3, base := 0x700054, copies := .window, flds := [⟨31, 0, .ro, []⟩] },
  { reg := .TMG_SHW_DATA4, base := 0x700058, copies := .window, flds := [⟨31, 0, .rw, []⟩] },
  { reg := .TMG_SHW_DATA5, base := 0x70005C, copies := .window, flds := [⟨15, 0, .rw, []⟩] },
  { reg := .TMG_SHW_DATA6, base := 0x700060, copies := .window, flds := [⟨29, 0, .rw, []⟩] },
  { reg := .TMG_QW_CMD, base := 0x700080, copies := .window, flds := [⟨31, 31, .ro, []⟩, ⟨30, 28, .ro, []⟩,
      ⟨1, 0, .wo, []⟩] },
  { reg := .TMG_QW_IDX, base := 0x700084, copies := .window, flds := [⟨13, 0, .rw, []⟩] },
  { reg := .TMG_QW_DATA0, base := 0x700088, copies := .window, flds := [⟨31, 16, .rw, []⟩, ⟨15, 0, .rw, []⟩] },
  { reg := .TMG_QW_DATA1, base := 0x70008C, copies := .window, flds := [⟨27, 0, .ro, []⟩] },
  { reg := .TMG_QW_DATA2, base := 0x700090, copies := .window, flds := [⟨31, 0, .ro, []⟩] },
  { reg := .TMG_POLW_CMD, base := 0x7000C0, copies := .window, flds := [⟨31, 31, .ro, []⟩, ⟨30, 28, .ro, []⟩,
      ⟨1, 0, .wo, []⟩] },
  { reg := .TMG_POLW_IDX, base := 0x7000C4, copies := .window, flds := [⟨9, 0, .rw, []⟩] },
  { reg := .TMG_POLW_DATA0, base := 0x7000C8, copies := .window, flds := [⟨31, 31, .rw, []⟩, ⟨30, 30, .rw, []⟩,
      ⟨19, 0, .rw, []⟩] },
  { reg := .TMG_POLW_DATA1, base := 0x7000CC, copies := .window, flds := [⟨19, 0, .rw, []⟩] },
  { reg := .TMG_POLW_DATA2, base := 0x7000D0, copies := .window, flds := [⟨31, 16, .rw, []⟩, ⟨15, 0, .rw, []⟩] },
  { reg := .TMG_GCW_CMD, base := 0x700100, copies := .window, flds := [⟨31, 31, .ro, []⟩, ⟨30, 28, .ro, []⟩,
      ⟨1, 0, .wo, []⟩] },
  { reg := .TMG_GCW_IDX, base := 0x700104, copies := .window, flds := [⟨14, 8, .rw, []⟩, ⟨5, 0, .rw, []⟩] },
  { reg := .TMG_GCW_DATA0, base := 0x700108, copies := .window, flds := [⟨7, 0, .rwp, []⟩] },
  { reg := .TMG_GCW_DATA1, base := 0x70010C, copies := .window, flds := [⟨29, 0, .rwp, []⟩] },
  { reg := .TMG_PORT_CFG, base := 0x701000, stride := 0x40, count := 128, flds := [⟨31, 31, .rwp, []⟩,
      ⟨30, 30, .wo, []⟩, ⟨29, 29, .rw, []⟩, ⟨28, 28, .rw, []⟩, ⟨6, 0, .rwp, [(1, 64)]⟩] },
  { reg := .TMG_PORT_PRIO, base := 0x701004, stride := 0x40, count := 128, flds := [⟨23, 0, .rw, []⟩] },
  { reg := .TMG_PORT_BASE_S_LO, base := 0x701008, stride := 0x40, count := 128, flds := [⟨31, 0, .rwp, []⟩] },
  { reg := .TMG_PORT_BASE_S_HI, base := 0x70100C, stride := 0x40, count := 128, flds := [⟨15, 0, .rwp, []⟩] },
  { reg := .TMG_PORT_BASE_NS, base := 0x701010, stride := 0x40, count := 128, flds := [⟨29, 0, .rwp, []⟩] },
  { reg := .TMG_PORT_CYCLE_NS, base := 0x701014, stride := 0x40, count := 128, flds := [
      ⟨29, 0, .rwp, [(1000, 1000000000)]⟩] },
  { reg := .TMG_PORT_EXT_NS, base := 0x701018, stride := 0x40, count := 128, flds := [
      ⟨29, 0, .rwp, [(0, 1000000000)]⟩] },
  { reg := .TMG_PORT_LAUNCH, base := 0x70101C, stride := 0x40, count := 128, flds := [⟨15, 0, .rw, []⟩] },
  { reg := .TMG_PORT_STATUS, base := 0x701020, stride := 0x40, count := 128, flds := [⟨31, 31, .ro, []⟩,
      ⟨30, 30, .ro, []⟩, ⟨29, 23, .ro, []⟩, ⟨22, 16, .ro, []⟩, ⟨15, 8, .ro, []⟩] },
  { reg := .TMG_PORT_PQ_FILL, base := 0x701024, stride := 0x40, count := 128, flds := [⟨31, 16, .ro, []⟩,
      ⟨15, 0, .ro, []⟩] }]

/-- The CEL registers (R199). -/
def regsCEL : List RegInfo := [
  { reg := .CEL_CTL, base := 0x800000, flds := [⟨31, 24, .rw, [(1, 168)]⟩, ⟨23, 14, .rw, [(1, 1023)]⟩] },
  { reg := .CEL_FLUSH, base := 0x800004, flds := [⟨16, 0, .rw, [(100, 100000)]⟩] },
  { reg := .CEL_STATUS, base := 0x800008, flds := [⟨31, 31, .ro, []⟩, ⟨30, 30, .ro, []⟩, ⟨29, 29, .ro, []⟩,
      ⟨7, 0, .ro, []⟩] },
  { reg := .CEL_INT_STAT, base := 0x80000C, flds := [⟨8, 0, .w1c, []⟩] },
  { reg := .CEL_INT_EN, base := 0x800010, flds := [⟨8, 0, .rw, []⟩] },
  { reg := .CEL_EVT, base := 0x800014, flds := [⟨31, 31, .ro, []⟩, ⟨30, 27, .ro, []⟩, ⟨26, 24, .ro, []⟩,
      ⟨23, 20, .ro, []⟩] },
  { reg := .CEL_EVT_ADDR_LO, base := 0x800018, flds := [⟨31, 0, .ro, []⟩] },
  { reg := .CEL_EVT_ADDR_HI, base := 0x80001C, flds := [⟨7, 0, .ro, []⟩] },
  { reg := .CEL_CNT_SEL, base := 0x800020, copies := .window, flds := [⟨31, 30, .rw, []⟩, ⟨4, 0, .rw, []⟩] },
  { reg := .CEL_CNT_LO, base := 0x800024, copies := .window, flds := [⟨31, 0, .ro, []⟩] },
  { reg := .CEL_CNT_HI, base := 0x800028, copies := .window, flds := [⟨31, 0, .ro, []⟩] },
  { reg := .CEL_RCFG, base := 0x800030, flds := [⟨31, 30, .rwi, [(0, 1)]⟩, ⟨29, 29, .rwi, []⟩, ⟨28, 28, .rwi, []⟩,
      ⟨27, 27, .rwi, []⟩, ⟨26, 26, .rwi, []⟩, ⟨25, 24, .rwi, [(1, 2)]⟩, ⟨10, 0, .rwi, [(0, 1024)]⟩] },
  { reg := .CEL_RGW_CMD, base := 0x800040, copies := .window, flds := [⟨31, 31, .ro, []⟩, ⟨30, 28, .ro, []⟩,
      ⟨0, 0, .wo, []⟩] },
  { reg := .CEL_RGW_IDX, base := 0x800044, copies := .window, flds := [⟨3, 0, .rw, []⟩] },
  { reg := .CEL_RGW_DATA, base := 0x800048, stride := 0x4, count := 3, copies := .window, flds := [
      ⟨31, 0, .ro, []⟩] },
  { reg := .CEL_DGW_CMD, base := 0x800060, copies := .window, flds := [⟨31, 31, .ro, []⟩, ⟨30, 28, .ro, []⟩,
      ⟨1, 0, .wo, []⟩] },
  { reg := .CEL_DGW_OFF, base := 0x800064, copies := .window, flds := [⟨23, 0, .rw, []⟩] },
  { reg := .CEL_DGW_DATA, base := 0x800068, stride := 0x4, count := 16, copies := .window, flds := [
      ⟨31, 0, .rw, []⟩] },
  { reg := .CEL_STK_STATE, base := 0x800100, stride := 0x20, count := 4, flds := [⟨31, 29, .ro, []⟩,
      ⟨28, 27, .ro, []⟩, ⟨26, 26, .ro, []⟩, ⟨25, 13, .ro, []⟩] },
  { reg := .CEL_STK_POOL, base := 0x800104, stride := 0x20, count := 4, flds := [⟨27, 0, .ro, []⟩] }]

/-- The PAR registers (R246). -/
def regsPAR : List RegInfo := [
  { reg := .PAR_CTL, base := 0x900000, flds := [⟨31, 31, .rwi, []⟩, ⟨30, 30, .rwi, []⟩, ⟨29, 29, .rwi, []⟩,
      ⟨28, 28, .rwp, []⟩] },
  { reg := .PAR_TIME0, base := 0x900004, flds := [⟨31, 16, .rwp, [(2, 1000)]⟩, ⟨5, 0, .rwp, [(1, 50)]⟩] },
  { reg := .PAR_TIME1, base := 0x900008, flds := [⟨31, 26, .rwi, [(1, 60)]⟩, ⟨16, 0, .rwp, [(0, 86400)]⟩] },
  { reg := .PAR_TIME2, base := 0x90000C, flds := [⟨16, 0, .rwp, [(60, 86400)]⟩] },
  { reg := .PAR_TIME3, base := 0x900010, flds := [⟨16, 0, .rwp, [(60, 86400)]⟩] },
  { reg := .PAR_STATUS, base := 0x900014, flds := [⟨31, 29, .ro, []⟩, ⟨28, 26, .ro, []⟩, ⟨25, 23, .ro, []⟩,
      ⟨22, 22, .ro, []⟩, ⟨21, 21, .ro, []⟩, ⟨20, 20, .ro, []⟩, ⟨19, 19, .ro, []⟩, ⟨18, 18, .ro, []⟩,
      ⟨17, 17, .ro, []⟩, ⟨16, 15, .ro, []⟩, ⟨14, 13, .ro, []⟩, ⟨12, 12, .ro, []⟩, ⟨11, 11, .ro, []⟩] },
  { reg := .PAR_INT_STAT, base := 0x900018, flds := [⟨10, 0, .w1c, []⟩] },
  { reg := .PAR_INT_EN, base := 0x90001C, flds := [⟨10, 0, .rw, []⟩] },
  { reg := .PAR_CMD, base := 0x900020, flds := [⟨31, 31, .ro, []⟩, ⟨30, 28, .ro, []⟩, ⟨2, 0, .wo, []⟩] },
  { reg := .PAR_PARTNER_LO, base := 0x900024, flds := [⟨31, 0, .ro, []⟩] },
  { reg := .PAR_PARTNER_HI, base := 0x900028, flds := [⟨31, 0, .ro, []⟩] },
  { reg := .PAR_EVT, base := 0x90002C, flds := [⟨31, 31, .ro, []⟩, ⟨30, 27, .ro, []⟩, ⟨26, 24, .ro, []⟩] },
  { reg := .PAR_CNT_SEL, base := 0x900030, copies := .window, flds := [⟨3, 0, .rw, []⟩] },
  { reg := .PAR_CNT_LO, base := 0x900034, copies := .window, flds := [⟨31, 0, .ro, []⟩] },
  { reg := .PAR_CNT_HI, base := 0x900038, copies := .window, flds := [⟨31, 0, .ro, []⟩] }]

/-- The PCI registers (R349). -/
def regsPCI : List RegInfo := [
  { reg := .PCI_STATUS, base := 0xA00000, flds := [⟨31, 29, .ro, []⟩, ⟨28, 26, .ro, []⟩, ⟨25, 25, .ro, []⟩] },
  { reg := .PCI_ISUM_LO, base := 0xA00004, flds := [⟨31, 0, .ro, []⟩] },
  { reg := .PCI_ISUM_HI, base := 0xA00008, flds := [⟨0, 0, .ro, []⟩] },
  { reg := .PCI_PSUM, base := 0xA00010, stride := 0x4, count := 4, flds := [⟨31, 0, .ro, []⟩] },
  { reg := .PCI_IVEC, base := 0xA00100, stride := 0x4, count := 33, flds := [⟨31, 31, .rw, []⟩, ⟨30, 30, .rw, []⟩,
      ⟨5, 0, .rw, []⟩] }]

/-- The HFR registers (R349). -/
def regsHFR : List RegInfo := [
  { reg := .HFR_TX_BASE_LO, base := 0xA01000, stride := 0x40, count := 8, flds := [⟨31, 12, .rw, []⟩] },
  { reg := .HFR_TX_BASE_HI, base := 0xA01004, stride := 0x40, count := 8, flds := [⟨31, 0, .rw, []⟩] },
  { reg := .HFR_TX_CTL, base := 0xA01008, stride := 0x40, count := 8, flds := [⟨31, 31, .rw, []⟩,
      ⟨30, 30, .ro, []⟩, ⟨3, 0, .rw, [(0, 10)]⟩] },
  { reg := .HFR_TX_TAIL, base := 0xA0100C, stride := 0x40, count := 8, flds := [⟨15, 0, .rw, []⟩] },
  { reg := .HFR_TX_HEAD, base := 0xA01010, stride := 0x40, count := 8, flds := [⟨15, 0, .ro, []⟩] },
  { reg := .HFR_RX_BASE_LO, base := 0xA01200, stride := 0x40, count := 8, flds := [⟨31, 12, .rw, []⟩] },
  { reg := .HFR_RX_BASE_HI, base := 0xA01204, stride := 0x40, count := 8, flds := [⟨31, 0, .rw, []⟩] },
  { reg := .HFR_RX_CTL, base := 0xA01208, stride := 0x40, count := 8, flds := [⟨31, 31, .rw, []⟩,
      ⟨30, 30, .ro, []⟩, ⟨29, 20, .rw, []⟩, ⟨7, 4, .rw, []⟩, ⟨3, 0, .rw, [(0, 10)]⟩] },
  { reg := .HFR_RX_TAIL, base := 0xA0120C, stride := 0x40, count := 8, flds := [⟨15, 0, .rw, []⟩] },
  { reg := .HFR_RX_HEAD, base := 0xA01210, stride := 0x40, count := 8, flds := [⟨15, 0, .ro, []⟩] },
  { reg := .HFR_TRAP_MATCH, base := 0xA01400, stride := 0x10, count := 16, flds := [⟨31, 31, .rw, []⟩,
      ⟨30, 30, .rw, []⟩, ⟨29, 29, .rw, []⟩, ⟨28, 28, .rw, []⟩, ⟨27, 27, .rw, []⟩, ⟨26, 24, .rw, []⟩,
      ⟨22, 16, .rw, []⟩, ⟨15, 0, .rw, []⟩] },
  { reg := .HFR_TRAP_DA_LO, base := 0xA01404, stride := 0x10, count := 16, flds := [⟨31, 0, .rw, []⟩] },
  { reg := .HFR_TRAP_DA_HI, base := 0xA01408, stride := 0x10, count := 16, flds := [⟨15, 0, .rw, []⟩] },
  { reg := .HFR_RING_STAT, base := 0xA01800, flds := [⟨23, 16, .w1c, []⟩, ⟨15, 8, .w1c, []⟩, ⟨7, 0, .w1c, []⟩] },
  { reg := .HFR_RING_EN, base := 0xA01804, flds := [⟨23, 16, .rw, []⟩, ⟨15, 8, .rw, []⟩, ⟨7, 0, .rw, []⟩] },
  { reg := .HFR_CNT_SEL, base := 0xA01810, copies := .window, flds := [⟨31, 31, .rw, []⟩, ⟨7, 4, .rw, []⟩,
      ⟨2, 0, .rw, []⟩] },
  { reg := .HFR_CNT_LO, base := 0xA01814, copies := .window, flds := [⟨31, 0, .ro, []⟩] },
  { reg := .HFR_CNT_HI, base := 0xA01818, copies := .window, flds := [⟨31, 0, .ro, []⟩] }]

/-- The OBS registers (R360). -/
def regsOBS : List RegInfo := [
  { reg := .OBS_CTL, base := 0xB00000, flds := [⟨31, 31, .rw, []⟩, ⟨30, 30, .rw, []⟩] },
  { reg := .OBS_STATUS, base := 0xB00004, flds := [⟨31, 31, .ro, []⟩, ⟨30, 30, .ro, []⟩, ⟨15, 0, .ro, []⟩] },
  { reg := .OBS_INT_STAT, base := 0xB00008, flds := [⟨3, 0, .w1c, []⟩] },
  { reg := .OBS_INT_EN, base := 0xB0000C, flds := [⟨3, 0, .rw, []⟩] },
  { reg := .OBS_RD_TS_LO, base := 0xB00010, copies := .window, flds := [⟨31, 0, .ro, []⟩] },
  { reg := .OBS_RD_TS_HI, base := 0xB00014, copies := .window, flds := [⟨31, 0, .ro, []⟩] },
  { reg := .OBS_SMPW_CMD, base := 0xB00040, copies := .window, flds := [⟨24, 16, .ro, []⟩, ⟨0, 0, .wo, []⟩] },
  { reg := .OBS_SMPW_DATA, base := 0xB00044, stride := 0x4, count := 6, copies := .window, flds := [
      ⟨31, 0, .ro, []⟩] },
  { reg := .OBS_LOGW_CMD, base := 0xB00080, copies := .window, flds := [⟨31, 31, .ro, []⟩, ⟨0, 0, .wo, []⟩] },
  { reg := .OBS_LOGW_IDX, base := 0xB00084, copies := .window, flds := [⟨9, 0, .rw, []⟩] },
  { reg := .OBS_LOGW_DATA, base := 0xB00088, stride := 0x4, count := 4, copies := .window, flds := [
      ⟨31, 0, .ro, []⟩] },
  { reg := .OBS_LOGW_SEQ, base := 0xB00098, copies := .window, flds := [⟨31, 0, .ro, []⟩] },
  { reg := .OBS_ENG_CYC_LO, base := 0xB10000, stride := 0x100, count := 64, flds := [⟨31, 0, .ro, []⟩] },
  { reg := .OBS_ENG_CYC_HI, base := 0xB10004, stride := 0x100, count := 64, flds := [⟨31, 0, .ro, []⟩] },
  { reg := .OBS_ENG_SEL, base := 0xB10020, ostride := 0x100, ocount := 64, stride := 0x4, count := 8, flds := [
      ⟨31, 31, .rw, []⟩, ⟨30, 30, .rw, []⟩, ⟨29, 29, .rw, []⟩, ⟨28, 28, .rw, []⟩, ⟨23, 16, .rw, []⟩,
      ⟨7, 0, .rw, []⟩] },
  { reg := .OBS_ENG_CNT_LO, base := 0xB10040, ostride := 0x100, ocount := 64, stride := 0x8, count := 8, flds := [
      ⟨31, 0, .rw, []⟩] },
  { reg := .OBS_ENG_CNT_HI, base := 0xB10044, ostride := 0x100, ocount := 64, stride := 0x8, count := 8, flds := [
      ⟨15, 0, .rw, []⟩] },
  { reg := .OBS_PRT_SEL, base := 0xB20000, ostride := 0x40, ocount := 128, stride := 0x4, count := 4, flds := [
      ⟨31, 31, .rw, []⟩, ⟨30, 30, .rw, []⟩, ⟨29, 29, .rw, []⟩, ⟨28, 28, .rw, []⟩, ⟨23, 16, .rw, []⟩,
      ⟨7, 0, .rw, []⟩] },
  { reg := .OBS_PRT_CNT_LO, base := 0xB20010, ostride := 0x40, ocount := 128, stride := 0x8, count := 4, flds := [
      ⟨31, 0, .rw, []⟩] },
  { reg := .OBS_PRT_CNT_HI, base := 0xB20014, ostride := 0x40, ocount := 128, stride := 0x8, count := 4, flds := [
      ⟨15, 0, .rw, []⟩] },
  { reg := .OBS_COR_SEL, base := 0xB30000, ostride := 0x40, ocount := 16, stride := 0x4, count := 4, flds := [
      ⟨31, 31, .rw, []⟩, ⟨30, 30, .rw, []⟩, ⟨29, 29, .rw, []⟩, ⟨28, 28, .rw, []⟩, ⟨23, 16, .rw, []⟩,
      ⟨7, 0, .rw, []⟩] },
  { reg := .OBS_COR_CNT_LO, base := 0xB30010, ostride := 0x40, ocount := 16, stride := 0x8, count := 4, flds := [
      ⟨31, 0, .rw, []⟩] },
  { reg := .OBS_COR_CNT_HI, base := 0xB30014, ostride := 0x40, ocount := 16, stride := 0x8, count := 4, flds := [
      ⟨15, 0, .rw, []⟩] },
  { reg := .OBS_CEL_SEL, base := 0xB40000, stride := 0x4, count := 8, flds := [⟨31, 31, .rw, []⟩,
      ⟨30, 30, .rw, []⟩, ⟨29, 29, .rw, []⟩, ⟨28, 28, .rw, []⟩, ⟨27, 24, .rw, []⟩, ⟨23, 16, .rw, []⟩,
      ⟨7, 0, .rw, []⟩] },
  { reg := .OBS_CEL_CNT_LO, base := 0xB40020, stride := 0x8, count := 8, flds := [⟨31, 0, .rw, []⟩] },
  { reg := .OBS_CEL_CNT_HI, base := 0xB40024, stride := 0x8, count := 8, flds := [⟨15, 0, .rw, []⟩] }]

/-- Every register group. -/
def allRegs : List RegInfo :=
  regsGLB ++ regsSTA ++ regsSTA_IMG ++ regsPWR ++ regsTCK ++ regsACU ++
  regsTIM ++ regsHPT ++ regsLPT ++ regsMGT ++ regsCLS ++ regsSEC ++
  regsENG ++ regsYRD ++ regsMKA ++ regsKEY ++ regsSVC ++ regsTMG ++
  regsCEL ++ regsPAR ++ regsPCI ++ regsHFR ++ regsOBS

/-- The blocks by address, lowest first: first address, address after the last, register groups. -/
def regBlocks : List (Nat × Nat × List RegInfo) := [
  (0x0, 0x20, regsGLB),
  (0x10000, 0x100A0, regsSTA),
  (0x10100, 0x10400, regsSTA_IMG),
  (0x20000, 0x200AC, regsPWR),
  (0x30000, 0x30200, regsTCK),
  (0x40000, 0x4F010, regsACU),
  (0x80000, 0x8030C, regsTIM),
  (0x100000, 0x13F090, regsHPT),
  (0x140000, 0x17F090, regsLPT),
  (0x180000, 0x18000C, regsMGT),
  (0x200000, 0x203000, regsCLS),
  (0x300000, 0x31FFF4, regsSEC),
  (0x400000, 0x44004C, regsENG),
  (0x500000, 0x50005C, regsYRD),
  (0x600000, 0x617FF8, regsMKA),
  (0x680000, 0x6800DC, regsKEY),
  (0x681000, 0x6817F8, regsSVC),
  (0x700000, 0x702FE8, regsTMG),
  (0x800000, 0x800168, regsCEL),
  (0x900000, 0x90003C, regsPAR),
  (0xA00000, 0xA00184, regsPCI),
  (0xA01000, 0xA0181C, regsHFR),
  (0xB00000, 0xB40060, regsOBS)]

/-- TCK_RESP of source i as R310 gives it: the responses of the table, HOLD_S 60. -/
def tckRespRst (i : Nat) : W32 :=
  if i ≤ 5 then 0x8000003C#32
  else if i = 11 ∨ i = 13 ∨ i = 14 then 0x4000003C#32
  else if i = 15 ∨ i = 18 then 0x2000003C#32
  else if i ≤ 25 then 0x0000003C#32
  else 0#32

/-- TCK_RESP_WIN of source i as R310 gives it. -/
def tckWinRst (i : Nat) : W32 :=
  if i = 11 then 0x400003E8#32
  else if i = 13 then 0x08000064#32
  else if i ≤ 25 then 0x010003E8#32
  else 0#32

/-- The reset regions of ACU 81 (R344): region 0 pages 0 to 0x3F, region 1 pages 0xB00 to 0xBFF, both R and USER. -/
def acuBaseRst (i : Nat) : W32 := if i = 81 * 16 + 1 then 0xB00#32 else 0#32
def acuPagesRst (i : Nat) : W32 := if i = 81 * 16 then 64#32 else if i = 81 * 16 + 1 then 256#32 else 0#32
def acuAttrRst (i : Nat) : W32 := if i = 81 * 16 ∨ i = 81 * 16 + 1 then 0x90000000#32 else 0#32

/-- The reset word of element i (R365), the fields that read as views left 0. Fields marked "index" take the index. -/
def Reg.rst (r : Reg) (i : Nat) : W32 :=
  match r with
  | .GLB_DEV_ID => 0x64085F1A#32
  | .GLB_DEV_REV => 0xB01#32
  | .GLB_ROM_ID => 0x20B01#32
  | .STA_CFG => 0xBB803C0#32
  | .STA_XSPI_DATA => 0xFFFFFFFF#32
  | .PWR_CTL => 0x1501E140#32
  | .TCK_CTL => 0x28038400#32
  | .ACU_FENCE => 0x80000000#32
  | .TIM_CTL => 0x3C800000#32
  | .TIM_REF => 0x800061A8#32
  | .TIM_PTP_CFG0 => 0xD1038080#32
  | .TIM_PTP_CFG1 => 0xF4240#32
  | .TIM_PTP_CFG2 => 0x3E8#32
  | .TIM_PTP_CFG3 => 0x64#32
  | .TIM_HOST => 0x4B00A#32
  | .TIM_TC_HP_LO => 0xFFFFFFFF#32
  | .TIM_TC_HP_HI => 0xFFFFFFFF#32
  | .TIM_OUT_PERIOD => 0x3B9ACA00#32
  | .TIM_OUT_WIDTH => 0x5F5E100#32
  | .HPT_CFG => 0x80300000#32
  | .HPT_AN => 0x3#32
  | .HPT_MAX_FRAME => 0x2400#32
  | .HPT_FC => 0xFF3F05#32
  | .HPT_FC_THR => 0x4018080#32
  | .HPT_DORMANT => 0x3E800A#32
  | .HPT_MAP => 0x80#32 ||| BitVec.ofNat 32 (i % 64)
  | .LPT_CFG => 0x80300000#32
  | .LPT_AN => 0x3#32
  | .LPT_MAX_FRAME => 0x2424#32
  | .LPT_FC => 0x4#32
  | .LPT_STORM => 0x1F4#32
  | .LPT_DORMANT => 0x3E800A#32
  | .MGT_CFG => 0x4000C5B4#32
  | .MGT_SESS => 0x3C0#32
  | .CLS_BANK => 0x4#32
  | .CLS_AGE => 0x12C#32
  | .CLS_TPID => 0x9100#32
  | .CLS_LP_MODE => 0x0#32 ||| BitVec.ofNat 32 (i % 1024 * 2 ^ 10) ||| BitVec.ofNat 32 (i % 1024)
  | .SEC_CTL => 0x32#32
  | .SEC_SECY_CFG => 0x70A00000#32 ||| BitVec.ofNat 32 (i % 64 * 2 ^ 14)
  | .ENG_CAL => 0x80000100#32
  | .YRD_CTL => 0x1800A03C#32
  | .YRD_TEST => 0x60000000#32
  | .YRD_RO_STAT => 0x80000000#32
  | .MKA_CTL => 0xC0000000#32
  | .MKA_TIME0 => 0x177007D0#32
  | .MKA_TIME1 => 0x2832000#32
  | .MKA_TIME2 => 0x3E8#32
  | .MKA_CA_CFG => 0x10000#32 ||| BitVec.ofNat 32 (i % 2048)
  | .SVC_CTL => 0x40000000#32
  | .TMG_CTL => 0x19000000#32
  | .TMG_BUF_CFG => 0x40400000#32
  | .TMG_SHW_DATA0 => 0x50000000#32
  | .TMG_SHW_DATA2 => 0x100040#32
  | .TMG_GCW_DATA0 => 0xFF#32
  | .TMG_PORT_CFG => 0x30000001#32
  | .TMG_PORT_PRIO => 0xFAC688#32
  | .TMG_PORT_CYCLE_NS => 0xF4240#32
  | .TMG_PORT_LAUNCH => 0x3E8#32
  | .CEL_CTL => 0x18100000#32
  | .CEL_FLUSH => 0x3E8#32
  | .CEL_RCFG => 0xD000000#32
  | .PAR_CTL => 0x80000000#32
  | .PAR_TIME0 => 0x140002#32
  | .PAR_TIME1 => 0x14000258#32
  | .PAR_TIME2 => 0xE10#32
  | .PAR_TIME3 => 0xE10#32
  | .PCI_IVEC => 0x0#32 ||| BitVec.ofNat 32 (i % 64)
  | .HFR_TX_CTL => 0x40000000#32
  | .HFR_RX_CTL => 0x41000010#32
  | .OBS_CTL => 0x40000000#32
  | .TCK_RESP => tckRespRst i
  | .TCK_RESP_WIN => tckWinRst i
  | .ACU_RPAGES => acuPagesRst i
  | .ACU_RBASE => acuBaseRst i
  | .ACU_RATTR => acuAttrRst i
  | _ => 0#32

/-- A named field: its register and bits. -/
structure FieldRef where
  reg : Reg
  hi  : Nat
  lo  : Nat
deriving DecidableEq, Repr

/-! The fields the meanings name, as the register tables of spec/ give them. -/

def F.ACU_RATTR_RWXUP : FieldRef := ⟨.ACU_RATTR, 31, 27⟩
def F.CEL_CNT_SEL_CNT : FieldRef := ⟨.CEL_CNT_SEL, 4, 0⟩
def F.CEL_CNT_SEL_STACK : FieldRef := ⟨.CEL_CNT_SEL, 31, 30⟩
def F.CEL_CTL_UE_LIMIT : FieldRef := ⟨.CEL_CTL, 23, 14⟩
def F.CEL_DGW_OFF_LINE : FieldRef := ⟨.CEL_DGW_OFF, 23, 0⟩
def F.CEL_RCFG_BUF_KS : FieldRef := ⟨.CEL_RCFG, 29, 29⟩
def F.CEL_RCFG_BUF_PROT : FieldRef := ⟨.CEL_RCFG, 31, 30⟩
def F.CEL_RCFG_CNT_KS : FieldRef := ⟨.CEL_RCFG, 28, 28⟩
def F.CEL_RCFG_DIAG_MIB : FieldRef := ⟨.CEL_RCFG, 10, 0⟩
def F.CEL_RCFG_DIAG_PROT : FieldRef := ⟨.CEL_RCFG, 25, 24⟩
def F.CEL_RCFG_OVT_KS : FieldRef := ⟨.CEL_RCFG, 27, 27⟩
def F.CEL_RCFG_SA_KS : FieldRef := ⟨.CEL_RCFG, 26, 26⟩
def F.CEL_RGW_IDX_REGION : FieldRef := ⟨.CEL_RGW_IDX, 3, 0⟩
def F.CLS_AGE_AGE_S : FieldRef := ⟨.CLS_AGE, 15, 0⟩
def F.CLS_HP_CLS_DEF_CLASS : FieldRef := ⟨.CLS_HP_CLS, 26, 24⟩
def F.CLS_HP_CLS_DSCP_EN : FieldRef := ⟨.CLS_HP_CLS, 28, 28⟩
def F.CLS_HP_CLS_PCP_MAP : FieldRef := ⟨.CLS_HP_CLS, 23, 0⟩
def F.CLS_LP_LEARN_EXCESS : FieldRef := ⟨.CLS_LP_LEARN, 31, 31⟩
def F.CLS_LP_LEARN_LIMIT : FieldRef := ⟨.CLS_LP_LEARN, 18, 0⟩
def F.CLS_LP_MODE_DEF_PEER : FieldRef := ⟨.CLS_LP_MODE, 19, 10⟩
def F.CLS_LP_MODE_FLOOD_PEER : FieldRef := ⟨.CLS_LP_MODE, 9, 0⟩
def F.CLS_LP_MODE_MODE : FieldRef := ⟨.CLS_LP_MODE, 31, 30⟩
def F.CLS_LP_MODE_UNK_ACT : FieldRef := ⟨.CLS_LP_MODE, 29, 29⟩
def F.CLS_SL_CNT_IDX_IDX : FieldRef := ⟨.CLS_SL_CNT_IDX, 4, 0⟩
def F.CLS_TPID_X : FieldRef := ⟨.CLS_TPID, 15, 0⟩
def F.CLS_TW_ADDR_ADDR : FieldRef := ⟨.CLS_TW_ADDR, 22, 0⟩
def F.CLS_TW_CMD_BANK : FieldRef := ⟨.CLS_TW_CMD, 7, 7⟩
def F.CLS_TW_CMD_TABLE : FieldRef := ⟨.CLS_TW_CMD, 11, 8⟩
def F.ENG_TPL_IDX_TPL : FieldRef := ⟨.ENG_TPL_IDX, 7, 0⟩
def F.HFR_CNT_SEL_CNT : FieldRef := ⟨.HFR_CNT_SEL, 7, 4⟩
def F.HFR_CNT_SEL_INDEX : FieldRef := ⟨.HFR_CNT_SEL, 2, 0⟩
def F.HFR_CNT_SEL_KIND : FieldRef := ⟨.HFR_CNT_SEL, 31, 31⟩
def F.HFR_RX_BASE_LO_ADDR : FieldRef := ⟨.HFR_RX_BASE_LO, 31, 12⟩
def F.HFR_RX_CTL_BUF : FieldRef := ⟨.HFR_RX_CTL, 7, 4⟩
def F.HFR_RX_CTL_COAL_US : FieldRef := ⟨.HFR_RX_CTL, 29, 20⟩
def F.HFR_RX_CTL_EN : FieldRef := ⟨.HFR_RX_CTL, 31, 31⟩
def F.HFR_RX_CTL_SIZE : FieldRef := ⟨.HFR_RX_CTL, 3, 0⟩
def F.HFR_RX_TAIL_IDX : FieldRef := ⟨.HFR_RX_TAIL, 15, 0⟩
def F.HFR_TRAP_MATCH_ANY_DA : FieldRef := ⟨.HFR_TRAP_MATCH, 27, 27⟩
def F.HFR_TRAP_MATCH_ANY_ETYPE : FieldRef := ⟨.HFR_TRAP_MATCH, 28, 28⟩
def F.HFR_TRAP_MATCH_ANY_PORT : FieldRef := ⟨.HFR_TRAP_MATCH, 29, 29⟩
def F.HFR_TRAP_MATCH_EN : FieldRef := ⟨.HFR_TRAP_MATCH, 31, 31⟩
def F.HFR_TRAP_MATCH_ETYPE : FieldRef := ⟨.HFR_TRAP_MATCH, 15, 0⟩
def F.HFR_TRAP_MATCH_PORT : FieldRef := ⟨.HFR_TRAP_MATCH, 22, 16⟩
def F.HFR_TRAP_MATCH_REDIRECT : FieldRef := ⟨.HFR_TRAP_MATCH, 30, 30⟩
def F.HFR_TRAP_MATCH_RING : FieldRef := ⟨.HFR_TRAP_MATCH, 26, 24⟩
def F.HFR_TX_BASE_LO_ADDR : FieldRef := ⟨.HFR_TX_BASE_LO, 31, 12⟩
def F.HFR_TX_CTL_EN : FieldRef := ⟨.HFR_TX_CTL, 31, 31⟩
def F.HFR_TX_CTL_SIZE : FieldRef := ⟨.HFR_TX_CTL, 3, 0⟩
def F.HFR_TX_TAIL_IDX : FieldRef := ⟨.HFR_TX_TAIL, 15, 0⟩
def F.HPT_CFG_AN_EN : FieldRef := ⟨.HPT_CFG, 21, 21⟩
def F.HPT_CFG_DORMANT_EN : FieldRef := ⟨.HPT_CFG, 29, 29⟩
def F.HPT_CFG_EN : FieldRef := ⟨.HPT_CFG, 31, 31⟩
def F.HPT_CFG_FEC : FieldRef := ⟨.HPT_CFG, 23, 22⟩
def F.HPT_CFG_FORM : FieldRef := ⟨.HPT_CFG, 27, 24⟩
def F.HPT_CFG_LT_EN : FieldRef := ⟨.HPT_CFG, 20, 20⟩
def F.HPT_FC_MODE : FieldRef := ⟨.HPT_FC, 1, 0⟩
def F.HPT_FC_PFC_EN : FieldRef := ⟨.HPT_FC, 23, 16⟩
def F.HPT_FC_PFC_LOW : FieldRef := ⟨.HPT_FC, 15, 8⟩
def F.HPT_FC_RX_OBEY : FieldRef := ⟨.HPT_FC, 2, 2⟩
def F.HPT_FC_THR_XOFF_HIGH : FieldRef := ⟨.HPT_FC_THR, 26, 18⟩
def F.HPT_FC_THR_XOFF_LOW : FieldRef := ⟨.HPT_FC_THR, 17, 9⟩
def F.HPT_FC_THR_XON : FieldRef := ⟨.HPT_FC_THR, 8, 0⟩
def F.HPT_MAC_HI_ADDR : FieldRef := ⟨.HPT_MAC_HI, 15, 0⟩
def F.HPT_MAC_LO_ADDR : FieldRef := ⟨.HPT_MAC_LO, 31, 0⟩
def F.HPT_MAP_LINE : FieldRef := ⟨.HPT_MAP, 5, 0⟩
def F.HPT_MAP_VALID : FieldRef := ⟨.HPT_MAP, 7, 7⟩
def F.HPT_MAX_FRAME_MAX_FRAME : FieldRef := ⟨.HPT_MAX_FRAME, 13, 0⟩
def F.HPT_RECAL_QUEUE : FieldRef := ⟨.HPT_RECAL, 1, 1⟩
def F.HPT_STAT_IDX_IDX : FieldRef := ⟨.HPT_STAT_IDX, 5, 0⟩
def F.HPT_STORM_STORM_MS : FieldRef := ⟨.HPT_STORM, 13, 0⟩
def F.KEY_CAKW_IDX_SLOT : FieldRef := ⟨.KEY_CAKW_IDX, 9, 0⟩
def F.KEY_CNT_SEL_CNT : FieldRef := ⟨.KEY_CNT_SEL, 3, 0⟩
def F.KEY_PROV_CMD_SLOT : FieldRef := ⟨.KEY_PROV_CMD, 17, 8⟩
def F.KEY_SLOTW_IDX_CA : FieldRef := ⟨.KEY_SLOTW_IDX, 26, 16⟩
def F.KEY_SLOTW_IDX_SLOT : FieldRef := ⟨.KEY_SLOTW_IDX, 15, 0⟩
def F.LPT_CFG_AN_EN : FieldRef := ⟨.LPT_CFG, 21, 21⟩
def F.LPT_CFG_DORMANT_EN : FieldRef := ⟨.LPT_CFG, 29, 29⟩
def F.LPT_CFG_EN : FieldRef := ⟨.LPT_CFG, 31, 31⟩
def F.LPT_CFG_FEC : FieldRef := ⟨.LPT_CFG, 23, 22⟩
def F.LPT_CFG_FORM : FieldRef := ⟨.LPT_CFG, 27, 24⟩
def F.LPT_CFG_LT_EN : FieldRef := ⟨.LPT_CFG, 20, 20⟩
def F.LPT_CFG_PROTECTED : FieldRef := ⟨.LPT_CFG, 28, 28⟩
def F.LPT_CFG_SNV : FieldRef := ⟨.LPT_CFG, 30, 30⟩
def F.LPT_FC_RX_OBEY : FieldRef := ⟨.LPT_FC, 2, 2⟩
def F.LPT_MAC_HI_ADDR : FieldRef := ⟨.LPT_MAC_HI, 15, 0⟩
def F.LPT_MAC_LO_ADDR : FieldRef := ⟨.LPT_MAC_LO, 31, 0⟩
def F.LPT_MAX_FRAME_MAX_FRAME : FieldRef := ⟨.LPT_MAX_FRAME, 13, 0⟩
def F.LPT_RECAL_QUEUE : FieldRef := ⟨.LPT_RECAL, 1, 1⟩
def F.LPT_STAT_IDX_IDX : FieldRef := ⟨.LPT_STAT_IDX, 5, 0⟩
def F.LPT_STORM_STORM_MS : FieldRef := ⟨.LPT_STORM, 13, 0⟩
def F.MGT_CFG_IAH_EN : FieldRef := ⟨.MGT_CFG, 30, 30⟩
def F.MKA_CAW_IDX_CA : FieldRef := ⟨.MKA_CAW_IDX, 26, 16⟩
def F.MKA_CAW_IDX_PEER : FieldRef := ⟨.MKA_CAW_IDX, 7, 0⟩
def F.MKA_CA_CFG_CAK_SLOT : FieldRef := ⟨.MKA_CA_CFG, 29, 20⟩
def F.MKA_CA_CFG_KS_PRIO : FieldRef := ⟨.MKA_CA_CFG, 19, 12⟩
def F.MKA_CA_CFG_SECY : FieldRef := ⟨.MKA_CA_CFG, 10, 0⟩
def F.MKA_CA_CFG_VALID : FieldRef := ⟨.MKA_CA_CFG, 31, 31⟩
def F.MKA_CA_DEST_DA : FieldRef := ⟨.MKA_CA_DEST, 1, 0⟩
def F.MKA_CNT_SEL_CA : FieldRef := ⟨.MKA_CNT_SEL, 26, 16⟩
def F.MKA_CNT_SEL_CNT : FieldRef := ⟨.MKA_CNT_SEL, 3, 0⟩
def F.MKA_CTL_EN : FieldRef := ⟨.MKA_CTL, 31, 31⟩
def F.MKA_CTL_PAIR_EN : FieldRef := ⟨.MKA_CTL, 30, 30⟩
def F.MKA_PAIR_CFG_SLOT : FieldRef := ⟨.MKA_PAIR_CFG, 9, 0⟩
def F.MKA_TIME0_LIFE_MS : FieldRef := ⟨.MKA_TIME0, 31, 16⟩
def F.MKA_TIME1_GRID_MS : FieldRef := ⟨.MKA_TIME1, 31, 22⟩
def F.MKA_TIME1_GUARD_MS : FieldRef := ⟨.MKA_TIME1, 21, 11⟩
def F.MKA_TIME3_SAK_LIFE_S : FieldRef := ⟨.MKA_TIME3, 16, 0⟩
def F.OBS_CTL_FREEZE : FieldRef := ⟨.OBS_CTL, 31, 31⟩
def F.OBS_CTL_PF1_WR : FieldRef := ⟨.OBS_CTL, 30, 30⟩
def F.OBS_LOGW_IDX_AGE : FieldRef := ⟨.OBS_LOGW_IDX, 9, 0⟩
def F.PAR_CNT_SEL_CNT : FieldRef := ⟨.PAR_CNT_SEL, 3, 0⟩
def F.PAR_CTL_EN : FieldRef := ⟨.PAR_CTL, 31, 31⟩
def F.PAR_CTL_MIG_EN : FieldRef := ⟨.PAR_CTL, 29, 29⟩
def F.PAR_CTL_PREFER : FieldRef := ⟨.PAR_CTL, 28, 28⟩
def F.PAR_CTL_WIRING : FieldRef := ⟨.PAR_CTL, 30, 30⟩
def F.PAR_EVT_FROM : FieldRef := ⟨.PAR_EVT, 26, 24⟩
def F.PAR_TIME0_LEASE_MS : FieldRef := ⟨.PAR_TIME0, 31, 16⟩
def F.PCI_IVEC_EN : FieldRef := ⟨.PCI_IVEC, 31, 31⟩
def F.PCI_IVEC_PF : FieldRef := ⟨.PCI_IVEC, 30, 30⟩
def F.PCI_IVEC_VECTOR : FieldRef := ⟨.PCI_IVEC, 5, 0⟩
def F.PWR_CNT_SEL_CNT : FieldRef := ⟨.PWR_CNT_SEL, 3, 0⟩
def F.PWR_CTL_FORCE_STAGE : FieldRef := ⟨.PWR_CTL, 31, 29⟩
def F.PWR_CTL_PACE_EN : FieldRef := ⟨.PWR_CTL, 28, 28⟩
def F.PWR_CTL_TJ_HYST : FieldRef := ⟨.PWR_CTL, 27, 23⟩
def F.SEC_CNT_SEL_CNT : FieldRef := ⟨.SEC_CNT_SEL, 23, 20⟩
def F.SEC_CNT_SEL_INDEX : FieldRef := ⟨.SEC_CNT_SEL, 16, 0⟩
def F.SEC_CNT_SEL_KIND : FieldRef := ⟨.SEC_CNT_SEL, 31, 30⟩
def F.SEC_CTL_PNHOLD_MS : FieldRef := ⟨.SEC_CTL, 7, 0⟩
def F.SEC_RSCW_IDX_IDX : FieldRef := ⟨.SEC_RSCW_IDX, 13, 0⟩
def F.SEC_SAW_DATA0_KEY_SLOT : FieldRef := ⟨.SEC_SAW_DATA0, 15, 0⟩
def F.SEC_SAW_IDX_IDX : FieldRef := ⟨.SEC_SAW_IDX, 16, 0⟩
def F.SEC_SECY_CFG_CLEAR_TAGS : FieldRef := ⟨.SEC_SECY_CFG, 25, 24⟩
def F.SEC_SECY_CFG_CONF : FieldRef := ⟨.SEC_SECY_CFG, 27, 26⟩
def F.SEC_SECY_CFG_INCLUDE_SCI : FieldRef := ⟨.SEC_SECY_CFG, 30, 30⟩
def F.SEC_SECY_CFG_LINE : FieldRef := ⟨.SEC_SECY_CFG, 19, 14⟩
def F.SEC_SECY_CFG_REPLAY_PROTECT : FieldRef := ⟨.SEC_SECY_CFG, 21, 21⟩
def F.SEC_SECY_CFG_SUITE : FieldRef := ⟨.SEC_SECY_CFG, 29, 28⟩
def F.SEC_SECY_CFG_TPL : FieldRef := ⟨.SEC_SECY_CFG, 7, 0⟩
def F.SEC_SECY_CFG_VALID : FieldRef := ⟨.SEC_SECY_CFG, 31, 31⟩
def F.SEC_SECY_CFG_VALIDATE : FieldRef := ⟨.SEC_SECY_CFG, 23, 22⟩
def F.SEC_SECY_WIN_WINDOW : FieldRef := ⟨.SEC_SECY_WIN, 30, 0⟩
def F.STA_LOGW_IDX_AGE : FieldRef := ⟨.STA_LOGW_IDX, 7, 0⟩
def F.STA_XSPI_CMD_BUSY : FieldRef := ⟨.STA_XSPI_CMD, 31, 31⟩
def F.STA_XSPI_CMD_LEN : FieldRef := ⟨.STA_XSPI_CMD, 15, 8⟩
def F.STA_XSPI_CMD_VER_OK : FieldRef := ⟨.STA_XSPI_CMD, 27, 27⟩
def F.SVC_AAD_N : FieldRef := ⟨.SVC_AAD, 15, 0⟩
def F.SVC_LEN_N : FieldRef := ⟨.SVC_LEN, 15, 0⟩
def F.TCK_CMD_SRC : FieldRef := ⟨.TCK_CMD, 7, 3⟩
def F.TCK_CNT_SEL_SRC : FieldRef := ⟨.TCK_CNT_SEL, 4, 0⟩
def F.TCK_CTL_STIM_ROT_S : FieldRef := ⟨.TCK_CTL, 17, 6⟩
def F.TCK_CTL_TMP_EN : FieldRef := ⟨.TCK_CTL, 25, 22⟩
def F.TCK_CTL_TMP_POL : FieldRef := ⟨.TCK_CTL, 21, 18⟩
def F.TCK_CTL_WIN_MIN : FieldRef := ⟨.TCK_CTL, 31, 26⟩
def F.TCK_LOGW_IDX_AGE : FieldRef := ⟨.TCK_LOGW_IDX, 5, 0⟩
def F.TIM_ADJ_SET_NS_NS : FieldRef := ⟨.TIM_ADJ_SET_NS, 29, 0⟩
def F.TIM_CAP_CFG_EN : FieldRef := ⟨.TIM_CAP_CFG, 31, 31⟩
def F.TIM_CAP_CFG_OUT : FieldRef := ⟨.TIM_CAP_CFG, 29, 29⟩
def F.TIM_CNT_SEL_CNT : FieldRef := ⟨.TIM_CNT_SEL, 3, 0⟩
def F.TIM_CTL_OWNER : FieldRef := ⟨.TIM_CTL, 31, 30⟩
def F.TIM_CTL_PROFILE : FieldRef := ⟨.TIM_CTL, 25, 25⟩
def F.TIM_CTL_SLAVE_ONLY : FieldRef := ⟨.TIM_CTL, 23, 23⟩
def F.TIM_CTL_TC_EN : FieldRef := ⟨.TIM_CTL, 29, 29⟩
def F.TIM_CTL_TC_ENC : FieldRef := ⟨.TIM_CTL, 28, 26⟩
def F.TIM_DLY_SEL_PORT : FieldRef := ⟨.TIM_DLY_SEL, 6, 0⟩
def F.TIM_HOST_HOLD_S : FieldRef := ⟨.TIM_HOST, 26, 10⟩
def F.TIM_HOST_HOST_LOCK : FieldRef := ⟨.TIM_HOST, 31, 31⟩
def F.TIM_OUT_CFG_EN : FieldRef := ⟨.TIM_OUT_CFG, 31, 31⟩
def F.TIM_OUT_CFG_LOW : FieldRef := ⟨.TIM_OUT_CFG, 30, 30⟩
def F.TIM_OUT_NS_NS : FieldRef := ⟨.TIM_OUT_NS, 29, 0⟩
def F.TIM_OUT_PERIOD_NS : FieldRef := ⟨.TIM_OUT_PERIOD, 29, 0⟩
def F.TIM_OUT_WIDTH_NS : FieldRef := ⟨.TIM_OUT_WIDTH, 29, 0⟩
def F.TIM_PORT_EN4_MGT : FieldRef := ⟨.TIM_PORT_EN4, 0, 0⟩
def F.TIM_PTP_CFG0_PRIO1 : FieldRef := ⟨.TIM_PTP_CFG0, 15, 8⟩
def F.TIM_PTP_CFG0_PRIO2 : FieldRef := ⟨.TIM_PTP_CFG0, 7, 0⟩
def F.TIM_PTP_CFG1_STEP_NS : FieldRef := ⟨.TIM_PTP_CFG1, 31, 0⟩
def F.TIM_PTP_CFG2_RES_NS : FieldRef := ⟨.TIM_PTP_CFG2, 16, 0⟩
def F.TIM_PTP_CFG3_LOCK_NS : FieldRef := ⟨.TIM_PTP_CFG3, 16, 0⟩
def F.TIM_REF_USE_PIN : FieldRef := ⟨.TIM_REF, 31, 31⟩
def F.TMG_BUF_CFG_POOL_GIB : FieldRef := ⟨.TMG_BUF_CFG, 31, 24⟩
def F.TMG_BUF_CFG_RSV67_MIB : FieldRef := ⟨.TMG_BUF_CFG, 23, 12⟩
def F.TMG_CNT_SEL_CNT : FieldRef := ⟨.TMG_CNT_SEL, 23, 20⟩
def F.TMG_CNT_SEL_INDEX : FieldRef := ⟨.TMG_CNT_SEL, 13, 0⟩
def F.TMG_CNT_SEL_KIND : FieldRef := ⟨.TMG_CNT_SEL, 31, 30⟩
def F.TMG_CTL_DEF_CPCT : FieldRef := ⟨.TMG_CTL, 31, 24⟩
def F.TMG_GCW_DATA0_GATES : FieldRef := ⟨.TMG_GCW_DATA0, 7, 0⟩
def F.TMG_GCW_DATA1_INTERVAL_NS : FieldRef := ⟨.TMG_GCW_DATA1, 29, 0⟩
def F.TMG_GCW_IDX_ENTRY : FieldRef := ⟨.TMG_GCW_IDX, 5, 0⟩
def F.TMG_GCW_IDX_PORT : FieldRef := ⟨.TMG_GCW_IDX, 14, 8⟩
def F.TMG_POLW_IDX_POLICER : FieldRef := ⟨.TMG_POLW_IDX, 9, 0⟩
def F.TMG_PORT_BASE_NS_NS : FieldRef := ⟨.TMG_PORT_BASE_NS, 29, 0⟩
def F.TMG_PORT_BASE_S_HI_S : FieldRef := ⟨.TMG_PORT_BASE_S_HI, 15, 0⟩
def F.TMG_PORT_CFG_ADMIN_LEN : FieldRef := ⟨.TMG_PORT_CFG, 6, 0⟩
def F.TMG_PORT_CFG_GATE_EN : FieldRef := ⟨.TMG_PORT_CFG, 31, 31⟩
def F.TMG_PORT_CFG_LATE_DROP : FieldRef := ⟨.TMG_PORT_CFG, 28, 28⟩
def F.TMG_PORT_CFG_LAUNCH_GUARD : FieldRef := ⟨.TMG_PORT_CFG, 29, 29⟩
def F.TMG_PORT_CYCLE_NS_NS : FieldRef := ⟨.TMG_PORT_CYCLE_NS, 29, 0⟩
def F.TMG_PORT_EXT_NS_NS : FieldRef := ⟨.TMG_PORT_EXT_NS, 29, 0⟩
def F.TMG_PORT_LAUNCH_LATE_NS : FieldRef := ⟨.TMG_PORT_LAUNCH, 15, 0⟩
def F.TMG_PORT_PRIO_MAP : FieldRef := ⟨.TMG_PORT_PRIO, 23, 0⟩
def F.TMG_QW_DATA0_QLIMIT : FieldRef := ⟨.TMG_QW_DATA0, 31, 16⟩
def F.TMG_QW_DATA0_YLIMIT : FieldRef := ⟨.TMG_QW_DATA0, 15, 0⟩
def F.TMG_QW_IDX_QUEUE : FieldRef := ⟨.TMG_QW_IDX, 13, 0⟩
def F.TMG_SHW_DATA5_EPOCH_S : FieldRef := ⟨.TMG_SHW_DATA5, 15, 0⟩
def F.TMG_SHW_DATA6_EPOCH_NS : FieldRef := ⟨.TMG_SHW_DATA6, 29, 0⟩
def F.TMG_SHW_IDX_INDEX : FieldRef := ⟨.TMG_SHW_IDX, 13, 0⟩
def F.TMG_SHW_IDX_LEVEL : FieldRef := ⟨.TMG_SHW_IDX, 31, 30⟩
def F.YRD_CNT_SEL_CNT : FieldRef := ⟨.YRD_CNT_SEL, 3, 0⟩
def F.YRD_CTL_PLAN_LEN : FieldRef := ⟨.YRD_CTL, 31, 22⟩
def F.YRD_CTL_ROT_S : FieldRef := ⟨.YRD_CTL, 11, 0⟩
def F.YRD_SCW_IDX_RX : FieldRef := ⟨.YRD_SCW_IDX, 15, 15⟩
def F.YRD_SCW_IDX_SC : FieldRef := ⟨.YRD_SCW_IDX, 14, 0⟩
def F.YRD_TEST_ENGINE : FieldRef := ⟨.YRD_TEST, 5, 0⟩
def F.YRD_TEST_OP : FieldRef := ⟨.YRD_TEST, 30, 29⟩

/-- All register groups' registers in the order of Reg. -/
def regList : List Reg := allRegs.map (·.reg)

end Sys2Proof.Machine
end

