-- ==== Sys2Proof/Machine/Tab.lean ====
section
/-!
DEFINITION. Sparse tables in one canonical form: indices strictly rising, no entry equal to the default of its index, so
that equal tables are equal data. Every indexed memory of the part (register words, SAs, ports, buckets, cellar lines,
flash octets) is held in one.
-/

namespace Sys2Proof.Machine

/-- A sparse table: (index, value) pairs. -/
abbrev Tab (α : Type) := List (Nat × α)

/-- The value at index k, d k where the table lists nothing. -/
def Tab.look {α : Type} (d : Nat → α) (t : Tab α) (k : Nat) : α :=
  match t with
  | [] => d k
  | (i, v) :: r => if i == k then v else Tab.look d r k

/-- Drop index k. -/
def Tab.drop {α : Type} (t : Tab α) (k : Nat) : Tab α :=
  match t with
  | [] => []
  | (i, v) :: r => if i == k then Tab.drop r k else (i, v) :: Tab.drop r k

/-- List v at index k, in its place. -/
def Tab.ins {α : Type} (t : Tab α) (k : Nat) (v : α) : Tab α :=
  match t with
  | [] => [(k, v)]
  | (i, w) :: r =>
    if i < k then (i, w) :: Tab.ins r k v
    else if i == k then (k, v) :: r
    else (k, v) :: (i, w) :: r

/-- Write v at index k; a value equal to the default of its index is not listed. -/
def Tab.put {α : Type} [DecidableEq α] (d : Nat → α) (t : Tab α) (k : Nat) (v : α) : Tab α :=
  if v = d k then Tab.drop t k else Tab.ins t k v

/-- Change every listed value. -/
def Tab.mapV {α : Type} [DecidableEq α] (d : Nat → α) (f : α → α) (t : Tab α) : Tab α :=
  match t with
  | [] => []
  | (i, v) :: r => if f v = d i then Tab.mapV d f r else (i, f v) :: Tab.mapV d f r

/-- The indices strictly rise from lo on and no entry holds its default. -/
def Tab.wfFrom {α : Type} [DecidableEq α] (d : Nat → α) (lo : Nat) (t : Tab α) : Bool :=
  match t with
  | [] => true
  | (i, v) :: r => decide (lo ≤ i) && decide (v ≠ d i) && Tab.wfFrom d (i + 1) r

/-- The canonical form. -/
def Tab.wf {α : Type} [DecidableEq α] (d : Nat → α) (t : Tab α) : Bool := Tab.wfFrom d 0 t

/-- The indices listed. -/
def Tab.idxs {α : Type} (t : Tab α) : List Nat := t.map (·.1)

/-- Lowest index in n .. n + k - 1 that meets p. -/
def firstIdx (p : Nat → Bool) (n : Nat) (k : Nat) : Option Nat :=
  match k with
  | 0 => none
  | k + 1 => if p n then some n else firstIdx p (n + 1) k

end Sys2Proof.Machine
end

