-- ==== Sys2Proof/Machine/State.lean ====
section
/-!
DEFINITION. The state of the SVT6408: every register, table, FIFO, counter, mode and pin the spec gives the part, as
plain data, with the queue of waiting commands; State.reset; the faults and refusals. The field defaults are the
values right after a power-on reset, before ST01.
-/

namespace Sys2Proof.Machine

/-! ## The lines, ports and the MAC (02) -/

/-- State of one recalibration (HPT_RECAL.STATE, R33, R48). -/
inductive RecalSt where | idle | queued | running | rejected
deriving DecidableEq, Repr

/-- How far a port without a link has come (R31, R32, R44): not trying, Clause 73 auto-negotiation on its lowest lane, link
training, or starting in its form directly. -/
inductive LinkPhase where | off | negotiating | training | direct
deriving DecidableEq, Repr

/-- One logical port HPn or LPn (R28, R31-R49). -/
structure Port where
  link      : Bool := false          -- STATUS.LINK
  dormant   : Bool := false          -- STATUS.DORMANT (R43)
  dormByS3  : Bool := false          -- dormancy entered by shed stage S3 (R43)
  storm     : Bool := false          -- STATUS.STORM: received pause ignored (R38)
  paused    : Bool := false          -- whole transmitter paused by a received pause frame (R37)
  pfcPaused : BitVec 8 := 0          -- priorities paused by received PFC (R37)
  formAct   : BitVec 4 := 0xF        -- STATUS.FORM_ACT
  fecAct    : BitVec 2 := 0          -- STATUS.FEC_ACT
  present   : Bool := false          -- FORM AUTO: R32 has resolved a form whose lowest lane is n (R71)
  recal     : RecalSt := .idle       -- RECAL.STATE (R33)
  xoffLow   : Bool := false          -- the fill is at or above XOFF_LOW (R39)
  xoffHigh  : Bool := false          -- the fill is at or above XOFF_HIGH
  pauseSent : Bool := false          -- a pause frame was sent and no XON since (R39)
  pfcSent   : BitVec 8 := 0          -- priorities this port has paused by PFC (R39)
  macCtl    : List (List Byte) := [] -- pause and PFC frames waiting for the transmitter (R39), oldest first
  ctlFifo   : List Nat := []         -- control FIFO: ids of part-originated frames (R157)
  probe     : Nat := 0               -- next forced form of the R32 cycle
  phase     : LinkPhase := .off      -- auto-negotiation, training or direct start under way (R31)
  coef      : W32 := 0               -- calibration coefficients in use on the lane of this number (R33, R258)
  rrPeer7   : Nat := 0               -- round-robin position, class 7 (R159)
  rrPeer6   : Nat := 0               -- round-robin position, class 6 (R159)
  rrPeer    : Nat := 0               -- deficit round-robin position among peers (R159)
  rrQueue   : Nat := 0               -- deficit round-robin position among the host port's queues (R159)
  txBusy    : Bool := false          -- a cut-through frame is on the transmitter, its debit not yet made (R161)
deriving DecidableEq, Repr

/-! ## Frames on the secured path (01) -/

/-- Where a frame came from. -/
inductive FrameSrc where
  | hostPort (n : Nat) | linePort (n : Nat) | ring (r : Nat) | mka (ca : Nat) | pairing | ptp | tetherPort
deriving DecidableEq, Repr

/-- Where a frame stands on the path of R11. -/
inductive Stage where
  | fifo        -- stage 1: waiting in its port's ingress FIFO behind an earlier frame (R16, R23)
  | waitPn      -- stage 2: waiting for a PN within the confirmed lease (R13)
  | parked      -- stage 2: parked in the cellar, its SecY stopped (R83)
  | dispatch    -- stage 3: bound, waiting for an engine slot or a cold SA (R16, R23)
  | fetching    -- stage 3: its cold SA is being fetched (R16)
  | cipher      -- stages 4 and 5: in one or more engines
  | reorder     -- stage 6: completed, waiting for earlier frames of its SC (R24)
  | held        -- stage 7: store-and-forward or launch-held, not yet enqueued verdict (R17)
  | queued      -- stage 7: in an egress queue, PQ or control FIFO (R167)
  | committed   -- stage 8: past its commit point (R17)
deriving DecidableEq, Repr

/-- The verdict of a frame (R18), with its cause when it failed. -/
inductive Verdict where
  | unknown | good | badFcs | badIcv | late | engineFault
deriving DecidableEq, Repr

/-- How the receive checks of R84-R89 deliver a frame. -/
inductive RxKind where
  | none        -- not a received frame
  | untagged    -- R84, delivered without a SecTAG
  | unknownSci  -- R86, no receive SC
  | unusedSa    -- R86, SA not installed
  | unchecked   -- R89 step 1
  | tagged      -- goes on to the verdict checks of R89
deriving DecidableEq, Repr

/-- One segment of a frame in an engine (R145): segment number, engine, whether its handshakes are complete. -/
structure Seg where
  j    : Nat
  eng  : Nat
  done : Bool
deriving DecidableEq, Repr

/-- A frame between its arrival and its last bit out, with the bindings of R14. -/
structure Frame where
  id      : Nat
  enc     : Bool                    -- encrypt path (host to line) or decrypt path
  src     : FrameSrc
  octets  : List Byte               -- as received: destination address to FCS (cut at MAX_FRAME under R36)
  cutErr  : Bool := false           -- cut under R36, or its end marked as an error
  stage   : Stage
  rx      : RxKind := .none
  lport   : Nat := 0                -- the line port of its slice
  hport   : Option Nat := none      -- the host port (source on encrypt, chosen by R55 on decrypt)
  cls     : Nat := 0
  secy    : Nat := 0
  cfg     : W32 := 0                -- SEC_SECY_CFG of its SecY when its stage 2 began (R94)
  win     : Nat := 0                -- SEC_SECY_WIN.WINDOW then (R88, R94)
  rsc     : Option Nat := none      -- receive SC (decrypt)
  sa      : Option Nat := none      -- bound SA index (R73)
  inst    : Nat := 0                -- which install of that SA it is bound to (R14)
  slot    : Nat := 0                -- its SA key slot
  peer    : Nat := 0
  queue   : Nat := 0
  tpl     : Nat := 0
  pn      : W64 := 0
  seqNo   : Nat := 0                -- the sequence number of its SC (R149)
  yellow  : Bool := false           -- policing colour (R166)
  segs    : List Seg := []          -- segments placed in engines (R145)
  segBase : Nat := 0                -- position s of R145 at the dispatch of segment 0
  outOct  : List Byte := []         -- as it leaves stage 5: destination address to FCS
  icvOk   : Bool := true            -- GCM tag result (decrypt)
  verdict : Verdict := .unknown
  deliver : Bool := true            -- R89 outcome at the verdict: delivered or failed
  cut     : Bool := false           -- cut-through (R17)
  stomped : Bool := false
  arrived : Nat := 0                -- time counter at the first bit, units of 2^-16 ns
  inTime  : Int := 0                -- disciplined time of the first bit (R214)
  launch  : Option Int := none      -- launch or departure time (R172, R173, R212), units of 2^-16 ns
  ptpDep  : Bool := false           -- launch is a PTP departure (R212)
  lateCnt : Bool := false           -- already counted late
  pages   : List Nat := []          -- buffer lines held in the cellar: line addresses (R167)
  ringDsc : Option Nat := none      -- TX descriptor index for write-back (R331)
  refetch : Bool := false           -- dispatched again after an engine fault (R154)
  delayed : Bool := false           -- its commit delay has been counted (R146)
  waited  : Bool := false           -- its wait at stage 3 has been counted (R353)
  costed  : Bool := false           -- its cost entered the demand when it arrived (R142)
  privCls : Option Nat := none      -- class given by a ring descriptor (R52)
  csum    : Bool := false           -- descriptor asks for checksums (R41)
  learnOk : Bool := false           -- may be learned from at its verdict (R61)
  excess  : Bool := false           -- to be delivered unlearned because of the limit (R63)
  overrun : Bool := false           -- its gate overrun has been counted (R171)
  mka     : Option (Nat × Mkpdu) := none  -- the CA and content of an MKPDU (R99); octets then stand for its length
deriving DecidableEq, Repr

/-! ## Classification (03) -/

/-- A MAC-table flush in progress (R65). -/
structure Flush where
  slice  : Nat
  byPeer : Bool
  value  : Nat
  window : Nat        -- window copy whose BUSY it holds
deriving DecidableEq, Repr

/-- A command on a slice's MAC table (R65, R70): its window copy, OP, slice, entry index and entry. -/
structure TwCmd where
  window : Nat
  op     : Nat
  slice  : Nat
  addr   : Nat
  entry  : BitVec 96
deriving DecidableEq, Repr

/-- The classifier slices (R50-R70). Table words are stored with their parity bit, R68. -/
structure Cls where
  mem     : Tab W32 := []          -- replicated tables: key (((slice*16+table)*2+bank)*2^22+address)
  mac     : Tab (BitVec 96) := []  -- MAC entries: key slice*2^18 + bucket*8 + way
  active  : Bool := false          -- CLS_BANK.ACTIVE (false: bank A)
  drained : Bool := true           -- CLS_BANK.DRAINED
  repairs : List (Nat × Nat) := [] -- bad replicated words awaiting repair: (slice, key without slice)
  perrLog : List (Nat × Nat) := [] -- (word key, counter time) of parity failures within the last second (R67)
  flushes : List Flush := []       -- flushes running, at most one in a slice (R65)
  waiting : List TwCmd := []       -- MAC-table commands that wait for their slice's flush, oldest first (R65)
  sweepAt : Option Nat := some 100000000000 -- counter ns of the scheduled ageing sweep (R64)
deriving DecidableEq, Repr

/-! ## SecYs, SCs and SAs (04) -/

/-- One SA: the PN table entry and the placed state (R73, R74, R88, R91). -/
structure Sa where
  installed : Bool := false
  drained   : Bool := true         -- no bound frame remains since its retire (R92)
  retired   : Bool := false        -- retired and not yet drained
  stopped   : Bool := false        -- transmit: stopped at 0xFFFF_FFFF (R83)
  slot      : Nat := 0
  pn        : Nat := 0             -- transmit next PN; receive L
  lease     : Nat := 0             -- transmit: confirmed lease end
  leaseReq  : Nat := 0             -- transmit: highest lease end requested (R236)
  h         : Nat := 0             -- receive: highest accepted PN
  d         : W64 := 0             -- receive: duplicate map
  ssci      : W32 := 0
  salt      : BitVec 96 := 0
  hot       : Bool := false        -- placed state hot (R147)
  pinned    : Bool := false
  inst      : Nat := 0             -- the model's own number of this install (R14)
  lastUse   : Nat := 0             -- dispatch order number, for R147 rule 4
  demoting  : Bool := false        -- write-back in progress (R148)
deriving DecidableEq, Repr

/-- Run-time state of one SecY (SEC_SECY_TX, R81, R83, R76). -/
structure Secy where
  txValid   : Bool := false
  txAn      : Nat := 0
  stopped   : Bool := false
  held      : Bool := false
  pendValid : Bool := false
  pendAn    : Nat := 0
  pendAt    : Int := 0             -- the armed epoch, units of 2^-16 ns of disciplined time
  cfgd      : Bool := false        -- configured with no image (R71): VALID reads 1
  seqNext   : Nat := 0             -- next sequence number of the transmit SC (R149)
deriving DecidableEq, Repr

/-- One receive SC (R72). -/
structure Rsc where
  valid    : Bool := false
  leaving  : Bool := false         -- its peer was removed: goes once its SAs have drained (R101)
  implicit : Bool := false
  secy     : Nat := 0
  sci      : W64 := 0
  seqNext  : Nat := 0
deriving DecidableEq, Repr

/-! ## Key agreement (05) -/

/-- One peer of a CA (R101). -/
structure Peer where
  mi    : BitVec 96
  mn    : Nat             -- last MN accepted
  sci   : W64
  prio  : Nat
  live  : Bool
  rsc   : Option Nat      -- its receive SC once live
  use   : Option SakUse := none   -- the SAK Use it last reported (R107, R110)
  suites : List W64 := [] -- the cipher suites it last announced (R99)
deriving DecidableEq, Repr

/-- The old receive SAs of one switch, until they are retired (R110): their AN and Key Identifier, and whether tRX_RETAIN has passed. -/
structure OldSak where
  an   : Nat
  mi   : BitVec 96
  kn   : W32
  done : Bool
deriving DecidableEq, Repr

/-- The MKA timing a CA uses, taken at its start and at each hello (R103, R119): ms, and seconds for the SAK lifetime. -/
structure MkaTimes where
  life    : Nat
  grid    : Nat
  guard   : Nat
  sakLife : Nat
deriving DecidableEq, Repr

/-- A SAK waiting for the pair unit, or for its AN to drain, before its SAs are installed (R105, R106, R112). -/
structure PendSak where
  an    : Nat
  kn    : W32
  ksMi  : BitVec 96
  slot  : Nat
  salt  : BitVec 96
  own   : Bool          -- drawn here as key server
  sscis : List (W64 × W32)  -- SSCI of each SCI at the draw (R105)
  wrap  : List Byte     -- wrapped under the CA's KEK, to be distributed
deriving DecidableEq, Repr

/-- One MKA participant (R96-R115). -/
structure Ca where
  cfgd      : Bool := false     -- configured with no image (R97): VALID reads 1
  active    : Bool := false
  mi        : BitVec 96 := 0
  mn        : Nat := 0          -- last MN sent
  mnLease   : Nat := 0          -- confirmed MN lease end (R111)
  mnReq     : Nat := 0          -- highest lease end requested
  isKs      : Bool := false
  ksSci     : W64 := 0          -- the key server's SCI
  ksMi      : BitVec 96 := 0    -- key server MI of the latest SAK's Key Identifier
  peers     : List Peer := []
  kn        : W32 := 0          -- latest KN
  latestAn  : Nat := 0
  oldAn     : Nat := 0
  hasSak    : Bool := false     -- a SAK is installed
  slot      : Option Nat := none  -- SA key slot of the latest SAK
  oldSlot   : Option Nat := none
  salt      : BitVec 96 := 0    -- salt of the latest SAK
  sscis     : List (W64 × W32) := []  -- SSCIs of the latest SAK, which never change (R104)
  prevMi    : BitVec 96 := 0    -- Key Identifier of the previous SAK
  prevKn    : W32 := 0
  dist      : Bool := false     -- a distribution is in progress (R104)
  wantSak   : Bool := false     -- a distribution waits for a free slot (R105)
  pend      : Option PendSak := none
  distSak   : Bool := false     -- Distributed SAK included in the next MKPDUs
  wrap      : List Byte := []   -- the wrapped SAK being distributed
  toSwitch  : Bool := false     -- the latest SAK is installed and not yet used for transmit
  epoch     : Option Int := none -- switch epoch announced or held (R108, R109)
  conf      : Nat := 0          -- tether SEQ to be confirmed before a pending SAK is installed or an epoch armed (R112)
  saConf    : Nat := 0          -- tether SEQ of the latest SAK's SAs, to be confirmed before they are reported (R112)
  ksConf    : Nat := 0          -- tether SEQ of the key server state, to be confirmed before it is sent (R112)
  mnFrom    : Nat := 0          -- tether SEQ at the last restart: lease records up to it no longer count (R98, R111)
  olds      : List OldSak := [] -- old receive SAs that await retirement, oldest first (R110)
  times     : Option MkaTimes := none -- timing in use; the registers' before its first start (R119)
  lastTx    : Option Nat := none -- counter time of its last MKPDU (R103)
  mnLog     : List (Nat × Nat) := [] -- own (MN, counter time) sent, for R101's tMKA_LIFE test
  usedTx    : List (BitVec 96 × W32) := [] -- Key Identifiers it has transmitted under since start (R191)
  sendDue   : Bool := false     -- an event-driven MKPDU is due (R103)
  lastPeerLost : Bool := false  -- its last live peer was removed (R115)
  secured   : Bool := false     -- its SecY had a current transmit SA (CA_CHG)
deriving DecidableEq, Repr

/-- State of presence pairing (R116-R118, MKA_STATUS.PAIR_STATE). -/
inductive PairSt where | idle | committing | showing | confirmed | stored | failed
deriving DecidableEq, Repr

/-- The pairing session (R116, R117, R232). -/
structure Pairing where
  st      : PairSt := .idle
  tether  : Bool := false
  pid     : W64 := 0
  nonce   : List Byte := []
  priv    : Nat := 0
  pub     : List Byte := []
  peerId  : Option W64 := none
  commit  : List Byte := []        -- peer's commitment
  derived : Bool := false
  cak     : List Byte := []
  ckn     : List Byte := []
  kconf   : List Byte := []
  t       : List Byte := []
  code    : BitVec 16 := 0
  codeVal : Bool := false          -- MKA_PAIR_RES.VALID
  reveal  : Bool := false          -- sending REVEAL
  press2  : Bool := false          -- own second press made
  held    : Bool := false          -- peer CONFIRM valid and held
  sym     : Nat := 0               -- seconds of the present STATUS display (R118): of a code, even shows a symbol, odd is blank
deriving DecidableEq, Repr

/-! ## Key store and service cipher (06) -/

/-- State of one SA slot (R124). -/
inductive SlotSt where | free | held | releasing
deriving DecidableEq, Repr

/-- One SA key slot: the key is the XOR of two shares (R121, R124). -/
structure SaSlot where
  st    : SlotSt := .free
  klen  : Nat := 0                 -- 0 empty, 16 or 32 octets
  sh0   : BitVec 256 := 0
  sh1   : BitVec 256 := 0
  owner : Nat := 0
deriving DecidableEq, Repr

/-- One CAK slot with its two derived slots (R121). -/
structure CakSlot where
  klen   : Nat := 0
  sh0    : BitVec 256 := 0
  sh1    : BitVec 256 := 0
  ckn    : List Byte := []
  ledger : Bool := false
  image  : Bool := false           -- an image record fills it (R128)
  ick0   : BitVec 256 := 0
  ick1   : BitVec 256 := 0
  kek0   : BitVec 256 := 0
  kek1   : BitVec 256 := 0
deriving DecidableEq, Repr

/-- A single key held as two shares. -/
structure Shares where
  present : Bool := false
  sh0 : BitVec 256 := 0
  sh1 : BitVec 256 := 0
deriving DecidableEq, Repr

/-- The provisioning session of R128. -/
structure Prov where
  active : Bool := false
  slot   : Nat := 0
  window : Nat := 0
  priv   : Nat := 0
  pub    : List Byte := []
  rdPos  : Nat := 0                -- next octet of the octet port to read
  inp    : List Byte := []         -- octets written by the host
  result : List Byte := []         -- wrapped record readable after COMMIT
deriving DecidableEq, Repr

/-- A DRBG and the health tests of its source (R134, R135). -/
structure Drbg where
  requests : Nat := 0              -- generate requests since the last reseed
  due      : Bool := false         -- a reseed is due
deriving DecidableEq, Repr

structure Rng where
  k        : Drbg := {}
  m        : Drbg := {}
  esOk     : Bool := false
  esFail   : Bool := false
  retest   : Bool := false         -- start-up test being rerun
  lastFail : Option Nat := none    -- counter time of the last failure that was retried
  draws    : Nat := 0              -- the model's own counter of free values drawn (Config.draw)
deriving DecidableEq, Repr

/-- A service-cipher context (R130-R133). -/
structure SvcCtx where
  key     : Option (List Byte) := none  -- clear context key
  ivFix   : W32 := 0
  ivCnt   : W64 := 0
  keyId   : Nat := 0                    -- the key the context last worked under, with its source: the IV counter belongs to it
  chain   : BitVec 128 := 0
  ghash   : BitVec 128 := 0             -- GHASH or CMAC state (R133)
  mode    : Nat := 0                    -- OP of the last operation
  busy    : Bool := false
  resErr  : Nat := 0                    -- results held until SVC_OPERATION_DONE
  resMem  : Option (Nat × List Byte) := none
  resTag  : Option (BitVec 128) := none
  resIv   : Option (BitVec 96) := none
  resSlot : Option (Nat × List Byte) := none  -- slot output: (SA slot, key)
deriving DecidableEq, Repr

/-! ## Engines and the yardmaster (07) -/

inductive EngMode where | inService | draining | test | shedOff | failed | out
deriving DecidableEq, Repr

structure Eng where
  mode   : EngMode := .inService
  fault  : Nat := 0
  slots  : List (Nat × Nat) := []  -- (frame id, segment) held, at most 12
  keys   : List Nat := []          -- key slots resident in its cache
  pace   : Nat := 0                -- M blocks/s
  paceMin : Nat := 0
  paceLow : List (Nat × Nat) := [] -- (counter ns, pace) of the last second that may still be its lowest
  load   : Nat := 0
  work   : Nat := 0                -- handshakes in the present 10 ms
  tap    : Nat := 0x80
  ratio  : Nat := 0x0100
  tested : Bool := false
  passed : Bool := false
  testAt : Nat := 0
  cyc     : W64 := 0               -- CYC (R351)
  cycAcc  : Nat := 0               -- thousandths of a cycle not yet in CYC
  busy    : Nat := 0               -- handshakes in CYC of segments still in the engine (R352)
  offPend : Bool := false          -- domain to be switched off when its slots are empty (R153)
  slowAt  : Option Nat := none     -- counter ns since which its pace has been below 0.5 G blocks/s (R154)
  tplMiss : Nat := 0               -- TPL_MISMATCH count (R144)
deriving DecidableEq, Repr

/-- The engine set of one SC (R147). -/
structure ScSet where
  engs   : List Nat := []
  want   : Nat := 0                -- size computed last, while lower than the set (R147 rule 2)
  demand : Nat := 0                -- handshakes in the last 10 ms
  demNow : Nat := 0                -- handshakes in the present 10 ms
deriving DecidableEq, Repr

inductive TestSt where | idle | deferred | draining | running | passed | failed | rejected | aborted
deriving DecidableEq, Repr

structure Yrd where
  sets     : Tab ScSet := []       -- transmit SC n at n, receive SC r at 2048 + r
  testSt   : TestSt := .idle       -- YRD_TEST.STATE
  testEng  : Option Nat := none    -- engine deferred, draining or in test
  testReq  : Bool := false         -- it is a request, not the rotation
  testOp   : Nat := 3
  lastRot  : Nat := 63
  cap      : Nat := 0              -- units of 0.01 G
  dem      : Nat := 0
  margin   : Int := 0              -- units of 0.01 %
  demAcc   : Nat := 0              -- frame cost since the last margin period
  demLast  : Nat := 0              -- frame cost of the last margin period
  restricted : Bool := false       -- restricted dispatch in force (R149)
  useNo    : Nat := 0              -- dispatch order counter
  keptS5   : Option Nat := none    -- engines kept as last computed at S5 (R155)
  tpls     : Tab (List W32) := []  -- templates 1-255
deriving DecidableEq, Repr

/-! ## Traffic manager (08) -/

/-- A token bucket with its settings (R161-R165). -/
structure Bucket where
  tokens : Int := 0
  rate   : Nat := 0
  burst  : Nat := 64
  ovh    : Nat := 20
  crate  : Nat := 0
  weight : Nat := 1
  pend   : Option (Nat × Nat × Nat × Nat × Nat) := none  -- rate, burst, ovh, crate, weight awaiting a refill
  pendAt : Option Int := none      -- epoch of the pending write
  deficit : Int := 0               -- DWRR deficit of the queue or peer, octets (R159)
  eff    : Nat := 0                -- the rate in force since the last refill (R163, R165)
  rr     : Nat := 0                -- peer level: round position among its queues (R159)
deriving DecidableEq, Repr

structure Policer where
  en     : Bool := false
  redAct : Bool := false
  cir : Nat := 0
  pir : Nat := 0
  cbs : Nat := 0
  pbs : Nat := 0
  tc  : Int := 0
  tp  : Int := 0
deriving DecidableEq, Repr

/-- A queue's limits and its frames, head first. -/
structure Queue where
  qlimit : Nat := 0
  ylimit : Nat := 0
  frames : List Nat := []
deriving DecidableEq, Repr

/-- A gate list: base time, cycle, extension and (gates, interval) entries (R170). -/
structure GateList where
  base    : Int := 0
  cycle   : Nat := 0
  ext     : Nat := 0
  entries : List (BitVec 8 × Nat) := []
deriving DecidableEq, Repr

structure GatePort where
  oper    : Option GateList := none
  pend    : Option (GateList × Int) := none   -- pending list and change time
  entry   : Nat := 0
  gates   : BitVec 8 := 0xFF
deriving DecidableEq, Repr

structure Tmg where
  buckets  : Tab Bucket := []      -- level*2^14 + index
  policers : Tab Policer := []
  queues   : Tab Queue := []
  admin    : Tab (BitVec 8 × Nat) := []   -- admin gate entries: port*64 + entry
  gates    : Tab GatePort := []
  nextStk  : Nat := 0              -- allocation rotation (R193)
  poolLow  : Bool := false         -- the free pages are at or below RSV67 (R167)
deriving DecidableEq, Repr

/-! ## The cellar (09) -/

inductive StkMode where | init | on | draining | off | waking | lost | absent
deriving DecidableEq, Repr

/-- One HBM stack (R175-R197). -/
structure Stack where
  mode      : StkMode := .absent
  seq       : Nat := 1             -- 64-bit write sequence (R180)
  partner   : Option Nat := none
  copyValid : Bool := false
  copyBase  : Nat := 0x252B015A    -- line index on the partner where the copy of its levels 1-5 begins
  remaps    : Tab Nat := []        -- line index to spare line index
  nodes     : Tab Nat := []        -- on-die levels 6-9: height h * 2^32 + n to the version of line n of height h (6-9), first array (R183)
  nodes2    : Tab Nat := []        -- the second array
  ueLog     : List Nat := []       -- counter times of uncorrectable lines (tUE_WIN)
  share     : Nat := 0             -- pool share, pages (R193)
  free      : Nat := 0             -- free pages of the share
  next      : Nat := 0             -- next page number of the share never yet allocated
  freed     : List Nat := []       -- pages returned
  retired   : List Nat := []       -- pages retired from the free list (R189)
  moves     : Bool := false        -- pages are being moved off (R195)
  spares    : Nat := 0             -- spare lines taken (R189)
deriving DecidableEq, Repr

/-- A region of the cellar on one stack (R177): kind as RGW_DATA0.KIND, first line index and lines. -/
structure Region where
  kind  : Nat
  stack : Nat
  first : Nat
  lines : Nat
deriving DecidableEq, Repr

/-- The cellar: what the stacks store, keys, metadata cache and counters (R175-R200). -/
structure Cel where
  stks     : Tab Stack := []
  lines    : Tab (BitVec 512) := []  -- stored lines by line address
  check    : Tab W64 := []           -- check octets stored beside each line
  cache    : Tab (BitVec 512) := []  -- metadata cache: tag and node lines, by line address
  dirty    : List Nat := []          -- cached lines not yet written back, oldest first
  keys     : Option (List Byte) := none  -- K_XTS (64), K_KS (32), K_TAG (32)
  initDone : Bool := false
  refused  : Bool := false
  clip     : Bool := false
  poolGib  : Nat := 0
  poison   : List (Nat × Nat) := []  -- poisoned lines: (first line address, lines)
  badOnce  : List Nat := []          -- lines found bad at their last read (R189)
  layout   : List Region := []       -- where the regions stand (R177)
  cntFlushed : Tab W64 := []         -- what the CNT region holds of each counter: the rest is its accumulator (R187)
  reads    : List Nat := []          -- line reads issued and not yet returned (R184)
  result   : Option (BitVec 512) := none -- what the last completed read returned; none: poisoned or refused
  restore  : List Nat := []          -- bad level 1-5 primaries awaiting their copy (R190)
  ovtBad   : List (Nat × Nat) := []  -- lost image-derived OVT lines awaiting their reload: (first line of the region, lines) (R191)
  held     : List (Nat × BitVec 512) := [] -- line writes whose path waits for a node's restore (R184, R190)
  rewrite  : List (Nat × Nat) := []  -- lost nodes to be written out, and copies to be rebuilt: (first line address, lines) (R190)
  used     : List Nat := []          -- lines in the metadata cache, least recently used first (R186)
deriving DecidableEq, Repr

/-! ## Time (10) -/

inductive TimeMode where | freeRun | acquiring | locked | holdover | following
deriving DecidableEq, Repr

/-- A capture pin (R215). -/
structure Cap where
  fifo : List (Int × Nat) := []      -- (T, counter), oldest first, at most 16
deriving DecidableEq, Repr

structure OutPin where
  next : Option Int := none          -- next START + N x PERIOD, 2^-16 ns (R216)
  high : Bool := false
  done : Bool := false               -- single shot fired
deriving DecidableEq, Repr

/-- PTP service state (R209, R210). -/
structure Ptp where
  master   : Option W64 := none      -- port identity selected by the best master clock algorithm
  foreign  : List (W64 × List Nat) := [] -- masters announced: port identity and data set in comparison order
  good     : Nat := 0                -- consecutive Syncs within LOCK_NS
  delay    : Int := 0                -- mean path delay, 2^-16 ns
  seq      : Nat := 0
  pendT1   : Option (Nat × Int) := none  -- two-step Sync awaiting its Follow_Up: sequence, ingress time
  reqT3    : Option (Nat × Int) := none  -- Delay_Req sent: sequence, egress time
  t12      : Option (Int × Int) := none  -- last (t1, t2)
deriving DecidableEq, Repr

structure Tim where
  cnt    : BitVec 112 := 0           -- counter (top 96 bits) with its 16 unread fraction bits (R201)
  ofs    : BitVec 96 := 0
  rate   : W32 := 0
  anchor : BitVec 96 := 0
  mode   : TimeMode := .freeRun
  locked : Bool := false
  age0   : Int := -19660800000000000 -- counter value (2^-16 ns) at which age was 0: HOLD_S before a power-on reset (R207)
  refInt : Bool := false
  ptp    : Ptp := {}
  caps   : Tab Cap := []
  outs   : Tab OutPin := []
deriving DecidableEq, Repr

/-! ## The pair (11) -/

/-- A tether record sent and not yet confirmed (R233). -/
structure TxRec where
  seq  : Nat
  kind : Nat
  body : TBody
deriving DecidableEq, Repr

/-- A mirrored SAK on a standby (R234). -/
structure MirSak where
  have_ : Bool := false
  slot  : Nat := 0
  kn    : W32 := 0
  sscis : List (W64 × W32) := []
  salt  : BitVec 96 := 0
deriving DecidableEq, Repr

/-- The pair unit (R221-R246). -/
structure Par where
  st         : PairState := .start
  ptSt       : PairState := .start    -- partner's state from its last STATUS
  ptKnown    : Bool := false
  ptShed     : Nat := 0
  ptLease    : Bool := false          -- lease valid, from its last STATUS
  ptSynced   : Bool := false          -- synced, from its last STATUS
  ptAct      : Bool := false          -- partner shows ACT_OUT high
  ptPrefer   : Bool := false          -- partner has PREFER set
  lastPeer   : Option (Nat × BitVec 96) := none -- standby: the peer mirrored last, CA and MI
  synced     : Bool := false
  leaseRun   : Bool := false          -- last renewal within tLEASE
  actOut     : Bool := false
  actIn      : Bool := false
  fenceIn    : Bool := false
  fenceOut   : Bool := false
  settled    : Bool := false          -- ACT_IN low for tBOLT_SETTLE
  gate       : Bool := false
  conflict   : Bool := false
  keepClaim  : Bool := false          -- this member keeps the claim of a conflict
  beatOk     : Bool := false
  beatOut    : Bool := false
  tetherUp   : BitVec 2 := 0
  format     : Nat := 0
  noTether   : Bool := false
  heardHello : Bool := false
  keyedRx    : Bool := false          -- a keyed HELLO has been accepted
  nonce      : List Byte := []
  ptNonce    : List Byte := []
  ptSerial   : W64 := 0
  ptDigest   : List Byte := []
  ptBase     : BitVec 48 := 0
  adopted    : Option (BitVec 48) := none  -- MAC base adopted from the partner (R222)
  k1         : Option (List Byte × List Byte) := none  -- format 1 keys
  txSeq      : Nat := 0
  rxSeq      : Nat := 0
  unacked    : List TxRec := []
  resync     : Bool := false
  snapEnd    : Option Nat := none     -- SEQ current when the snapshot ended
  lastRx     : Nat := 0               -- counter when a tether record was last accepted
  accDigest  : Option (List Byte) := none  -- digest accepted once (R238)
  saLease    : Tab Nat := []          -- standby: highest lease end applied per SA (R236)
  mnLease    : Tab Nat := []          -- standby: highest MN lease end per CA
  mirRx      : Tab (Nat × Nat × W64) := [] -- standby: mirrored (L, H, D)
  mirSak     : Tab MirSak := []       -- standby: mirrored SAKs, by CA * 4 + AN
  handRec    : Option PairState := none -- standby: role of the handover record it has applied (R241)
  handing    : Option (PairState × Nat) := none     -- handover under way: role for the partner, SEQ awaited
  draining   : Bool := false          -- stage 2 admits nothing (R244)
  rxDirty    : List Nat := []         -- receive SAs changed since the last mirror batch
  tDelay     : Int := 0               -- one-way tether delay measured at resync
  joined     : Bool := false          -- active: the partner's resync is complete (R242)
deriving DecidableEq, Repr

/-! ## Start and ledger (12), image (13) -/

/-- A start record (R249). -/
structure StartRec where
  num      : Nat
  kind     : Nat
  cause    : Nat
  ts       : Nat                   -- tack room timestamp
  result   : Nat := 0              -- 0 unfinished, 1 complete, 2 failed, 3 safe hold
  step     : Nat := 0              -- last step started
  image    : Nat := 0
  failStep : Nat := 0
  failCode : Nat := 0
  failDet  : Nat := 0
  started  : BitVec 14 := 0
  finished : BitVec 14 := 0
  alt      : BitVec 14 := 0
  entryMs  : Nat := 0
  erased   : Bool := false         -- failure marks erased by CLEAR_HOLD (R254)
deriving DecidableEq, Repr

/-- A lane entry of the SerDes coefficient area (R258). -/
structure LaneEntry where
  coef  : W32 := 0
  tj    : Int := 0
  start : Nat := 0
  valid : Bool := false
deriving DecidableEq, Repr

/-- An entry of the ledger's event ring (R255). -/
inductive LedEvent where
  | pairState (st : PairState) | engineFault (eng cause : Nat) | retired (block : Nat) | safeHold
deriving DecidableEq, Repr

/-- The ledger: 256 KiB of MRAM kept over every reset (R255-R259). -/
structure Ledger where
  log       : List StartRec := []    -- newest first, at most 256
  rollback  : Nat := 0               -- anti-rollback counter (R256)
  surv      : Nat := 0               -- survival seconds (R257)
  safeHold  : Bool := false
  copyB     : Bool := false          -- copy-B preference
  failHdr   : Option (List Byte) := none
  stkLevel  : Tab Nat := []          -- stack levels 0-2 (R251)
  engOut    : BitVec 64 := 0
  laneAlt   : List Nat := []         -- lane groups that take stored coefficients (R251)
  coefs     : Tab LaneEntry := []    -- 131 lane entries
  caks      : List (Nat × List Byte) := []  -- wrapped CAK records (slot, 80 octets), at most 64
  events    : List LedEvent := []    -- newest first, at most 1,024
  evNo      : Nat := 0               -- entries ever written: the ring's position
  map       : Tab Nat := []          -- logical to physical block, default the same number
  wear      : Tab Nat := []          -- wear count by physical block
  freed     : List Nat := []         -- physical blocks that levelling has put into the rotation pool
  spares    : Nat := 0
  ro        : Bool := false
deriving DecidableEq, Repr

/-- The fuses (R71, R247 ST02). -/
structure Fuses where
  serial  : W64 := 0
  macBase : BitVec 48 := 0
  keyHash : List Byte := []
deriving DecidableEq, Repr

/-- The start sequencer (R248-R254). -/
structure Start where
  held     : Bool := true            -- reset held or supplies not yet within their levels
  step     : Nat := 0                -- STA_STATUS.STEP
  kind     : Nat := 0
  cause    : Nat := 0
  num      : Nat := 0
  entryMs  : Nat := 0
  alt      : BitVec 14 := 0
  outcome  : Tab Nat := []           -- STA_STEP.OUTCOME by step
  ms       : Tab Nat := []
  began    : Nat := 0                -- counter at the reset
  stepAt   : Nat := 0                -- counter at the present step's beginning
  failVal  : Bool := false
  failStep : Nat := 0
  failCode : Nat := 0
  failDet  : Nat := 0
  prevFail : Option Nat := none      -- step that failed in the previous start (R250)
  takeB    : Bool := false
  safeHold : Bool := false
  restart  : Bool := false           -- awaiting tRESTART
  image    : Nat := 0                -- copy the running start took: 0 none, 1 A, 2 B
  fwDead   : Bool := false           -- a firmware fatal error awaits tRESTART (R226)
  refT     : Bool := true            -- REFCLK_T showed an edge at ST03
  kekNew   : Bool := false
deriving DecidableEq, Repr

/-- The configuration flash and the running image (R264-R282). -/
structure Flash where
  cells   : Tab Byte := []           -- default 0xFF
  size    : Nat := 0x4000000
  sfdp    : Bool := true             -- answers SFDP
  suspend : Bool := true
  known   : Bool := false            -- discovered by ST04 (STA_XSPI_FLASH)
  op      : Option (Nat × Nat × Nat) := none -- command running: window copy, OP, address
  run     : List Byte := []          -- running image digest, 48 octets; empty none
  reloadFails : Nat := 0             -- OVT reloads that failed (R278)
  runCnt  : Nat := 0
  hdr     : List Byte := []          -- header fetched by ST04
  digests : List Byte := []          -- running digest list
  sig     : List Byte := []
  src     : Nat := 0                 -- STA_IMG_SRC
  errBlk  : Nat := 0
  errOff  : Nat := 0
  errChk  : Nat := 0
  keys    : List (List Byte) := []   -- the wraps of the WRAPPED_KEY records of this serial, in order
  patches : List (Nat × Nat × Nat) := [] -- FW_PATCH records: ROM_ID, OFFSET, CODE_LEN
  migr    : List (List Byte) := []   -- MIGRATION records
  gateReq : List Nat := []           -- ports whose gate list starts at ST14
deriving DecidableEq, Repr

/-! ## Supplies and shedding (14) -/

/-- One monitored supply (R283, R284). -/
structure Supply where
  mv : Nat := 0
  uv : Bool := false
  ov : Bool := false
deriving DecidableEq, Repr

/-- The shed controller and its monitors (R283-R301). -/
structure Pwr where
  stage     : Nat := 0
  dVcore    : Nat := 0
  dTj       : Nat := 0
  dPace     : Nat := 0
  sDem      : Tab Nat := []         -- alarm source to the stage its S response demands (0: none)
  started   : Bool := false         -- ST03 has evaluated the demands since power-on (R292)
  survAcc   : Nat := 0              -- ns above +125 °C not yet in the ledger's count (R257)
  survFrom  : Option Nat := none    -- counter ns from which Tj has been above +125 °C
  surv      : Bool := false
  tj        : Int := 0              -- 0.25 degree units
  tjSensor  : Nat := 0
  tjLeft    : List Nat := []        -- sensors left out of Tj until the next start (R308)
  sup       : Tab Supply := []
  margin67  : Int := 0
  dem67     : Nat := 0              -- frame cost of classes 6 and 7 since the last margin period
  stageAt   : Nat := 0              -- counter when the stage last changed
  minVcore  : Tab Nat := []         -- lowest VCORE since the last read, per reading group (R364)
  maxTj     : Tab Int := []         -- highest Tj likewise
  minBuf    : Tab Nat := []         -- fewest free pages likewise
  minRo     : Tab Nat := []         -- fewest free reorder cells likewise
deriving DecidableEq, Repr

/-! ## The tack room and alarms (15) -/

/-- A tack room log entry (R324). -/
structure TckEnt where
  ts    : Nat
  kind  : Nat
  resp  : BitVec 4 := 0
  stage : Nat := 0
  bat   : Bool := false
  count : Nat := 0
  src   : Nat := 0
  seq   : Nat
deriving DecidableEq, Repr

/-- The tack room (R302-R324): kept over every reset. -/
structure Tck where
  power    : Bool := true            -- VAUX or VBAT has held since ST01 last looked
  onBat    : Bool := false           -- running from VBAT
  batMark  : Bool := false           -- the tack room's own VBAT mark
  batUsed  : Bool := false
  flags    : BitVec 26 := 0
  raised   : BitVec 26 := 0
  raises   : Tab (List Nat) := []    -- per source, timestamps of raises within WINDOW since the count restarted
  log      : List TckEnt := []       -- newest first, at most 64
  logSeq   : Nat := 0
  pendI    : Bool := false
  pendF    : Bool := false
  pendS    : Bool := false
  zDone    : Bool := false
  pendStg  : Nat := 0
  pendSrc  : Nat := 0
  pressWin : Option Nat := none      -- window opened by a press: timestamp at which its time ends
  strap    : Bool := false           -- PRES_STRAP counted as fitted
  strapRd  : Bool := false           -- its last reading
  pressed  : Bool := false           -- PRESENCE_N not yet released
  sealR    : Nat := 1000             -- last reading, units of 10 ohm: an intact loop before the first reading
  sealBad  : Bool := false           -- last reading not intact
  tmpRd    : BitVec 4 := 0           -- inputs active at the last sample
  xtalOk   : Bool := true
  clkBad   : BitVec 7 := 0           -- reference clocks out of range at their last window (R306)
  ns       : Nat := 0                -- ns since the timestamp last restarted; TCK_TS shows it in units of 2^-15 s
  kek      : Shares := {}           -- the KEK, as two shares (R121)
  stimSt   : Nat := 0                -- TCK_STIM.STATE
  stimSrc  : Nat := 0
  stimNext : Nat := 12               -- next monitor of the rotation
deriving DecidableEq, Repr

/-- Alarm responses in effect in the core (R312-R314). -/
structure Alarm where
  isolated : Bool := false
  zActed   : Bool := false           -- Z acted since the last start
  queue    : List Nat := []          -- sources raised inside the present step, in order; empty between commands
deriving DecidableEq, Repr

/-! ## Host interfaces and access control (16) -/

/-- One access control unit: the rules in force (R340, R343); the shadow set stands in the region registers. -/
structure Acu where
  rules   : List (Nat × Nat × BitVec 5) := []  -- (page, pages, RWXUP) of each region in force
  err     : Nat := 0
  drained : Bool := true
  faultAddr : Nat := 0
  faultVal  : Bool := false
  faultKind : Nat := 0
  faultOrg  : Nat := 0
  faultWr   : Bool := false
  faultCnt  : Nat := 0
deriving DecidableEq, Repr

/-- One host ring (R329-R334). -/
structure Ring where
  head    : Nat := 0
  fetch   : Nat := 0              -- next descriptor to fetch
  stopped : Bool := true
  done    : List (Nat × Int × Nat × Bool) := []  -- TX: (descriptor, egress T, RESULT, IRQ) awaiting write-back, fetch order
  flight  : List (Nat × Bool) := []  -- TX: descriptors fetched, result not yet known (descriptor, IRQ)
  rxq     : List (List Byte × BitVec 8 × BitVec 8 × Nat × Int) := []  -- RX frames awaiting write-back
  coal    : Bool := false         -- an RX_DONE is pending its COAL_US
deriving DecidableEq, Repr

/-- An Iaholt session slot (R336). -/
structure IahSess where
  open_   : Bool := false
  id      : W32 := 0
  seq     : Nat := 0
  byWin   : Bool := false         -- opened with slot 1,022 empty: closes with the presence window
  key     : List Byte := []
deriving DecidableEq, Repr

/-- JTAG and debug (R346, R347). -/
structure Jtag where
  ir       : BitVec 8 := 0x01
  extest   : Bool := false
  nonce    : Option (List Byte) := none
  unlocked : Bool := false
  lastErr  : Nat := 0
  halted   : List Nat := []       -- cores halted
deriving DecidableEq, Repr

/-- PCIe endpoint (R325-R328). -/
structure Pci where
  speed : Nat := 0
  width : Nat := 0
  bme   : Bool := false
  srcs  : BitVec 33 := 0          -- interrupt sources last seen set (R327)
  msix  : BitVec 128 := 0         -- pending bits: PF0 vectors 0-63, PF1 64-127 (R327)
  table : Tab W32 := []           -- MSI-X tables: pf * 2^16 + word; vector control resets masked (R325)
deriving DecidableEq, Repr

/-- SMBus target (R335). -/
structure Smb where
  off     : Nat := 0
  fault   : Bool := false
  pecErr  : Bool := false
deriving DecidableEq, Repr

/-! ## Observation (17) -/

/-- A programmable observation counter's last level, for EDGE (R353), with its 48-bit value; its SEL is a register. -/
structure Sample where
  unit : Nat
  idx  : Nat
  cnt  : Nat
  d1   : W32
  d2   : W32
  occ  : Nat
  ns   : Nat
  wrap : Nat                       -- counter ns of the wrap (R354)
deriving DecidableEq, Repr

/-- An event log entry (R359, R360). -/
structure LogEnt where
  t    : W64
  src  : Nat
  port : Nat
  bit  : Nat
  supp : Nat
  evt  : W32
  seq  : Nat
deriving DecidableEq, Repr

/-- An INT_STAT setting that awaits its event log entry (R359): disciplined time, source, element, bit, EVT, counter ns. -/
structure LogPend where
  t    : W64
  src  : Nat
  port : Nat
  bit  : Nat
  evt  : W32
  ns   : Nat
deriving DecidableEq, Repr

structure Obs where
  on      : Bool := true
  epoch   : Nat := 0
  cnts    : Tab W64 := []         -- counter values: unit*2^16 + index*16 + counter (CYC is counter 15)
  prev    : Tab Bool := []        -- event in the previous tick, for EDGE (R353)
  wrapped : List (Nat × Nat) := []  -- counters that wrapped and await their sample, with the counter ns of the wrap (R354)
  edged   : Tab Nat := []         -- counter ns plus 1 of the tick a count event was last counted in under EDGE (R353)
  samples : List Sample := []     -- oldest first, at most 256
  log     : List LogEnt := []     -- newest first, at most 1,024
  logSeq  : Nat := 0
  pend    : List LogPend := []    -- INT_STAT settings not yet logged, oldest first
  supp    : Tab Nat := []         -- settings suppressed, per source/port/bit key
  lastLog : Tab Nat := []         -- counter time of the bit's last entry plus 1
deriving DecidableEq, Repr

/-! ## What leaves the part -/

/-- How a STATUS output is driven (R118, R382): off, on (low), or blinking at 1 Hz or 4 Hz. -/
inductive Led where | off | on | hz1 | hz4
deriving DecidableEq, Repr

/-- Everything the part sends, drives or returns, as the model records it. -/
inductive Output where
  | frame (port : PortId) (octets : List Byte) (at_ : Int)
  | cut (port : PortId) (octets : List Byte)
  | ptp (kind : Nat) (seq : Nat)
  | mkpdu (ca port : Nat) (dst : BitVec 48) (m : Mkpdu)
  | pairing (octets : List Byte)                         -- a pairing frame on TETHER0 and TETHER1 (R232)
  | tether (seq : Nat) (body : TBody) (keyed : Bool)
  | advert (port : PortId) (forms : List Nat) (fec : Nat) (pause : Bool) -- Clause 73 pages sent (R31, R32)
  | beacon (port : PortId) (dme : Bool) (form : Nat)  -- null-ability DME pages, or PCS idle in a form (R44)
  | readData (o : Origin) (addr : Nat) (v : W32)
  | hostWrite (addr : Nat) (octets : List Byte)
  | msix (pf vector : Nat)
  | smbData (octets : List Byte)
  | smbNack
  | iaholt (octets : List Byte)
  | iahResp (seq : Nat) (fault : Bool) (idx : Nat) (data : List W32)
  | tdo (octets : List Byte)
  | pin (name : Nat) (high : Bool)
  | status (pins : List Led)         -- STATUS0 to STATUS7 (R118, R382)
deriving DecidableEq, Repr

/-- A notice from the hardware to firmware inside one step (the firmware mailbox of R82, R191); none stays after it. -/
inductive Mail where
  | rekey (secy : Nat)      -- PN threshold of a SecY's SA (R82, R104)
  | saLost (sa : Nat)       -- cold placed state lost (R191)
  | cakSlot (slot : Nat)    -- a CAK slot was written or emptied (R98)
  | zeroized                -- the part was zeroized (R129)
deriving DecidableEq, Repr

/-- The SVT6408 with the queue of commands waiting for it. -/
structure State where
  pending : List Instr := []
  regs    : Tab W32 := []            -- register words by register, copy and index (regKey), default the reset word
  cnts    : Tab W64 := []            -- the 64-bit block counters
  snaps   : Tab W64 := []            -- port counter snapshots (R47)
  caps    : Tab W64 := []            -- LO captures by register key (R363, R364)
  ports   : Tab Port := []           -- HPn at n, LPn at 64 + n
  frames  : List Frame := []         -- frames on the path, arrival order
  nextId  : Nat := 0
  cls     : Cls := {}
  sas     : Tab Sa := []
  instNo  : Nat := 0                 -- SA installs so far
  ghosts  : Tab Sa := []             -- drained SAs replaced while a frame of theirs awaits its verdict, by install (R14)
  secys   : Tab Secy := []
  rscs    : Tab Rsc := []
  cas     : Tab Ca := []
  pairing : Pairing := {}
  saSlots : Tab SaSlot := []
  cakSlots : Tab CakSlot := []
  tetherKey : Shares := {}
  ctxKey  : Shares := {}
  zeroized : Bool := false
  prov    : Prov := {}
  rng     : Rng := {}
  svc     : Tab SvcCtx := []
  engs    : Tab Eng := []
  yrd     : Yrd := {}
  tmg     : Tmg := {}
  cel     : Cel := {}
  tim     : Tim := {}
  par     : Par := {}
  ledger  : Ledger := {}
  fuses   : Fuses := {}
  straps  : BitVec 3 := 0            -- SMB_ADDR (bits 2:1) and SLOT (bit 0) as latched (R381)
  start   : Start := {}
  flash   : Flash := {}
  pwr     : Pwr := {}
  tck     : Tck := {}
  alarm   : Alarm := {}
  acus    : Tab Acu := []
  rings   : Tab Ring := []           -- TX ring n at n, RX ring n at 8 + n
  sess    : Tab IahSess := []
  iahDrop : Nat := 0                 -- Iaholt datagrams discarded (R336: counted, in no register)
  jtag    : Jtag := {}
  pci     : Pci := {}
  smb     : Smb := {}
  obs     : Obs := {}
  leds    : List Led := List.replicate 8 .off  -- STATUS0 to STATUS7 as driven (R118, R382)
  mail    : List Mail := []          -- notices of the present step, in order; empty between commands
  mem     : List Host.Cell := []     -- service-core local and shared memory by internal address (R339)
  mgtWait : List (Output × Nat) := [] -- MGT transmissions held by port bucket 128, oldest first, with their frame lengths (R161)
  out     : List Output := []        -- what has left the part, newest first
deriving DecidableEq, Repr

/-- Right after a power-on reset, before ST01 (R247, R248): every register at its reset value, nothing commanded. -/
def State.reset : State := {}

/-- Why the machine stops. -/
inductive Fault where
  /-- A supply passed its absolute maximum rating, where the part is not specified to work
  (R369). Raised by SUPPLY_CROSSING. Safe: nothing is claimed of the part beyond it. -/
  | absoluteMaximum
deriving DecidableEq, Repr

/-- Why a command is refused. -/
inductive Refusal where
  /-- A command that has no meaning in this model. Raised by no arm of a finished model. Safe. -/
  | notModelled (mnemonic : String)
  /-- A debug access that steps a service core by one instruction: the spec gives no instruction set (R346). Raised by
  DEBUG_ACCESS. Safe. -/
  | debugStep
  /-- A debug access to the internal scan chains, which the spec does not describe (R346). Raised by DEBUG_ACCESS.
  Safe. -/
  | internalScan
deriving DecidableEq, Repr

end Sys2Proof.Machine
end

