-- ==== Sys2Proof/Machine/Ops.lean ====
section
/-!
DEFINITION. The named operations every meaning is made of: register words and fields, tables, disciplined time, free
values, what leaves the part, interrupt settings and their MSI-X messages, block counters, observation events.
-/

namespace Sys2Proof

/-- The index of a port in State.ports: HPn at n, LPn at 64 + n. -/
def PortId.idx (p : PortId) : Nat :=
  match p.side with
  | .host => p.n % 64
  | .line => 64 + p.n % 64

/-- The unit code of an observation unit. -/
def ObsUnit.code (u : ObsUnit) : Nat :=
  match u with
  | .engine _ => 0
  | .port _ => 1
  | .core _ => 2
  | .cellar => 3

/-- The index of the unit among its kind. -/
def ObsUnit.idx (u : ObsUnit) : Nat :=
  match u with
  | .engine e => e % 64
  | .port p => p % 128
  | .core c => c % 16
  | .cellar => 0

/-- How many programmable counters a unit has (R350). -/
def ObsUnit.nCnt (u : ObsUnit) : Nat :=
  match u with
  | .engine _ => 8
  | .port _ => 4
  | .core _ => 4
  | .cellar => 8

/-- The SEL register of a unit kind. -/
def ObsUnit.sel (u : ObsUnit) : Machine.Reg :=
  match u with
  | .engine _ => .OBS_ENG_SEL
  | .port _ => .OBS_PRT_SEL
  | .core _ => .OBS_COR_SEL
  | .cellar => .OBS_CEL_SEL

/-- The window copy of an origin (R363): 0 service cores, 1 PF0, SMBus and Iaholt, 2 PF1. -/
def Origin.grp (o : Origin) : Nat :=
  match o with
  | .core _ => 0
  | .task _ _ => 0
  | .pf0 => 1
  | .pf1 => 2
  | .smbus => 1
  | .iaholt => 1

/-- The ACU that checks an origin's accesses (R338). -/
def Origin.acu (o : Origin) : Nat :=
  match o with
  | .core c => c % 16
  | .task c _ => c % 16
  | .pf0 => 80
  | .pf1 => 81
  | .smbus => 80
  | .iaholt => 80

/-- User accesses (R338). -/
def Origin.user (o : Origin) : Bool :=
  match o with
  | .task _ _ => true
  | .pf1 => true
  | .core _ => false
  | .pf0 => false
  | .smbus => false
  | .iaholt => false

/-- ACU_FAULT_INFO.ORIGIN (R349). -/
def Origin.code (o : Origin) : Nat :=
  match o with
  | .core _ => 0
  | .task _ _ => 1
  | .pf0 => 3
  | .pf1 => 4
  | .smbus => 5
  | .iaholt => 6

/-- The service cores, privileged or user. -/
def Origin.isCore (o : Origin) : Bool :=
  match o with
  | .core _ => true
  | .task _ _ => true
  | .pf0 => false
  | .pf1 => false
  | .smbus => false
  | .iaholt => false

/-- The core of an origin that is one. -/
def Origin.coreOf (o : Origin) : Option Nat :=
  match o with
  | .core c => some (c % 16)
  | .task c _ => some (c % 16)
  | .pf0 => none
  | .pf1 => none
  | .smbus => none
  | .iaholt => none

/-- Each service-cipher context belongs to one core (R130): context n to core n mod 16 (log entry 18). -/
def Origin.ownsCtx (o : Origin) (ctx : Nat) : Bool := o.coreOf == some (ctx % 16)

end Sys2Proof

namespace Sys2Proof.Machine

open Host

/-! ## Bits and octets -/


/-- Bits hi:lo of a register word. -/
def bits (w : W32) (hi lo : Nat) : Nat := w.toNat / 2 ^ lo % 2 ^ (hi + 1 - lo)

/-- The word with bits hi:lo replaced by v. -/
def depo (w : W32) (hi lo v : Nat) : W32 :=
  BitVec.ofNat 32 (w.toNat - bits w hi lo * 2 ^ lo + v % 2 ^ (hi + 1 - lo) * 2 ^ lo)

/-- Octets of a number, least significant first. -/
def leOctets (n k : Nat) : List Byte :=
  match n with
  | 0 => []
  | n + 1 => BitVec.ofNat 8 k :: leOctets n (k / 256)

/-- Octets of a number, most significant first. -/
def beOctets (n k : Nat) : List Byte := (leOctets n k).reverse

/-- The number that octets spell, most significant first. -/
def beNat (l : List Byte) : Nat := l.foldl (fun a b => a * 256 + b.toNat) 0

/-- The number that octets spell, least significant first. -/
def leNat (l : List Byte) : Nat := beNat l.reverse

/-- The octets of an ASCII text. -/
def ascii (t : String) : List Byte := t.toList.map (fun c => BitVec.ofNat 8 c.toNat)

/-- The bit v of a Nat as a Bool. -/
def nbit (n i : Nat) : Bool := n / 2 ^ i % 2 == 1

/-- A Bool as 0 or 1. -/
def b2n (b : Bool) : Nat := if b then 1 else 0

/-- A signed value read from w bits. -/
def signed (w n : Nat) : Int := if n % 2 ^ w < 2 ^ (w - 1) then (n % 2 ^ w : Nat) else (n % 2 ^ w : Nat) - (2 : Int) ^ w

/-- The w low bits of an integer. -/
def lowBits (w : Nat) (x : Int) : Nat := (x % (2 : Int) ^ w).toNat

/-! ## Register words (R361, R363) -/

/-- Where a register word stands in State.regs: register, copy, index. -/
def regKey (r : Reg) (i g : Nat) : Nat := 2 ^ 20 * (4 * r.ctorIdx + g) + i

/-- What an unlisted register word holds: its reset word (R365). -/
def regDflt (k : Nat) : W32 :=
  match regList[k / 2 ^ 22]? with
  | some r => r.rst (k % 2 ^ 20)
  | none => 0#32

/-- The stored word of register r, element i, copy g. -/
def State.word (s : State) (r : Reg) (i : Nat := 0) (g : Nat := 0) : W32 := s.regs.look regDflt (regKey r i g)

/-- Store a register word. -/
def State.setWord (s : State) (r : Reg) (w : W32) (i : Nat := 0) (g : Nat := 0) : State :=
  { s with regs := s.regs.put regDflt (regKey r i g) w }

/-- A field of a register. -/
def State.fld (s : State) (f : FieldRef) (i : Nat := 0) (g : Nat := 0) : Nat := bits (s.word f.reg i g) f.hi f.lo

/-- A one-bit field as a Bool. -/
def State.flag (s : State) (f : FieldRef) (i : Nat := 0) (g : Nat := 0) : Bool := s.fld f i g != 0

/-- Store a field of a register. -/
def State.setFld (s : State) (f : FieldRef) (v : Nat) (i : Nat := 0) (g : Nat := 0) : State :=
  s.setWord f.reg (depo (s.word f.reg i g) f.hi f.lo v) i g

/-- Words n.. of a window's DATA registers take the list's words. -/
def State.setWords (s : State) (r : Reg) (l : List W32) (g : Nat) (n : Nat := 0) : State :=
  match l with
  | [] => s
  | w :: t => (s.setWord r w n g).setWords r t g (n + 1)

/-- DATA words 0 .. k - 1 of a window copy. -/
def State.words (s : State) (r : Reg) (k g : Nat) : List W32 := (List.range k).map (fun n => s.word r n g)

/-! ## Tables and their defaults -/

/-- ACU 81 starts with its two reset regions in force (R344), every other ACU with none. -/
def acuDflt (k : Nat) : Acu :=
  if k = 81 then { rules := [(0, 64, 0b10010#5), (0xB00, 256, 0b10010#5)] } else {}

def State.port (s : State) (p : Nat) : Port := s.ports.look (fun _ => {}) p
def State.setPort (s : State) (p : Nat) (v : Port) : State := { s with ports := s.ports.put (fun _ => {}) p v }
def State.sa (s : State) (k : Nat) : Sa := s.sas.look (fun _ => {}) k
def State.setSa (s : State) (k : Nat) (v : Sa) : State := { s with sas := s.sas.put (fun _ => {}) k v }
def State.secy (s : State) (k : Nat) : Secy := s.secys.look (fun _ => {}) k
def State.setSecy (s : State) (k : Nat) (v : Secy) : State := { s with secys := s.secys.put (fun _ => {}) k v }
def State.rsc (s : State) (k : Nat) : Rsc := s.rscs.look (fun _ => {}) k
def State.setRsc (s : State) (k : Nat) (v : Rsc) : State := { s with rscs := s.rscs.put (fun _ => {}) k v }
def State.ca (s : State) (k : Nat) : Ca := s.cas.look (fun _ => {}) k
def State.setCa (s : State) (k : Nat) (v : Ca) : State := { s with cas := s.cas.put (fun _ => {}) k v }
def State.saSlot (s : State) (k : Nat) : SaSlot := s.saSlots.look (fun _ => {}) k
def State.setSaSlot (s : State) (k : Nat) (v : SaSlot) : State :=
  { s with saSlots := s.saSlots.put (fun _ => {}) k v }
def State.cakSlot (s : State) (k : Nat) : CakSlot := s.cakSlots.look (fun _ => {}) k
def State.setCakSlot (s : State) (k : Nat) (v : CakSlot) : State :=
  { s with cakSlots := s.cakSlots.put (fun _ => {}) k v }
def State.eng (s : State) (k : Nat) : Eng := s.engs.look (fun _ => {}) k
def State.setEng (s : State) (k : Nat) (v : Eng) : State := { s with engs := s.engs.put (fun _ => {}) k v }
def State.acu (s : State) (k : Nat) : Acu := s.acus.look acuDflt k
def State.setAcu (s : State) (k : Nat) (v : Acu) : State := { s with acus := s.acus.put acuDflt k v }
def State.ring (s : State) (k : Nat) : Ring := s.rings.look (fun _ => {}) k
def State.setRing (s : State) (k : Nat) (v : Ring) : State := { s with rings := s.rings.put (fun _ => {}) k v }
def State.stk (s : State) (k : Nat) : Stack := s.cel.stks.look (fun _ => {}) k
def State.setStk (s : State) (k : Nat) (v : Stack) : State :=
  { s with cel := { s.cel with stks := s.cel.stks.put (fun _ => {}) k v } }

/-- The port with an index. -/
def portAt (k : Nat) : PortId := if k < 64 then ⟨.host, k⟩ else ⟨.line, k - 64⟩

/-! ## Frames in flight -/

/-- The frame with an id. -/
def State.frame? (s : State) (id : Nat) : Option Frame := s.frames.find? (fun f => f.id == id)

/-- Replace the frame of the same id. -/
def State.setFrame (s : State) (f : Frame) : State :=
  { s with frames := s.frames.map (fun x => if x.id == f.id then f else x) }

/-- The frame leaves the part or is dropped. -/
def State.rmFrame (s : State) (id : Nat) : State := { s with frames := s.frames.filter (fun x => x.id != id) }

/-! ## Free values (log entry 10) -/

/-- Draw a free value. -/
def State.draw (s : State) : BitVec 512 × State :=
  (Config.draw s.rng.draws, { s with rng := { s.rng with draws := s.rng.draws + 1 } })

/-! ## Disciplined time (R201, R203) -/

/-- The 96-bit counter in units of 2^-16 ns. -/
def State.counter (s : State) : Nat := s.tim.cnt.toNat / 2 ^ 16

/-- Nanoseconds of the time counter. -/
def State.nowNs (s : State) : Nat := s.counter / 2 ^ 16

/-- T = counter + OFFSET + RATE x (counter - ANCHOR), units of 2^-16 ns (R203). -/
def Tim.timeOf (t : Tim) (c : Nat) : Int :=
  c + t.ofs.toInt + t.rate.toInt * ((c : Int) - t.anchor.toNat) / (2 : Int) ^ 40

/-- Disciplined time now. -/
def State.timeT (s : State) : Int := s.tim.timeOf s.counter

/-- Units of 2^-16 ns in one second. -/
def unitsPerSec : Int := 65536000000000

/-- The host-ring format of R214: seconds bits 33:0 in bits 63:30, nanoseconds in bits 29:0. -/
def stamp (t : Int) : W64 :=
  BitVec.ofNat 64 (lowBits 34 (t / unitsPerSec) * 2 ^ 30 + (t % unitsPerSec / 65536).toNat)

/-- The time a host-ring stamp names, units of 2^-16 ns. -/
def unstamp (w : W64) : Int := (w.toNat / 2 ^ 30 : Nat) * unitsPerSec + (w.toNat % 2 ^ 30 : Nat) * 65536

/-- T of whole seconds and nanoseconds. -/
def timeSNs (sec ns : Nat) : Int := sec * unitsPerSec + ns * 65536

/-! ## What leaves the part (log entry 13) -/

/-- Record an output. -/
def State.emit (s : State) (o : Output) : State := { s with out := o :: s.out }

/-! ## Interrupt sources and MSI-X (R327) -/

/-- The interrupt source, enable register and EVT register of an INT_STAT register. -/
def intInfo (r : Reg) : Nat × Reg × Option Reg :=
  match r with
  | .HPT_INT_STAT => (16, .HPT_INT_EN, none)
  | .LPT_INT_STAT => (17, .LPT_INT_EN, none)
  | .CLS_SL_INT_STAT => (18, .CLS_SL_INT_EN, none)
  | .SEC_INT_STAT => (19, .SEC_INT_EN, some .SEC_EVT)
  | .ENG_INT_STAT => (20, .ENG_INT_EN, some .ENG_EVT)
  | .YRD_INT_STAT => (21, .YRD_INT_EN, none)
  | .MKA_INT_STAT => (22, .MKA_INT_EN, some .MKA_EVT)
  | .KEY_INT_STAT => (23, .KEY_INT_EN, none)
  | .TMG_INT_STAT => (24, .TMG_INT_EN, none)
  | .CEL_INT_STAT => (25, .CEL_INT_EN, some .CEL_EVT)
  | .TIM_INT_STAT => (26, .TIM_INT_EN, none)
  | .PAR_INT_STAT => (27, .PAR_INT_EN, some .PAR_EVT)
  | .STA_INT_STAT => (28, .STA_INT_EN, none)
  | .PWR_INT_STAT => (29, .PWR_INT_EN, some .PWR_EVT)
  | .TCK_INT_STAT => (30, .TCK_INT_EN, none)
  | .ACU_INT_STAT => (31, .ACU_INT_EN, some .ACU_EVT)
  | _ => (32, .OBS_INT_EN, none)

/-- INT_STAT & INT_EN is not 0. -/
def State.intOn (s : State) (st en : Reg) (i : Nat := 0) : Bool := (s.word st i &&& s.word en i) != 0#32

/-- Whether interrupt source n is set (R327). -/
def State.srcSet (s : State) (n : Nat) : Bool :=
  let rs := s.word .HFR_RING_STAT &&& s.word .HFR_RING_EN
  if n < 8 then nbit rs.toNat n
  else if n < 16 then nbit rs.toNat n || nbit rs.toNat (n + 8)
  else if n = 16 then (List.range 64).any (fun i => s.intOn .HPT_INT_STAT .HPT_INT_EN i)
  else if n = 17 then (List.range 64).any (fun i => s.intOn .LPT_INT_STAT .LPT_INT_EN i)
  else if n = 18 then (List.range 4).any (fun i => s.intOn .CLS_SL_INT_STAT .CLS_SL_INT_EN i)
  else
    match n with
    | 19 => s.intOn .SEC_INT_STAT .SEC_INT_EN
    | 20 => s.intOn .ENG_INT_STAT .ENG_INT_EN
    | 21 => s.intOn .YRD_INT_STAT .YRD_INT_EN
    | 22 => s.intOn .MKA_INT_STAT .MKA_INT_EN
    | 23 => s.intOn .KEY_INT_STAT .KEY_INT_EN
    | 24 => s.intOn .TMG_INT_STAT .TMG_INT_EN
    | 25 => s.intOn .CEL_INT_STAT .CEL_INT_EN
    | 26 => s.intOn .TIM_INT_STAT .TIM_INT_EN
    | 27 => s.intOn .PAR_INT_STAT .PAR_INT_EN
    | 28 => s.intOn .STA_INT_STAT .STA_INT_EN
    | 29 => s.intOn .PWR_INT_STAT .PWR_INT_EN
    | 30 => s.intOn .TCK_INT_STAT .TCK_INT_EN
    | 31 => s.intOn .ACU_INT_STAT .ACU_INT_EN
    | 32 => s.intOn .OBS_INT_STAT .OBS_INT_EN
    | _ => false

/-- What a word of the MSI-X tables resets to: vector control masked, as PCIe defines (PRESUMED, log entry 12). -/
def msixDflt (k : Nat) : W32 := if k % 4 = 3 then 1#32 else 0#32

/-- Send the MSI-X message of vector v of function pf, or hold it as pending while its vector is masked (R327). -/
def State.message (s : State) (pf v : Nat) : State :=
  if bits (s.pci.table.look msixDflt (pf * 2 ^ 16 + v * 4 + 3)) 0 0 = 1 then
    { s with pci := { s.pci with msix := s.pci.msix ||| BitVec.ofNat 128 (2 ^ (pf * 64 + v)) } }
  else s.emit (.msix pf v)

/-- Look at interrupt source n again: when it becomes set and its PCI_IVEC entry is enabled, its message is sent. -/
def State.irq (s : State) (n : Nat) : State :=
  let now := s.srcSet n
  let was := nbit s.pci.srcs.toNat n
  if now == was then s
  else
    let s1 := { s with pci := { s.pci with srcs := s.pci.srcs ^^^ BitVec.ofNat 33 (2 ^ n) } }
    if now && s.flag F.PCI_IVEC_EN n then
      s1.message (s.fld F.PCI_IVEC_PF n) (s.fld F.PCI_IVEC_VECTOR n)
    else s1

/-- Hardware sets bit b of an INT_STAT register (element i): the bit, the setting for the event log (R359) with the
block's EVT register, and the interrupt source (R327). -/
def State.setInt (s : State) (r : Reg) (b : Nat) (i : Nat := 0) : State :=
  let src := (intInfo r).1
  let evt := match (intInfo r).2.2 with
    | some e => s.word e
    | none => 0#32
  let s1 := s.setWord r (s.word r i ||| BitVec.ofNat 32 (2 ^ b)) i
  ({ s1 with obs := { s1.obs with pend := s1.obs.pend ++ [LogPend.mk (stamp s.timeT) src i b evt s.nowNs] } }).irq src

/-- Set several bits in turn. -/
def State.setInts (s : State) (r : Reg) (l : List Nat) (i : Nat := 0) : State :=
  match l with
  | [] => s
  | b :: t => (s.setInt r b i).setInts r t i

/-- Set a ring status bit of HFR_RING_STAT (R327). -/
def State.setRing' (s : State) (b : Nat) : State :=
  (s.setWord .HFR_RING_STAT (s.word .HFR_RING_STAT ||| BitVec.ofNat 32 (2 ^ b))).irq (if b < 16 then b else b - 8)

/-! ## Block counters -/

/-- The counter sets read through a block's counter window. -/
inductive CntBlk where | hpt | lpt | cls | sec | yrd | mka | key | tmg | cel | tim | par | pwr | tck | hfr
deriving DecidableEq, Repr

/-- Where counter c of kind kd and index i stands in State.cnts. -/
def cntKey (b : CntBlk) (kd i c : Nat) : Nat := 64 * (2 ^ 20 * (4 * b.ctorIdx + kd) + i) + c

/-- A block counter's value. -/
def State.cnt (s : State) (b : CntBlk) (kd i c : Nat) : W64 := s.cnts.look (fun _ => 0#64) (cntKey b kd i c)

/-- Add n to a block counter, which wraps at 2^64. -/
def State.count (s : State) (b : CntBlk) (kd i c : Nat) (n : Nat := 1) : State :=
  { s with cnts := s.cnts.put (fun _ => 0#64) (cntKey b kd i c) (s.cnt b kd i c + BitVec.ofNat 64 n) }

/-! ## Observation counters (R350-R354) -/

/-- Where a programmable counter stands in Obs.cnts. -/
def obsKey (u : ObsUnit) (c : Nat) : Nat := (u.code * 2 ^ 8 + u.idx) * 16 + c

/-- A programmable counter's 48-bit value. -/
def State.obsCnt (s : State) (u : ObsUnit) (c : Nat) : W64 := s.obs.cnts.look (fun _ => 0#64) (obsKey u c)

/-- Add n to a programmable counter: it wraps at 2^48, and a wrap with SAMPLE set awaits its sample (R354). -/
def State.obsAdd (s : State) (u : ObsUnit) (c n : Nat) : State :=
  let v := (s.obsCnt u c).toNat + n
  let k := obsKey u c
  let smp := bits (s.word u.sel (u.idx * u.nCnt + c)) 30 30 == 1
  { s with obs := { s.obs with
      cnts := s.obs.cnts.put (fun _ => 0#64) k (BitVec.ofNat 64 (v % 2 ^ 48))
      wrapped := if decide (2 ^ 48 ≤ v) && smp && !s.obs.wrapped.any (fun e => e.1 == k) then
                   s.obs.wrapped ++ [(k, s.nowNs)]
                 else s.obs.wrapped } }

/-- Whether the observation counters run: PD109 on and not frozen (R355, R357). -/
def State.obsRuns (s : State) : Bool := s.obs.on && !s.flag F.OBS_CTL_FREEZE

/-- Counter c of unit u counts event code when its SEL names it (R353); stack is the cellar's stack. Under EDGE it counts the
ticks that hold such an event. -/
def State.obsOne (s : State) (u : ObsUnit) (code n stack c : Nat) : State :=
  let w := s.word u.sel (u.idx * u.nCnt + c)
  let mask := bits w 27 24
  if bits w 31 31 == 1 && bits w 7 0 == code && (u.code != 3 || mask == 0 || nbit mask stack) then
    if bits w 29 29 == 1 then
      let k := obsKey u c
      if s.obs.edged.look (fun _ => 0) k = s.nowNs + 1 then s
      else
        let s1 := s.obsAdd u c 1
        { s1 with obs := { s1.obs with edged := s1.obs.edged.put (fun _ => 0) k (s.nowNs + 1) } }
    else s.obsAdd u c n
  else s

/-- n occurrences of a count event of unit u (R353). -/
def State.obsEvent (s : State) (u : ObsUnit) (code : Nat) (n : Nat := 1) (stack : Nat := 0) : State :=
  if s.obsRuns && n != 0 then (List.range u.nCnt).foldl (fun a c => a.obsOne u code n stack c) s else s

/-! ## The presence window (R319, R320) -/

/-- A presence window is open: by a press whose time has not ended, or by the strap while SEAL is intact. -/
def State.presence (s : State) : Bool := s.tck.pressWin.isSome || (s.tck.strap && !s.tck.sealBad)

/-- The timestamp of the tack room, units of 2^-15 s (R302). -/
def Tck.ts (t : Tck) : Nat := t.ns * 64 / 1953125

/-! ## Supplies (R283) -/

/-- The nominal voltage of a supply, mV; VBAT 3.0 V. -/
def supNominal (k : Nat) : Nat :=
  match k with
  | 0 => 750
  | 1 => 850
  | 2 => 1200
  | 3 => 1100
  | 4 => 400
  | 5 => 1800
  | 6 => 1800
  | 7 => 3300
  | 8 => 3300
  | _ => 3000

/-- A supply of which no crossing has been reported stands at its nominal voltage (log entry 24). -/
def supDflt (k : Nat) : Supply := { mv := supNominal k }

/-- A supply as last reported. -/
def State.supply (s : State) (k : Nat) : Supply := s.pwr.sup.look supDflt k

/-! ## Service-core and shared memory (R339) -/

/-- What an address of core memory reads as before it is written (log entry 9). -/
def memDflt : Byte := 0#8

/-- Addresses strictly rising and no octet equal to memDflt listed. -/
def Memory.wfFrom (lo : Nat) (m : List Cell) : Bool :=
  match m with
  | [] => true
  | (a, b) :: r => decide (lo ≤ a) && (b != memDflt) && Memory.wfFrom (a + 1) r

/-- The canonical form of a memory. -/
def Memory.wf (m : List Cell) : Bool := Memory.wfFrom 0 m

/-- Read one octet. -/
def Memory.read (m : List Cell) (a : Nat) : Byte := Tab.look (fun _ => memDflt) m a

/-- Write one octet. -/
def Memory.write (m : List Cell) (a : Nat) (b : Byte) : List Cell := Tab.put (fun _ => memDflt) m a b

/-- Read n octets. -/
def State.rdMem (s : State) (a n : Nat) : List Byte := (List.range n).map (fun k => Memory.read s.mem (a + k))

/-- Write octets from address a on. -/
def Memory.writes (m : List Cell) (a : Nat) (l : List Byte) : List Cell :=
  match l with
  | [] => m
  | b :: r => Memory.writes (Memory.write m a b) (a + 1) r

/-- Write octets to core memory. -/
def State.wrMem (s : State) (a : Nat) (l : List Byte) : State := { s with mem := Memory.writes s.mem a l }

end Sys2Proof.Machine
end

