-- ==== Sys2Proof/Machine/Access.lean ====
section
/-!
DEFINITION. Access control (16): the ACU check of an access (R338-R341), the recording of a fault (R342), and the frame
every register command shares: the check, then the command.
-/

namespace Sys2Proof.Machine

/-- Word k of a 64-bit or wider number. -/
def wordOf (n k : Nat) : W32 := BitVec.ofNat 32 (n / 2 ^ (32 * k))

/-- The region of an ACU in force that holds an address (R340 step 1). -/
def Acu.region? (u : Acu) (a : Nat) : Option (Nat × Nat × BitVec 5) :=
  u.rules.find? (fun r => decide (0 < r.2.1) && decide (r.1 ≤ a / 4096) && decide (a / 4096 < r.1 + r.2.1))

/-- The attribute bits R, W, X, USER, PRES of a region (bits 4 to 0). -/
def attrR (b : BitVec 5) : Bool := b.getLsbD 4
def attrW (b : BitVec 5) : Bool := b.getLsbD 3
def attrU (b : BitVec 5) : Bool := b.getLsbD 1
def attrP (b : BitVec 5) : Bool := b.getLsbD 0

/-- The default map of an origin for a read or write (R340): register space; for a core also its own local memory,
shared memory, and patch RAM to read. -/
def defaultMap (o : Origin) (a : Nat) (wr : Bool) : Bool :=
  if a < 0x4000000 then !o.user
  else
    match o with
    | .core c =>
      (decide (0x20000000 + 0x100000 * (c % 16) ≤ a) && decide (a < 0x20000000 + 0x100000 * (c % 16 + 1))) ||
      (decide (0x30000000 ≤ a) && decide (a < 0x31000000)) ||
      (decide (0x31000000 ≤ a) && decide (a < 0x31040000) && !wr)
    | _ => false

/-- The check of R340: 0 when the access passes, otherwise the fault kind 1, 2 or 3 (R349). -/
def State.acuKind (s : State) (o : Origin) (a : Nat) (wr : Bool) : Nat :=
  match (s.acu o.acu).region? a with
  | some (_, _, b) =>
    if (o.user && !attrU b) || (if wr then !attrW b else !attrR b) || (wr && attrP b && !s.presence) then 2 else 0
  | none => if o.user then 1 else if defaultMap o a wr then 0 else 3

/-- Record a fault of an ACU (R342): its fault registers, its counter, ACU_EVT and INT_STAT.FAULT. -/
def State.noteFault (s : State) (acu code a : Nat) (wr : Bool) (kind : Nat) : State :=
  let u := s.acu acu
  let s1 := s.setAcu acu { u with
    faultAddr := a, faultVal := true, faultKind := kind, faultOrg := code, faultWr := wr,
    faultCnt := min (u.faultCnt + 1) (2 ^ 32 - 1) }
  (s1.setWord .ACU_EVT (BitVec.ofNat 32 (2 ^ 31 + acu * 2 ^ 24))).setInt .ACU_INT_STAT 0

/-- Record an access fault of a bus master (R342); a core counts the exception its firmware takes. -/
def State.recordFault (s : State) (o : Origin) (a : Nat) (wr : Bool) (kind : Nat) : State :=
  let s1 := s.noteFault o.acu o.code a wr kind
  match o with
  | .core c => s1.obsEvent (.core c) 0x05
  | .task c _ => s1.obsEvent (.core c) 0x05
  | _ => s1

/-- An access by an engine, a cellar mover or the tether mover (R338, R340): whether its ACU lets it pass. -/
def State.hwAccess (s : State) (acu code a : Nat) (wr dflt : Bool) : State × Bool :=
  match (s.acu acu).region? a with
  | some (_, _, b) =>
    if (if wr then attrW b else attrR b) && (!wr || !attrP b || s.presence) then (s, true)
    else (s.noteFault acu code a wr 2, false)
  | none => if dflt then (s, true) else (s.noteFault acu code a wr 3, false)

/-- The address of register r, element i. -/
def regAddr (r : Reg) (i : Nat) : Nat :=
  match allRegs.find? (fun x => x.reg == r) with
  | some x => x.base + i / x.count % x.ocount * x.ostride + i % x.count * x.stride
  | none => 0

/-- A command written to register r, element i, by origin o: the ACU's check, then the command (R340, R342). -/
def State.hostWrite (s : State) (o : Origin) (r : Reg) (i : Nat) (f : State → State) : State :=
  let a := regAddr r i
  let k := s.acuKind o a true
  if k = 0 then f s else s.recordFault o a true k

/-- A presence-gated field or command refused outside a window is a fault of kind 5 (R342, R345). -/
def State.fault5 (s : State) (o : Origin) (r : Reg) (i : Nat) : State := s.recordFault o (regAddr r i) true 5

/-- A write refused by access code is a fault of kind 4 (R10, R342). -/
def State.fault4 (s : State) (o : Origin) (r : Reg) (i : Nat) : State := s.recordFault o (regAddr r i) true 4

/-- The CMD.ERR of a window command: bits 30:28 of its CMD register, copy g. -/
def State.cmdErr (s : State) (r : Reg) (g e : Nat) : State := s.setWord r (depo (s.word r 0 g) 30 28 e) 0 g

/-- Search the register map for an address (R361): its group and element. -/
def findIn (l : List RegInfo) (a : Nat) : Option (RegInfo × Nat) :=
  match l with
  | [] => none
  | x :: t =>
    if a < x.base then findIn t a
    else
      let d := a - x.base
      let q := if x.ocount ≤ 1 then 0 else d / x.ostride
      let e := d - q * x.ostride
      let i := if x.count ≤ 1 then 0 else e / x.stride
      if q < max x.ocount 1 ∧ i < x.count ∧ e = i * x.stride then some (x, q * x.count + i) else findIn t a

/-- The register at an offset, if there is one. -/
def findReg (a : Nat) : Option (RegInfo × Nat) :=
  match regBlocks.find? (fun b => decide (b.1 ≤ a) && decide (a < b.2.1) && (findIn b.2.2 a).isSome) with
  | some b => findIn b.2.2 a
  | none => none

end Sys2Proof.Machine
end

