-- ==== Sys2Proof/Machine/Crypto.lean ====
section
/-!
DEFINITION. The cryptographic functions the spec names by standard (00 Standards): AES-128 and AES-256, ECB, CBC, CTR, GCM,
CMAC, the 802.1X KDF, RFC 3394 key wrap, XTS (IEEE 1619), SHA-384, P-384 ECDH and ECDSA, and the CRC-32 of the FCS. Their
definitions are the standards' (PRESUMED, log entry 14). Keys, texts and tags are octet lists.
-/

namespace Sys2Proof.Machine

/-! ## AES -/

/-- The AES S-box, entry n at bits 8n+7:8n. -/
def sboxBits : Nat :=
  0x16BB54B00F2D99416842E6BF0D89A18CDF2855CEE9871E9B948ED9691198F8E19E1DC186B95735610EF6034866B53E708A8BBD4B1F74DDE8C6B4A61C2E2578BA08AE7A65EAF4566CA94ED58D6D37C8E779E4959162ACD3C25C2406490A3A32E0DB0B5EDE14B8EE4688902A22DC4F816073195D643D7EA7C41744975FEC130CCDD2F3FF1021DAB6BCF5389D928F40A351A89F3C507F02F94585334D43FBAAEFD0CF584C4A39BECB6A5BB1FC20ED00D153842FE329B3D63B52A05A6E1B1A2C830975B227EBE28012079A059618C323C7041531D871F1E5A534CCF73F362693FDB7C072A49CAFA2D4ADF04759FA7DC982CA76ABD7FE2B670130C56F6BF27B777C63

/-- The inverse S-box likewise. -/
def invSboxBits : Nat :=
  0x7D0C2155631469E126D677BA7E042B17619953833CBBEBC8B0F52AAE4D3BE0A0EF9CC9939F7AE52D0D4AB519A97F51605FEC8027591012B131C7078833A8DD1FF45ACD78FEC0DB9A2079D2C64B3E56FC1BBE18AA0E62B76F89C5291D711AF1476EDF751CE837F9E28535ADE72274AC9673E6B4F0CECFF297EADC674F4111913A6B8A130103BDAFC1020F3FCA8F1E2CD00645B3B80558E4F70AD3BC8C00ABD890849D8DA75746155EDAB9EDFD5048706C92B6655DCC5CA4D41698688664F6F87225D18B6D49A25B76B224D92866A12E084EC3FA420B954CEE3D23C2A632947B54CBE9DEC444438E3487FF2F9B8239E37CFBD7F3819EA340BF38A53630D56A0952

/-- Octet-wise exclusive or. -/
def xorL (a b : List Byte) : List Byte := List.zipWith (· ^^^ ·) a b

/-- Octet n of a list, 0 beyond its end. -/
def oct (l : List Byte) (n : Nat) : Byte := l.getD n 0#8

/-- k zero octets. -/
def zeros (k : Nat) : List Byte := List.replicate k 0#8

/-- Cut a list into pieces of k octets, at most fuel of them. -/
def chunk (k : Nat) (fuel : Nat) (l : List Byte) : List (List Byte) :=
  match fuel with
  | 0 => []
  | f + 1 => if l.isEmpty then [] else l.take k :: chunk k f (l.drop k)

/-- All pieces of 16 octets. -/
def blocks16 (l : List Byte) : List (List Byte) := chunk 16 (l.length / 16 + 1) l

/-- Entry b of a table of octets held as one number. -/
def subByte (tbl b : Nat) : Nat := tbl / 2 ^ (8 * (b % 256)) % 256

/-- The octets of a block, octet 0 most significant, each through a table, in the order a list gives. -/
def subPerm (tbl : Nat) (order : List Nat) (s : Nat) : Nat :=
  order.foldl (fun a i => a * 256 + subByte tbl (s / 2 ^ (120 - 8 * i))) 0

/-- SubBytes and ShiftRows. -/
def subShift (s : Nat) : Nat := subPerm sboxBits [0, 5, 10, 15, 4, 9, 14, 3, 8, 13, 2, 7, 12, 1, 6, 11] s

def invSubShift (s : Nat) : Nat := subPerm invSboxBits [0, 13, 10, 7, 4, 1, 14, 11, 8, 5, 2, 15, 12, 9, 6, 3] s

/-- Every octet of a block multiplied by x in the AES field. -/
def xtimes (s : Nat) : Nat :=
  (s &&& 0x7F7F7F7F7F7F7F7F7F7F7F7F7F7F7F7F) * 2 ^^^ (s / 128 &&& 0x01010101010101010101010101010101) * 0x1B

/-- Each column a, b, c, d of a block turned to b, c, d, a. -/
def rotCols (s : Nat) : Nat :=
  (s &&& 0x00FFFFFF00FFFFFF00FFFFFF00FFFFFF) * 256 + (s / 2 ^ 24 &&& 0x000000FF000000FF000000FF000000FF)

/-- MixColumns: each octet a of a column becomes 2a + 3b + c + d, with b, c, d the octets after it. -/
def mixCols (s : Nat) : Nat :=
  let r := rotCols s
  let r2 := rotCols r
  xtimes (s ^^^ r) ^^^ r ^^^ r2 ^^^ rotCols r2

/-- Its inverse: 4(a + c) is added to a and c and 4(b + d) to b and d, then MixColumns. -/
def invMixCols (s : Nat) : Nat := mixCols (s ^^^ xtimes (xtimes (s ^^^ rotCols (rotCols s))))

/-- The four octets of a word through the S-box. -/
def subWord (w : Nat) : Nat :=
  [w / 2 ^ 24, w / 2 ^ 16, w / 2 ^ 8, w].foldl (fun a x => a * 256 + subByte sboxBits x) 0

/-- The key schedule: m more words after the i words w, newest first. -/
def keyWords (nk m i rcon : Nat) (w : List Nat) : List Nat :=
  match m with
  | 0 => w
  | m + 1 =>
    let t := w.headD 0
    let prev := w.getD (nk - 1) 0
    if i % nk = 0 then
      keyWords nk m (i + 1) (xtimes rcon) ((prev ^^^ subWord (t * 256 % 2 ^ 32 + t / 2 ^ 24) ^^^ rcon * 2 ^ 24) :: w)
    else keyWords nk m (i + 1) rcon ((prev ^^^ (if nk = 8 ∧ i % nk = 4 then subWord t else t)) :: w)

/-- Words four at a time. -/
def keyBlocks (w : List Nat) : List Nat :=
  match w with
  | a :: b :: c :: d :: r => (((a * 2 ^ 32 + b) * 2 ^ 32 + c) * 2 ^ 32 + d) :: keyBlocks r
  | _ => []

/-- The round keys of a 16- or 32-octet key, first round first. -/
def roundKeys (key : List Byte) : List Nat :=
  let nk := key.length / 4
  keyBlocks (keyWords nk (4 * (nk + 7) - nk) nk 1 ((chunk 4 nk key).map beNat).reverse).reverse

/-- The rounds after the first key addition. -/
def aesRounds (rks : List Nat) (b : Nat) : Nat :=
  match rks with
  | [] => b
  | [k] => subShift b ^^^ k
  | k :: r => aesRounds r (mixCols (subShift b) ^^^ k)

/-- The inverse rounds, last round key first. -/
def aesInvRounds (rks : List Nat) (b : Nat) : Nat :=
  match rks with
  | [] => b
  | [k] => invSubShift b ^^^ k
  | k :: r => aesInvRounds r (invMixCols (invSubShift b ^^^ k))

/-- A block as a number, octet 0 most significant, zeros after a short one. -/
def blkNat (b : List Byte) : Nat := beNat ((b ++ zeros 16).take 16)

/-- AES encryption of one block. -/
def aesEnc (key blk : List Byte) : List Byte :=
  match roundKeys key with
  | [] => blk
  | k :: r => beOctets 16 (aesRounds r (blkNat blk ^^^ k))

/-- AES decryption of one block. -/
def aesDec (key blk : List Byte) : List Byte :=
  match (roundKeys key).reverse with
  | [] => blk
  | k :: r => beOctets 16 (aesInvRounds r (blkNat blk ^^^ k))

/-! ## Modes -/

/-- Big-endian number of a block as 128 bits. -/
def blkBits (b : List Byte) : BitVec 128 := BitVec.ofNat 128 (beNat b)

/-- The block of 128 bits. -/
def blkOct (v : BitVec 128) : List Byte := beOctets 16 v.toNat

/-- CBC encryption; returns the text and the last chaining block. -/
def cbcEnc (key iv : List Byte) (bs : List (List Byte)) : List Byte × List Byte :=
  match bs with
  | [] => ([], iv)
  | b :: r =>
    let c := aesEnc key (xorL b iv)
    let t := cbcEnc key c r
    (c ++ t.1, t.2)

/-- CBC decryption; returns the text and the last chaining block. -/
def cbcDec (key iv : List Byte) (bs : List (List Byte)) : List Byte × List Byte :=
  match bs with
  | [] => ([], iv)
  | b :: r =>
    let t := cbcDec key b r
    (xorL (aesDec key b) iv ++ t.1, t.2)

/-- Counter mode over full 128-bit counter blocks. -/
def ctrMode (key : List Byte) (c : BitVec 128) (bs : List (List Byte)) : List Byte :=
  match bs with
  | [] => []
  | b :: r => xorL b (aesEnc key (blkOct c)) ++ ctrMode key (c + 1) r

/-- Counter mode with the 32-bit increment of GCM. -/
def gctr (key pre : List Byte) (c : BitVec 32) (bs : List (List Byte)) : List Byte :=
  match bs with
  | [] => []
  | b :: r => xorL b (aesEnc key (pre ++ beOctets 4 c.toNat)) ++ gctr key pre (c + 1) r

/-- One step of the product in GCM's field: bit i of x, running v. -/
def ghMul (x : BitVec 128) (i : Nat) (z v : BitVec 128) : BitVec 128 :=
  match i with
  | 0 => z
  | i + 1 =>
    let z2 := if x.getLsbD i then z ^^^ v else z
    let v2 := if v.getLsbD 0 then (v >>> 1) ^^^ (0xE1#128 <<< 120) else v >>> 1
    ghMul x i z2 v2

/-- GHASH over padded blocks. -/
def ghash (h y : BitVec 128) (bs : List (List Byte)) : BitVec 128 :=
  match bs with
  | [] => y
  | b :: r => ghash h (ghMul (y ^^^ blkBits b) 128 0 h) r

/-- Pad to whole blocks with zeros. -/
def padZ (l : List Byte) : List Byte := l ++ zeros ((16 - l.length % 16) % 16)

/-- The GCM tag over additional data and ciphertext under a 12-octet IV. -/
def gcmTag (key iv aad ct : List Byte) : List Byte :=
  let h := blkBits (aesEnc key (zeros 16))
  let y := ghash h 0 (blocks16 (padZ aad ++ padZ ct ++ beOctets 8 (8 * aad.length) ++ beOctets 8 (8 * ct.length)))
  xorL (blkOct y) (aesEnc key (iv ++ [0#8, 0#8, 0#8, 1#8]))

/-- GCM's text transform, its own inverse. -/
def gcmText (key iv t : List Byte) : List Byte := gctr key iv 2#32 (blocks16 t)

/-- GCM encryption: ciphertext and 16-octet tag. -/
def gcmEnc (key iv aad pt : List Byte) : List Byte × List Byte :=
  let ct := gcmText key iv pt
  (ct, gcmTag key iv aad ct)

/-- GCM decryption: plaintext, and whether the tag agrees. -/
def gcmDec (key iv aad ct tag : List Byte) : List Byte × Bool := (gcmText key iv ct, gcmTag key iv aad ct == tag)

/-- Doubling of CMAC subkeys. -/
def cmacDbl (v : BitVec 128) : BitVec 128 := (v <<< 1) ^^^ (if v.msb then 0x87#128 else 0)

/-- AES-CMAC. -/
def cmac (key m : List Byte) : List Byte :=
  let k1 := cmacDbl (blkBits (aesEnc key (zeros 16)))
  let n := (m.length + 15) / 16
  let full := decide (0 < n) && m.length % 16 == 0
  let lead := if n = 0 then [] else m.take (16 * (n - 1))
  let last := if n = 0 then [] else m.drop (16 * (n - 1))
  let fin := if full then xorL last (blkOct k1)
             else xorL (padZ (last ++ [0x80#8])) (blkOct (cmacDbl k1))
  (cbcEnc key (zeros 16) (blocks16 lead ++ [fin])).2

/-- The AES-CMAC KDF of IEEE 802.1X: iterations 1.. over counter, label, 0x00, context, length in bits. -/
def kdfOct (key label ctx : List Byte) (octets : Nat) : List Byte :=
  let one := fun i => cmac key (BitVec.ofNat 8 (i + 1) :: (label ++ [0#8] ++ ctx ++ beOctets 2 (8 * octets)))
  (((List.range ((octets + 15) / 16)).map one).flatten).take octets

/-- The KDF with an ASCII label. -/
def kdf (key : List Byte) (label : String) (ctx : List Byte) (octets : Nat) : List Byte := kdfOct key (ascii label) ctx octets

/-- The initial value of RFC 3394. -/
def wrapIv : List Byte := List.replicate 8 0xA6#8

/-- One pass of RFC 3394 wrapping over the registers from index i. -/
def wrapPass (key a : List Byte) (t : Nat) (rs : List (List Byte)) : List Byte × List (List Byte) :=
  match rs with
  | [] => (a, [])
  | r :: q =>
    let b := aesEnc key (a ++ r)
    let n := wrapPass key (xorL (b.take 8) (beOctets 8 t)) (t + 1) q
    (n.1, b.drop 8 :: n.2)

/-- The six passes. -/
def wrapGo (key a : List Byte) (rs : List (List Byte)) (j : Nat) : List Byte × List (List Byte) :=
  match j with
  | 0 => (a, rs)
  | j + 1 =>
    let p := wrapGo key a rs j
    wrapPass key p.1 (rs.length * j + 1) p.2

/-- RFC 3394 key wrap of a multiple of 8 octets. -/
def keyWrap (key pt : List Byte) : List Byte :=
  let w := wrapGo key wrapIv (chunk 8 (pt.length / 8) pt) 6
  w.1 ++ w.2.flatten

/-- One inverse pass, last register first. -/
def unwrapPass (key a : List Byte) (t : Nat) (rs : List (List Byte)) : List Byte × List (List Byte) :=
  match rs with
  | [] => (a, [])
  | r :: q =>
    let b := aesDec key (xorL a (beOctets 8 t) ++ r)
    let n := unwrapPass key (b.take 8) (t - 1) q
    (n.1, b.drop 8 :: n.2)

/-- The six inverse passes. -/
def unwrapGo (key a : List Byte) (rs : List (List Byte)) (j : Nat) : List Byte × List (List Byte) :=
  match j with
  | 0 => (a, rs)
  | j + 1 =>
    let p := unwrapPass key a (rs.length * (j + 1)) rs
    unwrapGo key p.1 p.2 j

/-- RFC 3394 key unwrap: the key data when the integrity check passes. -/
def keyUnwrap (key ct : List Byte) : Option (List Byte) :=
  if ct.length < 16 then none
  else
    let w := unwrapGo key (ct.take 8) (chunk 8 (ct.length / 8 - 1) (ct.drop 8)).reverse 6
    if w.1 == wrapIv then some w.2.reverse.flatten else none

/-- Multiply an XTS tweak by alpha (little-endian octets). -/
def xtsDbl (t : List Byte) : List Byte :=
  let n := leNat t
  leOctets 16 ((2 * n) % 2 ^ 128 ^^^ (if n / 2 ^ 127 = 1 then 0x87 else 0))

/-- XTS over whole blocks from a tweak block. -/
def xtsGo (f : List Byte → List Byte) (t : List Byte) (bs : List (List Byte)) : List Byte :=
  match bs with
  | [] => []
  | b :: r => xorL (f (xorL b t)) t ++ xtsGo f (xtsDbl t) r

/-- AES-256-XTS encryption of whole blocks; the key is 64 octets, the tweak 16. -/
def xtsEnc (key tweak pt : List Byte) : List Byte :=
  xtsGo (aesEnc (key.take 32)) (aesEnc (key.drop 32) tweak) (blocks16 pt)

/-- AES-256-XTS decryption. -/
def xtsDec (key tweak ct : List Byte) : List Byte :=
  xtsGo (aesDec (key.take 32)) (aesEnc (key.drop 32) tweak) (blocks16 ct)

/-! ## SHA-384 -/

/-- The round constants. -/
def shaK : List W64 := [
  0x428A2F98D728AE22#64, 0x7137449123EF65CD#64, 0xB5C0FBCFEC4D3B2F#64, 0xE9B5DBA58189DBBC#64,
  0x3956C25BF348B538#64, 0x59F111F1B605D019#64, 0x923F82A4AF194F9B#64, 0xAB1C5ED5DA6D8118#64,
  0xD807AA98A3030242#64, 0x12835B0145706FBE#64, 0x243185BE4EE4B28C#64, 0x550C7DC3D5FFB4E2#64,
  0x72BE5D74F27B896F#64, 0x80DEB1FE3B1696B1#64, 0x9BDC06A725C71235#64, 0xC19BF174CF692694#64,
  0xE49B69C19EF14AD2#64, 0xEFBE4786384F25E3#64, 0x0FC19DC68B8CD5B5#64, 0x240CA1CC77AC9C65#64,
  0x2DE92C6F592B0275#64, 0x4A7484AA6EA6E483#64, 0x5CB0A9DCBD41FBD4#64, 0x76F988DA831153B5#64,
  0x983E5152EE66DFAB#64, 0xA831C66D2DB43210#64, 0xB00327C898FB213F#64, 0xBF597FC7BEEF0EE4#64,
  0xC6E00BF33DA88FC2#64, 0xD5A79147930AA725#64, 0x06CA6351E003826F#64, 0x142929670A0E6E70#64,
  0x27B70A8546D22FFC#64, 0x2E1B21385C26C926#64, 0x4D2C6DFC5AC42AED#64, 0x53380D139D95B3DF#64,
  0x650A73548BAF63DE#64, 0x766A0ABB3C77B2A8#64, 0x81C2C92E47EDAEE6#64, 0x92722C851482353B#64,
  0xA2BFE8A14CF10364#64, 0xA81A664BBC423001#64, 0xC24B8B70D0F89791#64, 0xC76C51A30654BE30#64,
  0xD192E819D6EF5218#64, 0xD69906245565A910#64, 0xF40E35855771202A#64, 0x106AA07032BBD1B8#64,
  0x19A4C116B8D2D0C8#64, 0x1E376C085141AB53#64, 0x2748774CDF8EEB99#64, 0x34B0BCB5E19B48A8#64,
  0x391C0CB3C5C95A63#64, 0x4ED8AA4AE3418ACB#64, 0x5B9CCA4F7763E373#64, 0x682E6FF3D6B2B8A3#64,
  0x748F82EE5DEFB2FC#64, 0x78A5636F43172F60#64, 0x84C87814A1F0AB72#64, 0x8CC702081A6439EC#64,
  0x90BEFFFA23631E28#64, 0xA4506CEBDE82BDE9#64, 0xBEF9A3F7B2C67915#64, 0xC67178F2E372532B#64,
  0xCA273ECEEA26619C#64, 0xD186B8C721C0C207#64, 0xEADA7DD6CDE0EB1E#64, 0xF57D4F7FEE6ED178#64,
  0x06F067AA72176FBA#64, 0x0A637DC5A2C898A6#64, 0x113F9804BEF90DAE#64, 0x1B710B35131C471B#64,
  0x28DB77F523047D84#64, 0x32CAAB7B40C72493#64, 0x3C9EBE0A15C9BEBC#64, 0x431D67C49C100D4C#64,
  0x4CC5D4BECB3E42B6#64, 0x597F299CFC657E2A#64, 0x5FCB6FAB3AD6FAEC#64, 0x6C44198C4A475817#64]

/-- The initial hash value. -/
def shaH0 : List W64 := [
  0xCBBB9D5DC1059ED8#64, 0x629A292A367CD507#64, 0x9159015A3070DD17#64, 0x152FECD8F70E5939#64,
  0x67332667FFC00B31#64, 0x8EB44A8768581511#64, 0xDB0C2E0D64F98FA7#64, 0x47B5481DBEFA4FA4#64]

def rotr (x : W64) (n : Nat) : W64 := x.rotateRight n

/-- Extend the message schedule; w newest first. -/
def shaSched (fuel : Nat) (w : List W64) : List W64 :=
  match fuel with
  | 0 => w
  | f + 1 =>
    let a := w.getD 1 0
    let b := w.getD 14 0
    let s1 := rotr a 19 ^^^ rotr a 61 ^^^ (a >>> 6)
    let s0 := rotr b 1 ^^^ rotr b 8 ^^^ (b >>> 7)
    shaSched f ((s1 + w.getD 6 0 + s0 + w.getD 15 0) :: w)

/-- One round. -/
def shaRound (h : List W64) (kw : W64) : List W64 :=
  match h with
  | [a, b, c, d, e, f, g, hh] =>
    let t1 := hh + (rotr e 14 ^^^ rotr e 18 ^^^ rotr e 41) + ((e &&& f) ^^^ (~~~e &&& g)) + kw
    let t2 := (rotr a 28 ^^^ rotr a 34 ^^^ rotr a 39) + ((a &&& b) ^^^ (a &&& c) ^^^ (b &&& c))
    [t1 + t2, a, b, c, d + t1, e, f, g]
  | _ => h

/-- One 128-octet block. -/
def shaBlock (h : List W64) (blk : List Byte) : List W64 :=
  let w := (shaSched 64 ((chunk 8 16 blk).map (fun o => BitVec.ofNat 64 (beNat o))).reverse).reverse
  List.zipWith (· + ·) h ((List.zipWith (· + ·) shaK w).foldl shaRound h)

/-- SHA-384: 48 octets. -/
def sha384 (m : List Byte) : List Byte :=
  let p := m ++ [0x80#8]
  let q := p ++ zeros ((240 - p.length % 128) % 128) ++ beOctets 16 (8 * m.length)
  ((((chunk 128 (q.length / 128) q).foldl shaBlock shaH0).map (fun x => beOctets 8 x.toNat)).flatten).take 48

/-! ## P-384 -/

/-- The field prime of P-384. -/
def p384 : Nat := 2 ^ 384 - 2 ^ 128 - 2 ^ 96 + 2 ^ 32 - 1

/-- The group order. -/
def n384 : Nat :=
  0xFFFFFFFFFFFFFFFFFFFFFFFFFFFFFFFFFFFFFFFFFFFFFFFFC7634D81F4372DDF581A0DB248B0A77AECEC196ACCC52973

/-- The curve's b. -/
def b384 : Nat :=
  0xB3312FA7E23EE7E4988E056BE3F82D19181D9C6EFE8141120314088F5013875AC656398D8A2ED19D2A85C8EDD3EC2AEF

/-- The base point. -/
def g384 : Nat × Nat :=
  (0xAA87CA22BE8B05378EB1C71EF320AD746E1D3B628BA79B9859F741E082542A385502F25DBF55296C3A545E3872760AB7,
   0x3617DE4A96262C6F5D9E98BF9292DC29F8F41DBD289A147CE9DA3113B5F0B8C00A60B1CE1D7E819D7A431D7C90EA0E5F)

/-- b ^ e mod m, over the k low bits of e. -/
def powMod (m b e k : Nat) : Nat :=
  match k with
  | 0 => 1 % m
  | k + 1 => (if e % 2 = 1 then b * powMod m (b * b % m) (e / 2) k else powMod m (b * b % m) (e / 2) k) % m

/-- The inverse modulo a prime of 384 bits. -/
def invMod (m a : Nat) : Nat := powMod m (a % m) (m - 2) 384

/-- Point addition; none is the point at infinity. -/
def ecAdd (p q : Option (Nat × Nat)) : Option (Nat × Nat) :=
  match p, q with
  | none, _ => q
  | _, none => p
  | some (x1, y1), some (x2, y2) =>
    if x1 = x2 ∧ (y1 + y2) % p384 = 0 then none
    else
      let l := if x1 = x2 then (3 * x1 * x1 + (p384 - 3)) * invMod p384 (2 * y1) % p384
               else (y2 + p384 - y1) * invMod p384 (x2 + p384 - x1) % p384
      let x := (l * l + 2 * p384 - x1 - x2) % p384
      some (x, (l * (x1 + p384 - x) + p384 - y1) % p384)

/-- k times a point, over at most n bits of k. -/
def ecMul (n k : Nat) (p : Option (Nat × Nat)) : Option (Nat × Nat) :=
  match n with
  | 0 => none
  | n + 1 =>
    if k = 0 then none
    else
      let r := ecMul n (k / 2) (ecAdd p p)
      if k % 2 = 1 then ecAdd p r else r

/-- The 97-octet uncompressed form of a point (R126, R336): 0x04, X, Y. -/
def pointOct (p : Option (Nat × Nat)) : List Byte :=
  match p with
  | none => 0x04#8 :: zeros 96
  | some (x, y) => 0x04#8 :: (beOctets 48 x ++ beOctets 48 y)

/-- A point from its 97-octet form, when it lies on the curve. -/
def octPoint (l : List Byte) : Option (Nat × Nat) :=
  let x := beNat ((l.drop 1).take 48)
  let y := beNat ((l.drop 49).take 48)
  if l.length = 97 ∧ oct l 0 = 0x04#8 ∧ x < p384 ∧ y < p384 ∧ (y * y) % p384 = (x * x * x + (p384 - 3) * x + b384) % p384
  then some (x, y) else none

/-- The public key of a private scalar. -/
def ecPub (d : Nat) : List Byte := pointOct (ecMul 384 d (some g384))

/-- ECDH: the X coordinate of the shared point, 48 octets; none for a public key off the curve. -/
def ecdh (d : Nat) (pub : List Byte) : Option (List Byte) :=
  match octPoint pub with
  | none => none
  | some q => (ecMul 384 d (some q)).map (fun p => beOctets 48 p.1)

/-- ECDSA P-384 with SHA-384: whether (r, s) signs the message under the public key. -/
def ecdsaOk (pub m rr ss : List Byte) : Bool :=
  match octPoint pub with
  | none => false
  | some q =>
    let r := beNat rr
    let t := beNat ss
    let w := invMod n384 t
    let e := beNat (sha384 m)
    decide (0 < r) && decide (r < n384) && decide (0 < t) && decide (t < n384) &&
      (match ecAdd (ecMul 384 (e * w % n384) (some g384)) (ecMul 384 (r * w % n384) (some q)) with
       | none => false
       | some (x, _) => x % n384 == r)

/-! ## The frame check sequence (IEEE 802.3) -/

/-- One octet into the CRC-32 register, least significant bit first. -/
def crcBits (k : Nat) (c : W32) : W32 :=
  match k with
  | 0 => c
  | k + 1 => crcBits k (if c.getLsbD 0 then (c >>> 1) ^^^ 0xEDB88320#32 else c >>> 1)

/-- CRC-32 register over octets. -/
def crcGo (c : W32) (l : List Byte) : W32 :=
  match l with
  | [] => c
  | b :: r => crcGo (crcBits 8 (c ^^^ b.setWidth 32)) r

/-- The four FCS octets of a frame body, in transmission order. -/
def fcs (l : List Byte) : List Byte := leOctets 4 (~~~(crcGo 0xFFFFFFFF#32 l)).toNat

/-- The body of a frame that ends in its FCS. -/
def bodyOf (f : List Byte) : List Byte := f.take (f.length - 4)

/-- Whether a frame's FCS agrees with its body. -/
def fcsOk (f : List Byte) : Bool := decide (4 ≤ f.length) && f.drop (f.length - 4) == fcs (bodyOf f)

end Sys2Proof.Machine
end

