-- ==== Sys2Proof/Machine/Net.lean ====
section
/-!
DEFINITION. Reading and rewriting Ethernet frames: recognised tags and EtherType (R51), IP fields, PTP event messages and
their correctionField (R211, R42), checksums of originated frames (R41), MAC control frames (R39). Octets run from the
destination address; a frame body ends before the FCS.
-/

namespace Sys2Proof.Machine

/-- k octets from position n as a number, most significant first. -/
def beAt (l : List Byte) (n k : Nat) : Nat := beNat ((l.drop n).take k)

/-- Replace the octets at position n. -/
def putAt (l : List Byte) (n : Nat) (v : List Byte) : List Byte := l.take n ++ v ++ l.drop (n + v.length)

/-- What stage 2 reads of a frame (R51). -/
structure Parsed where
  tags  : Nat        -- recognised tags, at most two
  off   : Nat        -- where the EtherType stands
  etype : Nat
  ip    : Nat        -- 4, 6, or 0 for neither
  dst   : Nat        -- IP destination address
  dscp  : Nat
  pcp   : Nat        -- of the outermost tag
deriving DecidableEq, Repr

/-- A recognised TPID (R51): 0x8100, 0x88A8 or CLS_TPID.X. -/
def isTpid (x e : Nat) : Bool := e == 0x8100 || e == 0x88A8 || e == x

/-- The number of recognised leading tags. -/
def tagCount (x : Nat) (b : List Byte) : Nat :=
  if isTpid x (beAt b 12 2) then (if isTpid x (beAt b 16 2) then 2 else 1) else 0

/-- Parse a frame body (R51). -/
def parse (x : Nat) (b : List Byte) : Parsed :=
  let t := tagCount x b
  let off := 12 + 4 * t
  let e := beAt b off 2
  let p := off + 2
  let rest := b.length - p
  let ip := if e = 0x0800 ∧ 20 ≤ rest ∧ beAt b p 1 / 16 = 4 then 4
            else if e = 0x86DD ∧ 40 ≤ rest ∧ beAt b p 1 / 16 = 6 then 6 else 0
  { tags := t, off := off, etype := e, ip := ip
    dst := if ip = 4 then beAt b (p + 16) 4 else if ip = 6 then beAt b (p + 24) 16 else 0
    dscp := if ip = 4 then beAt b (p + 1) 1 / 4 else if ip = 6 then beAt b p 2 / 64 % 64 else 0
    pcp := beAt b 14 1 / 32 }

/-- The destination address of a frame. -/
def dstMac (b : List Byte) : Nat := beAt b 0 6

/-- The source address of a frame. -/
def srcMac (b : List Byte) : Nat := beAt b 6 6

/-- A group address: the low bit of its first octet. -/
def isGroup (m : Nat) : Bool := nbit (m / 2 ^ 40) 0

/-- CRC-32 over octets as a number (R55): bits 7:0 form the first FCS octet. -/
def crc32 (l : List Byte) : Nat := (~~~(crcGo 0xFFFFFFFF#32 l)).toNat

/-- A recognised PTP event message (R211): where its header stands and, over UDP, where the checksum stands and whether
it is IPv4. enc has bit 0 Ethernet, bit 1 UDP over IPv4, bit 2 UDP over IPv6. -/
def ptpEvent (x enc : Nat) (b : List Byte) : Option (Nat × Option (Nat × Bool)) :=
  let p := parse x b
  let o := p.off + 2
  let ok := fun (h : Nat) => decide (h + 34 ≤ b.length) && beAt b (h + 1) 1 % 16 == 2 && decide (beAt b h 1 % 16 < 4)
  if p.etype = 0x88F7 then
    if nbit enc 0 && ok o then some (o, none) else none
  else if p.ip = 4 then
    let ihl := beAt b o 1 % 16 * 4
    let u := o + ihl
    if nbit enc 1 && beAt b (o + 9) 1 == 17 && beAt b (o + 6) 2 % 16384 == 0 && beAt b (u + 2) 2 == 319 && ok (u + 8)
    then some (u + 8, some (u + 6, true)) else none
  else if p.ip = 6 then
    let u := o + 40
    if nbit enc 2 && beAt b (o + 6) 1 == 17 && beAt b (u + 2) 2 == 319 && ok (u + 8)
    then some (u + 8, some (u + 6, false)) else none
  else none

/-- One's-complement sum of two 16-bit values. -/
def add1c (a b : Nat) : Nat := if a + b < 65536 then a + b else a + b - 65535

/-- HC' = ~(~HC + ~m + m') of RFC 1624 (R42). -/
def csumStep (hc m m' : Nat) : Nat := 65535 - add1c (add1c (65535 - hc) (65535 - m)) m'

/-- The UDP checksum after the four words of the correctionField changed (R42). -/
def csumFix (v4 : Bool) (hc : Nat) (old new : List Byte) : Nat :=
  if v4 && hc == 0 then 0
  else
    let r := [0, 2, 4, 6].foldl (fun c k => if beAt old k 2 = beAt new k 2 then c
      else csumStep c (beAt old k 2) (beAt new k 2)) hc
    if r = 0 then 65535 else r

/-- Add units of 2^-16 ns to the correctionField of a recognised event message, with its UDP checksum (R211, R42). -/
def addCorrection (b : List Byte) (h : Nat) (u : Option (Nat × Bool)) (amount : Int) : List Byte :=
  let old := (b.drop (h + 8)).take 8
  let new := beOctets 8 (lowBits 64 ((beNat old : Int) + amount))
  let b1 := putAt b (h + 8) new
  match u with
  | none => b1
  | some (c, v4) => putAt b1 c (beOctets 2 (csumFix v4 (beAt b c 2) old new))

/-- One's-complement sum of octets taken as 16-bit words. -/
def sum16 (l : List Byte) : Nat :=
  match l with
  | [] => 0
  | [a] => a.toNat * 256
  | a :: b :: r => add1c (a.toNat * 256 + b.toNat) (sum16 r)

/-- Past the IPv6 extension headers from position u on, whose first is nh: the upper header and its position, or that a Fragment
header stands among them (R41). -/
def ip6Upper (fuel : Nat) (b : List Byte) (nh u : Nat) : Option (Nat × Nat) :=
  match fuel with
  | 0 => some (nh, u)
  | k + 1 =>
    if nh = 44 then none
    else if nh = 0 ∨ nh = 43 ∨ nh = 60 then ip6Upper k b (beAt b u 1) (u + 8 * (beAt b (u + 1) 1 + 1))
    else if nh = 51 then ip6Upper k b (beAt b u 1) (u + 4 * (beAt b (u + 1) 1 + 2))
    else some (nh, u)

/-- The checksums the transmit editor writes into an originated IP frame (R41): the new body, and whether it was a
fragment left without them. -/
def checksums (x : Nat) (b : List Byte) : List Byte × Bool :=
  let p := parse x b
  let o := p.off + 2
  if p.ip = 4 then
    let ihl := beAt b o 1 % 16 * 4
    let hdr := putAt ((b.drop o).take ihl) 10 [0#8, 0#8]
    let b1 := putAt b (o + 10) (beOctets 2 (65535 - sum16 hdr))
    let frag := beAt b (o + 6) 2 % 16384 != 0
    if frag then (b1, true)
    else if beAt b (o + 9) 1 = 17 then
      let len := beAt b (o + 2) 2 - ihl
      let u := o + ihl
      let udp := putAt ((b1.drop u).take len) 6 [0#8, 0#8]
      let s := 65535 - sum16 ((b1.drop (o + 12)).take 8 ++ [0#8, 17#8] ++ beOctets 2 len ++ udp)
      (putAt b1 (u + 6) (beOctets 2 (if s = 0 then 65535 else s)), false)
    else (b1, false)
  else if p.ip = 6 then
    match ip6Upper b.length b (beAt b (o + 6) 1) (o + 40) with
    | none => (b, true)
    | some (nh, u) =>
    if nh = 17 ∨ nh = 58 then
      let len := beAt b (o + 4) 2 + o + 40 - u
      let c := if nh = 17 then 6 else 2
      let pl := putAt ((b.drop u).take len) c [0#8, 0#8]
      let s := 65535 - sum16 ((b.drop (o + 8)).take 32 ++ beOctets 4 len ++ [0#8, 0#8, 0#8, BitVec.ofNat 8 nh] ++ pl)
      (putAt b (u + c) (beOctets 2 (if s = 0 ∧ nh = 17 then 65535 else s)), false)
    else (b, false)
  else (b, false)

/-- Pad a body to 60 octets and append its FCS. -/
def finish (b : List Byte) : List Byte :=
  let p := b ++ zeros (60 - b.length)
  p ++ fcs p

/-- A pause frame of source address src (802.3 Annex 31B, R39). -/
def pauseFrame (src quanta : Nat) : List Byte :=
  finish (beOctets 6 0x0180C2000001 ++ beOctets 6 src ++ beOctets 2 0x8808 ++ beOctets 2 0x0001 ++ beOctets 2 quanta)

/-- A PFC frame: enable vector and one time for every enabled priority (802.1Q, R39). -/
def pfcFrame (src : Nat) (en : BitVec 8) (quanta : Nat) : List Byte :=
  finish (beOctets 6 0x0180C2000001 ++ beOctets 6 src ++ beOctets 2 0x8808 ++ beOctets 2 0x0101 ++ beOctets 2 en.toNat ++
    ((List.range 8).map (fun k => beOctets 2 (if en.getLsbD k then quanta else 0))).flatten)

/-- The frame with its FCS replaced by the complement of the correct one (R18). -/
def stomp (f : List Byte) : List Byte :=
  let b := bodyOf f
  b ++ (fcs b).map (fun x => ~~~x)

end Sys2Proof.Machine
end

