-- ==== Sys2Proof/Machine/ClsBase.lean ====
section
/-!
DEFINITION. The classifier's tables as data (R56, R59, R68, R69): words with their parity, the peer, selection and
receive-SC map entries, the trie walk, the MAC table; the port map and the rates of port forms (R29, R34).
-/

namespace Sys2Proof.Machine

/-! ## Parity -/

/-- Parity of the low k bits. -/
def parity (k n : Nat) : Bool :=
  match k with
  | 0 => false
  | k + 1 => (n % 2 == 1) != parity k (n / 2)

/-- Whether a 32-bit entry has an even number of ones (R67). -/
def evenW (w : W32) : Bool := !parity 32 w.toNat

/-- The word with its bit 31 making the parity even. -/
def withP (n : Nat) : W32 :=
  let m := n % 2 ^ 31
  BitVec.ofNat 32 (m + b2n (parity 31 m) * 2 ^ 31)

/-- Whether a 96-bit MAC entry has even parity. -/
def evenM (e : BitVec 96) : Bool := !parity 96 e.toNat

/-- The MAC entry with its P bit (bit 31 of word 1) making the parity even. -/
def withMP (n : Nat) : BitVec 96 :=
  let m := n - n / 2 ^ 63 % 2 * 2 ^ 63
  BitVec.ofNat 96 (m + b2n (parity 96 m) * 2 ^ 63)

/-! ## Replicated tables -/

/-- Where a replicated word stands in Cls.mem: tables 0-5 T0-T5, 6 prefix results, 7 peer, 8 SecY selection, 9 receive-SC
map; bank B is 1 for T0, peer and selection. -/
def clsKey (slice table bank a : Nat) : Nat := ((slice * 16 + table) * 2 + bank) * 2 ^ 22 + a

/-- Which tables have two banks (R59). -/
def banked (table : Nat) : Bool := table == 0 || table == 7 || table == 8

/-- What an unwritten table word holds: with no image, peer n valid with LINE n and QBASE 8n, selection entries of
line port n valid and naming SecY n, everything else empty (R69). -/
def clsDflt (k : Nat) : W32 :=
  let a := k % 2 ^ 22
  let t := k / 2 ^ 23 % 16
  if t = 7 ∧ a < 64 then withP (2 ^ 30 + a * 2 ^ 24 + 8 * a)
  else if t = 8 ∧ a < 512 then withP (2 ^ 30 + a / 8)
  else 0#32

/-- A replicated table word. -/
def State.clsWord (s : State) (slice table bank a : Nat) : W32 := s.cls.mem.look clsDflt (clsKey slice table bank a)

/-- Write a replicated word in one slice. -/
def State.setClsWord (s : State) (slice table bank a : Nat) (w : W32) : State :=
  { s with cls := { s.cls with mem := s.cls.mem.put clsDflt (clsKey slice table bank a) w } }

/-- Write a replicated word in all four slices (R50). -/
def State.setClsAll (s : State) (table bank a : Nat) (w : W32) : State :=
  [0, 1, 2, 3].foldl (fun t k => t.setClsWord k table bank a w) s

/-- The bank in use, 0 for A (R59). -/
def State.bank (s : State) : Nat := b2n s.cls.active

/-- A peer entry (R68). -/
structure PeerEnt where
  valid : Bool
  line  : Nat
  qbase : Nat
deriving DecidableEq, Repr

def peerEnt (w : W32) : PeerEnt := ⟨bits w 30 30 == 1, bits w 29 24, bits w 13 0⟩

/-- Peer entry p in the active bank, slice of its reader. -/
def State.peer (s : State) (slice p : Nat) : PeerEnt := peerEnt (s.clsWord slice 7 s.bank p)

/-- Selection entry (line port, class): the SecY it names when valid (R54). -/
def State.selSecy (s : State) (lp c : Nat) : Option Nat :=
  let w := s.clsWord (lp / 16) 8 s.bank (lp * 8 + c)
  if bits w 30 30 = 1 then some (bits w 10 0) else none

/-- Receive-SC map entry of receive SC r: class and peer when valid (R68). -/
def State.rscMap (s : State) (slice r : Nat) : Option (Nat × Nat) :=
  let w := s.clsWord slice 9 0 r
  if bits w 30 30 = 1 then some (bits w 29 27, bits w 9 0) else none

/-- The valid peers of a line port in the active bank, in ascending order. -/
def State.peersOf (s : State) (lp : Nat) : List Nat :=
  (List.range 1024).filter (fun p => (s.peer (lp / 16) p).valid && (s.peer (lp / 16) p).line == lp)

/-! ## The port map and rates -/

/-- The line port a host port maps to (R34). -/
def State.lineOf (s : State) (hp : Nat) : Option Nat :=
  if s.flag F.HPT_MAP_VALID hp then some (s.fld F.HPT_MAP_LINE hp) else none

/-- The host ports mapped to a line port, ascending (R55). -/
def State.hostsOf (s : State) (lp : Nat) : List Nat := (List.range 64).filter (fun n => s.lineOf n == some lp)

/-- Rate of a port form, Mbit/s (R29); 0 for AUTO and none. -/
def formRate (f : Nat) : Nat :=
  match f with
  | 1 => 10000
  | 2 => 25000
  | 3 => 50000
  | 4 => 100000
  | 5 => 100000
  | 6 => 100000
  | 7 => 200000
  | 8 => 200000
  | 9 => 400000
  | 10 => 400000
  | 11 => 800000
  | _ => 0

/-- Lanes of a port form (R29). -/
def formLanes (f : Nat) : Nat :=
  match f with
  | 4 => 4
  | 5 => 2
  | 7 => 4
  | 8 => 2
  | 9 => 8
  | 10 => 4
  | 11 => 8
  | _ => 1

/-- The rate of a port (index 0-127): of its form in use, or of its configured form while its link is down. -/
def State.rate (s : State) (p : Nat) : Nat :=
  let pt := s.port p
  if pt.link then formRate pt.formAct.toNat
  else if p < 64 then formRate (s.fld F.HPT_CFG_FORM p) else formRate (s.fld F.LPT_CFG_FORM (p - 64))

/-- EN of a port. -/
def State.portEn (s : State) (p : Nat) : Bool :=
  if p < 64 then s.flag F.HPT_CFG_EN p else s.flag F.LPT_CFG_EN (p - 64)

/-- MAX_FRAME of a port. -/
def State.maxFrame (s : State) (p : Nat) : Nat :=
  if p < 64 then s.fld F.HPT_MAX_FRAME_MAX_FRAME p else s.fld F.LPT_MAX_FRAME_MAX_FRAME (p - 64)

/-- Set an INT_STAT bit of a port. -/
def State.portInt (s : State) (p b : Nat) : State :=
  if p < 64 then s.setInt .HPT_INT_STAT b p else s.setInt .LPT_INT_STAT b (p - 64)

/-- Add to a port counter (R49). -/
def State.portCnt (s : State) (p c : Nat) (n : Nat := 1) : State :=
  if p < 64 then s.count .hpt 0 p c n else s.count .lpt 0 (p - 64) c n

/-- Whether an image gave the MAC base or a partner's was adopted (R222): the base in use. -/
def State.macBase (s : State) : Nat :=
  match s.par.adopted with
  | some b => b.toNat
  | none => s.fuses.macBase.toNat

/-- The MAC address of a port: the image's, or base + port (R366). -/
def State.portMac (s : State) (p : Nat) : Nat :=
  let m := if p < 64 then s.fld F.HPT_MAC_HI_ADDR p * 2 ^ 32 + s.fld F.HPT_MAC_LO_ADDR p
           else s.fld F.LPT_MAC_HI_ADDR (p - 64) * 2 ^ 32 + s.fld F.LPT_MAC_LO_ADDR (p - 64)
  if m = 0 then s.macBase + p else m

/-- The classifier's alarm and other raises of this step are acted on when the step ends (R313). -/
def State.raise (s : State) (src : Nat) : State := { s with alarm := { s.alarm with queue := s.alarm.queue ++ [src] } }

/-- Send a notice to firmware. -/
def State.notice (s : State) (m : Mail) : State := { s with mail := s.mail ++ [m] }

/-! ## The MAC table (R62, R64, R68) -/

/-- Fields of a MAC entry. -/
def meValid (e : BitVec 96) : Bool := e.getLsbD 62
def meStatic (e : BitVec 96) : Bool := e.getLsbD 61
def meAge (e : BitVec 96) : Nat := e.toNat / 2 ^ 59 % 4
def meMac (e : BitVec 96) : Nat := e.toNat / 2 ^ 32 % 2 ^ 16 * 2 ^ 32 + e.toNat % 2 ^ 32
def meLport (e : BitVec 96) : Nat := e.toNat / 2 ^ 74 % 16
def mePeer (e : BitVec 96) : Nat := e.toNat / 2 ^ 64 % 1024

/-- A valid MAC entry. -/
def mkMac (mac lport peer age : Nat) (static : Bool) : BitVec 96 :=
  withMP (mac % 2 ^ 32 + mac / 2 ^ 32 % 2 ^ 16 * 2 ^ 32 + age % 4 * 2 ^ 59 + b2n static * 2 ^ 61 + 2 ^ 62 +
    peer % 1024 * 2 ^ 64 + lport % 16 * 2 ^ 74)

/-- The bucket of a key (line port within the slice, MAC): bits 14:0 of the CRC-32 of the seven key octets (R62). -/
def macBucket (lport mac : Nat) : Nat := crc32 (beOctets 6 mac ++ [BitVec.ofNat 8 lport]) % 2 ^ 15

/-- MAC entry of a slice at index bucket * 8 + way. -/
def State.macEnt (s : State) (slice i : Nat) : BitVec 96 := s.cls.mac.look (fun _ => 0#96) (slice * 2 ^ 18 + i)

def State.setMacEnt (s : State) (slice i : Nat) (e : BitVec 96) : State :=
  { s with cls := { s.cls with mac := s.cls.mac.put (fun _ => 0#96) (slice * 2 ^ 18 + i) e } }

/-- The way that holds a key, with good or bad parity. -/
def State.macFind (s : State) (slice lport mac : Nat) : Option Nat :=
  let b := macBucket lport mac * 8
  (List.range 8).map (b + ·) |>.find? (fun i =>
    let e := s.macEnt slice i
    meValid e && meMac e == mac && meLport e == lport)

/-- Valid entries of a slice. -/
def State.macCount (s : State) (slice : Nat) : Nat :=
  (s.cls.mac.filter (fun e => e.1 / 2 ^ 18 == slice && meValid e.2)).length

/-- Non-static entries learned on a line port (CLS_LP_LCOUNT). -/
def State.learnCount (s : State) (lp : Nat) : Nat :=
  (s.cls.mac.filter (fun e => e.1 / 2 ^ 18 == lp / 16 && meValid e.2 && !meStatic e.2 && meLport e.2 == lp % 16)).length

end Sys2Proof.Machine
end

