-- ==== Sys2Proof/Machine/Tether.lean ====
section
/-!
DEFINITION. Sending on the tether (R230, R233, R234): records, what is confirmed, leases (R236), the pair unit's interrupts.
-/

namespace Sys2Proof

/-- SOLO, ACTIVE, RECOVERY and TEST are the active states (R240). -/
def PairState.isAct (p : PairState) : Bool :=
  match p with
  | .solo => true
  | .active => true
  | .recovery => true
  | .test => true
  | .start => false
  | .standby => false
  | .fenced => false

/-- PAR_STATUS.STATE code of a pair state. -/
def PairState.code (p : PairState) : Nat :=
  match p with
  | .start => 0
  | .solo => 1
  | .standby => 2
  | .active => 3
  | .recovery => 4
  | .test => 5
  | .fenced => 6

end Sys2Proof

namespace Sys2Proof.Machine

/-- This member is in an active state. -/
def State.isActive (s : State) : Bool := s.par.st.isAct

/-- This member's lease is valid (R226). -/
def State.leaseValid (s : State) : Bool :=
  s.par.leaseRun && !s.alarm.isolated && (s.par.st != .standby || s.par.synced)

/-- This member's slot, 0 or 1 (R381). -/
def State.slotNo (s : State) : Nat := s.straps.toNat % 2

/-- This member's records await the partner's ACK: it is active and the partner is in STANDBY or being resynced (R233). -/
def State.mirrors (s : State) : Bool := s.isActive && ((s.par.ptKnown && s.par.ptSt == .standby) || s.par.resync)

/-- The tether frame format runs and its key exists. -/
def State.tetherKeyed (s : State) : Bool := s.tetherKey.present || s.par.k1.isSome

/-- Send a record under the next SEQ (R230, R233): it stays unacknowledged until the partner confirms it; an active member whose partner
is neither in STANDBY nor being resynced confirms its own. -/
def State.sendRec (s : State) (kind : Nat) (body : TBody) : State :=
  let q := s.par.txSeq + 1
  let s1 := { s with par := { s.par with
    txSeq := q
    unacked := if s.tetherKeyed && (s.mirrors || !s.isActive) then s.par.unacked ++ [TxRec.mk q kind body] else s.par.unacked } }
  (s1.count .par 0 0 0).emit (.tether q body s.tetherKeyed)

/-- Mirror a record of R234: sent while a standby or a joining partner is there; otherwise confirmed at once (R233). -/
def State.tell (s : State) (kind : Nat) (body : TBody) : State := if s.mirrors then s.sendRec kind body else s

/-- The SEQ that must be confirmed before a step that relies on what has been told so far (R112); 0 when none. -/
def State.told (s : State) : Nat := if s.mirrors then s.par.txSeq else 0

/-- Every record up to SEQ q is confirmed (R233). -/
def State.confirmed (s : State) (q : Nat) : Bool := s.par.unacked.all (fun r => decide (q < r.seq))

/-- Set a PAR_INT_STAT bit; PAR_EVT records it (R246). -/
def State.parInt (s : State) (b : Nat) (frm : Option PairState := none) : State :=
  let f := match frm with
    | some p => p.code
    | none => s.fld F.PAR_EVT_FROM
  (s.setWord .PAR_EVT (BitVec.ofNat 32 (2 ^ 31 + b * 2 ^ 27 + f * 2 ^ 24))).setInt .PAR_INT_STAT b

/-! ## Suites and leases -/

/-- The SecY of an SA (R73). -/
def State.saSecy (s : State) (k : Nat) : Nat := if k < 8192 then k / 4 else (s.rsc ((k - 8192) / 4)).secy

/-- SUITE names an XPN suite (R75). -/
def State.xpn (s : State) (n : Nat) : Bool := nbit (s.fld F.SEC_SECY_CFG_SUITE n) 1

/-- Octets of the suite's key (R75). -/
def State.suiteKey (s : State) (n : Nat) : Nat := if nbit (s.fld F.SEC_SECY_CFG_SUITE n) 0 then 32 else 16

/-- PNs in a lease of an SA (R236). -/
def State.leaseSize (s : State) (k : Nat) : Nat := if s.xpn (s.saSecy k) then 2 ^ 24 else 2 ^ 20

/-- The highest PN of an SA's suite. -/
def State.pnMax (s : State) (k : Nat) : Nat := if s.xpn (s.saSecy k) then 2 ^ 64 - 1 else 0xFFFFFFFF

/-- Ask for a lease up to an end (R236): a lease record awaits confirmation, or it is confirmed at once (R233). -/
def State.leaseTo (s : State) (k e : Nat) : State :=
  let a := s.sa k
  let e := min e (s.pnMax k)
  if s.mirrors then (s.setSa k { a with leaseReq := e }).sendRec 0x12 (.pnLease k e)
  else (s.setSa k { a with leaseReq := e, lease := e }).count .par 0 0 5

/-- The first lease of a transmit SA at its install (R236). -/
def State.firstLease (s : State) (k : Nat) : State :=
  let z := s.leaseSize k
  s.leaseTo k (((s.sa k).pn / z + 1) * z - 1)

/-- Ask for the next lease when the next PN has passed the confirmed end less half a lease (R236). -/
def State.leaseCheck (s : State) (k : Nat) : State :=
  let a := s.sa k
  let z := s.leaseSize k
  if decide (a.lease < a.pn + z / 2) && a.leaseReq == a.lease && decide (a.lease < s.pnMax k) then
    s.leaseTo k (a.lease + z)
  else s

end Sys2Proof.Machine
end

