-- ==== Sys2Proof/Machine/Slots.lean ====
section
/-!
DEFINITION. The slots of the key store (R121-R124): keys as two shares, references, allocation, fill, release; the CAK slots
with their derived ICK and CA KEK; wrapped-key records (R126, R127).
-/

namespace Sys2Proof.Machine

/-- The key two shares hold: their XOR, k octets (R121). -/
def sharedKey (a b : BitVec 256) (k : Nat) : List Byte := beOctets k (a ^^^ b).toNat

/-- n generate requests of DRBG-M: after 2^20 a reseed is due, which a healthy source makes at once (R134). -/
def State.drbgM (s : State) (n : Nat) : State :=
  let k := s.rng.m.requests + n
  { s with rng := { s.rng with m := if k < 1048576 then { s.rng.m with requests := k }
    else if s.rng.esFail then { requests := k, due := true } else { requests := k - 1048576 } } }

/-- Share refresh and the service cipher have stopped: DRBG-M's reseed is due and the source has failed (R135). -/
def State.maskStopped (s : State) : Bool := s.rng.esFail && s.rng.m.due

/-- A service-cipher operation refused for want of randomness is counted (R135). -/
def State.svcStopped (s : State) : State := s.count .key 0 0 6

/-- A key split by a fresh random mask of DRBG-M (R121, R123, R134). -/
def State.split (s : State) (key : List Byte) : (BitVec 256 × BitVec 256) × State :=
  let (r, s1) := (s.drbgM 1).draw
  let m := r.setWidth 256
  ((BitVec.ofNat 256 (beNat key) ^^^ m, m), s1)

/-- Two fresh random shares: an overwritten slot (R124, R129). -/
def State.noise (s : State) : (BitVec 256 × BitVec 256) × State :=
  let (r, s1) := (s.drbgM 1).draw
  ((r.setWidth 256, (r >>> 256).setWidth 256), s1)

/-- The key in an SA slot. -/
def State.saKey (s : State) (k : Nat) : List Byte := sharedKey (s.saSlot k).sh0 (s.saSlot k).sh1 (s.saSlot k).klen

/-- The CAK, ICK and CA KEK of a CAK slot. -/
def State.cakKey (s : State) (k : Nat) : List Byte := sharedKey (s.cakSlot k).sh0 (s.cakSlot k).sh1 (s.cakSlot k).klen
def State.ickKey (s : State) (k : Nat) : List Byte := sharedKey (s.cakSlot k).ick0 (s.cakSlot k).ick1 (s.cakSlot k).klen
def State.kekKey (s : State) (k : Nat) : List Byte := sharedKey (s.cakSlot k).kek0 (s.cakSlot k).kek1 (s.cakSlot k).klen

/-- The tether key, and the KEK when the tack room holds one. -/
def State.ttKey (s : State) : List Byte := sharedKey s.tetherKey.sh0 s.tetherKey.sh1 32
def State.kek? (s : State) : Option (List Byte) := if s.tck.kek.present then some (sharedKey s.tck.kek.sh0 s.tck.kek.sh1 32) else none

/-- Fresh random data XORed into both shares. -/
def Shares.remask (x : Shares) (m : BitVec 256) : Shares := { x with sh0 := x.sh0 ^^^ m, sh1 := x.sh1 ^^^ m }

/-- Re-mask one SA slot (R123). -/
def State.remaskSa (s : State) (k : Nat) : State :=
  let (r, s1) := (s.drbgM 1).draw
  let m := r.setWidth 256
  s1.setSaSlot k { s1.saSlot k with sh0 := (s1.saSlot k).sh0 ^^^ m, sh1 := (s1.saSlot k).sh1 ^^^ m }

/-- Re-mask a CAK slot, its ICK or its CA KEK: parts 0, 1, 2. -/
def State.remaskPart (s : State) (k part : Nat) : State :=
  let (r, s1) := (s.drbgM 1).draw
  let m := r.setWidth 256
  let c := s1.cakSlot k
  s1.setCakSlot k (match part with
    | 0 => { c with sh0 := c.sh0 ^^^ m, sh1 := c.sh1 ^^^ m }
    | 1 => { c with ick0 := c.ick0 ^^^ m, ick1 := c.ick1 ^^^ m }
    | _ => { c with kek0 := c.kek0 ^^^ m, kek1 := c.kek1 ^^^ m })

/-- Re-mask the tether key. -/
def State.remaskTt (s : State) : State :=
  let (r, s1) := (s.drbgM 1).draw
  { s1 with tetherKey := s1.tetherKey.remask (r.setWidth 256) }

/-- One transfer on the key bus (R123): the slot re-masked while share refresh runs, counted. An SA slot; a CAK slot or one of its
derived slots; the tether key. -/
def State.busLoad (s : State) (k : Nat) : State := (if s.maskStopped then s else s.remaskSa k).count .key 0 0 0
def State.busCak (s : State) (k part : Nat) : State := (if s.maskStopped then s else s.remaskPart k part).count .key 0 0 0
def State.busTt (s : State) : State := (if s.maskStopped then s else s.remaskTt).count .key 0 0 0

/-- Octets drawn from DRBG-K. -/
def State.drawOct (s : State) (fuel n : Nat) : List Byte × State :=
  match fuel with
  | 0 => ([], s)
  | f + 1 =>
    if n = 0 then ([], s)
    else
      let (r, s1) := s.draw
      let (l, s2) := s1.drawOct f (n - min n 64)
      (beOctets (min n 64) r.toNat ++ l, s2)

/-- A request of DRBG-K is refused (R135): its seed is due and cannot be renewed. -/
def State.drbgKOk (s : State) : Bool := !(s.rng.esFail && s.rng.k.due)

/-- One generate request of DRBG-K: after 2^20 a reseed is due, which a healthy source makes at once (R134). -/
def State.drbgReq (s : State) : State :=
  let n := s.rng.k.requests + 1
  let k : Drbg := if n < 1048576 then { s.rng.k with requests := n }
    else if s.rng.esFail then { requests := n, due := true } else {}
  { s with rng := { s.rng with k := k } }

/-- n octets of DRBG-K, in requests of at most 4,096 bits (R134); none when a request is refused. -/
def State.drbgTake (s : State) (fuel n : Nat) : Option (List Byte × State) :=
  match fuel with
  | 0 => some ([], s)
  | f + 1 =>
    if n = 0 then some ([], s)
    else if !s.drbgKOk then none
    else
      let (l, s1) := s.drbgReq.drawOct 8 (min n 512)
      (s1.drbgTake f (n - min n 512)).map (fun x => (l ++ x.1, x.2))

/-- A refused request is counted. -/
def State.drbgRefused (s : State) : State := s.count .key 0 0 5

/-- REFS of an SA slot: SAs that name it and are installed, or retired but not drained (R124). -/
def State.refs (s : State) (k : Nat) : Nat :=
  (s.sas.filter (fun e => e.2.slot == k && (e.2.installed || e.2.retired))).length

/-- Whether an origin may fill, release or name a HELD slot: its owner's task or privileged firmware (R124). -/
def State.ownsSlot (s : State) (o : Origin) (k : Nat) : Bool :=
  match o with
  | .task _ ca => (s.saSlot k).owner == ca
  | _ => true

/-- The slot's shares overwritten with fresh random data, then FREE (R124). -/
def State.wipeSlot (s : State) (k : Nat) : State :=
  let ((a, b), s1) := s.noise
  s1.setSaSlot k { sh0 := a, sh1 := b }

/-- A RELEASING slot whose REFS has reached 0 becomes FREE (R124). -/
def State.reapSlot (s : State) (k : Nat) : State :=
  if (s.saSlot k).st == .releasing && s.refs k == 0 then s.wipeSlot k else s

/-- The owner's release of a HELD slot (R124). -/
def State.releaseSlot (s : State) (k : Nat) : State :=
  ((s.setSaSlot k { s.saSlot k with st := .releasing }).reapSlot k).count .key 0 0 2

/-- The lowest-numbered FREE slot (R124). -/
def State.freeSlot (s : State) : Option Nat := firstIdx (fun k => (s.saSlot k).st == .free) 0 65536

/-- Allocate the lowest FREE slot to a CA (R124). -/
def State.allocSlot (s : State) (ca : Nat) : Option (Nat × State) :=
  match s.freeSlot with
  | some k => some (k, s.setSaSlot k { s.saSlot k with st := .held, klen := 0, owner := ca })
  | none => none

/-- Fill a slot with a key (R124). -/
def State.fillSlot (s : State) (k : Nat) (key : List Byte) : State :=
  let ((a, b), s1) := s.split key
  s1.setSaSlot k { s1.saSlot k with klen := key.length, sh0 := a, sh1 := b }

/-- Draw a SAK of n octets into a slot (R105, R124). -/
def State.genSlot (s : State) (k n : Nat) : State :=
  let (r, s1) := s.drbgReq.draw
  (s1.fillSlot k (beOctets n r.toNat)).count .key 0 0 1

/-- Write a CAK slot with its CKN; its ICK and CA KEK are derived with it (R121). -/
def State.writeCak (s : State) (k : Nat) (key ckn : List Byte) (ledger image : Bool) : State :=
  let n := key.length
  let ((a, b), s1) := s.split key
  let ((i0, i1), s2) := s1.split (kdf key "IEEE8021 ICK" (ckn.take 16 ++ zeros (16 - ckn.length)) n)
  let ((e0, e1), s3) := s2.split (kdf key "IEEE8021 KEK" (ckn.take 16 ++ zeros (16 - ckn.length)) n)
  s3.setCakSlot k { klen := n, sh0 := a, sh1 := b, ckn := ckn, ledger := ledger, image := image,
                    ick0 := i0, ick1 := i1, kek0 := e0, kek1 := e1 }

/-- Empty a CAK slot and its two derived slots (R121). -/
def State.emptyCak (s : State) (k : Nat) : State := s.setCakSlot k {}

/-- The plaintext of a wrapped-key record (R126). -/
def cakPlain (slot : Nat) (key ckn : List Byte) : List Byte :=
  [1#8, BitVec.ofNat 8 key.length, BitVec.ofNat 8 ckn.length, 0#8] ++ beOctets 2 slot ++ [0#8, 0#8] ++
    (key ++ zeros (32 - key.length)) ++ (ckn ++ zeros (32 - ckn.length))

/-- Read a wrapped-key plaintext (R126, R127): slot, key and CKN when every check passes. -/
def readCakPlain (p : List Byte) : Option (Nat × List Byte × List Byte) :=
  let kl := (oct p 1).toNat
  let cl := (oct p 2).toNat
  let slot := beAt p 4 2
  if p.length = 72 ∧ oct p 0 = 1#8 ∧ (kl = 16 ∨ kl = 32) ∧ 1 ≤ cl ∧ cl ≤ 32 ∧ oct p 3 = 0#8 ∧ beAt p 6 2 = 0 ∧
      slot < 1024 ∧ beNat ((p.drop (8 + kl)).take (32 - kl)) = 0 ∧ beNat ((p.drop (40 + cl)).take (32 - cl)) = 0 then
    some (slot, (p.drop 8).take kl, (p.drop 40).take cl)
  else none

/-- A CAK wrapped under the tack room's KEK (R126); none without a KEK. -/
def State.wrapCak (s : State) (slot : Nat) (key ckn : List Byte) : Option (List Byte) :=
  s.kek?.map (fun k => keyWrap k (cakPlain slot key ckn))

end Sys2Proof.Machine
end

