-- ==== Sys2Proof/Machine/Sec.lean ====
section
/-!
DEFINITION. SecYs, receive SCs and SAs (04): their settings, the preference and budget of placement (R147), the replay state (R87,
R88).
-/

namespace Sys2Proof.Machine

/-! ## Settings -/

/-- Whether an image is running. -/
def State.image (s : State) : Bool := !s.flash.run.isEmpty

/-- SecY n is in use (R71): VALID of the image, or its line port is configured with no image. -/
def State.secyValid (s : State) (n : Nat) : Bool := s.flag F.SEC_SECY_CFG_VALID n || (s.secy n).cfgd

/-- Line port of a SecY. -/
def State.secyLine (s : State) (n : Nat) : Nat := s.fld F.SEC_SECY_CFG_LINE n

/-- The SCI of a SecY (R71): the image's, or the port's MAC address and port identifier 0x0001. -/
def State.sci (s : State) (n : Nat) : Nat :=
  let w := (s.word .SEC_SECY_SCI_HI n).toNat * 2 ^ 32 + (s.word .SEC_SECY_SCI_LO n).toNat
  if w = 0 then s.portMac (64 + s.secyLine n) * 65536 + 1 else w

/-- The operand of the first word of a template with an opcode, before END. -/
def tplOperand (l : List W32) (op : Nat) : Option Nat :=
  match l with
  | [] => none
  | w :: t => if bits w 31 28 = 0 then none else if bits w 31 28 = op then some (bits w 27 0) else tplOperand t op

/-- The words of template t: template 0 is SECTAG, PTPCF 0b111, END (R143). -/
def State.template (s : State) (t : Nat) : List W32 :=
  if t = 0 then [0x10000000#32, 0x40000007#32, 0#32] else s.yrd.tpls.look (fun _ => []) t

/-- Clear-tag template: the operand of the CARRIER word of template t before its END, if it has one (R143). -/
def State.carrier (s : State) (t : Nat) : Option Nat := tplOperand (s.template t) 2

/-- Largest growth of a frame on a SecY (R21). -/
def State.growth (s : State) (n : Nat) : Nat :=
  (if s.flag F.SEC_SECY_CFG_INCLUDE_SCI n then 16 else 8) + 16 +
  (if (s.carrier (s.fld F.SEC_SECY_CFG_TPL n)).isSome then 4 else 0)

/-- The class 0 SecY of a line port, when valid (R84). -/
def State.class0 (s : State) (lp : Nat) : Option Nat :=
  match s.selSecy lp 0 with
  | some n => if s.secyValid n then some n else none
  | none => none

/-- The current transmit SA of a SecY (R81). -/
def State.curSa (s : State) (n : Nat) : Option Nat :=
  let y := s.secy n
  if y.txValid && (s.sa (n * 4 + y.txAn)).installed then some (n * 4 + y.txAn) else none

/-- The receive SC found by (line port, SCI) (R72). -/
def State.findRsc (s : State) (lp sci : Nat) : Option Nat :=
  match s.rscs.find? (fun e => e.2.valid && e.2.sci.toNat == sci && s.secyLine e.2.secy == lp) with
  | some e => some e.1
  | none => none

/-- The IMPLICIT receive SC of a line port (R72, R86). -/
def State.implicitRsc (s : State) (lp : Nat) : Option Nat :=
  match s.rscs.find? (fun e => e.2.valid && e.2.implicit && s.secyLine e.2.secy == lp) with
  | some e => some e.1
  | none => none

/-! ## Placement (R147) -/

/-- The lowest class that names an SA's SC: 7 and 6 matter to placement. -/
def State.saClass (s : State) (k : Nat) : Nat :=
  if k < 8192 then
    let n := k / 4
    let lp := s.secyLine n
    if s.selSecy lp 7 = some n then 7 else if s.selSecy lp 6 = some n then 6 else 0
  else
    match s.rscMap 0 ((k - 8192) / 4) with
    | some (c, _) => c
    | none => 0

/-- Preference group of R147 rule 4: pinned 3, current transmit 2, class 6 1, other 0. -/
def State.placeRank (s : State) (k : Nat) : Nat :=
  if (s.sa k).pinned then 3
  else if k < 8192 && s.curSa (k / 4) == some k then 2
  else if s.saClass k == 6 then 1 else 0

/-- Hot records that are not being written back. -/
def State.hotCount (s : State) : Nat := (s.sas.filter (fun e => e.2.hot && !e.2.demoting)).length

/-- Pinned SAs. -/
def State.pinCount (s : State) : Nat := (s.sas.filter (fun e => e.2.pinned)).length

/-- The least recently dispatched SA of a list. -/
def lru (l : List (Nat × Sa)) : Option Nat :=
  match l with
  | [] => none
  | e :: t =>
    match lru t with
    | none => some e.1
    | some k => match t.find? (fun x => x.1 == k) with
      | some x => if x.2.lastUse < e.2.lastUse then some k else some e.1
      | none => some e.1

/-- Begin the demotion of the least recently dispatched unpinned hot SA of a group below r (R147 rule 4, R148). -/
def State.demote (s : State) (r : Nat) : State :=
  match lru (s.sas.filter (fun e => e.2.hot && !e.2.demoting && !e.2.pinned && decide (s.placeRank e.1 < r))) with
  | some k => (s.setSa k { s.sa k with demoting := true }).count .yrd 0 0 1
  | none => s

/-! ## Replay (R87, R88) -/

/-- PN recovery (R87): a 64-bit number. -/
def recoverPn (xpn : Bool) (l p : Nat) : Nat :=
  if xpn then (if l % 2 ^ 32 ≤ p then l / 2 ^ 32 * 2 ^ 32 + p else (l / 2 ^ 32 + 1) % 2 ^ 32 * 2 ^ 32 + p) else p

/-- PN n lies in the duplicate map and its bit is set (R88). -/
def Sa.dup (a : Sa) (n : Nat) : Bool := decide (n ≤ a.h) && decide (a.h - n < 64) && a.d.getLsbD (a.h - n)

/-- The replay test of R88 at the verdict. -/
def Sa.replay (a : Sa) (n : Nat) : Bool := decide (n < a.pn) || a.dup n

/-- Acceptance of PN n under window w (R88). -/
def Sa.accept (a : Sa) (w n : Nat) : Sa :=
  if a.h < n then
    { a with d := (if n - a.h < 64 then a.d <<< (n - a.h) else 0#64) ||| 1#64, h := n, pn := max a.pn (n + 1 - w) }
  else if a.h - n < 64 then { a with d := a.d ||| BitVec.ofNat 64 (2 ^ (a.h - n)) } else a

end Sys2Proof.Machine
end

