-- ==== Sys2Proof/Machine/Tm.lean ====
section
/-!
DEFINITION. The traffic manager (08): buckets and their refill (R161-R165), policers (R166), gate lists (R170, R171),
eligibility and selection (R158-R160), buffer pages and admission (R167, R193).
-/

namespace Sys2Proof.Machine

/-- What the model gives as the queue of a frame in a control FIFO, which is none of the 16,384 (R157). -/
def ctlQueue : Nat := 16384


/-! ## Tables -/

def State.bucket (s : State) (lvl i : Nat) : Bucket := s.tmg.buckets.look (fun _ => {}) (lvl * 2 ^ 14 + i)
def State.setBucket (s : State) (lvl i : Nat) (b : Bucket) : State :=
  { s with tmg := { s.tmg with buckets := s.tmg.buckets.put (fun _ => {}) (lvl * 2 ^ 14 + i) b } }
def State.policer (s : State) (k : Nat) : Policer := s.tmg.policers.look (fun _ => {}) k
def State.setPolicer (s : State) (k : Nat) (p : Policer) : State :=
  { s with tmg := { s.tmg with policers := s.tmg.policers.put (fun _ => {}) k p } }
def State.queue (s : State) (q : Nat) : Queue := s.tmg.queues.look (fun _ => {}) q
def State.setQueue (s : State) (q : Nat) (v : Queue) : State :=
  { s with tmg := { s.tmg with queues := s.tmg.queues.put (fun _ => {}) q v } }
def State.gatePort (s : State) (p : Nat) : GatePort := s.tmg.gates.look (fun _ => {}) p
def State.setGatePort (s : State) (p : Nat) (g : GatePort) : State :=
  { s with tmg := { s.tmg with gates := s.tmg.gates.put (fun _ => {}) p g } }

/-- Host-port queue of a class (R157). -/
def hostQueue (n c : Nat) : Nat := 15616 + 8 * n + c

/-- Privileged queue k of port x (R157). -/
def privQueue (x k : Nat) : Nat := 16128 + 2 * x + k

/-- The class of a queue below the privileged ones. -/
def queueClass (q : Nat) : Nat := q % 8

/-- The egress port of a frame: its line port on encrypt, its host port on decrypt. -/
def Frame.egress (f : Frame) : Nat :=
  if f.enc then 64 + f.lport
  else
    match f.hport with
    | some n => n
    | none => 64 + f.lport

/-! ## Shed stages and ports (R168, R294) -/

/-- A line port kept at S4 (R294). -/
def State.keptS4 (s : State) (lp : Nat) : Bool :=
  s.flag F.LPT_CFG_PROTECTED lp || [6, 7].any (fun c => match s.selSecy lp c with
    | some n => s.secyValid n
    | none => false)

/-- A port kept at the present stage (R294). -/
def State.kept (s : State) (p : Nat) : Bool :=
  if s.pwr.stage < 4 then true
  else
    match (if p < 64 then s.lineOf p else some (p - 64)) with
    | some lp => if s.pwr.stage < 5 then s.keptS4 lp else s.flag F.LPT_CFG_PROTECTED lp
    | none => false

/-- A port that carries frames: enabled, kept, with a link. -/
def State.portUp (s : State) (p : Nat) : Bool := s.portEn p && s.kept p && (s.port p).link

/-- The class is carried at the present stage (R158 item 2, R168). -/
def State.carried (s : State) (c : Nat) : Bool := if s.pwr.stage < 5 then true else s.pwr.stage == 5 && c == 7

/-! ## Buckets (R161-R165) -/

/-- A shaped bucket in debt holds its frames. -/
def Bucket.ok (b : Bucket) : Bool := b.eff == 0 || decide (0 ≤ b.tokens)

/-- Debit for a frame of n octets; an unshaped bucket keeps its count (R161). -/
def Bucket.debit (b : Bucket) (n : Nat) : Bucket :=
  if b.eff = 0 then b else { b with tokens := b.tokens - ((n + b.ovh) * 8 : Nat) }

/-- One refill at disciplined time t with the stage's substitute rate for class 0-3 queues, if any (R161, R163, R165). -/
def Bucket.refill (b : Bucket) (t : Int) (sub : Option Nat) : Bucket :=
  let due := match b.pendAt with
    | some e => decide (e ≤ t)
    | none => true
  let b1 := match b.pend with
    | some (r, u, o, c, w) =>
      if due then { b with rate := r, burst := u, ovh := o, crate := c, weight := w, pend := none, pendAt := none } else b
    | none => b
  let r : Nat := match sub with
    | some d => if b1.crate = 0 then d else b1.crate
    | none => b1.rate
  let b2 := { b1 with eff := r }
  if r = 0 then b2 else { b2 with tokens := min (b2.tokens + r) ((b2.burst * 2048 : Nat) : Int) }

/-- Port of a queue: of its head frame, or of the valid peer that owns it, or its host port. -/
def State.queuePort (s : State) (q : Nat) : Option Nat :=
  if 16128 ≤ q then some ((q - 16128) / 2)
  else if 15616 ≤ q then some ((q - 15616) / 8)
  else
    match (s.queue q).frames.head?.bind s.frame? with
    | some f => some f.egress
    | none =>
      match (List.range 1024).find? (fun p => (s.peer 0 p).valid && (s.peer 0 p).qbase == q / 8 * 8) with
      | some p => some (64 + (s.peer 0 p).line)
      | none => none

/-- The substitute rate of a class 0-3 queue from S2 upward: DEF_CPCT percent of its port's rate (R165). -/
def State.subRate (s : State) (q : Nat) : Option Nat :=
  if decide (2 ≤ s.pwr.stage) && decide (q < 16128) && decide (queueClass q ≤ 3) then
    match s.queuePort q with
    | some p => some (s.rate p * s.fld F.TMG_CTL_DEF_CPCT / 100)
    | none => some 0
  else none

/-- Refill one bucket by its table key. -/
def State.refillOne (s : State) (key : Nat) : State :=
  let b := s.bucket (key / 2 ^ 14) (key % 2 ^ 14)
  let sub := if key < 2 ^ 14 then s.subRate key else none
  s.setBucket (key / 2 ^ 14) (key % 2 ^ 14) (b.refill s.timeT sub)

/-- Class 0-3 queues in use by a valid peer or a host port. -/
def State.lowQueues (s : State) : List Nat :=
  (((List.range 1024).filter (fun p => (s.peer 0 p).valid)).map (fun p => (s.peer 0 p).qbase) ++
    (List.range 64).map (fun n => hostQueue n 0)).flatMap (fun b => [b, b + 1, b + 2, b + 3])

/-- The oldest waiting MGT transmission leaves when port bucket 128 lets it, and is debited (R161). -/
def State.mgtOne (s : State) : State :=
  match s.mgtWait with
  | [] => s
  | (o, n) :: l =>
    let b := s.bucket 2 128
    if b.ok then (({ s with mgtWait := l }).setBucket 2 128 (b.debit n)).emit o else s

/-- Waiting MGT transmissions leave in order while the bucket lets them. -/
def State.mgtServe (s : State) : State := s.mgtWait.foldl (fun t _ => t.mgtOne) s

/-- The service cores send a frame of n octets on MGT (R45, R161). -/
def State.mgtSend (s : State) (o : Output) (n : Nat) : State := ({ s with mgtWait := s.mgtWait ++ [(o, n)] }).mgtServe

/-- Frame octets of a UDP payload of n octets on MGT: over IPv4 when the part has an IPv4 address (log entry 36). -/
def State.mgtUdp (s : State) (n : Nat) : Nat := max 64 (n + (if s.word .MGT_IP4 = 0#32 then 66 else 46))

/-- The refill of every bucket and policer (R161, R166). -/
def State.refillAll (s : State) : State :=
  let keys := s.tmg.buckets.idxs ++
    (if 2 ≤ s.pwr.stage then s.lowQueues.filter (fun q => !s.tmg.buckets.idxs.contains q) else [])
  let s1 := keys.foldl State.refillOne s
  (s1.tmg.policers.idxs.foldl (fun a k =>
    let p := a.policer k
    a.setPolicer k { p with tc := min (p.tc + p.cir) ((p.cbs * 2048 : Nat) : Int)
                            tp := min (p.tp + p.pir) ((p.pbs * 2048 : Nat) : Int) }) s1).mgtServe

/-- Every bucket and policer at 0 tokens, as at a start and at take-over (R164). -/
def State.emptyBuckets (s : State) : State :=
  let s1 := s.tmg.buckets.idxs.foldl (fun a k =>
    a.setBucket (k / 2 ^ 14) (k % 2 ^ 14) { a.bucket (k / 2 ^ 14) (k % 2 ^ 14) with tokens := 0 }) s
  s1.tmg.policers.idxs.foldl (fun a k => a.setPolicer k { a.policer k with tc := 0, tp := 0 }) s1

/-! ## Policing (R166) -/

/-- Police a frame of n octets: the state with debits and counts, and its colour; none when red is dropped. -/
def State.police (s : State) (k n : Nat) : State × Option Bool :=
  let p := s.policer k
  let bits : Int := (n * 8 : Nat)
  if !p.en then (s.count .tmg 1 k 0, some false)
  else if p.tp < 0 then
    if p.redAct then (s.count .tmg 1 k 3, some true) else (s.count .tmg 1 k 2, none)
  else if p.tc < 0 then ((s.setPolicer k { p with tp := p.tp - bits }).count .tmg 1 k 1, some true)
  else ((s.setPolicer k { p with tp := p.tp - bits, tc := p.tc - bits }).count .tmg 1 k 0, some false)

/-! ## Gates (R170, R171) -/

/-- The time of n octets at a port's rate, units of 2^-16 ns. -/
def State.airTime (s : State) (p n : Nat) : Int :=
  let r := s.rate p
  if r = 0 then 0 else ((n * 524288000 / r : Nat) : Int)

/-- The intervals of one cycle: (end offset, gates), units of 2^-16 ns; an entry is cut at the cycle end and the last one
holds until it. -/
def GateList.spans (g : GateList) : List (Nat × BitVec 8) :=
  let c := g.cycle * 65536
  let rec go (at_ : Nat) (l : List (BitVec 8 × Nat)) : List (Nat × BitVec 8) :=
    match l with
    | [] => []
    | [e] => [(c, e.1)]
    | e :: t => (min c (at_ + e.2 * 65536), e.1) :: go (min c (at_ + e.2 * 65536)) t
  go 0 g.entries

/-- Where time t falls in a list: entry number, offset in the cycle. -/
def GateList.pos (g : GateList) (t : Int) : Nat × Nat :=
  let o := if g.cycle = 0 then 0 else ((t - g.base) % ((g.cycle * 65536 : Nat) : Int)).toNat
  (g.spans.findIdx (fun x => decide (o < x.1)), o)

/-- How long the gate of class c stays open from offset o of a list, at most two cycles; 0 when it is closed. -/
def openFor (c : Nat) (o : Nat) (l : List (Nat × BitVec 8)) : Nat :=
  match l with
  | [] => 0
  | x :: t => if x.1 ≤ o then openFor c o t else if x.2.getLsbD c then (x.1 - o) + openFor c x.1 t else 0

/-- The open time of class c from t in a list; without end when the gate is open throughout the cycle. -/
def GateList.openTime (g : GateList) (c : Nat) (t : Int) : Nat :=
  let sp := g.spans
  let cy := g.cycle * 65536
  if openFor c 0 sp = cy then 2 ^ 60
  else openFor c (g.pos t).2 (sp ++ sp.map (fun x => (x.1 + cy, x.2)) ++ sp.map (fun x => (x.1 + 2 * cy, x.2)))

/-- The entry and gates in force at t: the operational list, its cycle extended to a pending change (R170). -/
def GatePort.now (g : GatePort) (t : Int) : Nat × BitVec 8 :=
  match g.oper with
  | none => (0, 0xFF#8)
  | some o =>
    let (k, off) := o.pos t
    let ext := match g.pend with
      | some (n, ct) =>
        let start := t - off
        decide (o.base + ((o.cycle * 65536 : Nat) : Int) ≤ t) && decide (t < ct) &&
          decide (start < ct) && decide (ct < start + ((o.cycle * 65536 : Nat) : Int)) &&
          decide (ct - start < ((n.ext * 65536 : Nat) : Int))
      | none => false
    let k1 := if ext then o.entries.length - 1 else k
    (k1, (o.entries.getD k1 (0xFF#8, 0)).1)

/-- How long the gate of class c stays open from t on a port (R171): through a pending change into the new list. -/
def GatePort.openTime (g : GatePort) (c : Nat) (t : Int) : Nat :=
  match g.oper with
  | none =>
    match g.pend with
    | none => 2 ^ 60
    | some (n, ct) => (ct - t).toNat + n.openTime c ct
  | some o =>
    if !(g.now t).2.getLsbD c then 0
    else
      match g.pend with
      | none => o.openTime c t
      | some (n, ct) =>
        let a := o.openTime c t
        let left := (ct - t).toNat
        let fin := if (g.now t).1 == (o.pos t).1 then a else left
        if left ≤ fin then left + n.openTime c ct else fin

/-- The gate lets a frame of n octets of class c start on port p now. -/
def State.gateFits (s : State) (p c n : Nat) : Bool :=
  !s.flag F.TMG_PORT_CFG_GATE_EN p || decide (s.airTime p n ≤ ((s.gatePort p).openTime c s.timeT : Nat))

/-- Whether some open interval of class c in the cycle can hold n octets (R171). -/
def State.gateEver (s : State) (p c n : Nat) : Bool :=
  match (s.gatePort p).oper with
  | none => true
  | some o => !s.flag F.TMG_PORT_CFG_GATE_EN p ||
      (0 :: o.spans.map (·.1)).any (fun off => decide (s.airTime p n ≤ (o.openTime c (o.base + (off : Nat)) : Nat)))

/-! ## Eligibility (R158, R160) -/

/-- The priority of class c on a port (TMG_PORT_PRIO, R169). -/
def State.prio (s : State) (p c : Nat) : Nat := s.fld F.TMG_PORT_PRIO_MAP p / 2 ^ (3 * c) % 8

/-- The priority of class c is paused by PFC (R169). -/
def State.pfcHolds (s : State) (p c : Nat) : Bool := (s.port p).pfcPaused.getLsbD (s.prio p c)

/-- The buckets a queue's frame passes: queue, peer on a line port, port (R161). -/
def State.bucketsOk (s : State) (p q peer : Nat) : Bool :=
  (s.bucket 0 q).ok && (decide (p < 64) || decide (16128 ≤ q) || (s.bucket 1 peer).ok) && (s.bucket 2 p).ok

/-- A launch lead of 6 ns, units of 2^-16 ns (R172). -/
def launchLead : Int := 393216

/-- LATE_NS of a port, units of 2^-16 ns. -/
def State.lateNs (s : State) (p : Nat) : Int := (s.fld F.TMG_PORT_LAUNCH_LATE_NS p * 65536 : Nat)

/-- A frame on its way out of a port is not behind another in its queue. -/
def State.headOfQueue (s : State) (f : Frame) : Bool := f.stage != .queued || (s.queue f.queue).frames.head? == some f.id

/-- Frames with a launch time that wait on a port: the heads of its queues, privileged ones too, and those on their way to a queue
(R172, R173). -/
def State.launchHeads (s : State) (p : Nat) : List (Nat × Int) :=
  s.frames.filterMap (fun f =>
    match f.launch with
    | some t => if f.egress == p && f.stage != .committed && s.headOfQueue f then some (f.id, t) else none
    | none => none)

/-- The launch guard of R172 lets a frame of n octets start, itself apart: its last bit leaves by the launch time of every waiting
frame. DEDUCED (log entry 34): a launch time already past holds nothing, for the guard holds class 7 for at most one frame
time. -/
def State.guardOk (s : State) (p n : Nat) (self : Option Nat) : Bool :=
  !s.flag F.TMG_PORT_CFG_LAUNCH_GUARD p ||
    (s.launchHeads p).all (fun e => some e.1 == self || decide (e.2 ≤ s.timeT) ||
      decide (s.timeT + launchLead + s.airTime p n ≤ e.2))

/-- Queue q of class c would be eligible for a frame of the port's MAX_FRAME (R160: items 2 to 6 of R158). -/
def State.openQueue (s : State) (p q c peer : Nat) : Bool :=
  s.carried c && s.gateFits p c (s.maxFrame p) && !s.pfcHolds p c && s.bucketsOk p q peer && s.guardOk p (s.maxFrame p) none

/-- An earlier frame of the queue waits at stage 7 for its verdict or its port (R15): the queue is served after it. -/
def State.heldAhead (s : State) (p q : Nat) : Bool := s.frames.any (fun g => g.egress == p && g.stage == .held && g.queue == q)

/-- The head frame of a queue when the queue is eligible on its port (R158), its verdict known (R18). -/
def State.eligible (s : State) (p q : Nat) : Option Frame :=
  match (s.queue q).frames.head?.bind s.frame? with
  | none => none
  | some f =>
    let pq := decide (16128 ≤ q)
    let c := queueClass q
    let due := match f.launch with
      | some t => decide (t - launchLead ≤ s.timeT)
      | none => true
    if f.verdict != .unknown && due && !s.heldAhead p q && (if pq then decide (s.pwr.stage < 6) else s.carried c) &&
        (pq || (s.gateFits p c f.outOct.length && !s.pfcHolds p c)) && s.bucketsOk p q f.peer &&
        s.guardOk p (s.maxFrame p) (some f.id)
    then some f else none

/-! ## Selection (R159) -/

/-- One member of a deficit weighted round robin. -/
structure Dwrr where
  id      : Nat
  quantum : Nat
  deficit : Int
  head    : Nat
  elig    : Bool
deriving DecidableEq, Repr

/-- Serve the first member whose kept deficit covers its head, moving on with a quantum for each eligible member. -/
def dwrrGo (fuel : Nat) (l : List Dwrr) : Option (Nat × List Dwrr) :=
  match fuel, l with
  | 0, _ => none
  | _, [] => none
  | k + 1, x :: t =>
    if x.elig && decide ((x.head : Int) ≤ x.deficit) then some (x.id, { x with deficit := x.deficit - x.head } :: t)
    else
      match t ++ [x] with
      | [] => none
      | y :: u => dwrrGo k ((if y.elig then { y with deficit := y.deficit + y.quantum } else y) :: u)

/-- A round from position ptr: it arrives at the first member at or after it. -/
def dwrr (ptr : Nat) (l : List Dwrr) : Option (Nat × List Dwrr) :=
  if l.all (fun x => !x.elig) then none
  else
    match l.filter (fun x => decide (ptr ≤ x.id)) ++ l.filter (fun x => decide (x.id < ptr)) with
    | [] => none
    | x :: t =>
      let x1 := if x.id == ptr || !x.elig then x else { x with deficit := x.deficit + x.quantum }
      dwrrGo (64 * (l.length + 1)) (x1 :: t)

/-- Store the deficits of a round at a bucket level. -/
def State.keepDeficits (s : State) (lvl : Nat) (l : List Dwrr) : State :=
  l.foldl (fun a x => a.setBucket lvl x.id { a.bucket lvl x.id with deficit := x.deficit }) s

/-- The queues of a port that hold frames, below the privileged ones, with the peer of each head frame. -/
def State.portQueues (s : State) (p : Nat) : List (Nat × Nat) :=
  s.tmg.queues.filterMap (fun e =>
    match e.2.frames.head?.bind s.frame? with
    | some f => if decide (e.1 < 16128) && f.egress == p then some (e.1, f.peer) else none
    | none => none)

/-- Members of a round among queues. -/
def State.queueRound (s : State) (p : Nat) (qs : List Nat) : List Dwrr :=
  qs.map (fun q =>
    let b := s.bucket 0 q
    match s.eligible p q with
    | some f => ⟨q, b.weight * 256, b.deficit, f.outOct.length, true⟩
    | none => ⟨q, b.weight * 256, b.deficit, 0, false⟩)

/-- Round robin over peers for a strict class: the eligible queue of the first peer after the last served. -/
def State.pickStrict (s : State) (p c last : Nat) : Option (Nat × Nat) :=
  let l := (s.portQueues p).filter (fun e => queueClass e.1 == c && (s.eligible p e.1).isSome)
  match l.filter (fun e => decide (last < e.2)) ++ l with
  | [] => none
  | _ :: _ =>
    let best := fun (m : List (Nat × Nat)) => m.foldl (fun (a : Option (Nat × Nat)) e => match a with
      | none => some e
      | some x => if e.2 < x.2 then some e else some x) none
    match best (l.filter (fun e => decide (last < e.2))) with
    | some e => some e
    | none => best l

/-- The queue chosen among classes 0-5 of a port, with the deficits kept (R159 group 6). -/
def State.pickLow (s : State) (p : Nat) : Option (Nat × State) :=
  let low := (s.portQueues p).filter (fun e => decide (queueClass e.1 < 6))
  if p < 64 then
    match dwrr (s.port p).rrQueue (s.queueRound p (low.map (·.1))) with
    | some (q, l) => some (q, (s.keepDeficits 0 l).setPort p { s.port p with rrQueue := q })
    | none => none
  else
    let peers := (low.map (·.2)).eraseDups
    let inner := fun (pr : Nat) => dwrr (s.bucket 1 pr).rr (s.queueRound p ((low.filter (fun e => e.2 == pr)).map (·.1)))
    let members := peers.map (fun pr =>
      let b := s.bucket 1 pr
      match inner pr with
      | some (q, _) => match s.eligible p q with
        | some f => (⟨pr, b.weight * 256, b.deficit, f.outOct.length, true⟩ : Dwrr)
        | none => ⟨pr, b.weight * 256, b.deficit, 0, false⟩
      | none => ⟨pr, b.weight * 256, b.deficit, 0, false⟩)
    match dwrr (s.port p).rrPeer members with
    | none => none
    | some (pr, l) =>
      match inner pr with
      | none => none
      | some (q, m) =>
        let s1 := (s.keepDeficits 1 l).keepDeficits 0 m
        let s2 := s1.setBucket 1 pr { s1.bucket 1 pr with rr := q }
        some (q, s2.setPort p { s2.port p with rrPeer := pr })

/-- The queue a port's selection takes, groups 3 to 6 of R159. -/
def State.pickQueue (s : State) (p : Nat) : Option (Nat × State) :=
  let pq := fun k => if p < 64 then (s.eligible p (privQueue p k)).map (fun _ => (privQueue p k, s)) else none
  match pq 0 with
  | some r => some r
  | none => match pq 1 with
    | some r => some r
    | none => match s.pickStrict p 7 (s.port p).rrPeer7 with
      | some (q, pr) => some (q, s.setPort p { s.port p with rrPeer7 := pr })
      | none => match s.pickStrict p 6 (s.port p).rrPeer6 with
        | some (q, pr) => some (q, s.setPort p { s.port p with rrPeer6 := pr })
        | none => s.pickLow p

/-- Debit every bucket a frame of n octets passes (R159, R161). -/
def State.debitFor (s : State) (p q peer n : Nat) : State :=
  let s1 := s.setBucket 0 q ((s.bucket 0 q).debit n)
  let s2 := if 64 ≤ p ∧ q < 16128 then s1.setBucket 1 peer ((s1.bucket 1 peer).debit n) else s1
  s2.setBucket 2 p ((s2.bucket 2 p).debit n)

/-! ## Pages and admission (R167, R193) -/

/-- Free pages of the pool: of the stacks that are ON. -/
def State.freePages (s : State) : Nat :=
  ((List.range 4).map (fun k => if (s.stk k).mode == .on then (s.stk k).free else 0)).sum

/-- Pages a frame of n octets takes: whole 64-octet lines in 1 KiB pages. -/
def pagesOf (n : Nat) : Nat := ((n + 63) / 64 + 15) / 16

/-- Take one page from the ON stacks in rotation, from stack k on. -/
def State.takePage (s : State) (fuel k : Nat) : Option (Nat × State) :=
  match fuel with
  | 0 => none
  | f + 1 =>
    let t := s.stk (k % 4)
    if t.mode == .on && decide (0 < t.free) then
      let nx := { s.tmg with nextStk := (k + 1) % 4 }
      match t.freed with
      | g :: r => some (k % 4 * 2 ^ 30 + g, { (s.setStk (k % 4) { t with free := t.free - 1, freed := r }) with tmg := nx })
      | [] =>
        let n := (firstIdx (fun p => !t.retired.contains p) t.next (t.retired.length + 1)).getD t.next
        some (k % 4 * 2 ^ 30 + n, { (s.setStk (k % 4) { t with free := t.free - 1, next := n + 1 }) with tmg := nx })
    else s.takePage f (k + 1)

/-- Take n pages. -/
def State.takePages (s : State) (n : Nat) : Option (List Nat × State) :=
  match n with
  | 0 => some ([], s)
  | n + 1 =>
    match s.takePage 4 s.tmg.nextStk with
    | none => none
    | some (g, s1) => match s1.takePages n with
      | none => none
      | some (l, s2) => some (g :: l, s2)

/-- Pages of the reserve for classes 6 and 7. -/
def State.rsv67 (s : State) : Nat := s.fld F.TMG_BUF_CFG_RSV67_MIB * 1024

/-- The lowest count of free pages since each group's last read (R364), and POOL_LOW when they fall to the reserve (R167). -/
def State.notePages (s : State) : State :=
  let now := s.freePages
  let m := [0, 1, 2].foldl (fun t g => Tab.put (fun _ => 2 ^ 28) t g (min (Tab.look (fun _ => 2 ^ 28) t g) now)) s.pwr.minBuf
  let low := decide (now ≤ s.rsv67)
  let s1 := { s with pwr := { s.pwr with minBuf := m }, tmg := { s.tmg with poolLow := low } }
  if low && !s.tmg.poolLow then s1.setInt .TMG_INT_STAT 2 else s1

/-- Return pages to their stacks; a retired page stays out (R189). -/
def State.giveBack (s : State) (l : List Nat) : State :=
  let t := l.foldl (fun a g =>
    let t := a.stk (g / 2 ^ 30)
    if t.retired.contains (g % 2 ^ 30) || t.mode == .lost || t.mode == .absent || t.mode == .off then a
    else a.setStk (g / 2 ^ 30) { t with free := t.free + 1, freed := t.freed ++ [g % 2 ^ 30] }) s
  { t with tmg := { t.tmg with poolLow := t.tmg.poolLow && decide (t.freePages ≤ t.rsv67) } }

/-- Octets a queue holds. -/
def State.fill (s : State) (q : Nat) : Nat :=
  ((s.queue q).frames.map (fun id => match s.frame? id with
    | some f => f.outOct.length
    | none => 0)).sum

/-- Why a frame is not admitted: 3 tail drop, 4 yellow drop (TMG counters); none when it is admitted (R167). -/
def State.refuseAt (s : State) (f : Frame) (q : Nat) : Option Nat :=
  let v := s.queue q
  let n := s.fill q
  let free := s.freePages
  let full := fun (l : Nat) => l != 0 && decide (l * 4096 ≤ n)
  if full v.qlimit || !s.portUp f.egress || (decide (2 ≤ s.pwr.stage) && decide (f.cls ≤ 3)) ||
      free == 0 || (decide (free ≤ s.rsv67) && decide (f.cls < 6)) then some 3
  else if f.yellow && full v.ylimit then some 4
  else none

/-- Take a frame out of a queue; an empty queue's deficit and an empty peer's deficit become 0 (R159). -/
def State.unqueue (s : State) (q : Nat) (f : Frame) : State :=
  let v := s.queue q
  let s1 := (s.setQueue q { v with frames := v.frames.filter (fun i => i != f.id) }).giveBack f.pages
  let s2 := if (s1.queue q).frames.isEmpty then s1.setBucket 0 q { s1.bucket 0 q with deficit := 0 } else s1
  if f.enc && q < 16128 && (s2.portQueues f.egress).all (fun e => e.2 != f.peer || decide (6 ≤ queueClass e.1)) then
    s2.setBucket 1 f.peer { s2.bucket 1 f.peer with deficit := 0 }
  else s2

end Sys2Proof.Machine
end

