-- ==== Sys2Proof/Machine/Cipher.lean ====
section
/-!
DEFINITION. Frame protection as built and as read (R77-R79, R85, R90) and the frame-edit templates (R143, R144): the octets of
a frame before and after the engine.
-/

namespace Sys2Proof.Machine

/-- Octets authenticated only under a confidentiality offset code (R78). -/
def confOffset (c : Nat) : Nat :=
  match c with
  | 1 => 30
  | 2 => 50
  | _ => 0

/-- The 96-bit IV of a frame (R75). -/
def gcmIv (xpn : Bool) (sci ssci salt pn : Nat) : List Byte :=
  if xpn then beOctets 12 ((ssci * 2 ^ 64 + pn) ^^^ salt) else beOctets 12 (sci * 2 ^ 32 + pn % 2 ^ 32)

/-- The SecTAG (R77). -/
def secTag (an conf sl pn : Nat) (sci : Option Nat) : List Byte :=
  let tci := an + (if conf = 3 then 0 else 12) + (if sci.isSome then 32 else 0)
  beOctets 2 0x88E5 ++ [BitVec.ofNat 8 tci, BitVec.ofNat 8 sl] ++ beOctets 4 (pn % 2 ^ 32) ++
    (match sci with
     | some x => beOctets 8 x
     | none => [])

/-- The carrier tag a CARRIER operand pushes, its PCP replaced under a CPCP operand (R143). -/
def carrierTag (x op : Nat) (cpcp : Option Nat) (cls : Nat) : List Byte :=
  let tpid := if op / 2 ^ 16 % 4 = 0 then 0x8100 else if op / 2 ^ 16 % 4 = 1 then 0x88A8 else x
  let tci := op % 2 ^ 16
  let tci1 := match cpcp with
    | some m => tci % 2 ^ 13 + m / 2 ^ (3 * cls) % 8 * 2 ^ 13
    | none => tci
  beOctets 2 tpid ++ beOctets 2 tci1

/-- Words of a template run until END, END included. -/
def tplSteps (l : List W32) : Nat :=
  match l with
  | [] => 0
  | w :: t => if bits w 31 28 = 0 then 1 else 1 + tplSteps t

/-- A valid template (R144). -/
def tplValid (l : List W32) : Bool :=
  let n := l.findIdx (fun w => bits w 31 28 == 0)
  let body := l.take n
  let count := fun (op : Nat) => (body.filter (fun w => bits w 31 28 == op)).length
  decide (n < l.length) && decide (l.length ≤ 8) && count 1 == 1 && decide (count 2 ≤ 1) && decide (count 4 ≤ 1) &&
    body.all (fun w => match bits w 31 28 with
      | 1 => bits w 27 0 == 0
      | 2 => bits w 27 18 == 0 && decide (bits w 17 16 < 3)
      | 3 => bits w 27 24 == 0
      | 4 => bits w 27 3 == 0
      | _ => false) &&
    bits (l.getD n 0#32) 27 0 == 0 &&
    (match body.findIdx? (fun w => bits w 31 28 == 3) with
     | some k => decide (body.findIdx (fun w => bits w 31 28 == 2) < k)
     | none => true)

/-- The recognised tags that stay clear on a SecY: at most CLEAR_TAGS (R79). -/
def State.clearTags (s : State) (n : Nat) (b : List Byte) : Nat :=
  min (tagCount (s.fld F.CLS_TPID_X) b) (s.fld F.SEC_SECY_CFG_CLEAR_TAGS n)

/-- The ciphertext length of a plaintext frame (R21). -/
def State.cipherLen (s : State) (n len : Nat) : Nat := len + s.growth n

/-- Protect a frame: plaintext octets with FCS in, ciphertext octets with FCS out; whether PTPCF corrected it (R77-R79,
R143, R212). -/
def State.protect (s : State) (f : Frame) (k : Nat) : List Byte × Bool :=
  let n := f.secy
  let x := s.fld F.CLS_TPID_X
  let tpl := s.template f.tpl
  let b0 := bodyOf f.octets
  let cf := match tplOperand tpl 4 with
    | some e => if s.flag F.TIM_CTL_TC_EN then ptpEvent x (e &&& s.fld F.TIM_CTL_TC_ENC) b0 else none
    | none => none
  let b := match cf with
    | some (h, u) => addCorrection b0 h u ((s.fld F.TIM_PTP_CFG2_RES_NS * 65536 : Nat) : Int)
    | none => b0
  let at_ := 12 + 4 * s.clearTags n b
  let conf := s.fld F.SEC_SECY_CFG_CONF n
  let sd := b.drop at_
  let sci := s.sci n
  let a := s.sa k
  let tag := secTag (k % 4) conf (if sd.length < 48 then sd.length else 0) f.pn.toNat
    (if s.flag F.SEC_SECY_CFG_INCLUDE_SCI n then some sci else none)
  let auth := if conf = 3 then sd else sd.take (confOffset conf)
  let pt := sd.drop auth.length
  let iv := gcmIv (s.xpn n) sci a.ssci.toNat a.salt.toNat f.pn.toNat
  let (ct, icv) := gcmEnc (s.saKey f.slot) iv (b.take 12 ++ tag ++ auth) pt
  let car := match tplOperand tpl 2 with
    | some op => carrierTag x op (tplOperand tpl 3) f.cls
    | none => []
  let o := b.take 12 ++ car ++ (b.drop 12).take (at_ - 12) ++ tag ++ auth ++ ct ++ icv
  (o ++ fcs o, cf.isSome)

/-! ## Reading a SecTAG (R84-R86) -/

/-- A SecTAG as parsed, and where the frame's parts stand. -/
structure SecTagIn where
  tags : Nat          -- recognised tags ahead of it
  off  : Nat          -- where EtherType 0x88E5 stands
  v    : Bool
  es   : Bool
  sc   : Bool
  scb  : Bool
  e    : Bool
  c    : Bool
  an   : Nat
  slr  : Nat          -- SL octet
  pn   : Nat
  sci  : Nat
  data : Nat          -- where the secure data begins
deriving DecidableEq, Repr

/-- Parse the SecTAG of a body after its recognised tags, if there is one (R84). -/
def parseTag (x : Nat) (b : List Byte) : Option SecTagIn :=
  let p := parse x b
  if p.etype = 0x88E5 then
    let t := beAt b (p.off + 2) 1
    let sc := nbit t 5
    some { tags := p.tags, off := p.off, v := nbit t 7, es := nbit t 6, sc := sc, scb := nbit t 4, e := nbit t 3,
           c := nbit t 2, an := t % 4, slr := beAt b (p.off + 3) 1, pn := beAt b (p.off + 4) 4,
           sci := beAt b (p.off + 8) 8, data := p.off + (if sc then 16 else 8) }
  else none

/-- Malformed by its own fields (R85); len is the body's length without FCS. -/
def SecTagIn.bad (t : SecTagIn) (len : Nat) : Bool :=
  t.v || (t.es && t.sc) || (t.sc && t.scb) || (t.c && !t.e) || decide (48 ≤ t.slr) ||
    (if t.slr = 0 then decide (len < t.data + 64) else decide (len < t.data + t.slr + 16))

/-- Where the ICV of a tagged body begins (R85). -/
def SecTagIn.icvAt (t : SecTagIn) (len : Nat) : Nat := if t.slr = 0 then len - 16 else t.data + t.slr

/-- Undo the protection of a frame (R78, R90): ciphertext octets with FCS in, plaintext octets with FCS out, whether the
ICV verified, whether a popped carrier tag's TPID differed. A frame delivered unchecked has no key: C is clear in it. -/
def State.unprotect (s : State) (f : Frame) (secy : Nat) (key : Option (List Byte × List Byte)) : List Byte × Bool × Bool :=
  let x := s.fld F.CLS_TPID_X
  let b := bodyOf f.octets
  match parseTag x b with
  | none => (f.octets, true, false)
  | some t =>
    let icv := t.icvAt b.length
    let sd := (b.take icv).drop t.data
    let conf := s.fld F.SEC_SECY_CFG_CONF secy
    let auth := if t.c then sd.take (confOffset conf) else sd
    let ct := sd.drop auth.length
    let (pt, ok) := match key with
      | some (k, iv) => gcmDec k iv (b.take 12 ++ (b.take t.data).drop t.off ++ auth) ct ((b.drop icv).take 16)
      | none => (ct, true)
    let tagBits := (b.take t.off).drop 12
    let car := s.carrier f.tpl
    let (kept, miss) := match car with
      | some op => (tagBits.drop 4, beAt tagBits 0 2 != beAt (carrierTag x op none 0) 0 2)
      | none => (tagBits, false)
    (finish (b.take 12 ++ kept ++ auth ++ pt), ok, miss)

end Sys2Proof.Machine
end

