-- ==== Sys2Proof/Machine/Yard.lean ====
section
/-!
DEFINITION. The yardmaster (07): engine sets (R147), slots, dispatch and segments (R145), the reorder store (R149), engine
faults (R154), shedding of engines (R155).
-/

namespace Sys2Proof.Machine

/-! ## Engines and sets -/

/-- Engines in service. -/
def State.inService (s : State) : List Nat := (List.range 64).filter (fun e => (s.eng e).mode == .inService)

/-- The smallest of a list, d for none. -/
def minOf (d : Nat) (l : List Nat) : Nat :=
  match l with
  | [] => d
  | x :: t => t.foldl min x

/-- P: the lowest pace among the engines in service (R147). -/
def State.lowPace (s : State) : Nat := minOf 0 (s.inService.map (fun e => (s.eng e).pace))

/-- The order context of a frame: of its transmit SC at its index, of its receive SC at 2048 + its index (R149). DESIGN CHOICE
(log entry 30): R149 gives a received frame with no SC (untagged, or with an unknown SCI) no context; the model keeps one for
those of each line port, at 18432 + its number, ordered by arrival, so that no frame waits for another port's. -/
def Frame.sc (f : Frame) : Nat :=
  if f.enc then f.secy
  else
    match f.rsc with
    | some r => 2048 + r
    | none => 18432 + f.lport

/-- The order context of an SA's SC. -/
def saSc (k : Nat) : Nat := if k < 8192 then k / 4 else 2048 + (k - 8192) / 4

def State.scSet (s : State) (k : Nat) : ScSet := s.yrd.sets.look (fun _ => {}) k
def State.setScSet (s : State) (k : Nat) (v : ScSet) : State :=
  { s with yrd := { s.yrd with sets := s.yrd.sets.put (fun _ => {}) k v } }

/-- The class of an SC: class 0 for frames with none (R84, R86). -/
def State.scClass (s : State) (k : Nat) : Nat :=
  if k < 2048 then s.saClass (k * 4) else if k < 18432 then s.saClass (8192 + (k - 2048) * 4) else 0

/-- The egress rate of an SC in Mbit/s: its line port's, or the fastest mapped host port's (R147). -/
def State.scRate (s : State) (k : Nat) : Nat :=
  if k < 2048 then s.rate (64 + s.secyLine k)
  else ((s.hostsOf (if k < 18432 then s.secyLine (s.rsc (k - 2048)).secy else k - 18432)).map s.rate).foldl max 0

/-- Quotient rounded up; a zero divisor asks for the most. -/
def ceilDiv (a b : Nat) : Nat := if b = 0 then (if a = 0 then 0 else 4) else (a + b - 1) / b

/-- The set size of an SC (R147 rule 2, R155). -/
def State.setSize (s : State) (k : Nat) : Nat :=
  let p := s.lowPace
  let port := ceilDiv (s.scRate k * 10) (1152 * p)
  let dem := ceilDiv ((s.scSet k).demand * 400) (3 * p * 1000000)
  let prot := if s.scClass k = 7 ∧ 2 ≤ s.inService.length then 2 else 1
  min s.inService.length (min 4 (max port (max dem prot)))

/-- The key slots of an SC's hot SAs. -/
def State.scSlots (s : State) (k : Nat) : List Nat :=
  let base := if k < 2048 then k * 4 else 8192 + (k - 2048) * 4
  if 18432 ≤ k then []
  else
    ([0, 1, 2, 3].filterMap (fun a =>
      let x := s.sa (base + a)
      if (x.installed || x.retired) && x.hot then some x.slot else none)).eraseDups

/-- Load keys into an engine's cache (R139). -/
def State.loadKeys (s : State) (e : Nat) (l : List Nat) : State :=
  let g := s.eng e
  let new := l.filter (fun k => !g.keys.contains k)
  (new.foldl State.busLoad (s.setEng e { g with keys := g.keys ++ new })).obsEvent (.engine e) 0x07 new.length

/-- The engine a set grows by (R147 rule 3): lowest load with room for the SC's keys, ties to the lower number. -/
def State.growBy (s : State) (k : Nat) : Option Nat :=
  let v := s.scSet k
  let need := s.scSlots k
  let ok := s.inService.filter (fun e => !v.engs.contains e &&
    decide ((s.eng e).keys.length + (need.filter (fun x => !(s.eng e).keys.contains x)).length ≤ 1024))
  ok.foldl (fun (a : Option Nat) e => match a with
    | none => some e
    | some b => if (s.eng e).load < (s.eng b).load then some e else some b) none

/-- Grow a set by up to n engines. -/
def State.growSet (s : State) (k n : Nat) : State :=
  match n with
  | 0 => s
  | n + 1 =>
    match s.growBy k with
    | some e => ((s.loadKeys e (s.scSlots k)).setScSet k { s.scSet k with engs := (s.scSet k).engs ++ [e] }).growSet k n
    | none => s

/-- The set of an SC at least of its size: growth is at once (R147 rule 2). A lower size waits for SET_SHRINK. -/
def State.fitSet (s : State) (k : Nat) : State :=
  let n := s.setSize k
  let v := s.scSet k
  let s1 := s.setScSet k { v with want := if n < v.engs.length then n else 0 }
  s1.growSet k (n - v.engs.length)

/-- An engine drops the keys no SC of it names (R139). -/
def State.dropKeys (s : State) (e : Nat) : State :=
  let rest := (s.yrd.sets.filter (fun v => v.2.engs.contains e)).flatMap (fun v => s.scSlots v.1)
  let g := s.eng e
  s.setEng e { g with keys := g.keys.filter (fun x => rest.contains x) }

/-- Remove an engine from an SC's set; it drops the keys no other SC of it names (R139, R148). -/
def State.leaveSet (s : State) (k e : Nat) : State :=
  (s.setScSet k { s.scSet k with engs := (s.scSet k).engs.filter (fun x => x != e) }).dropKeys e

/-- A key of an SC goes out of use: the engines of its set drop what no SC of them names (R139). -/
def State.trimKeys (s : State) (k : Nat) : State := (s.scSet k).engs.foldl State.dropKeys s

/-- A key of SC k goes into the cache of an engine of its set; an engine with no free entry among 1,024 leaves the set (R137,
R139). -/
def State.keyInto (s : State) (k e slot : Nat) : State :=
  if (s.eng e).keys.contains slot then s
  else if (s.eng e).keys.length < 1024 then s.loadKeys e [slot]
  else s.leaveSet k e

/-- Remove an engine from every set; sets below their size grow (R147, R153, R154). -/
def State.leaveAll (s : State) (e : Nat) : State :=
  let ks := (s.yrd.sets.filter (fun v => v.2.engs.contains e)).map (·.1)
  let s1 := ks.foldl (fun a k => a.leaveSet k e) s
  ks.foldl (fun a k => a.fitSet k) s1

/-- A segment of the frame is still in an engine. -/
def Frame.inEngine (f : Frame) : Bool := f.segs.any (fun g => !g.done)

/-! ## The ingress FIFO (R23, R39) -/

/-- The ingress port of a frame. -/
def Frame.ingress (f : Frame) : Option Nat :=
  match f.src with
  | .hostPort n => some n
  | .linePort n => some (64 + n)
  | _ => none

/-- Octets in a port's ingress FIFO: of frames that have not left stage 5; a parked frame holds none (R83, R154). -/
def State.fifoFill (s : State) (p : Nat) : Nat :=
  (s.frames.map (fun f => if f.ingress == some p && (f.stage == .fifo || f.stage == .waitPn || f.stage == .dispatch ||
    f.stage == .fetching || f.stage == .cipher || f.inEngine) then f.octets.length else 0)).sum

/-- Put a pause or PFC frame in front of a port's transmitter (R39). -/
def State.queueCtl (s : State) (p : Nat) (o : List Byte) : State :=
  s.setPort p { s.port p with macCtl := (s.port p).macCtl ++ [o] }

/-- A host port pauses its partner whole (R39). -/
def State.sendPause (s : State) (p : Nat) : State :=
  (s.setPort p { s.port p with pauseSent := true }).queueCtl p (pauseFrame (s.portMac p) 0xFFFF)

/-- A host port pauses priorities of its partner (R39); with none named it sends nothing. -/
def State.sendPfc (s : State) (p n : Nat) : State :=
  let e := BitVec.ofNat 8 n
  if e = 0#8 then s
  else (s.setPort p { s.port p with pfcSent := (s.port p).pfcSent ||| e }).queueCtl p (pfcFrame (s.portMac p) e 0xFFFF)

/-- The fill fell below XON (R39): quanta 0, or time 0 for every priority paused. -/
def State.sendXon (s : State) (p : Nat) : State :=
  let q := s.port p
  let t := s.setPort p { q with pauseSent := false, pfcSent := 0#8 }
  match s.fld F.HPT_FC_MODE p with
  | 1 => if q.pauseSent then t.queueCtl p (pauseFrame (s.portMac p) 0) else t
  | 2 => if q.pfcSent = 0#8 then t else t.queueCtl p (pfcFrame (s.portMac p) q.pfcSent 0)
  | _ => t

/-- The threshold rules of R39 after a host port's fill changed: a frame at each rise to a threshold, XON below the third. -/
def State.noteFill (s : State) (p : Nat) : State :=
  if 64 ≤ p then s
  else
    let n := s.fifoFill p
    let m := s.fld F.HPT_FC_MODE p
    let low := decide (s.fld F.HPT_FC_THR_XOFF_LOW p * 256 ≤ n)
    let high := decide (s.fld F.HPT_FC_THR_XOFF_HIGH p * 256 ≤ n)
    let q := s.port p
    let s0 := s.setPort p { q with xoffLow := low, xoffHigh := high }
    let s1 := if low && !q.xoffLow && m == 2 then s0.sendPfc p (s.fld F.HPT_FC_PFC_LOW p) else s0
    let s2 := if high && !q.xoffHigh then
        (if m = 1 then s1.sendPause p else if m = 2 then s1.sendPfc p (s.fld F.HPT_FC_PFC_EN p) else s1)
      else s1
    if n < s.fld F.HPT_FC_THR_XON p * 256 ∧ ((s2.port p).pauseSent ∨ (s2.port p).pfcSent ≠ 0#8) then s2.sendXon p else s2

/-! ## The reorder store (R149) -/

/-- Cells a completed frame takes. -/
def cellsOf (n : Nat) : Nat := (n + 255) / 256

/-- Free reorder cells. -/
def State.roFree (s : State) : Nat :=
  32768 - ((s.frames.map (fun f => if f.stage == .reorder then cellsOf f.outOct.length else 0)).sum)

/-- Note the store's fill: restricted dispatch begins below 40 free cells and ends at 80; lowest since each read. -/
def State.noteRo (s : State) : State :=
  let n := s.roFree
  let m := [0, 1, 2].foldl (fun t g => Tab.put (fun _ => 32768) t g (min (Tab.look (fun _ => 32768) t g) n)) s.pwr.minRo
  let s1 := { s with pwr := { s.pwr with minRo := m } }
  if n < 40 && !s1.yrd.restricted then
    (({ s1 with yrd := { s1.yrd with restricted := true } }).count .yrd 0 0 9).setInt .YRD_INT_STAT 3
  else if 80 ≤ n && s1.yrd.restricted then { s1 with yrd := { s1.yrd with restricted := false } }
  else s1

/-- No earlier frame of the SC is still before its release (R24). -/
def State.firstInLine (s : State) (f : Frame) : Bool :=
  s.frames.all (fun g => g.id == f.id || g.sc != f.sc || decide (f.seqNo ≤ g.seqNo) || g.enc != f.enc ||
    !(g.stage == .dispatch || g.stage == .fetching || g.stage == .cipher || g.stage == .reorder || (g.stage == .held && g.inEngine)))

/-! ## Frame cost and segments (R25, R138, R145) -/

/-- The frame cost in engine handshakes (R25). -/
def frameCost (l : Nat) : Nat := (l + 15) / 16 + 2

/-- The ciphertext length of a frame (R21, R25). -/
def State.ctLen (s : State) (f : Frame) : Nat := if f.enc then s.cipherLen f.secy f.octets.length else f.octets.length

/-- Segments a frame needs on a set of n engines (R145). -/
def segCount (l n : Nat) : Nat := if 512 < l ∧ 2 ≤ n then (l + 511) / 512 else 1

/-- The cost of segment j of k of a frame: 32 handshakes, the rest in the last, two more with segment 0. -/
def segCost (l j k : Nat) : Nat :=
  let b := (l + 15) / 16
  (if j + 1 = k then b - 32 * (k - 1) else 32) + (if j = 0 then 2 else 0)

/-- The load position a segmented frame starts from: the least-loaded engine of the set. -/
def State.lightest (s : State) (l : List Nat) : Nat :=
  (l.zipIdx.foldl (fun (a : Nat × Nat) e => if (s.eng e.1).load < a.2 then (e.2, (s.eng e.1).load) else a)
    (0, (s.eng (l.headD 0)).load)).1

/-- The engine of a set with the most free slots, ties to the lower number (R147). -/
def State.mostFree (s : State) (l : List Nat) : Option Nat :=
  l.foldl (fun (a : Option Nat) e => match a with
    | none => some e
    | some b =>
      let x := (s.eng e).slots.length
      let y := (s.eng b).slots.length
      if x < y || (x == y && decide (e < b)) then some e else some b) none

/-- Every engine of an SC's set holds 12 frames (R23, R295). -/
def State.setFull (s : State) (k : Nat) : Bool :=
  !(s.scSet k).engs.isEmpty && (s.scSet k).engs.all (fun e => decide (12 ≤ (s.eng e).slots.length))

/-- Place segment j of a frame in an engine when a slot is free. -/
def State.placeSeg (s : State) (id j e : Nat) : State :=
  match s.frame? id with
  | none => s
  | some f =>
    let g := s.eng e
    if g.slots.length < 12 && g.mode == .inService then
      let s1 := s.setEng e { g with slots := g.slots ++ [(id, j)] }
      let s2 := s1.setFrame { f with segs := f.segs ++ [⟨j, e, false⟩] }
      s2.obsEvent (.engine e) (if j = 0 then 0x05 else 0x06)
    else s

/-- The segments of a frame not yet placed, of k. -/
def Frame.missing (f : Frame) (k : Nat) : List Nat := (List.range k).filter (fun j => !f.segs.any (fun g => g.j == j))

/-- A frame's bindings give its key and IV; the octets it leaves stage 5 with, the ICV result and a TPID mismatch (R14, R77-R79,
R90). A received frame without a SecTAG leaves as it came. -/
def State.render (s : State) (f : Frame) : Frame × Bool × Bool :=
  if f.enc then
    match f.sa with
    | some k => let (o, cf) := s.protect f k; ({ f with outOct := o, icvOk := true }, cf, false)
    | none => ({ f with outOct := f.octets, icvOk := true }, false, false)
  else
    if f.rx == .untagged then ({ f with outOct := f.octets, icvOk := true }, false, false)
    else
      let key := match f.sa, f.rsc with
        | some k, some r =>
          let a := s.sa k
          if f.rx == .tagged then
            some (s.saKey f.slot, gcmIv (s.xpn f.secy) (s.rsc r).sci.toNat a.ssci.toNat a.salt.toNat f.pn.toNat)
          else none
        | _, _ => none
      let (o, ok, miss) := s.unprotect f f.secy key
      ({ f with outOct := o, icvOk := ok }, false, miss)

/-- The frame waits at stage 3 for an engine of a full set, or for a cold SA (R16, R23): later frames of its ingress port wait
behind it. -/
def State.waitsAt3 (s : State) (f : Frame) : Bool :=
  f.stage == .fetching ||
  (f.stage == .dispatch && (s.setFull f.sc || (match f.sa with
    | some a => !(s.sa a).hot
    | none => false)))

/-- An earlier frame of the frame's ingress port waits at stage 3 (R16, R23). -/
def State.behind (s : State) (f : Frame) : Bool :=
  f.ingress.isSome && s.frames.any (fun g => g.ingress == f.ingress && decide (g.id < f.id) && s.waitsAt3 g)

/-- The fetch of a cold SA is running for another frame. -/
def State.fetchRuns (s : State) (a : Nat) : Bool := s.frames.any (fun g => g.sa == some a && g.stage == .fetching)

/-- A hot SA is dispatched under: it is the most recent, and its demotion is cancelled (R147 rule 4, R148). A hot record more
than the budget begins another demotion. -/
def State.useSa (s : State) (a : Nat) : State :=
  let un := { s.yrd with useNo := s.yrd.useNo + 1 }
  let s1 := ({ s with yrd := un }).setSa a { s.sa a with lastUse := s.yrd.useNo + 1, demoting := false }
  if 16384 < s1.hotCount then s1.demote 3 else s1

/-- Place a frame's segments in the engines of its set, each while a slot is free (R145, R147); the frame is in the cipher once
all are placed. -/
def State.placeFrame (s : State) (f : Frame) : State :=
  let set := (s.scSet f.sc).engs
  let n := segCount (s.ctLen f) set.length
  let f1 := if f.segs.isEmpty && decide (1 < n) then { f with segBase := s.lightest set } else f
  let s2 := s.setFrame f1
  let s3 := if n = 1 then
      match s2.mostFree set with
      | some e => s2.placeSeg f.id 0 e
      | none => s2
    else (f1.missing n).foldl (fun t j => t.placeSeg f.id j (set.getD ((j + f1.segBase) % set.length) 0)) s2
  match s3.frame? f.id with
  | none => s3
  | some f2 =>
    if (f2.missing n).isEmpty then
      let (f3, _, _) := s3.render f2
      let s4 := s3.setFrame { f3 with stage := .cipher }
      let s5 := if 1 < n ∧ !f.refetch then s4.count .yrd 0 0 7 else s4
      if f.refetch then s5.count .yrd 0 0 5 else s5
    else if f2.segs.length = f.segs.length ∧ set != [] ∧ !f2.waited then
      (s3.setFrame { f2 with waited := true }).obsEvent (.port (if f.enc then f.hport.getD (64 + f.lport) else 64 + f.lport)) 0x06
    else s3

/-- Dispatch a frame at stage 3 (R11, R16, R23, R24, R145, R147): it waits behind an earlier frame of its port that waits there,
and in restricted dispatch until it is first in line; a cold SA is fetched first; the keys of its SC are loaded. -/
def State.dispatch (s : State) (f : Frame) : State :=
  let k := f.sc
  if s.behind f || (s.yrd.restricted && !s.firstInLine f) then s
  else
    match f.sa with
    | none => (s.fitSet k).placeFrame f
    | some a =>
      if !(s.sa a).hot then
        let s1 := s.setFrame { f with stage := .fetching }
        if s.fetchRuns a then s1 else s1.count .yrd 0 0 0
      else
        let s1 := (s.useSa a).fitSet k
        ((s1.scSet k).engs.foldl (fun t e => t.keyInto k e f.slot) s1).placeFrame f

/-- The n handshakes of a segment that leaves an engine: its load, the class of R352 (1 RETIRED, 2 WASTED), and those of them
that CYC has not yet counted. -/
def State.credit (s : State) (e n cls : Nat) : State :=
  let g := s.eng e
  (s.setEng e { g with
    work := g.work + n
    busy := g.busy - n
    cyc := if s.obsRuns then g.cyc + BitVec.ofNat 64 (n - g.busy) else g.cyc }).obsEvent (.engine e) cls n

/-- The handshakes of the segments an engine holds. -/
def State.owed (s : State) (e : Nat) : Nat :=
  ((s.eng e).slots.map (fun x => match s.frame? x.1 with
    | some f => segCost (s.ctLen f) x.2 f.segs.length
    | none => 0)).sum

/-- An engine whose domain is off: no pace and no keys (R140). -/
def Eng.dark (g : Eng) : Eng := { g with pace := 0, paceMin := 0, paceLow := [], keys := [], slowAt := none, offPend := false }

/-- A segment leaves its engine's slot; the domain of an engine shed goes off with its last one (R153). -/
def State.freeSeg (s : State) (id j e : Nat) : State :=
  let g := { s.eng e with slots := (s.eng e).slots.filter (fun p => p != (id, j)) }
  let h := if g.slots.isEmpty then { g with busy := 0 } else g
  s.setEng e (if g.offPend && g.slots.isEmpty then h.dark else h)

/-- A frame's undone segments leave their engines without completing (R352 WASTED). -/
def State.dropSegs (s : State) (f : Frame) (only : Option Nat) : State :=
  let l := s.ctLen f
  let n := f.segs.length
  (f.segs.filter (fun g => !g.done && (only.isNone || only == some g.eng))).foldl (fun t g =>
    (t.credit g.eng (segCost l g.j n) 2).freeSeg f.id g.j g.eng) s

/-- The result of a ring's frame is known (R331): it waits for its write-back in ring order. -/
def State.dsc (s : State) (f : Frame) (res : Nat) (t : Int) : State :=
  match f.src, f.ringDsc with
  | .ring r, some d =>
    let g := s.ring r
    let irq := match g.flight.find? (fun e => e.1 == d) with
      | some e => e.2
      | none => false
    let s1 := s.setRing r { g with done := g.done ++ [(d, t, res, irq)] }
    match res with
    | 0 => (s1.count .hfr 0 r 0).count .hfr 0 r 1 (bodyOf f.octets).length
    | 1 => ((s1.count .hfr 0 r 0).count .hfr 0 r 1 (bodyOf f.octets).length).count .hfr 0 r 2
    | 2 => s1.count .hfr 0 r 2
    | _ => s1.count .hfr 0 r res
  | _, _ => s

/-- A frame ends before it is sent: its engine slots, queue place and pages are given back (R14). -/
def State.endFrame (s : State) (f : Frame) (res : Nat := 6) : State :=
  let s1 := (s.dropSegs f none).dsc f res 0
  let s2 := if f.stage == .queued || f.stage == .parked then
      s1.unqueue f.queue f
    else s1.giveBack f.pages
  let q := s2.port f.egress
  let s3 := if q.ctlFifo.contains f.id then s2.setPort f.egress { q with ctlFifo := q.ctlFifo.filter (fun i => i != f.id) } else s2
  let s4 := (s3.rmFrame f.id).noteRo
  match f.ingress with
  | some p => s4.noteFill p
  | none => s4

/-- A frame past stage 2, and so bound (R14). -/
def Frame.bound (f : Frame) : Bool := f.stage != .fifo && f.stage != .waitPn && f.stage != .parked

/-- Every bound frame ends (R129, R228, R241). -/
def State.endBound (s : State) : State := (s.frames.filter Frame.bound).foldl (fun t f => t.endFrame f) s

/-! ## Capacity (R142, R151, R155) -/

/-- C: the sum of pace over the engines in service, M handshakes/s. -/
def State.capacity (s : State) : Nat := (s.inService.map (fun e => (s.eng e).pace)).sum

/-- The committed rate of a shaper: CRATE, or RATE where CRATE is 0 (R165). -/
def Bucket.committed (b : Bucket) : Nat := if b.crate = 0 then b.rate else b.crate

/-- The committed demand of a list of classes in both directions, handshakes/s (R151). -/
def State.committedDemand (s : State) (cs : List Nat) : Nat :=
  let n := s.fld F.YRD_CTL_PLAN_LEN
  let r := (s.tmg.buckets.filter (fun e => decide (e.1 < 16128) && cs.contains (queueClass e.1))).map (fun e => e.2.committed)
  if n = 0 then 0 else r.sum * 1000000 * frameCost n / (8 * n)

/-- Engines that num percent of a demand d need at the lowest pace, at least two (R155). -/
def State.engsFor (s : State) (num d : Nat) : Nat :=
  let p := s.lowPace * 1000000
  if p = 0 then 64 else max 2 ((num * d + 100 * p - 1) / (100 * p))

/-- Engines kept at the present stage from S4 (R155): at S6 as at S5. -/
def State.enginesKept (s : State) : Option Nat :=
  if s.pwr.stage < 4 then none
  else if s.pwr.stage = 4 then some (s.engsFor 125 (s.committedDemand [6, 7]))
  else
    match s.pwr.stage, s.yrd.keptS5 with
    | 6, some n => some n
    | _, _ => some (s.engsFor 110 (s.committedDemand [7]))

/-- Of engines a and b the one kept first: higher pace, then lower number. -/
def State.betterEng (s : State) (a b : Nat) : Bool :=
  decide ((s.eng b).pace < (s.eng a).pace) || ((s.eng a).pace == (s.eng b).pace && decide (a < b))

/-- Frames of an engine that ends its service by shedding complete there; with none its domain goes off (R153). -/
def State.shedEngine (s : State) (e : Nat) : State :=
  let s1 := (s.setEng e { s.eng e with mode := .shedOff, offPend := true }).leaveAll e
  if (s1.eng e).slots.isEmpty then s1.setEng e (s1.eng e).dark else s1

/-- Keep the n best engines in service and shed the rest (R155), n computed anew and kept for S6. Engines wanted back wait for
ENGINE_WAKE_DONE. -/
def State.shedEngines (s : State) : State :=
  let n := s.enginesKept
  let s1 := { s with yrd := { s.yrd with keptS5 := if s.pwr.stage < 5 then none else n } }
  match n with
  | none => s1
  | some n =>
    let l := s1.inService
    let out := l.filter (fun e => decide (n ≤ (l.filter (fun x => s1.betterEng x e)).length))
    out.foldl State.shedEngine s1

end Sys2Proof.Machine
end

