-- ==== Sys2Proof/Machine/Sa.lean ====
section
/-!
DEFINITION. SAs and receive SCs as they come and go (04, 07): placement and pinning of an SA (R147), install, retire, raise,
switch (R81, R83, R91, R92), the receive-SC map entry of an installed SC (R68, R72).
-/

namespace Sys2Proof.Machine

/-! ## Placement (R139, R147) -/

/-- An SA has become hot: its key is loaded into every engine of its SC's set (R139). -/
def State.warm (s : State) (k : Nat) : State :=
  let c := saSc k
  (s.scSet c).engs.foldl (fun t e => t.keyInto c e (s.sa k).slot) s

/-- Pin an SA hot (R147 rule 1): an unpinned hot SA gives way when the budget is full. -/
def State.pinHot (s : State) (k : Nat) : State :=
  let s1 := if 16384 ≤ s.hotCount && !(s.sa k).hot then s.demote 3 else s
  let t := s1.setSa k { s1.sa k with hot := true, pinned := true, demoting := false }
  if (s.sa k).hot then t else t.warm k

/-- Place an SA (R147 rules 1 and 4): pinned hot for class 7 while pins remain, hot while the budget lasts or a lower group
gives way, else cold. -/
def State.place (s : State) (k : Nat) : State :=
  if s.saClass k = 7 ∧ s.pinCount < 8192 then s.pinHot k
  else
    let s0 := if s.saClass k = 7 then (s.count .yrd 0 0 10).setInt .YRD_INT_STAT 2 else s
    let s1 := if s0.hotCount < 16384 then s0 else s0.demote (s0.placeRank k)
    if s1.hotCount < 16384 && !(s1.sa k).hot then (s1.setSa k { s1.sa k with hot := true }).warm k else s1

/-- A pin has come free: the lowest class 7 SA that is not pinned takes it (R147 rule 1). -/
def State.pinNext (s : State) : State :=
  if 8192 ≤ s.pinCount then s
  else
    match s.sas.find? (fun e => e.2.installed && !e.2.pinned && s.saClass e.1 == 7) with
    | some e => s.pinHot e.1
    | none => s

/-- The classes of SCs have changed since state old (a bank switch): SAs that are class 7 now are placed as such, SAs that are
not lose their pin (R147 rule 1). -/
def State.repin (s old : State) : State :=
  let s1 := s.sas.foldl (fun t e => if e.2.pinned && t.saClass e.1 != 7 then t.setSa e.1 { t.sa e.1 with pinned := false } else t) s
  s1.sas.foldl (fun t e =>
    if e.2.installed && !e.2.pinned && t.saClass e.1 == 7 && old.saClass e.1 != 7 then t.place e.1 else t) s1

/-! ## SA commands (R81, R83, R91, R92) -/

/-- Bound frames of an SA that have not left the engine at stage 5 (R92): before it, or with a segment still in an engine. -/
def State.boundTo (s : State) (k : Nat) : Bool :=
  s.frames.any (fun f => f.sa == some k && (f.stage == .dispatch || f.stage == .fetching || f.stage == .cipher || f.inEngine))

/-- Set a SecY's current SA and clear STOPPED when that SA can issue (R81, R83). -/
def State.makeCurrent (s : State) (n an : Nat) : State :=
  s.setSecy n { s.secy n with txAn := an, txValid := true, stopped := (s.sa (n * 4 + an)).stopped }

/-- Record a PN event in SEC_EVT and INT_STAT: bit 0 PN_THR, bit 1 PN_STOP (R82, R83). -/
def State.pnEvent (s : State) (k b : Nat) : State :=
  (s.setWord .SEC_EVT (BitVec.ofNat 32 (2 ^ 31 + b * 2 ^ 30 + k))).setInt .SEC_INT_STAT b

/-- The SecY is STOPPED at its current SA (R83). -/
def State.stopSecy (s : State) (n : Nat) : State :=
  (s.setSecy n { s.secy n with stopped := true }).pnEvent (n * 4 + (s.secy n).txAn) 1

/-- A stopped SA is current (R83): the SecY switches at once to an armed installed SA, or is STOPPED. An armed SA that is
itself stopped is current then, and none is armed any more. -/
def State.handleStop (s : State) (n : Nat) : State :=
  let y := s.secy n
  let p := s.sa (n * 4 + y.pendAn)
  if y.txValid && (s.sa (n * 4 + y.txAn)).stopped then
    if y.pendValid && p.installed then
      let t := ((s.setSecy n { y with pendValid := false }).makeCurrent n y.pendAn).setInt .SEC_INT_STAT 3
      if p.stopped then t.stopSecy n else t
    else s.stopSecy n
  else s

/-- Frames of a SecY that were parked wait for their PN again, in arrival order (R83). -/
def State.unpark (s : State) (n : Nat) : State :=
  if (s.secy n).stopped then s
  else { s with frames := s.frames.map (fun f => if f.secy == n && f.stage == .parked then { f with stage := .waitPn } else f) }

/-- Switch a SecY to AN an (R81, R91). -/
def State.switchTo (s : State) (n an : Nat) : State :=
  ((s.makeCurrent n an).handleStop n).unpark n

/-- Mirror an SA command (R234, kind 0x11). -/
def State.tellSa (s : State) (op k : Nat) : State := s.tell 0x11 (.saCmd op k (s.sa k).pn)

/-- Clear an SA's counters (R91). -/
def State.zeroSaCnt (s : State) (k : Nat) : State :=
  { s with cnts := [0, 1, 2].foldl (fun c n => c.put (fun _ => 0#64) (cntKey .sec 3 k n) 0#64) s.cnts }

/-- The SA a frame was bound to (R14): the record at its index, or the drained one that a later install replaced. -/
def State.boundSa (s : State) (f : Frame) (k : Nat) : Sa :=
  if (s.sa k).inst = f.inst then s.sa k else s.ghosts.look (fun _ => {}) f.inst

/-- An install replaces the drained record at k: it is kept while a received frame bound to it awaits its verdict (R14). -/
def State.keepOld (s : State) (k : Nat) : State :=
  let g := s.ghosts.filter (fun e => s.frames.any (fun f => f.inst == e.1))
  let a := s.sa k
  { s with ghosts := if s.frames.any (fun f => f.inst == a.inst && f.sa == some k && f.verdict == .unknown) then
      Tab.put (fun _ => {}) g a.inst a else g }

/-- An SA record is put in place (R91): next PN or L, H and D zero, its counters zero, placed hot or cold. -/
def State.putSa (s : State) (k slot pn : Nat) (ssci : W32) (salt : BitVec 96) : State :=
  let s0 := s.keepOld k
  let s1 := ({ s0 with instNo := s.instNo + 1 }).setSa k
    { installed := true, drained := false, slot := slot, pn := pn, ssci := ssci, salt := salt, inst := s.instNo + 1 }
  (s1.zeroSaCnt k).place k

/-- Install an SA record (R91): transmit next PN with its first lease, or receive L with H and D zero. -/
def State.installSa (s : State) (k slot pn : Nat) (ssci : W32) (salt : BitVec 96) : State :=
  let s2 := (s.putSa k slot pn ssci salt).tellSa 2 k
  if k < 8192 then s2.firstLease k else s2

/-- An SA without bound frames loses its placed state: its pin goes to another, its key leaves the caches, its slot may be freed
(R92, R124, R139, R147). -/
def State.freeSa (s : State) (k : Nat) : State :=
  let a := s.sa k
  let s1 := (s.setSa k { a with hot := false, pinned := false, demoting := false }).trimKeys (saSc k)
  (if a.pinned then s1.pinNext else s1).reapSlot a.slot

/-- Retire an SA (R92). Its transmit SecY loses its current SA; a stopped SecY stays parked. -/
def State.retireSa (s : State) (k : Nat) : State :=
  let a := s.sa k
  if a.installed then
    let bound := s.boundTo k
    let s1 := s.setSa k { a with installed := false, retired := bound, drained := !bound, demoting := false }
    let n := k / 4
    let s2 := if k < 8192 && (s1.secy n).txAn == k % 4 then s1.setSecy n { s1.secy n with txValid := false } else s1
    let s3 := s2.tellSa 3 k
    if bound then s3 else s3.freeSa k
  else s

/-- The last bound frame of a retired SA has left stage 5: DRAINED sets, and its slot's REFS falls (R92, R124). -/
def State.drainSa (s : State) (k : Nat) : State :=
  let a := s.sa k
  if a.retired && !s.boundTo k then (s.setSa k { a with retired := false, drained := true }).freeSa k else s

/-- Raise an SA's next PN or L (R91). A stop is lifted by no command (R83). -/
def State.raiseSa (s : State) (k pn : Nat) : State :=
  let s1 := (s.setSa k { s.sa k with pn := pn }).tellSa 4 k
  if k < 8192 then
    if (s1.sa k).lease < pn then s1.firstLease k else s1.leaseCheck k
  else s1

/-! ## Receive SCs (R68, R72) -/

/-- The valid SecYs of a line port. -/
def State.secysOn (s : State) (lp : Nat) : List Nat := (List.range 2048).filter (fun n => s.secyValid n && s.secyLine n == lp)

/-- MKA sets IMPLICIT on the receive SC it installs on a line port in P2P mode with a single SecY while none carries it (R72). -/
def State.impFor (s : State) (lp : Nat) : Bool :=
  s.fld F.CLS_LP_MODE_MODE lp == 0 && (s.secysOn lp).length == 1 && (s.implicitRsc lp).isNone

/-- The CLASS of the map entry of a receive SC of SecY n (R68): the lowest class whose selection entry names it. -/
def State.mapClass (s : State) (n : Nat) : Nat :=
  ((List.range 8).find? (fun c => s.selSecy (s.secyLine n) c == some n)).getD 0

/-- The PEER of the map entry of receive SC r on a line port (R68). -/
def State.mapPeer (s : State) (lp r : Nat) : Nat :=
  let d := s.fld F.CLS_LP_MODE_DEF_PEER lp
  let f := s.fld F.CLS_LP_MODE_FLOOD_PEER lp
  let used := s.rscs.filterMap (fun e =>
    if e.2.valid && e.1 != r && s.secyLine e.2.secy == lp then (s.rscMap (lp / 16) e.1).map (·.2) else none)
  if s.fld F.CLS_LP_MODE_MODE lp = 0 then d
  else ((s.peersOf lp).find? (fun p => p != d && p != f && !used.contains p)).getD f

/-- Install a receive SC: firmware writes its map entry first, in every slice (R68, R72). -/
def State.installRsc (s : State) (r secy : Nat) (sci : W64) (imp : Bool) : State :=
  let w := withP (2 ^ 30 + s.mapClass secy * 2 ^ 27 + s.mapPeer (s.secyLine secy) r)
  (s.setClsAll 9 0 r w).setRsc r { valid := true, implicit := imp, secy := secy, sci := sci }

/-- A receive SC is removed: its map entry's VALID clears (R68). -/
def State.removeRsc (s : State) (r : Nat) : State := (s.setRsc r {}).setClsAll 9 0 r 0#32

/-- Whether any SA of a receive SC is installed or undrained (R92). -/
def State.rscBusy (s : State) (r : Nat) : Bool :=
  [0, 1, 2, 3].any (fun a => let x := s.sa (8192 + r * 4 + a); x.installed || x.retired)

end Sys2Proof.Machine
end

