-- ==== Sys2Proof/Machine/Cel.lean ====
section
/-!
DEFINITION. The cellar (09): line addresses and the rind (R175-R176, R183), ciphers and tags (R181, R182), the metadata cache
(R186), line reads and writes (R184), errors (R189-R191, R196), node copies (R185), regions (R177), stacks in service (R193-R195),
ST09 (R197), the counters' accumulators (R187), frames in buffer pages (R167).
-/

namespace Sys2Proof.Machine

/-! ## Lines (R175, R176, R183) -/

/-- First line index of height h: 0 data lines, h node lines of level h - 1. -/
def hBase (h : Nat) : Nat :=
  match h with
  | 0 => 0
  | 1 => 0x2A930000
  | 2 => 0x2F4E0000
  | 3 => 0x2FE56000
  | 4 => 0x2FF84C00
  | 5 => 0x2FFAA980
  | 6 => 0x2FFAF530
  | _ => 0x2FFAFEA6

/-- The line address of line n of height h on a stack. -/
def hAddr (st h n : Nat) : Nat := st * 2 ^ 38 + hBase h + n

/-- First tag line. -/
def tagBase : Nat := 0x25D80000

/-- First line of the spare area. -/
def spareBase : Nat := 0x2FFAFEA6

def lineStk (a : Nat) : Nat := a / 2 ^ 38 % 4
def lineIdx (a : Nat) : Nat := a % 2 ^ 30

/-- What a line index holds (R176): a data line, a tag line, a node line of height h, or a spare line. -/
inductive LineKind where
  | data (d : Nat) | tag (t : Nat) | node (h n : Nat) | spare
deriving DecidableEq, Repr

def lineKind (i : Nat) : LineKind :=
  if i < tagBase then .data i
  else if i < hBase 1 then .tag (i - tagBase)
  else if i < hBase 2 then .node 1 (i - hBase 1)
  else if i < hBase 3 then .node 2 (i - hBase 2)
  else if i < hBase 4 then .node 3 (i - hBase 3)
  else if i < hBase 5 then .node 4 (i - hBase 4)
  else if i < hBase 6 then .node 5 (i - hBase 5)
  else if i < spareBase then .node 6 (i - hBase 6)
  else .spare

/-- The tag line of data line d. -/
def tagAddr (st d : Nat) : Nat := st * 2 ^ 38 + tagBase + d / 8

/-- The j-th 64-bit value of a line: octets 8j to 8j + 7 (R183), least significant octet first (log entry 16). -/
def slotOf (w : BitVec 512) (j : Nat) : Nat := (w >>> (64 * (j % 8))).toNat % 2 ^ 64

/-- Replace the j-th 64-bit value of a line. -/
def setSlot (w : BitVec 512) (j v : Nat) : BitVec 512 :=
  BitVec.ofNat 512 (w.toNat - slotOf w j * 2 ^ (64 * (j % 8)) + v % 2 ^ 64 * 2 ^ (64 * (j % 8)))

/-! ## The metadata cache (R186) -/

/-- A line stands in the metadata cache. -/
def State.cached (s : State) (a : Nat) : Bool := s.cel.used.contains a

/-- The current content of a tag or node line. -/
def State.metaLine (s : State) (a : Nat) : BitVec 512 :=
  if s.cached a then s.cel.cache.look (fun _ => 0) a else s.cel.lines.look (fun _ => 0) a

/-- Bring a line into the cache, as its newest entry. -/
def State.fill64 (s : State) (a : Nat) (w : BitVec 512) : State :=
  { s with cel := { s.cel with cache := s.cel.cache.put (fun _ => 0) a w, used := s.cel.used.filter (fun x => x != a) ++ [a] } }

/-- Change a line in the cache: it is dirty until it is written back. -/
def State.dirty64 (s : State) (a : Nat) (w : BitVec 512) : State :=
  let t := s.fill64 a w
  { t with cel := { t.cel with dirty := if t.cel.dirty.contains a then t.cel.dirty else t.cel.dirty ++ [a] } }

/-- Count a metadata-cache hit or miss (R352). -/
def State.celHit (s : State) (a : Nat) : State := s.obsEvent .cellar (if s.cached a then 1 else 2) 1 (lineStk a)

/-! ## Versions (R180, R183) -/

/-- A word of the on-die levels: the version of line n of height h, 6 to 9; height 9 has its versions in the rind root (R183). -/
def dieKey (h n : Nat) : Nat := h * 2 ^ 32 + n

/-- The version held for line n of height h in its parent: in the stack, or on die for levels 5-8. -/
def State.verOf (s : State) (st h n : Nat) : Nat :=
  if 6 ≤ h then (s.stk st).nodes.look (fun _ => 0) (dieKey h n)
  else slotOf (s.metaLine (hAddr st (h + 1) (n / 8))) (n % 8)

/-- Hold a version for line n of height h: on die in both arrays, or in the cached parent. -/
def State.setVer (s : State) (st h n v : Nat) : State :=
  if 6 ≤ h then
    let k := s.stk st
    s.setStk st { k with nodes := k.nodes.put (fun _ => 0) (dieKey h n) v, nodes2 := k.nodes2.put (fun _ => 0) (dieKey h n) v }
  else
    let a := hAddr st (h + 1) (n / 8)
    s.dirty64 a (setSlot (s.metaLine a) (n % 8) v)

/-- A line of the on-die levels 6-9 is restored from the second array (R183, R190): its eight words. -/
def State.dieRestore (s : State) (st level i : Nat) : State :=
  let k := s.stk st
  s.setStk st { k with nodes := (List.range 8).foldl (fun (t : Tab Nat) j =>
    t.put (fun _ => 0) (dieKey level (8 * i + j)) (k.nodes2.look (fun _ => 0) (dieKey level (8 * i + j)))) k.nodes }

/-- Take a new version of a stack: the write sequence's value (R180). -/
def State.newVer (s : State) (st : Nat) : Nat × State :=
  let k := s.stk st
  (k.seq, s.setStk st { k with seq := k.seq + 1 })

/-! ## Ciphers and tags (R181, R182) -/

def State.celKeys (s : State) : List Byte := s.cel.keys.getD (zeros 128)

/-- The octets of a line, octet 0 first. -/
def lineOct (w : BitVec 512) : List Byte := leOctets 64 w.toNat

/-- The line that octets spell. -/
def octLine (l : List Byte) : BitVec 512 := BitVec.ofNat 512 (leNat l)

/-- Encrypt or decrypt a line in native mode. -/
def State.native (s : State) (enc : Bool) (a v : Nat) (w : BitVec 512) : BitVec 512 :=
  let tweak := leOctets 16 (a + v * 2 ^ 40)
  let key := s.celKeys.take 64
  octLine (if enc then xtsEnc key tweak (lineOct w) else xtsDec key tweak (lineOct w))

/-- The keystream of a line XORed onto it. -/
def State.keystream (s : State) (a v : Nat) (w : BitVec 512) : BitVec 512 :=
  let key := (s.celKeys.drop 64).take 32
  let ks := ((List.range 4).map (fun j => aesEnc key (beOctets 5 a ++ beOctets 8 v ++ beOctets 3 j))).flatten
  octLine (xorL (lineOct w) ks)

/-- The tag of a stored line; dom is 0 for data lines, 1 for node lines. -/
def State.lineTag (s : State) (a v dom : Nat) (w : BitVec 512) : Nat :=
  let key := s.celKeys.drop 96
  let h := blkBits (aesEnc key (zeros 16))
  let e := blkBits (aesEnc key (beOctets 5 a ++ beOctets 8 v ++ beOctets 3 dom))
  (e ^^^ ghash h 0 (blocks16 (lineOct w))).toNat / 2 ^ 64

/-- What check octets never written read as: ST09 writes every node line of levels 0-5 with eight versions 0 and its tag (R197); the
check octets of other lines are zero (R182). -/
def State.checkDef (s : State) (a : Nat) : W64 :=
  match lineKind (lineIdx a) with
  | .node _ _ => BitVec.ofNat 64 (s.lineTag a 0 1 0)
  | _ => 0#64

/-! ## Regions (R177, R178) -/

/-- The region that holds a data line. -/
def State.region? (s : State) (a : Nat) : Option Region :=
  s.cel.layout.find? (fun r => r.stack == lineStk a && decide (r.first ≤ lineIdx a) && decide (lineIdx a < r.first + r.lines))

/-- Protection of a region kind: 0 ENC+INT, 1 ENC, 2 NONE. -/
def State.prot (s : State) (kind : Nat) : Nat :=
  match kind with
  | 0 => s.fld F.CEL_RCFG_BUF_PROT
  | 8 => s.fld F.CEL_RCFG_DIAG_PROT
  | _ => 0

/-- Keystream mode of a region kind. -/
def State.ksMode (s : State) (kind : Nat) : Bool :=
  match kind with
  | 0 => s.flag F.CEL_RCFG_BUF_KS
  | 1 => s.flag F.CEL_RCFG_SA_KS
  | 2 => s.flag F.CEL_RCFG_CNT_KS
  | 3 => s.flag F.CEL_RCFG_OVT_KS
  | _ => false

/-- The region index of a line, for CEL_EVT; 0 for lines that are no data lines. -/
def State.regionOf (s : State) (a : Nat) : Nat :=
  match s.region? a with
  | some r => r.kind
  | none => 0

/-- A stack that answers accesses. -/
def State.stkUp (s : State) (k : Nat) : Bool := (s.stk k).mode == .on || (s.stk k).mode == .draining

/-! ## Poison (R190) -/

/-- A line is poisoned. -/
def State.isPoison (s : State) (a : Nat) : Bool :=
  s.cel.poison.any (fun l => decide (l.1 ≤ a) && decide (a < l.1 + l.2)) || (s.stk (lineStk a)).mode == .lost

/-- Ranges without lines a .. a + n - 1. -/
def cutRange (a n : Nat) (l : List (Nat × Nat)) : List (Nat × Nat) :=
  (l.map (fun r =>
    if a + n ≤ r.1 ∨ r.1 + r.2 ≤ a then [r]
    else (if r.1 < a then [(r.1, a - r.1)] else []) ++ (if a + n < r.1 + r.2 then [(a + n, r.1 + r.2 - (a + n))] else []))).flatten

def State.unpoison (s : State) (a n : Nat) : State := { s with cel := { s.cel with poison := cutRange a n s.cel.poison } }

/-! ## Stored lines (R184, R187) -/

/-- Store a line as the stack holds it. -/
def State.storeLine (s : State) (a : Nat) (w : BitVec 512) (check : W64 := 0#64) : State :=
  { s.count .cel 0 (lineStk a) 1 with cel := { s.cel with
      lines := s.cel.lines.put (fun _ => 0) a w
      check := s.cel.check.put s.checkDef a check } }

/-- What a stored data line decrypts to. -/
def State.plainOf (s : State) (a : Nat) (c : BitVec 512) : BitVec 512 :=
  match s.region? a with
  | none => 0
  | some r =>
    match s.prot r.kind with
    | 0 =>
      let v := s.verOf (lineStk a) 0 (lineIdx a)
      if v = 0 then 0 else if s.ksMode r.kind then s.keystream a v c else s.native false a v c
    | 1 => s.native false a 0 c
    | _ => c

/-! ## Copies (R185) -/

/-- Lines of levels 1-5. -/
def copyLines : Nat := 11337382

/-- The data line that holds the copy of node line i of stack st. -/
def State.copyAddr (s : State) (st i : Nat) : Option Nat :=
  let k := s.stk st
  match k.partner with
  | some p => if k.copyValid then some (p * 2 ^ 38 + k.copyBase + (i - hBase 2)) else none
  | none => none

/-- The partner of a stack: i XOR 1 when ON, else the lowest-numbered other ON stack. -/
def State.partnerOf (s : State) (i : Nat) : Option Nat :=
  let on := fun (k : Nat) => k != i && (s.stk k).mode == .on
  if on (i ^^^ 1) then some (i ^^^ 1) else [0, 1, 2, 3].find? on

/-- Give stack j its partner now: a new partner holds no complete copy yet. A second copy on one stack stands below the first
(log entry 16). -/
def State.rehomeOne (s : State) (fresh : Bool) (j : Nat) : State :=
  let k := s.stk j
  let p := if k.mode == .on || k.mode == .draining then s.partnerOf j else none
  if k.partner == p then s
  else
    let n := ((List.range 4).filter (fun i => i != j && (s.stk i).partner == p && p.isSome)).length
    s.setStk j { k with partner := p, copyValid := fresh && p.isSome, copyBase := 0x252B015A - n * copyLines }

/-- The RCOPY regions: index 4 + the hosting stack. -/
def State.copyRegions (s : State) : List Region :=
  (List.range 4).filterMap (fun j =>
    match (s.stk j).partner with
    | some p => some ⟨4 + p, p, (s.stk j).copyBase, copyLines⟩
    | none => none)

/-- Partners follow the stacks that are ON. -/
def State.rehome (s : State) (fresh : Bool) : State :=
  let t := [0, 1, 2, 3].foldl (State.rehomeOne · fresh ·) s
  { t with cel := { t.cel with layout := t.cel.layout.filter (fun r => decide (r.kind < 4) || r.kind == 8) ++ t.copyRegions } }

/-! ## Events (R199) -/

/-- Set CEL_INT_STAT bit b with its CEL_EVT record. Bits 5-8 name no line: LEVEL is 0 and the address the first of the stack, or 0
(log entry 16). -/
def State.celEvt (s : State) (b lvl a : Nat) : State :=
  let reg := if lvl = 7 then s.regionOf a else 0
  (((s.setWord .CEL_EVT (BitVec.ofNat 32 (2 ^ 31 + b * 2 ^ 27 + lvl * 2 ^ 24 + reg * 2 ^ 20))).setWord .CEL_EVT_ADDR_LO (wordOf a 0)).setWord
    .CEL_EVT_ADDR_HI (BitVec.ofNat 32 (a / 2 ^ 32 % 256))).setInt .CEL_INT_STAT b

/-! ## The counter region (R187; log entry 17) -/

/-- The CNT line that holds a counter: SecY n at n, line port 2048 +, receive SC 2112 +, SA 18496 +, MKA 92224 + 2 ca, TMG queue
96320 +, policer 112704 +, port 113728 +. -/
def cntLine (key : Nat) : Option Nat :=
  let c := key % 64
  let i := key / 64 % 2 ^ 20
  let kd := key / 2 ^ 26 % 4
  let b := key / 2 ^ 28
  if b = CntBlk.sec.ctorIdx then
    match kd with
    | 0 => some (2048 + i)
    | 1 => some i
    | 2 => some (2112 + i)
    | _ => some (18496 + i)
  else if b = CntBlk.mka.ctorIdx then some (92224 + 2 * i + c / 8)
  else if b = CntBlk.tmg.ctorIdx then
    match kd with
    | 0 => some (96320 + i)
    | 1 => some (112704 + i)
    | _ => some (113728 + i)
  else none

/-- The address of line n of a region that may stand in pieces. -/
def placeOf (l : List Region) (kind n : Nat) : Option Nat :=
  match l with
  | [] => none
  | r :: t =>
    if r.kind = kind then (if n < r.lines then some (r.stack * 2 ^ 38 + r.first + n) else placeOf t kind (n - r.lines))
    else placeOf t kind n

/-- What the CNT region holds of a counter. -/
def State.flushed (s : State) (key : Nat) : W64 := s.cel.cntFlushed.look (fun _ => 0#64) key

/-- A lost CNT line (R191): its counters restart from their accumulators. -/
def State.loseCnt (s : State) (n k : Nat) : State :=
  let hit := fun (key : Nat) => match cntLine key with
    | some l => decide (n ≤ l) && decide (l < n + k)
    | none => false
  let l := (s.cel.cntFlushed.filter (fun e => hit e.1)).map (·.1)
  l.foldl (fun t key =>
    { t with
      cnts := t.cnts.put (fun _ => 0#64) key (t.cnts.look (fun _ => 0#64) key - t.flushed key)
      cel := { t.cel with cntFlushed := t.cel.cntFlushed.put (fun _ => 0#64) key 0#64 } }) s

/-! ## What a poisoned line costs (R191) -/

/-- The cold placed state of SAs n .. n + k - 1 is lost: each is retired and MKA told. -/
def State.loseSas (s : State) (st n k : Nat) : State :=
  let l := (s.sas.filter (fun e => decide (n ≤ e.1) && decide (e.1 < n + k) && e.2.installed && !e.2.hot)).map (·.1)
  l.foldl (fun t x => ((t.retireSa x).notice (.saLost x)).count .cel 0 st 13) s

/-- OVT lines derived from the image: one for each 64 octets of the running copy's blocks, from the region's first line; firmware logs
take the rest (log entry 16). -/
def State.ovtImage (s : State) : Nat := s.flash.digests.length / 48 * 1024

/-- The effect of lost lines of one region: relative lines n .. n + k - 1 of it (R191). BUF is seen at the dequeue; DIAG and
firmware logs read as poisoned; node copies are rebuilt from their primaries. -/
def State.loseIn (s : State) (r : Region) (n k : Nat) : State :=
  match r.kind with
  | 1 => s.loseSas r.stack n k
  | 2 => (s.loseCnt n k).count .cel 0 r.stack 14 (min k (113856 - n))
  | 3 =>
    let m := min (n + k) s.ovtImage - n
    if m = 0 then s else { s with cel := { s.cel with ovtBad := s.cel.ovtBad ++ [(n, m)] } }
  | 0 => s
  | 8 => s
  | _ => { s with cel := { s.cel with rewrite := s.cel.rewrite ++ [(r.stack * 2 ^ 38 + r.first + n, k)] } }

/-- Where a piece of a region begins within its region: the lines of its earlier pieces. -/
def State.pieceBase (s : State) (r : Region) : Nat :=
  if r.kind = 0 ∨ 4 ≤ r.kind then 0
  else ((s.cel.layout.takeWhile (fun x => x != r)).map (fun x => if x.kind = r.kind then x.lines else 0)).sum

/-- Data lines a .. a + n - 1 of a stack are lost: the effects on their regions. -/
def State.loseLines (s : State) (a n : Nat) : State :=
  let st := lineStk a
  let i := lineIdx a
  s.cel.layout.foldl (fun t r =>
    let lo := max i r.first
    let hi := min (i + n) (r.first + r.lines)
    if r.stack == st && decide (lo < hi) then t.loseIn r (t.pieceBase r + (lo - r.first)) (hi - lo) else t) s

/-- Poison data lines (R190). -/
def State.poisonLines (s : State) (a n : Nat) : State :=
  let t := s.unpoison a n
  ({ t with cel := { t.cel with poison := t.cel.poison ++ [(a, n)] } }).loseLines a n

/-! ## Placing the regions (R177, R147 rule 6) -/

/-- Lines for regions on each ON stack: (stack, next free line, end). -/
abbrev Room := List (Nat × Nat × Nat)

/-- Place need lines of a region from the lowest-numbered stack up. -/
def place1 (room : Room) (kind need : Nat) : List Region × Room :=
  match room with
  | [] => ([], [])
  | (k, n, e) :: t =>
    let take := min need (e - n)
    let (l, r) := place1 t kind (need - take)
    (if take = 0 then l else ⟨kind, k, n, take⟩ :: l, (k, n + take, e) :: r)

/-- Lines of DIAG. -/
def State.diagLines (s : State) : Nat := s.fld F.CEL_RCFG_DIAG_MIB * 16384

/-- Lay out SA, CNT, OVT and DIAG on the ON stacks; BUF shares stay where they are. DIAG stands just below the copies (log
entry 16). -/
def State.placeRegions (s : State) : State :=
  let on := [0, 1, 2, 3].filter (fun k => (s.stk k).mode == .on)
  let low := fun (k : Nat) =>
    ((s.copyRegions.filter (fun r => r.stack == k)).map (·.first)).foldl min (0x252B015A + copyLines)
  let top := on.getLastD 4
  let room := on.map (fun k => (k, (s.stk k).share * 16, low k - (if k = top then s.diagLines else 0)))
  let (l1, r1) := place1 room 1 73728
  let (l2, r2) := place1 r1 2 (2 ^ 24)
  let (l3, _) := place1 r2 3 (2 ^ 25)
  let diag := if s.diagLines = 0 ∨ on.isEmpty then [] else [Region.mk 8 top (low top - s.diagLines) s.diagLines]
  let buf := (List.range 4).filterMap (fun k =>
    if (s.stk k).share = 0 then none else some (Region.mk 0 k 0 ((s.stk k).share * 16)))
  { s with cel := { s.cel with layout := buf ++ l1 ++ l2 ++ l3 ++ diag ++ s.copyRegions } }

/-- Room for regions on stack k: from the end of what stands there to the copies and DIAG. -/
def State.roomOn (s : State) (k : Nat) : Nat × Nat × Nat :=
  let mine := s.cel.layout.filter (fun r => r.stack == k)
  (k, ((mine.filter (fun r => decide (r.kind < 4))).map (fun r => r.first + r.lines)).foldl max 0,
    ((mine.filter (fun r => decide (4 ≤ r.kind))).map (·.first)).foldl min tagBase)

/-- The ON stacks but k. -/
def State.others (s : State) (k : Nat) : List Nat := [0, 1, 2, 3].filter (fun j => j != k && (s.stk j).mode == .on)

/-- The first n lines of piece r, on stack k, stand on other ON stacks from now on; the other pieces stay (R195, R196). -/
def State.replace1 (s : State) (r : Region) (n : Nat) : State :=
  let (l, _) := place1 ((s.others r.stack).map s.roomOn) r.kind n
  let m := (l.map (·.lines)).sum
  let rest := if m < r.lines then [Region.mk r.kind r.stack (r.first + m) (r.lines - m)] else []
  { s with cel := { s.cel with layout := (s.cel.layout.map (fun x => if x = r then l ++ rest else [x])).flatten } }

/-- DIAG of stack k stands on the highest-numbered ON stack (R177). -/
def State.replaceDiag (s : State) (k : Nat) : State :=
  { s with cel := { s.cel with layout := s.cel.layout.map (fun x =>
      if x.kind = 8 ∧ x.stack = k then
        match (s.others k).getLast? with
        | some j => Region.mk 8 j ((s.roomOn j).2.2 - x.lines) x.lines
        | none => x
      else x) } }

/-! ## Losing a stack (R194, R196) -/

/-- A stack is lost: off, its lines poisoned, its share out of the pool, its copies rehomed. What it held of SA, CNT, OVT and DIAG
stands on other stacks from now on: image-derived OVT lines await their reload there, DIAG reads as poisoned, the others as never
written. -/
def State.dropStack (s : State) (k : Nat) : State :=
  let m := (s.stk k).mode
  if m == .on || m == .draining || m == .waking then
    let s1 := s.setStk k { s.stk k with mode := .lost, free := 0, share := 0, freed := [], partner := none, copyValid := false, moves := false }
    let s2 := ((s1.loseLines (k * 2 ^ 38) tagBase).raise 19).rehome false
    let gone := s2.cel.layout.filter (fun r => r.stack == k)
    let off := fun (a : Nat) => lineStk a != k
    let s3 := { s2 with cel := { s2.cel with
      layout := s2.cel.layout.filter (fun r => !(r.stack == k && r.kind == 0)), poolGib := ((List.range 4).map (fun j => (s2.stk j).share)).sum / 2 ^ 20
      cache := s2.cel.cache.filter (fun e => off e.1), used := s2.cel.used.filter off, dirty := s2.cel.dirty.filter off
      restore := s2.cel.restore.filter off } }
    let s4 := gone.foldl (fun t r => if 1 ≤ r.kind ∧ r.kind < 4 then t.replace1 r r.lines else t) s3
    let s5 := s4.replaceDiag k
    let fresh := s5.cel.layout.filter (fun r => (r.kind == 3 || r.kind == 8) && !s2.cel.layout.contains r)
    let s6 := fresh.foldl (fun t r => { t with cel := { t.cel with poison := t.cel.poison ++ [(r.stack * 2 ^ 38 + r.first,
      if r.kind = 8 then r.lines else min r.lines (t.ovtImage - t.pieceBase r))] } }) s5
    s6.celEvt 5 0 (k * 2 ^ 38)
  else s

/-! ## Errors (R189, R190) -/

/-- A line found bad twice in a row is remapped to the next spare line; a buffer page is retired instead. -/
def State.badTwice (s : State) (a : Nat) : State :=
  let st := lineStk a
  let k := s.stk st
  if !s.cel.badOnce.contains a then { s with cel := { s.cel with badOnce := s.cel.badOnce ++ [a] } }
  else
    let s0 := { s with cel := { s.cel with badOnce := s.cel.badOnce.filter (fun x => x != a) } }
    let i := lineIdx a
    if i < k.share * 16 then
      let p := i / 16
      if k.retired.contains p then s0
      else
        let left := if k.freed.contains p || decide (k.next ≤ p) then k.free - 1 else k.free
        (s0.setStk st { k with
          retired := k.retired ++ [p]
          freed := k.freed.filter (fun x => x != p)
          free := left }).count .cel 0 st 11
    else
      let old := k.remaps.any (fun e => e.1 == i)
      if k.remaps.length = 4096 ∧ old = false then s0.dropStack st
      else
        let r := k.remaps.put (fun _ => 0) i (spareBase + k.spares)
        let s1 := (s0.setStk st { k with remaps := r, spares := k.spares + 1 }).count .cel 0 st 10
        if r.length = 3584 ∧ old = false then s1.celEvt 6 0 (st * 2 ^ 38) else s1

/-- A read found a line bad: an integrity failure, or an uncorrectable line that counts towards the stack's loss (R189,
R196). -/
def State.noteBad (s : State) (a lvl : Nat) (integ : Bool) : State :=
  let st := lineStk a
  if integ then (((s.raise 18).count .cel 0 st 9).celEvt 4 lvl a).badTwice a
  else
    let k := s.stk st
    let l := k.ueLog.filter (fun t => decide (s.counter < t + 65536000000000)) ++ [s.counter]
    let s1 := (s.setStk st { k with ueLog := l }).badTwice a
    if s.fld F.CEL_CTL_UE_LIMIT ≤ l.length then s1.dropStack st else s1

/-- Lines beneath one line of height h. -/
def beneath (h : Nat) : Nat := 8 ^ h

/-- A node of height h is lost for good (R190): the data lines beneath it are poisoned and the node holds eight versions 0; it is
rewritten under a new parent version, its copy first, before the command ends (State.celTidy). -/
def State.loseNode (s : State) (st h n : Nat) : State :=
  let a := hAddr st h n
  let s1 := (s.poisonLines (st * 2 ^ 38 + n * beneath h) (beneath h)).dirty64 a 0
  (({ s1 with cel := { s1.cel with
      restore := s1.cel.restore.filter (fun x => x != a), rewrite := s1.cel.rewrite ++ [(a, 1)] } }).count .cel 0 st (if h = 1 then 6 else 8)).celEvt 3 (h - 1) a

/-- A bad tag line: its eight data lines are poisoned (R190). -/
def State.loseTag (s : State) (st t : Nat) (integ : Bool) : State :=
  let a := st * 2 ^ 38 + tagBase + t
  let s1 := (s.poisonLines (st * 2 ^ 38 + t * 8) 8).fill64 a 0
  (if integ then s1 else s1.count .cel 0 st 5).celEvt 3 6 a

/-- How a path of a read stands. -/
inductive PathRes where | ok | waiting | lost
deriving DecidableEq, Repr

/-- A line as the stack returned it: its report, content and check octets. -/
def seenAt (l : List LineSeen) (a : Nat) (w : BitVec 512) (c : W64) : ReadRes × BitVec 512 × W64 :=
  match l.find? (fun x => x.line == a) with
  | some x => (x.res, (x.data.map (·.1)).getD w, (x.data.map (·.2)).getD c)
  | none => (.clean, w, c)

/-- A good read: corrected reads are counted, and the line is no longer bad (R189). -/
def State.goodRead (s : State) (a lvl : Nat) (r : ReadRes) : State :=
  let s1 := { s with cel := { s.cel with badOnce := s.cel.badOnce.filter (fun x => x != a) } }
  if r == .corrected then (s1.count .cel 0 (lineStk a) 3).celEvt 0 lvl a else s1

/-- Read and check one node line of height h against its parent (R184): it is cached, or it is bad. -/
def State.readNode (s : State) (seen : List LineSeen) (st h n : Nat) : State × PathRes :=
  let a := hAddr st h n
  let v := s.verOf st h n
  let (r, w, c) := seenAt seen a (s.cel.lines.look (fun _ => 0) a) (s.cel.check.look s.checkDef a)
  let ue := r == .uncorrectable
  let s1 := s.count .cel 0 st 0
  if !ue && s1.lineTag a v 1 w == c.toNat then ((s1.goodRead a (h - 1) r).fill64 a w, .ok)
  else
    let s2 := s1.noteBad a (h - 1) (!ue)
    if (s2.stk st).mode == .lost then (s2, .lost)
    else if 2 ≤ h ∧ (s2.copyAddr st (lineIdx a)).isSome then
      ({ s2 with cel := { s2.cel with restore := if s2.cel.restore.contains a then s2.cel.restore else s2.cel.restore ++ [a] } }, .waiting)
    else (s2.loseNode st h n, .lost)

/-- Bring the path of data line d into the cache from the top down, to the node of height 7 - k (k = 0: on die). -/
def State.readPath (s : State) (seen : List LineSeen) (st d : Nat) (k : Nat) : State × PathRes :=
  match k with
  | 0 => (s, .ok)
  | k + 1 =>
    let h := 6 - k
    let n := d / 8 ^ h
    if s.cached (hAddr st h n) then (s.fill64 (hAddr st h n) (s.metaLine (hAddr st h n)), .ok)
    else
      match s.readPath seen st d k with
      | (s1, .ok) => s1.readNode seen st h n
      | x => x

/-- Read the tag line of data line d. -/
def State.readTag (s : State) (seen : List LineSeen) (st d : Nat) : State × PathRes :=
  let a := tagAddr st d
  if s.cached a then (s.fill64 a (s.metaLine a), .ok)
  else
    let (r, w, _) := seenAt seen a (s.cel.lines.look (fun _ => 0) a) 0#64
    let s1 := s.count .cel 0 st 0
    if r == .uncorrectable then ((s1.noteBad a 6 false).loseTag st (d / 8) false, .lost)
    else ((s1.goodRead a 6 r).fill64 a w, .ok)

/-- A bad data line is poisoned (R190). -/
def State.loseData (s : State) (a : Nat) (integ : Bool) : State :=
  let s1 := s.noteBad a 7 integ
  let s2 := if integ then s1 else (s1.count .cel 0 (lineStk a) 4).celEvt 1 7 a
  s2.poisonLines a 1

/-- A read of a data line (R184, R189, R190): what it returns; none poisoned, refused or waiting for a node's restore. -/
def State.readData (s : State) (seen : List LineSeen) (a : Nat) : State × PathRes × Option (BitVec 512) :=
  let st := lineStk a
  let d := lineIdx a
  match s.region? a with
  | none => (s, .lost, none)
  | some r =>
    if s.cel.keys.isNone || !s.stkUp st || s.isPoison a then (s, .lost, none)
    else
      let s0 := s.obsEvent .cellar 3 1 st
      let full := s.prot r.kind == 0
      let (s1, p1) := if full then s0.readPath seen st d 6 else (s0, .ok)
      let (s2, p2) := if full && p1 == .ok then s1.readTag seen st d else (s1, p1)
      if p2 != .ok then (s2, p2, none)
      else
        let (rr, w, _) := seenAt seen a (s2.cel.lines.look (fun _ => 0) a) 0#64
        let s3 := s2.count .cel 0 st 0
        let v := if full then s3.verOf st 0 d else 0
        if rr == .uncorrectable then (s3.loseData a false, .lost, none)
        else if full && v != 0 && s3.lineTag a v 0 w != slotOf (s3.metaLine (tagAddr st d)) (d % 8) then (s3.loseData a true, .lost, none)
        else
          let s4 := s3.goodRead a 7 rr
          (s4, .ok, some (s4.plainOf a w))

/-! ## Writes (R184, R187) -/

/-- Bring a path into the cache; a node lost on the way gives way to its rewritten content. -/
def State.fetchPath (s : State) (seen : List LineSeen) (st d k fuel : Nat) : State × PathRes :=
  match fuel with
  | 0 => s.readPath seen st d k
  | f + 1 =>
    match s.readPath seen st d k with
    | (s1, .lost) => if (s1.stk st).mode == .lost then (s1, .lost) else s1.fetchPath seen st d k f
    | x => x

/-- A full-line write of a data line (R184): under ENC+INT the tag line and the path come into the cache, the line takes a new version
(R180), and its tag and level-0 slot are updated in the cache, where the change is held. The cellar refuses every access without its
keys (R179). A write whose path waits for a node's restore is held; the answer says whether the line is written. -/
def State.putData (s : State) (seen : List LineSeen) (a : Nat) (w : BitVec 512) : State × Bool :=
  let st := lineStk a
  let d := lineIdx a
  match s.region? a with
  | none => (s, false)
  | some r =>
    if s.cel.keys.isNone || !s.stkUp st then (s, false)
    else
      let s0 := s.obsEvent .cellar 4 1 st
      match s.prot r.kind with
      | 0 =>
        let t := tagAddr st d
        let s1 := (s0.celHit t).celHit (hAddr st 1 (d / 8))
        let (s2, p) := s1.fetchPath seen st d 6 6
        if p == .waiting then ({ s2 with cel := { s2.cel with held := s2.cel.held ++ [(a, w)] } }, false)
        else if (s2.stk st).mode == .lost then (s2, false)
        else
          let s3 := (s2.readTag seen st d).1
          let (v, s4) := (s3.unpoison a 1).newVer st
          let c := if s.ksMode r.kind then s4.keystream a v w else s4.native true a v w
          let s5 := s4.storeLine a c
          ((s5.dirty64 t (setSlot (s5.metaLine t) (d % 8) (s5.lineTag a v 0 c))).setVer st 0 d v, true)
      | 1 => ((s0.unpoison a 1).storeLine a (s0.native true a 0 w), true)
      | _ => ((s0.unpoison a 1).storeLine a w, true)

/-- A tag or node line in the cache is written to its stack (R184, R185): a tag line as it is; a node of levels 1-5 copy first, staying
in the cache until both writes are done; a node with a new version in its parent, whose path comes into the cache. -/
def State.writeLine (s : State) (seen : List LineSeen) (a : Nat) : State :=
  let st := lineStk a
  let w := s.metaLine a
  let clean := fun (t : State) => { t with cel := { t.cel with dirty := t.cel.dirty.filter (fun x => x != a) } }
  if s.cel.keys.isNone || !s.stkUp st then s
  else
    match lineKind (lineIdx a) with
    | .node h n =>
      let (s1, ok) := match (if 2 ≤ h then s.copyAddr st (lineIdx a) else none) with
        | some c => s.putData seen c w
        | none => (s, true)
      let (s2, p) := if ok then s1.fetchPath seen st (n * 8 ^ h) (6 - h) 6 else (s1, .waiting)
      if p != .ok then s2
      else
        let (v, s3) := s2.newVer st
        clean ((s3.storeLine a w (BitVec.ofNat 64 (s3.lineTag a v 1 w))).setVer st h n v)
    | _ => clean (s.storeLine a w)

/-- Write the copies of node lines i .. i + n - 1 of stack st from their primaries (R185, R191): a copy line that holds something, or
whose primary does, is written. -/
def State.copyNodes (s : State) (st i n : Nat) : State :=
  let k := s.stk st
  match k.partner with
  | none => s
  | some p =>
    let base := p * 2 ^ 38 + k.copyBase
    let off := fun (a : Nat) (b : Nat) => if b + (i - hBase 2) ≤ a ∧ a < b + (i - hBase 2) + n then some (a - b) else none
    let l := ((s.cel.lines.filterMap (fun e => off e.1 (st * 2 ^ 38 + hBase 2))) ++ s.cel.lines.filterMap (fun e => off e.1 base)).eraseDups
    l.foldl (fun t x => (t.putData [] (base + x) (t.cel.lines.look (fun _ => 0) (st * 2 ^ 38 + hBase 2 + x))).1) s

/-- Lost nodes are written out, copy first; lost copies are rebuilt from their primaries (R190, R191). -/
def State.rewriteAll (s : State) (fuel : Nat) : State :=
  match fuel, s.cel.rewrite with
  | f + 1, (a, n) :: l =>
    let t := { s with cel := { s.cel with rewrite := l } }
    let u := match lineKind (lineIdx a) with
      | .data d =>
        match [0, 1, 2, 3].find? (fun j => (t.stk j).partner == some (lineStk a) && decide ((t.stk j).copyBase ≤ d) &&
            decide (d < (t.stk j).copyBase + copyLines)) with
        | some j => (t.unpoison a n).copyNodes j (hBase 2 + (d - (t.stk j).copyBase)) n
        | none => t
      | _ => t.writeLine [] a
    u.rewriteAll f
  | _, _ => s

/-- Replace the least recently used line of an overfull cache (R186), 16 MiB; a dirty line is written back first, and the dirty nodes
held under R185 are passed over while another line can go. -/
def State.evict (s : State) : State :=
  let held := fun (a : Nat) => s.cel.dirty.contains a && (match lineKind (lineIdx a) with | .node h _ => decide (2 ≤ h) | _ => false)
  match (s.cel.used.find? (fun a => !held a)).or s.cel.used.head? with
  | none => s
  | some a =>
    let t := if s.cel.dirty.contains a then s.writeLine [] a else s
    if t.cel.dirty.contains a then t
    else { t with cel := { t.cel with used := t.cel.used.filter (fun x => x != a), cache := t.cel.cache.put (fun _ => 0) a 0 } }

/-- Bring the cache back to its size: what one command brings in is bounded, so the rounds are. -/
def State.trimCache (s : State) (fuel : Nat) : State :=
  match fuel with
  | 0 => s
  | f + 1 => if 262144 < s.cel.used.length then s.evict.trimCache f else s

/-- What ends every operation of the cellar: lost lines rewritten, the cache within its size. -/
def State.celTidy (s : State) : State := (s.rewriteAll 16).trimCache 64

/-- A full-line write (R184). -/
def State.celWrite (s : State) (a : Nat) (w : BitVec 512) (seen : List LineSeen := []) : State := (s.putData seen a w).1.celTidy

/-- A stack meets a loss condition (R196). -/
def State.loseStack (s : State) (k : Nat) : State := (s.dropStack k).celTidy

/-- Merge the octets that mask names into a line. -/
def mergeOct (old w : BitVec 512) (mask : W64) : BitVec 512 :=
  octLine (((lineOct old).zip (lineOct w)).zipIdx.map (fun e => if mask.getLsbD e.2 then e.1.2 else e.1.1))

/-- A write of the octets that mask names (R187): all 64 are a full-line write; fewer read, verify and merge first, and are counted. A
poisoned line cannot be merged and stays poisoned. -/
def State.maskWrite (s : State) (a : Nat) (w : BitVec 512) (mask : W64) (seen : List LineSeen) : State :=
  if mask = BitVec.allOnes 64 then s.celWrite a w seen
  else
    match (s.count .cel 0 (lineStk a) 2).readData seen a with
    | (t, _, some old) => t.celWrite a (mergeOct old w mask) seen
    | (t, _, none) => t.celTidy

/-- The counters whose accumulator has passed half its range; with none, every counter whose accumulator is not zero (R187). -/
def State.flushKeys (s : State) : List Nat :=
  let due := s.cnts.filter (fun e => (cntLine e.1).isSome && s.flushed e.1 != e.2)
  let full := due.filter (fun e => decide (Config.accHalf < (e.2 - s.flushed e.1).toNat))
  (if full.isEmpty then due else full).map (·.1)

/-- The lines of counters that are due are written, each whole: those with an accumulator past half its range, else, at
tCNT_FLUSH, all that have changed (R187; log entry 17). -/
def State.counterFlush (s : State) : State :=
  let ls := (s.flushKeys.filterMap cntLine).eraseDups
  ls.foldl (fun t l =>
    match placeOf t.cel.layout 2 l with
    | none => t
    | some a =>
      let mine := t.cnts.filter (fun e => cntLine e.1 == some l)
      let w := mine.foldl (fun w e => setSlot w (e.1 % 8) e.2.toNat) (0 : BitVec 512)
      let (t1, ok) := t.putData [] a w
      if ok then
        (mine.foldl (fun u e => { u with cel := { u.cel with cntFlushed := u.cel.cntFlushed.put (fun _ => 0#64) e.1 e.2 } }) t1).celTidy
      else t1.celTidy) s

/-! ## Frames in buffer pages (R167) -/

/-- The address of line j of a frame's pages. -/
def pageLine (pages : List Nat) (j : Nat) : Nat :=
  let g := pages.getD (j / 16) 0
  g / 2 ^ 30 * 2 ^ 38 + g % 2 ^ 30 * 16 + j % 16

/-- A frame takes whole lines, its last line padded with zeros (R187). -/
def State.putLines (s : State) (pages : List Nat) (octs : List Byte) : State :=
  (List.range ((octs.length + 63) / 64)).foldl (fun t j => t.celWrite (pageLine pages j) (octLine ((octs.drop (64 * j)).take 64))) s

/-- A frame is queued in the cellar (R167): its pages, the queue's fill, and the octets stored in it. -/
def State.store (s : State) (f : Frame) (q : Nat) : Option State :=
  if s.cel.refused then none
  else
    match s.takePages (pagesOf f.outOct.length) with
    | none => none
    | some (l, s1) =>
      let s2 := (s1.setFrame { f with stage := .queued, pages := l, queue := q }).setQueue q
        { s1.queue q with frames := (s1.queue q).frames ++ [f.id] }
      some ((((s2.count .tmg 0 q 0).count .tmg 0 q 1 f.outOct.length).putLines l f.outOct).notePages)

/-! ## Commands on lines -/

/-- A line read is issued with the tag and node lines its path needs (R184): cache hits and misses are counted. -/
def State.lineRead (s : State) (a : Nat) : State :=
  match s.region? a with
  | none => s
  | some r =>
    if s.cel.keys.isNone || !s.stkUp (lineStk a) then s
    else
      let st := lineStk a
      let d := lineIdx a
      let s1 := { s with cel := { s.cel with reads := s.cel.reads ++ [a] } }
      if s.prot r.kind = 0 then [1, 2, 3, 4, 5, 6].foldl (fun t h => t.celHit (hAddr st h (d / 8 ^ h))) (s1.celHit (tagAddr st d)) else s1

/-- A read returns (R184, R189): its path is verified; a read whose node waits for its copy stays in progress. -/
def State.readComplete (s : State) (a : Nat) (seen : List LineSeen) : State :=
  if !s.cel.reads.contains a then s
  else
    let (s1, p, w) := s.readData seen a
    if p == .waiting then s1.celTidy
    else ({ s1 with cel := { s1.cel with reads := s1.cel.reads.erase a, result := w } }).celTidy

/-- The writes held for a path are made again, in their order. -/
def State.retryHeld (s : State) : State :=
  s.cel.held.foldl (fun t e => (t.putData [] e.1 e.2).1) { s with cel := { s.cel with held := [] } }

/-- A bad level 1-5 primary is restored from its copy, the copy verified by its own stack's tree and the node by its parent; with
the copy bad too, it is lost (R190). -/
def State.restoreLine (s : State) (a : Nat) (seen : List LineSeen) : State :=
  let st := lineStk a
  match lineKind (lineIdx a) with
  | .node h n =>
    if !s.cel.restore.contains a then s
    else
      match s.copyAddr st (lineIdx a) with
      | none => s.loseNode st h n
      | some c =>
        match s.readData seen c with
        | (s1, .ok, some w) =>
          let v := s1.verOf st h n
          let k := s1.cel.check.look s1.checkDef a
          if s1.lineTag a v 1 w = k.toNat then
            let s2 := (s1.storeLine a w k).fill64 a w
            (({ s2 with cel := { s2.cel with restore := s2.cel.restore.filter (fun x => x != a),
                                             badOnce := s2.cel.badOnce.filter (fun x => x != a) } }).count .cel 0 st 7).celEvt 2 (h - 1) a
          else s1.loseNode st h n
        | (s1, .waiting, _) => s1
        | (s1, _, _) => s1.loseNode st h n
  | _ => s

/-- A node is restored (R190): a line of a stack from its copy, after which held writes are made; an on-die line from the second
array. -/
def State.nodeRestored (s : State) (x : NodeRef) (seen : List LineSeen) : State :=
  match x with
  | .line a => ((s.restoreLine a seen).retryHeld).celTidy
  | .die st level i => if 6 ≤ level ∧ level ≤ 9 then s.dieRestore (st % 4) level i else s

/-- The oldest dirty line is written back (R184, R185). -/
def State.writeBack (s : State) : State :=
  match s.cel.dirty with
  | [] => s
  | a :: _ => (s.writeLine [] a).celTidy

/-- The patrol scrub reads one tag or node line, or a copy (R192); the last node line of a stack ends its pass. -/
def State.scrub (s : State) (a : Nat) (seen : List LineSeen) : State :=
  let st := lineStk a
  if s.cel.keys.isNone || !s.stkUp st then s
  else
    match lineKind (lineIdx a) with
    | .tag t => if s.cel.dirty.contains a then s else
      let u := { s with cel := { s.cel with used := s.cel.used.filter (fun x => x != a) } }
      (u.readTag seen st (t * 8)).1.celTidy
    | .node h n =>
      let s1 := if s.cel.dirty.contains a then s else
        let u := { s with cel := { s.cel with used := s.cel.used.filter (fun x => x != a) } }
        match u.readPath seen st (n * 8 ^ h) (6 - h) with
        | (u1, .ok) => (u1.readNode seen st h n).1
        | (u1, _) => u1
      (if lineIdx a = spareBase - 1 then s1.count .cel 0 st 17 else s1).celTidy
    | .data _ =>
      match s.region? a with
      | some r => if 4 ≤ r.kind ∧ r.kind < 8 then (s.readData seen a).1.celTidy else s
      | none => s
    | .spare => s

/-! ## Stacks in service (R193-R194) -/

/-- A WAKING stack is initialised and goes ON with its share, or is lost when its training fails (R194, R196). -/
def State.stackWakeDone (s : State) (k : Nat) (pass : Bool) : State :=
  if (s.stk k).mode != .waking then s
  else if !pass then s.loseStack k
  else
    let t := s.stk k
    let s1 := s.setStk k { t with mode := .on, nodes := [], nodes2 := [], remaps := t.remaps }
    let gone := fun (a : Nat) => lineStk a == k && decide (tagBase ≤ lineIdx a)
    let c := s1.cel
    let s2 := { s1 with cel := { c with
      lines := c.lines.filter (fun e => lineStk e.1 != k), check := c.check.filter (fun e => lineStk e.1 != k)
      cache := c.cache.filter (fun e => !gone e.1), used := c.used.filter (fun a => !gone a), dirty := c.dirty.filter (fun a => !gone a)
      poison := cutRange (k * 2 ^ 38) (2 ^ 38) c.poison } }
    s2.rehome false

/-- The copy of a stack's levels 1-5 is complete on its partner (R185). -/
def State.copyRebuilt (s : State) (k : Nat) : State :=
  if (s.stk k).partner.isNone || (s.stk k).copyValid then s
  else
    let s1 := s.copyNodes k (hBase 2) copyLines
    if s.cel.keys.isNone then s else ((s1.setStk k { s1.stk k with copyValid := true }).celEvt 7 0 (k * 2 ^ 38)).celTidy

/-- The shed stage reaches S3, or returns below it (R194). -/
def State.celShed (s : State) (s3 : Bool) : State :=
  if s3 then
    let on := [0, 1, 2, 3].filter (fun k => (s.stk k).mode == .on)
    (on.drop 2).foldl (fun t k => t.setStk k { t.stk k with mode := .draining, moves := true }) s
  else
    [0, 1, 2, 3].foldl (fun t k =>
      let x := t.stk k
      match x.mode with
      | .draining => t.setStk k { x with mode := .on, moves := false }
      | .off => t.setStk k { x with mode := .waking }
      | _ => t) s

/-! ## ST09 and zeroization (R177, R179, R193, R197) -/

/-- The tag and node lines among lines that stand on stack k (R197: the lines ST09 writes and reads back). -/
def failedOn (lines : List Nat) (k : Nat) : List Nat :=
  ((lines.filter (fun a => lineStk a == k && decide (tagBase ≤ lineIdx a) && decide (lineIdx a < spareBase))).map lineIdx).eraseDups

/-- Phase 5 of ST09: the lines that failed are remapped (R197). -/
def State.remapFailed (s : State) (lines : List Nat) (k : Nat) : State :=
  let l := failedOn lines k
  if l.isEmpty then s
  else
    let r := l.zipIdx.foldl (fun (t : Tab Nat) e => t.put (fun _ => 0) e.1 (spareBase + e.2)) []
    let s1 := (s.setStk k { s.stk k with remaps := r, spares := l.length }).count .cel 0 k 10 l.length
    if 3584 ≤ l.length then s1.celEvt 6 0 (k * 2 ^ 38) else s1

/-- ST09: keys drawn, sequences 1, nodes zero, failed lines remapped, regions and free lists sized. The stacks of bad, and those with
more failed lines than a remap table has entries, are taken out. -/
def State.celInit (s : State) (bad lines : List Nat) : State :=
  let (k1, s1) := s.drbgReq.draw
  let (k2, s2) := s1.draw
  let out := (List.range 4).filter (fun k => (s.stk k).mode == .init && (bad.contains k || decide (4096 < (failedOn lines k).length)))
  let s3 := out.foldl (fun t k => t.setStk k { t.stk k with mode := .absent }) s2
  let there := [0, 1, 2, 3].filter (fun k => (s3.stk k).mode != .absent)
  let n := there.length
  let copies := if (there.filter (fun k => (s3.stk k).mode == .init)).length < 2 then 0 else n
  let space := (n * tagBase - copies * copyLines - 73728 - 2 ^ 24 - 2 ^ 25 - s.diagLines) / 16
  let want := s.fld F.TMG_BUF_CFG_POOL_GIB * 2 ^ 20
  let share := min want space / max n 1
  let s4 := there.foldl (fun t k =>
    let x := t.stk k
    t.setStk k { x with mode := if x.mode == .init then .on else x.mode, seq := 1, nodes := [], nodes2 := [], share := share,
                        free := share, next := 0, freed := [], remaps := [], spares := 0 }) s3
  let s5 := { s4 with cel := { s4.cel with
    keys := some (beOctets 64 k1.toNat ++ beOctets 64 k2.toNat), initDone := true, refused := false,
    lines := [], check := [], cache := [], dirty := [], used := [], poison := [], badOnce := [], reads := [], restore := [], ovtBad := [],
    held := [], rewrite := [], clip := decide (space < want), poolGib := share * n / 2 ^ 20 } }
  ((there.filter (fun k => (s3.stk k).mode == .init)).foldl (fun t k => t.remapFailed lines k) s5).rehome true |>.placeRegions

/-- The memory keys are overwritten (R129, R179): every access is refused until the next start. -/
def State.celRefuse (s : State) : State :=
  { s with cel := { s.cel with keys := none, refused := true, reads := [], restore := [], held := [], rewrite := [] } }

end Sys2Proof.Machine
end

