-- ==== Sys2Proof/Machine/Ledger.lean ====
section
/-!
DEFINITION. The ledger (R255-R259): its logical blocks, the wear of a write with levelling and retirement, the event ring, the
survival count, the lane entries. A read-only ledger takes no write.
-/

namespace Sys2Proof.Machine

/-! ## Logical blocks (R255) -/

/-- Start record of start n: two blocks of the 256-record ring. -/
def blkStart (n : Nat) : Nat := 2 * (n % 256)

/-- The State area: eight blocks; value k of it. -/
def blkState (k : Nat) : Nat := 512 + k % 8

/-- The lane entries, two to a block: lane 0-63 H-lanes, 64-127 L-lanes, 128, 129 tether, 130 MGT. -/
def blkLane (k : Nat) : Nat := 520 + k / 2

/-- Wrapped CAK record k. -/
def blkCak (k : Nat) : Nat := 586 + 2 * (k % 64)

/-- Entry k of the event ring. -/
def blkEvent (k : Nat) : Nat := 714 + k % 1024 / 4

/-! ## Writes (R259) -/

/-- The physical block of a logical one. -/
def Ledger.phys (l : Ledger) (b : Nat) : Nat := l.map.look (fun k => k) b

/-- The wear count of a physical block. -/
def Ledger.wearOf (l : Ledger) (p : Nat) : Nat := l.wear.look (fun _ => 0) p

/-- The free blocks of the rotation pool. -/
def Ledger.pool (l : Ledger) : List Nat :=
  l.freed ++ (List.range 2870).filterMap (fun k =>
    if l.map.any (fun e => e.2 == 1226 + k) then none else some (1226 + k))

/-- The least worn free block. -/
def Ledger.leastWorn (l : Ledger) : Option Nat :=
  l.pool.foldl (fun a p =>
    match a with
    | none => some p
    | some q => if l.wearOf p < l.wearOf q then some p else a) none

/-- Put an entry into the event ring. -/
def Ledger.addEvent (l : Ledger) (e : LedEvent) : Ledger :=
  { l with events := (e :: l.events).take 1024, evNo := l.evNo + 1 }

/-- A worn-out block is retired to a spare; with every spare in use the ledger becomes read-only (R259). -/
def State.retireBlock (s : State) (b : Nat) : State :=
  let l := s.ledger
  if l.spares = 256 then ({ s with ledger := { l with ro := true } }).setInt .STA_INT_STAT 4
  else
    let n := l.spares + 1
    let l1 := { l with spares := n, map := l.map.put (fun k => k) b (970 + l.spares) }
    let s1 := ({ s with ledger := l1.addEvent (.retired b) }).setInt .STA_INT_STAT 3
    if n = 224 then s1.setInt .STA_INT_STAT 5 else s1

/-- One write of logical block b: its wear, its move to the least worn free block, its retirement (R259). -/
def State.wearBlock (s : State) (b : Nat) : State :=
  let l := s.ledger
  let p := l.phys b
  let w := l.wearOf p + 1
  let l1 := { l with wear := l.wear.put (fun _ => 0) p w }
  let s1 := { s with ledger := l1 }
  if 1000000000 ≤ w then s1.retireBlock b
  else if w ≤ 65536 then s1
  else
    match l1.leastWorn with
    | some q =>
      if l1.wearOf q + 65536 < w then
        { s1 with ledger := { l1 with
            map := l1.map.put (fun k => k) b q
            freed := (l1.freed.filter (fun x => x != q)) ++ [p] } }
      else s1
    | none => s1

/-- Change the ledger's content, writing logical block b; a read-only ledger keeps its content (R259). -/
def State.ledgerPut (s : State) (b : Nat) (f : Ledger → Ledger) : State :=
  if s.ledger.ro then s else ({ s with ledger := f s.ledger }).wearBlock b

/-- Record an event in the ring (R255). -/
def State.ledgerEvent (s : State) (e : LedEvent) : State :=
  s.ledgerPut (blkEvent s.ledger.evNo) (fun l => l.addEvent e)

/-- A lane's coefficients (R258): rewritten when they differ from the stored ones by more than one step; any difference of
the coefficient word counts as more than one step (DESIGN CHOICE, log entry 15). -/
def State.storeLane (s : State) (k : Nat) (c : W32) : State :=
  let e := s.ledger.coefs.look (fun _ => {}) k
  if e.valid && e.coef == c then s
  else s.ledgerPut (blkLane k) (fun l =>
    { l with coefs := l.coefs.put (fun _ => {}) k { coef := c, tj := s.pwr.tj, start := s.start.num, valid := true } })

/-- Store a wrapped CAK record, replacing one of the same slot (R126, R128); false when the area is full. -/
def State.ledgerCak (s : State) (slot : Nat) (w : List Byte) : State × Bool :=
  let l := s.ledger
  let known := l.caks.any (fun r => r.1 == slot)
  if l.ro || decide (64 ≤ l.caks.length) then (s, false)
  else
    let k := (l.caks.findIdx (fun r => r.1 == slot))
    (s.ledgerPut (blkCak k) (fun l =>
      { l with caks := if known then l.caks.map (fun r => if r.1 == slot then (slot, w) else r) else l.caks ++ [(slot, w)] }), true)

/-- Erase a slot's CAK record. -/
def State.eraseCak (s : State) (slot : Nat) : State :=
  let k := s.ledger.caks.findIdx (fun r => r.1 == slot)
  if s.ledger.caks.any (fun r => r.1 == slot) then
    s.ledgerPut (blkCak k) (fun l => { l with caks := l.caks.filter (fun r => r.1 != slot) })
  else s

/-- Store a CAK in its slot and its ledger record, as COMMIT and pairing do (R117, R128, R234); false when the ledger is
full: the slot stays as it was. -/
def State.storeCak (s : State) (slot : Nat) (key ckn : List Byte) : State × Bool :=
  match s.wrapCak slot key ckn with
  | some w =>
    match s.ledgerCak slot w with
    | (s1, true) => (s1.writeCak slot key ckn true (s1.cakSlot slot).image, true)
    | (_, false) => (s, false)
  | none => (s, false)

end Sys2Proof.Machine
end

