-- ==== Sys2Proof/Machine/Cls.lean ====
section
/-!
DEFINITION. What a classifier slice does at stage 2 (03): lookups with their parity checks (R67), the trie walk (R57), the
class (R52), peer and queue (R54), the host port (R55), learning (R61-R64), flushes and bank switches (R60, R65).
-/

namespace Sys2Proof.Machine

/-- Count in a slice's counters (R70). -/
def State.clsCnt (s : State) (slice c : Nat) : State := s.count .cls 0 slice c

/-- A bad word is reported (R67): its counter, PERR, its repair when replicated, the alarm on its third failure in 1 s. -/
def State.perr (s : State) (slice key : Nat) (mac : Bool) : State :=
  let s1 := (s.clsCnt slice (if mac then 12 else 13)).setInt .CLS_SL_INT_STAT 0 slice
  let id := if mac then 2 ^ 30 + slice * 2 ^ 18 + key else key
  let old := s1.cls.perrLog.filter (fun e => decide (s1.nowNs < e.2 + 1000000000))
  let n := (old.filter (fun e => e.1 == id)).length + 1
  let log := if 3 ≤ n then old.filter (fun e => e.1 != id) else old ++ [(id, s1.nowNs)]
  let rep := if mac || s1.cls.repairs.contains (slice, key) then s1.cls.repairs else s1.cls.repairs ++ [(slice, key)]
  let s2 := { s1 with cls := { s1.cls with perrLog := log, repairs := rep } }
  if 3 ≤ n then s2.raise 17 else s2

/-- Read a replicated word in use: none, reported, when its parity is bad. -/
def State.goodWord (s : State) (slice table bank a : Nat) : State × Option W32 :=
  let w := s.clsWord slice table bank a
  if evenW w then (s, some w) else (s.perr slice (clsKey slice table bank a) false, none)

/-- The trie walk (R57): the result index of the longest prefix; none for a miss. DESIGN CHOICE (log entry 31): the spec reserves KIND 0b11
and gives it no meaning; the model takes such a word as a miss. -/
def State.walk (s : State) (slice mem idx : Nat) (strides : List Nat) : State × Option Nat :=
  match s.goodWord slice mem (if mem = 0 then s.bank else 0) idx with
  | (s1, none) => (s1, none)
  | (s1, some w) =>
    match bits w 30 29 with
    | 1 => (s1, some (bits w 19 0))
    | 2 =>
      match strides with
      | [] => (s1, none)
      | x :: t => s1.walk slice (mem + 1) (bits w 21 0 + x) t
    | _ => (s1, none)
termination_by structural strides

/-- The LPM lookup of an IP destination (R56, R57): the valid prefix result, with the hit or miss counted. DESIGN CHOICE (log
entry 31): the spec does not say what a prefix result with VALID clear does; the model takes it as a miss. -/
def State.lpm (s : State) (slice : Nat) (p : Parsed) : State × Option W32 :=
  let (s1, r) := if p.ip = 4 then s.walk slice 0 (p.dst / 2 ^ 16) [p.dst / 2 ^ 8 % 256, p.dst % 256]
    else s.walk slice 0 (65536 + p.dst / 2 ^ 112)
      [p.dst / 2 ^ 96 % 65536, p.dst / 2 ^ 80 % 65536, p.dst / 2 ^ 64 % 65536, p.dst / 2 ^ 56 % 256, p.dst / 2 ^ 48 % 256]
  match r with
  | none => (s1.clsCnt slice 3, none)
  | some i =>
    match s1.goodWord slice 6 0 i with
    | (s2, some w) => if bits w 30 30 = 1 then (s2.clsCnt slice 2, some w) else (s2.clsCnt slice 3, none)
    | (s2, none) => (s2.clsCnt slice 3, none)

/-- Invalidate a MAC entry. -/
def State.dropMac (s : State) (slice i : Nat) : State := s.setMacEnt slice i 0#96

/-- Look a key up in the MAC table: the entry index when it is present with good parity (R67). -/
def State.macLook (s : State) (slice lport mac : Nat) : State × Option Nat :=
  match s.macFind slice lport mac with
  | none => (s, none)
  | some i => if evenM (s.macEnt slice i) then (s, some i) else ((s.perr slice i true).dropMac slice i, none)

/-- The peer a destination MAC resolves to: an entry whose peer entry is invalid counts as a miss (R54, R64). A peer word with bad
parity is left to R54 step 5, which reads it and drops the frame (R67). -/
def State.macPeer (s : State) (lp mac : Nat) : State × Option Nat :=
  match s.macLook (lp / 16) (lp % 16) mac with
  | (s1, some i) =>
    let p := mePeer (s1.macEnt (lp / 16) i)
    let w := s1.clsWord (lp / 16) 7 s1.bank p
    if (peerEnt w).valid || !evenW w then (s1.clsCnt (lp / 16) 4, some p) else (s1.clsCnt (lp / 16) 5, none)
  | (s1, none) => (s1.clsCnt (lp / 16) 5, none)

/-- The class a frame takes from maps (R52 steps 3 to 5), or from the LPM result (step 2). -/
def State.frameClass (s : State) (hp : Nat) (p : Parsed) (lpmW : Option W32) : Nat :=
  let named := match lpmW with
    | some w => if bits w 27 27 = 1 then some (bits w 26 24) else none
    | none => none
  match named with
  | some c => c
  | none =>
    if p.ip != 0 && s.flag F.CLS_HP_CLS_DSCP_EN hp then
      let r := match p.dscp / 8 with
        | 0 => Reg.CLS_HP_DSCP0
        | 1 => .CLS_HP_DSCP1
        | 2 => .CLS_HP_DSCP2
        | 3 => .CLS_HP_DSCP3
        | 4 => .CLS_HP_DSCP4
        | 5 => .CLS_HP_DSCP5
        | 6 => .CLS_HP_DSCP6
        | _ => .CLS_HP_DSCP7
      bits (s.word r hp) 23 0 / 2 ^ (3 * (p.dscp % 8)) % 8
    else if p.tags != 0 then s.fld F.CLS_HP_CLS_PCP_MAP hp / 2 ^ (3 * p.pcp) % 8
    else s.fld F.CLS_HP_CLS_DEF_CLASS hp % 8

/-- What stage 2 of the encrypt path chooses (R54). -/
structure EncChoice where
  cls   : Nat
  secy  : Nat
  peer  : Nat
  queue : Nat
deriving DecidableEq, Repr

/-- The peer of R54 step 4: none when the frame is dropped, its drop counted. DESIGN CHOICE (log entry 31): ACTION 0b11 has no meaning in
the spec; the model takes it as 0b10, the flood peer. -/
def State.choosePeer (s : State) (lp : Nat) (p : Parsed) (dst : Nat) (lpmW : Option W32) : State × Option Nat :=
  let sl := lp / 16
  let flood := s.fld F.CLS_LP_MODE_FLOOD_PEER lp
  let unk := fun (t : State) => if t.flag F.CLS_LP_MODE_UNK_ACT lp then (t.clsCnt sl 16, none) else (t, some flood)
  match s.fld F.CLS_LP_MODE_MODE lp with
  | 0 => (s, some (s.fld F.CLS_LP_MODE_DEF_PEER lp))
  | m =>
    if isGroup dst then (s, some flood)
    else if m = 2 ∧ p.ip ≠ 0 then
      match lpmW with
      | none => unk s
      | some w =>
        match bits w 29 28 with
        | 0 => (s, some (bits w 9 0))
        | 1 => (s.clsCnt sl 15, none)
        | _ => (s, some flood)
    else
      match s.macPeer lp dst with
      | (s1, some q) => (s1, some q)
      | (s1, none) => unk s1

/-- Stage 2 of the encrypt path up to the queue (R52, R54): fixed is a ring descriptor's class. -/
def State.encChoose (s : State) (lp hp : Nat) (fixed : Option Nat) (b : List Byte) : State × Option EncChoice :=
  let sl := lp / 16
  let p := parse (s.fld F.CLS_TPID_X) b
  let dst := dstMac b
  let (s1, lw) := if s.fld F.CLS_LP_MODE_MODE lp = 2 ∧ p.ip ≠ 0 ∧ !isGroup dst then s.lpm sl p else (s, none)
  let c := match fixed with
    | some k => k
    | none => s1.frameClass hp p lw
  match s1.goodWord sl 8 s1.bank (lp * 8 + c) with
  | (s2, none) => (s2, none)
  | (s2, some w) =>
    if bits w 30 30 = 0 ∨ !s2.secyValid (bits w 10 0) then (s2.clsCnt sl 14, none)
    else
      match s2.choosePeer lp p dst lw with
      | (s3, none) => (s3, none)
      | (s3, some q) =>
        match s3.goodWord sl 7 s3.bank q with
        | (s4, none) => (s4, none)
        | (s4, some e) =>
          let pe := peerEnt e
          if pe.valid && pe.line == lp then (s4, some ⟨c, bits w 10 0, q, pe.qbase + c⟩) else (s4.clsCnt sl 14, none)

/-- The host port a decrypted frame goes to (R55): position CRC-32(destination) mod N among the mapped ports. -/
def State.hostFor (s : State) (lp dst : Nat) : Option Nat :=
  let l := s.hostsOf lp
  if l.isEmpty then none else l[crc32 (beOctets 6 dst) % l.length]?

/-! ## Learning (R61-R64) -/

/-- The line port learns: MP_L2 or MP_L3 mode. -/
def State.learns (s : State) (lp : Nat) : Bool := s.fld F.CLS_LP_MODE_MODE lp != 0

/-- The learning limit of a port is reached (R63). -/
def State.atLimit (s : State) (lp : Nat) : Bool :=
  s.fld F.CLS_LP_LEARN_LIMIT lp != 0 && decide (s.fld F.CLS_LP_LEARN_LIMIT lp ≤ s.learnCount lp)

/-- A learnable source address: individual and not zero. -/
def learnable (mac : Nat) : Bool := mac != 0 && !isGroup mac

/-- The limit check at stage 2 of decrypt (R63): none when the frame is dropped, else whether it is to be delivered unlearned
because of the limit. An entry whose peer entry is invalid is a miss (R64); a peer word with bad parity drops the frame (R67).
DEDUCED (log entry 31): a group or zero source, which R61 never learns, is not checked. -/
def State.limitCheck (s : State) (lp src : Nat) : State × Option Bool :=
  let sl := lp / 16
  if s.learns lp && learnable src && s.atLimit lp then
    let miss := fun (t : State) => if t.flag F.CLS_LP_LEARN_EXCESS lp then (t, some true) else (t.clsCnt sl 9, none)
    match s.macLook sl (lp % 16) src with
    | (s1, some i) =>
      match s1.goodWord sl 7 s1.bank (mePeer (s1.macEnt sl i)) with
      | (s2, some w) => if (peerEnt w).valid then (s2, some false) else miss s2
      | (s2, none) => (s2, none)
    | (s1, none) => miss s1
  else (s, some false)

/-- Learning for a line port or peer is suspended by a flush (R65). -/
def State.flushHolds (s : State) (lp peer : Nat) : Bool :=
  s.cls.flushes.any (fun f => f.slice == lp / 16 && (if f.byPeer then f.value == peer else f.value == lp % 16))

/-- Learn a source address against a peer at the verdict (R61-R63). -/
def State.learn (s : State) (lp src peer : Nat) : State :=
  let sl := lp / 16
  if !s.learns lp || !learnable src || s.flushHolds lp peer then s
  else
    match s.macLook sl (lp % 16) src with
    | (s1, some i) =>
      let e := s1.macEnt sl i
      if meStatic e then s1
      else
        let s2 := s1.setMacEnt sl i (mkMac src (lp % 16) peer 0 false)
        if mePeer e = peer then s2 else s2.clsCnt sl 7
    | (s1, none) =>
      if s1.atLimit lp then s1.clsCnt sl 10
      else
        let b := macBucket (lp % 16) src * 8
        match (List.range 8).find? (fun w => !meValid (s1.macEnt sl (b + w))) with
        | some w => (s1.setMacEnt sl (b + w) (mkMac src (lp % 16) peer 0 false)).clsCnt sl 6
        | none => s1.clsCnt sl 8

/-- A sweep's step on one entry of a slice (R64): a static entry stays as it is; an entry of age 2, or whose peer entry is invalid,
leaves; any other is one older. A word with bad parity is reported: the entry itself is invalidated, and a bad peer word says
nothing against its entry (R67). DESIGN CHOICE (log entry 31): entries removed for an invalid peer count as aged out too; the
spec names no counter for them. -/
def State.sweepOne (s : State) (sl i : Nat) (e : BitVec 96) : State :=
  let gone := fun (t : State) => (t.dropMac sl i).clsCnt sl 11
  if !meValid e then s
  else if !evenM e then (s.perr sl i true).dropMac sl i
  else if meStatic e then s
  else
    let older := fun (t : State) => t.setMacEnt sl i (mkMac (meMac e) (meLport e) (mePeer e) (meAge e + 1) false)
    match s.goodWord sl 7 s.bank (mePeer e) with
    | (t, some w) => if 2 ≤ meAge e ∨ !(peerEnt w).valid then gone t else older t
    | (t, none) => if 2 ≤ meAge e then gone t else older t

/-- The ageing sweep over every slice (R64). -/
def State.sweep (s : State) : State := s.cls.mac.foldl (fun t e => t.sweepOne (e.1 / 2 ^ 18) (e.1 % 2 ^ 18) e.2) s

/-- The sweep period, ns (R64): AGE_S / 3 seconds, four times longer from shed stage S1 upward. -/
def State.sweepPeriod (s : State) : Nat := s.fld F.CLS_AGE_AGE_S * 1000000000 / 3 * (if 1 ≤ s.pwr.stage then 4 else 1)

/-- Schedule by AGE_S (R64): 0 cancels the scheduled sweep; without one, the first is due one period from now; a scheduled one
stays. -/
def State.schedule (s : State) : State :=
  let at_ := if s.fld F.CLS_AGE_AGE_S = 0 then none
    else match s.cls.sweepAt with
      | some t => some t
      | none => some (s.nowNs + s.sweepPeriod)
  { s with cls := { s.cls with sweepAt := at_ } }

/-- Insert a MAC entry by key (R70): replaced in its way, or placed in a free way; false when the bucket is full. -/
def State.macInsert (s : State) (slice : Nat) (e : BitVec 96) : State × Bool :=
  match s.macFind slice (meLport e) (meMac e) with
  | some i => (s.setMacEnt slice i e, true)
  | none =>
    let b := macBucket (meLport e) (meMac e) * 8
    match (List.range 8).find? (fun w => !meValid (s.macEnt slice (b + w))) with
    | some w => (s.setMacEnt slice (b + w) e, true)
    | none => (s, false)

/-- The walk of a flush ends: matching entries are removed and counted (R65). -/
def State.flushWalk (s : State) (f : Flush) : State :=
  s.cls.mac.foldl (fun t e =>
    if e.1 / 2 ^ 18 == f.slice && meValid e.2 && (if f.byPeer then mePeer e.2 == f.value else meLport e.2 == f.value) then
      (t.dropMac f.slice (e.1 % 2 ^ 18)).clsCnt f.slice 17
    else t) s

/-- Stored words of a table of slice 0 in lo .. lo + len - 1. -/
def State.wordsIn (s : State) (table bank lo len : Nat) : List W32 :=
  s.cls.mem.filterMap (fun e =>
    if e.1 / 2 ^ 22 == table * 2 + bank && decide (lo ≤ e.1 % 2 ^ 22) && decide (e.1 % 2 ^ 22 < lo + len) then some e.2 else none)

/-- Whether a block of memory mem, its children of the given sizes below it, reaches word a of a table (6: result a). -/
def State.reachIn (s : State) (sizes : List Nat) (mem bank lo len table a : Nat) : Bool :=
  (mem == table && decide (lo ≤ a) && decide (a < lo + len)) ||
  (s.wordsIn mem bank lo len).any (fun w =>
    if bits w 30 29 = 1 then table == 6 && bits w 19 0 == a
    else if bits w 30 29 = 2 then
      match sizes with
      | [] => false
      | z :: t => s.reachIn t (mem + 1) 0 (bits w 21 0) z table a
    else false)
termination_by structural sizes

/-- The old bank reaches word a of table 1-5, or result a (R60). -/
def State.reaches (s : State) (table a : Nat) : Bool :=
  s.reachIn [256, 256] 0 (1 - s.bank) 0 65536 table a ||
  s.reachIn [65536, 65536, 65536, 256, 256] 0 (1 - s.bank) 65536 65536 table a

end Sys2Proof.Machine
end

