-- ==== Sys2Proof/Machine/Path.lean ====
section
/-!
DEFINITION. The secured path (01): arrival at the MAC (R36, R37, R39), stage 2 in both directions (R54, R80-R89, R332), PN issue
(R13, R82, R83), stages 4 to 8 with verdicts, commit points, cut-through and stomping (R17-R20), and what leaves a port.
-/

namespace Sys2Proof.Machine

/-- A frame of this port waits at stage 3 and holds the later ones in the FIFO (R16, R23, R24). -/
def State.blocked (s : State) (p : Nat) : Bool :=
  (s.par.draining && decide (p < 64)) ||
  s.frames.any (fun f => f.ingress == some p && (s.waitsAt3 f || (f.stage == .dispatch && s.yrd.restricted && !s.firstInLine f)))

/-! ## Dropping -/

/-- Drop a frame whole, with a ring result. -/
def State.dropFrame (s : State) (f : Frame) (res : Nat := 4) : State := s.endFrame f res

/-- A shed drop at stage 2 (R168, R295): PWR counter 14. -/
def State.shedDrop (s : State) (f : Frame) : State := (s.dropFrame f).count .pwr 0 0 14

/-- Count a SecY, receive-SC or line-port event of R93. -/
def State.secCnt (s : State) (kind i c : Nat) (n : Nat := 1) : State := s.count .sec kind i c n

/-- Count a frame at its SA, unless a later install has reset that SA's counters (R93). -/
def State.saCnt (s : State) (f : Frame) (k c : Nat) : State := if (s.sa k).inst = f.inst then s.secCnt 3 k c else s

/-! ## Host RX rings and traps (R332, R333) -/

/-- Descriptors in a ring. -/
def State.rxSize (s : State) (r : Nat) : Nat := 2 ^ (6 + s.fld F.HFR_RX_CTL_SIZE r)

/-- Posted RX descriptors not yet spoken for. -/
def State.rxPosted (s : State) (r : Nat) : Nat :=
  let n := s.rxSize r
  (s.fld F.HFR_RX_TAIL_IDX r + n - (s.ring (8 + r)).head) % n - (s.ring (8 + r)).rxq.length

/-- Send a frame to an RX ring, or drop it there (R332). -/
def State.toRing (s : State) (r : Nat) (o : List Byte) (port flags trap : Nat) (ts : Int) : State :=
  let b := bodyOf o
  let drop := fun (c : Nat) => (s.count .hfr 1 r c).setRing' (16 + r)
  if !(s.bucket 2 129).ok then drop 3
  else if !s.flag F.HFR_RX_CTL_EN r || s.rxPosted r == 0 then drop 2
  else if (s.fld F.HFR_RX_CTL_BUF r + 1) * 1024 < b.length then drop 4
  else
    let g := s.ring (8 + r)
    (s.setRing (8 + r) { g with rxq := g.rxq ++ [(b, BitVec.ofNat 8 port, BitVec.ofNat 8 flags, trap, ts)] }).setBucket 2 129
      ((s.bucket 2 129).debit o.length)

/-- The trap entry that matches: (entry, ring, redirect) (R332). -/
def State.trapFor (s : State) (port etype dst : Nat) : Option (Nat × Nat × Bool) :=
  match (List.range 16).find? (fun k =>
    s.flag F.HFR_TRAP_MATCH_EN k &&
    (s.flag F.HFR_TRAP_MATCH_ANY_PORT k || s.fld F.HFR_TRAP_MATCH_PORT k == port) &&
    (s.flag F.HFR_TRAP_MATCH_ANY_ETYPE k || s.fld F.HFR_TRAP_MATCH_ETYPE k == etype) &&
    (s.flag F.HFR_TRAP_MATCH_ANY_DA k ||
      (s.word .HFR_TRAP_DA_HI k).toNat % 2 ^ 16 * 2 ^ 32 + (s.word .HFR_TRAP_DA_LO k).toNat == dst)) with
  | some k => some (k, s.fld F.HFR_TRAP_MATCH_RING k, s.flag F.HFR_TRAP_MATCH_REDIRECT k)
  | none => none

/-- The trap a frame's octets match on a port. -/
def State.trapOn (s : State) (port : Nat) (o : List Byte) : Option (Nat × Nat × Bool) :=
  let b := bodyOf o
  s.trapFor port (parse (s.fld F.CLS_TPID_X) b).etype (dstMac b)

/-! ## Stage 2, encrypt (R13, R54, R80-R83) -/

/-- A buffer line of a frame is poisoned, or its stack is lost (R191, R196). -/
def State.poisoned (s : State) (f : Frame) : Bool :=
  let n := ((if f.outOct.isEmpty then f.octets else f.outOct).length + 63) / 64
  f.pages.zipIdx.any (fun e =>
    let st := e.1 / 2 ^ 30
    let a := st * 2 ^ 38 + e.1 % 2 ^ 30 * 16
    let b := a + min 16 (n - e.2 * 16)
    (s.stk st).mode == .lost || s.cel.poison.any (fun l => decide (l.1 < b) && decide (a < l.1 + l.2)))

/-- A frame has left its ingress FIFO, or its cost to it has changed. -/
def State.noteFrame (s : State) (f : Frame) : State :=
  match f.ingress with
  | some p => s.noteFill p
  | none => s

/-- Park a frame (R83): with cellar pages, which one parked before has kept; from S2 upward classes 0-3 are dropped at once. It
leaves its ingress FIFO. -/
def State.park (s : State) (f : Frame) : State :=
  let gone := fun (t : State) => ((t.dropFrame f).secCnt 1 f.secy 5).setInt .SEC_INT_STAT 2
  if (2 ≤ s.pwr.stage ∧ f.cls ≤ 3) ∨ s.fld F.SEC_CTL_PNHOLD_MS = 0 then gone s
  else if !f.pages.isEmpty then (s.setFrame { f with stage := .parked }).noteFrame f
  else
    match s.takePages (pagesOf f.octets.length) with
    | some (l, s1) => (((s1.setFrame { f with stage := .parked, pages := l }).putLines l f.octets).notePages).noteFrame f
    | none => gone s

/-- Frames of a stopped SecY that waited at stage 2 are parked (R83). -/
def State.parkWaiting (s : State) (n : Nat) : State :=
  if (s.secy n).stopped then
    (s.frames.filter (fun f => f.secy == n && f.stage == .waitPn)).foldl (fun t f => t.park f) s
  else s

/-- The last part of stage 2 on encrypt: SecY checks, policing, then wait for the PN (R76, R80, R83, R93, R166). -/
def State.encAdmit (s : State) (f : Frame) (c : EncChoice) : State :=
  let y := s.secy c.secy
  let f := { f with cls := c.cls, secy := c.secy, peer := c.peer, queue := c.queue, tpl := s.fld F.SEC_SECY_CFG_TPL c.secy }
  let s := s.setFrame f
  let host := match f.src with
    | .hostPort n => some n
    | _ => none
  if !s.carried c.cls || (decide (4 ≤ s.pwr.stage) && decide (c.cls < 6) && s.setFull c.secy) then s.shedDrop f
  else if y.held then (s.dropFrame f).secCnt 1 c.secy 7
  else if (s.curSa c.secy).isNone && !y.stopped then (s.dropFrame f).secCnt 1 c.secy 6
  else if host.isNone && decide (s.maxFrame (64 + f.lport) < s.cipherLen c.secy f.octets.length) then
    (s.dropFrame f).secCnt 1 c.secy 4
  else
    let (s1, col) := match host with
      | some n => s.police (8 * n + c.cls) f.octets.length
      | none => (s, some false)
    match col with
    | none => s1.dropFrame f
    | some yel =>
      let f1 := { f with yellow := yel, stage := .waitPn }
      let s2 := s1.setFrame f1
      if y.stopped then s2.park f1 else s2

/-- Stage 2 on encrypt for a frame from a host port or a privileged ring bound for a line port (R11, R52, R54, R332). -/
def State.classifyEnc (s : State) (f : Frame) : State :=
  let s0 := s.clsCnt (f.lport / 16) 0
  if s0.pwr.stage = 6 then s0.shedDrop f
  else
    let hp := f.hport.getD 0
    match s0.encChoose f.lport hp f.privCls (bodyOf f.octets) with
    | (s1, none) => s1.dropFrame f
    | (s1, some c) =>
      match f.src with
      | .hostPort n =>
        match s1.trapOn n f.octets with
        | some (k, r, true) => (s1.toRing r f.octets n c.cls k f.inTime).dropFrame f
        | some (k, r, false) => (s1.toRing r f.octets n c.cls k f.inTime).encAdmit f c
        | none => s1.encAdmit f c
      | _ => s1.encAdmit f c

/-- The cost of a frame that finished stage 2 enters the demand (R142, R147, R291), unless it did when it arrived. -/
def State.addDemand (s : State) (f : Frame) : State :=
  let n := frameCost (s.ctLen f)
  let v := s.scSet f.sc
  let s1 := ({ s with yrd := { s.yrd with demAcc := if f.costed then s.yrd.demAcc else s.yrd.demAcc + n } }).setScSet f.sc
    { v with demNow := v.demNow + n }
  if 6 ≤ f.cls then { s1 with pwr := { s1.pwr with dem67 := s1.pwr.dem67 + n } } else s1

/-- No earlier frame of the SecY waits for a PN (R13, R83). -/
def State.nextForPn (s : State) (f : Frame) : Bool :=
  match s.frames.find? (fun g => g.secy == f.secy && g.enc && (g.stage == .waitPn || g.stage == .parked)) with
  | some g => g.id == f.id
  | none => false

/-- Issue a frame's PN and bind it (R13, R14, R82, R83), or leave it waiting for a lease. -/
def State.issuePn (s : State) (f : Frame) : State :=
  if f.stage != .waitPn || !s.nextForPn f || s.par.draining then s
  else
    match s.curSa f.secy with
    | none => if (s.secy f.secy).stopped then s.park f else (s.dropFrame f).secCnt 1 f.secy 6
    | some k =>
      let a := s.sa k
      if a.stopped then (s.handleStop f.secy).parkWaiting f.secy
      else if s.poisoned f then (s.dropFrame f).count .cel 0 (f.pages.headD 0 / 2 ^ 30) 12
      else if a.lease < a.pn then s.leaseCheck k
      else
        let y := s.secy f.secy
        let last := !s.xpn f.secy && a.pn == 0xFFFFFFFF
        let f1 := { f with stage := .dispatch, sa := some k, inst := a.inst, slot := a.slot, pn := BitVec.ofNat 64 a.pn, seqNo := y.seqNext, pages := [] }
        let s1 := (((s.giveBack f.pages).setSa k { a with pn := a.pn + 1, stopped := last }).setSecy f.secy
          { y with seqNext := y.seqNext + 1 }).setFrame f1
        let s2 := s1.addDemand f1
        let s3 := if !s.xpn f.secy && a.pn == 0xC0000000 then (s2.pnEvent k 0).notice (.rekey f.secy) else s2
        if last then (s3.handleStop f.secy).parkWaiting f.secy else s3.leaseCheck k

/-! ## Stage 2, decrypt (R84-R89) -/

/-- What validateFrames says: 0 Disabled, 1 Check, 2 Strict. -/
def State.validate (s : State) (n : Nat) : Nat := s.fld F.SEC_SECY_CFG_VALIDATE n

/-- validateFrames of a received frame's SecY when its stage 2 began (R94). -/
def Frame.validate (f : Frame) : Nat := bits f.cfg 23 22

/-- replayProtect of a received frame's SecY when its stage 2 began (R94). -/
def Frame.replayProtect (f : Frame) : Bool := bits f.cfg 21 21 == 1

/-- A received frame takes the settings of its SecY (R14, R94). -/
def State.ofSecy (s : State) (f : Frame) (n : Nat) : Frame :=
  { f with secy := n, cfg := s.word .SEC_SECY_CFG n, win := s.fld F.SEC_SECY_WIN_WINDOW n, tpl := s.fld F.SEC_SECY_CFG_TPL n }

/-- A received frame is bound (R14, R149): the next sequence number of its SC, then stage 3. -/
def State.bindDec (s : State) (f : Frame) : State :=
  match f.rsc with
  | some r =>
    let x := s.rsc r
    let g := { f with seqNo := x.seqNext, stage := .dispatch }
    ((s.setRsc r { x with seqNext := x.seqNext + 1 }).addDemand g).setFrame g
  | none =>
    let g := { f with seqNo := f.id, stage := .dispatch }
    (s.addDemand g).setFrame g

/-- A classified receive frame that is not dropped: it goes on to its host port, policing and stage 3 (R11, R34, R63, R166). -/
def State.decAdmit (s : State) (f : Frame) : State :=
  let lp := f.lport
  let tag := f.rx == .tagged
  let (s1, w) : State × Option W32 := match f.rsc with
    | some r => s.goodWord (lp / 16) 9 0 r
    | none => (s, some 0#32)
  match w with
  | none => s1.dropFrame f
  | some w =>
    let c := if tag && bits w 30 30 == 1 then bits w 29 27 else 0
    let peer := if bits w 30 30 = 1 then bits w 9 0 else 0
    match s1.hostFor lp (dstMac f.octets) with
    | none => (s1.dropFrame f).clsCnt (lp / 16) 18
    | some hp =>
      let f1 := { f with cls := c, hport := some hp, peer := peer }
      match (if tag then s1.limitCheck lp (srcMac f.octets) else (s1, some false)) with
      | (s2, none) => s2.dropFrame f
      | (s2, some lim) =>
        let f2 := { f1 with learnOk := tag && bits w 30 30 == 1, excess := lim }
        if !s2.carried c || (decide (4 ≤ s2.pwr.stage) && decide (c < 6) && s2.setFull f2.sc) then s2.shedDrop f
        else
          match s2.police (512 + 8 * lp + c) f.octets.length with
          | (s3, none) => s3.dropFrame f
          | (s3, some yel) => s3.bindDec { f2 with yellow := yel }

/-- A tagged frame whose receive SC is known (R86, R87, R89 steps 1 and 2). -/
def State.decSa (s : State) (f : Frame) (t : SecTagIn) (r : Nat) : State :=
  let n := (s.rsc r).secy
  let car := if (s.carrier (s.fld F.SEC_SECY_CFG_TPL n)).isSome then 1 else 0
  let k := 8192 + r * 4 + t.an
  let a := s.sa k
  let bad := (s.dropFrame f).secCnt 0 f.lport 2
  let f := s.ofSecy { f with rsc := some r } n
  if s.fld F.SEC_SECY_CFG_CLEAR_TAGS n + car < t.tags ∨ t.tags < car then bad
  else if !a.installed then
    if s.validate n = 2 ∨ t.c then (s.dropFrame f).secCnt 2 r 6
    else (s.secCnt 2 r 7).decAdmit { f with rx := .unusedSa }
  else
    let pn := recoverPn (s.xpn n) a.pn t.pn
    let f1 := { f with sa := some k, inst := a.inst, slot := a.slot, pn := BitVec.ofNat 64 pn }
    if pn = 0 then bad
    else if s.validate n = 0 ∧ !t.c then (s.secCnt 2 r 3).decAdmit { f1 with rx := .unchecked }
    else if s.flag F.SEC_SECY_CFG_REPLAY_PROTECT n && decide (pn < a.pn) then (s.dropFrame f).secCnt 2 r 5
    else s.decAdmit { f1 with rx := .tagged }

/-- Stage 2 of the decrypt path (R84-R86). -/
def State.classifyDec (s : State) (f : Frame) : State :=
  let lp := f.lport
  let s := s.clsCnt (lp / 16) 1
  let x := s.fld F.CLS_TPID_X
  let b := bodyOf f.octets
  if s.pwr.stage = 6 then s.shedDrop f
  else
    match parseTag x b with
    | none =>
      if (parse x b).etype = 0x888E then
        let s1 := s.secCnt 0 lp 5
        let s2 := match s1.trapOn (64 + lp) f.octets with
          | some (k, r, _) => if fcsOk f.octets then s1.toRing r f.octets (64 + lp) 16 k f.inTime else s1
          | none => s1
        s2.dropFrame f
      else
        match s.class0 lp with
        | none => (s.dropFrame f).secCnt 0 lp 1
        | some n =>
          if s.validate n = 2 then (s.dropFrame f).secCnt 0 lp 1
          else (s.secCnt 0 lp 0).decAdmit (s.ofSecy { f with rx := .untagged } n)
    | some t =>
      if t.bad b.length then (s.dropFrame f).secCnt 0 lp 2
      else
        let r := if t.sc then s.findRsc lp t.sci
          else if t.es then s.findRsc lp (srcMac b * 65536 + 1)
          else s.implicitRsc lp
        match r with
        | some r => s.decSa f t r
        | none =>
          match s.class0 lp with
          | none => (s.dropFrame f).secCnt 0 lp 3
          | some n =>
            if s.validate n = 2 ∨ t.c then (s.dropFrame f).secCnt 0 lp 3
            else (s.secCnt 0 lp 4).decAdmit (s.ofSecy { f with rx := .unknownSci } n)

/-- Stage 2 of a frame. -/
def State.classify (s : State) (f : Frame) : State := if f.enc then s.classifyEnc f else s.classifyDec f

/-- Classify frames that wait in an ingress FIFO no longer held, in arrival order (R16, R23). -/
def State.pump (s : State) (fuel : Nat) : State :=
  match fuel with
  | 0 => s
  | k + 1 =>
    match s.frames.find? (fun f => f.stage == .fifo && (match f.ingress with
      | some p => !s.blocked p
      | none => true)) with
    | some f => (s.classify f).pump k
    | none => s

/-- Let every FIFO go on. -/
def State.pumpAll (s : State) : State := s.pump s.frames.length

/-! ## Arrival (R23, R36, R37) -/

/-- The transmitter of a port stops, or resumes, for a received pause frame (R37). -/
def State.rxPause (s : State) (p quanta : Nat) : State :=
  let s1 := s.portCnt p 8
  let obey := if p < 64 then s.flag F.HPT_FC_RX_OBEY p else s.flag F.LPT_FC_RX_OBEY (p - 64)
  if obey && !(s1.port p).storm then s1.setPort p { s1.port p with paused := quanta != 0 } else s1

/-- Selection stops, or resumes, for the priorities a received PFC frame names (R37). -/
def State.rxPfc (s : State) (p : Nat) (en : BitVec 8) (times : List Nat) : State :=
  let s1 := (List.range 8).foldl (fun t k => if en.getLsbD k then t.portCnt p (10 + k) else t) s
  let obey := if p < 64 then s.flag F.HPT_FC_RX_OBEY p else s.flag F.LPT_FC_RX_OBEY (p - 64)
  if obey && !(s1.port p).storm then
    let m := (List.range 8).foldl (fun (a : Nat) k =>
      if en.getLsbD k then (if times.getD k 0 = 0 then a else a + 2 ^ k)
      else if (s1.port p).pfcPaused.getLsbD k then a + 2 ^ k else a) 0
    s1.setPort p { s1.port p with pfcPaused := BitVec.ofNat 8 m }
  else s1

/-- A MAC control frame is consumed at the MAC (R37). -/
def State.macControl (s : State) (p : Nat) (b : List Byte) : State :=
  match beAt b 14 2 with
  | 0x0001 => s.rxPause p (beAt b 16 2)
  | 0x0101 => s.rxPfc p (BitVec.ofNat 8 (beAt b 16 2)) ((List.range 8).map (fun k => beAt b (18 + 2 * k) 2))
  | _ => s

/-- The timestamp of a frame's first bit at a port's pins (R214). -/
def State.rxStamp (s : State) (p : Nat) : Int :=
  s.timeT + (((Config.rxDelay (s.port p).formAct.toNat (s.port p).fecAct.toNat).toNat * 4096 : Nat) : Int)

/-- A frame that waits in its ingress FIFO behind another is counted in the demand as it arrives (R142). DESIGN CHOICE (log entry 32):
before stage 2 its SecY is not known, so an encrypt frame is counted with the default growth of 32 octets. -/
def State.costWaiting (s : State) (id : Nat) : State :=
  match s.frame? id with
  | some f =>
    if f.stage == .fifo then
      let n := frameCost (f.octets.length + (if f.enc then 32 else 0))
      ({ s with yrd := { s.yrd with demAcc := s.yrd.demAcc + n } }).setFrame { f with costed := true }
    else s
  | none => s

/-- A frame arrives at a port and goes to stage 2, or waits in the ingress FIFO (R11, R23, R36). DESIGN CHOICE (log entry 32): a frame
with more than one defect takes one counter, in the order oversize, runt, FCS error; the spec gives no order. -/
def State.arrive (s : State) (p : Nat) (o : List Byte) : State :=
  let mf := s.maxFrame p
  let cut := decide (mf < o.length)
  let runt := decide (o.length < 64)
  let good := fcsOk o && !cut && !runt
  let oc := if cut then o.take mf else o
  let s0 := if good then (s.portCnt p 2).portCnt p 3 o.length
    else if cut then s.portCnt p 6 else if runt then s.portCnt p 5 else s.portCnt p 4
  if beAt o 12 2 = 0x8808 then (if good then s0.macControl p (bodyOf o) else s0)
  else if p < 64 && s.par.st == .standby then s0.count .par 0 0 11
  else if 131072 < s0.fifoFill p + oc.length then s0.portCnt p 7
  else
    let lp := if p < 64 then (s.lineOf p).getD 0 else p - 64
    let f : Frame := {
      id := s0.nextId, enc := decide (p < 64), src := if p < 64 then .hostPort p else .linePort (p - 64),
      octets := oc, cutErr := cut || runt, stage := .fifo, lport := lp, hport := if p < 64 then some p else none,
      arrived := s0.counter, inTime := s0.rxStamp p }
    let s1 := ({ s0 with nextId := s0.nextId + 1, frames := s0.frames ++ [f] }).noteFill p
    s1.pumpAll.costWaiting f.id

/-! ## Stages 4 to 6 -/

/-- The part's transmitters are open (R224). -/
def State.gateOpen (s : State) : Bool := s.par.gate

/-- What a frame's final octets are counted as when it leaves a port whole (R49, R93, R174). -/
def State.countSent (s : State) (f : Frame) (p : Nat) (q : Nat) : State :=
  let s1 := (s.portCnt p 0).portCnt p 1 f.outOct.length
  let s2 := (s1.count .tmg 0 q 6).obsEvent (.port p) (if f.cut then 0x02 else 0x03)
  match f.enc, f.sa with
  | true, some k =>
    let n := f.secy
    let b := bodyOf f.octets
    let sd := b.length - 12 - 4 * s.clearTags n b
    if s.fld F.SEC_SECY_CFG_CONF n = 3 then (s2.saCnt f k 0).secCnt 1 n 2 sd else (s2.saCnt f k 1).secCnt 1 n 3 sd
  | _, _ => s2

/-- The egress timestamp at the pin: 6 ns after stage 8 begins, with the port's transmit delay (R11, R214). -/
def State.txStamp (s : State) (p : Nat) : Int :=
  s.timeT + launchLead + (((Config.txDelay (s.port p).formAct.toNat (s.port p).fecAct.toNat).toNat * 4096 : Nat) : Int)

/-- A frame counted late: LAUNCH_LATE. -/
def State.noteLate (s : State) (p : Nat) : State := (s.count .tmg 2 p 1).setInt .TMG_INT_STAT 5

/-- A frame of a host port's privileged queue would start later than LATE_NS after its launch time (R172). On a line port the
late test stands at release (R173). -/
def State.startsLate (s : State) (f : Frame) : Bool :=
  match f.launch with
  | some l => decide (f.egress < 64) && !f.ptpDep && decide (l + s.lateNs f.egress < s.timeT + launchLead)
  | none => false

/-- A frame leaves its port: whole, or stomped when its verdict failed after the commit point (R18); on decrypt the host
port's editor corrects PTP event messages (R213). A closed gate sends nothing. -/
def State.sendFrame (s : State) (f : Frame) : State :=
  let p := f.egress
  let t := s.txStamp p
  let bad := f.verdict != .good
  let (o, cf) := if !f.enc && s.flag F.TIM_CTL_TC_EN && p < 64 && nbit ((s.word .TIM_TC_HP_HI).toNat * 2 ^ 32 + (s.word .TIM_TC_HP_LO).toNat) p &&
      (match f.src with
       | .linePort _ => true
       | _ => false) then
      match ptpEvent (s.fld F.CLS_TPID_X) (s.fld F.TIM_CTL_TC_ENC) (bodyOf f.outOct) with
      | some (h, u) => let b := addCorrection (bodyOf f.outOct) h u (t - f.inTime); (b ++ fcs b, true)
      | none => (f.outOct, false)
    else (f.outOct, false)
  let late := s.startsLate f
  let s1 := s.rmFrame f.id
  if !s.gateOpen then s1.dsc f 6 0
  else
    let s2 := if cf then s1.count .tim 0 0 1 else s1
    if bad then
      let s3 := s2.emit (.frame (portAt p) (stomp o) t)
      match f.verdict with
      | .badFcs => s3.portCnt p 27
      | .engineFault => s3.count .yrd 0 0 6
      | _ => s3.portCnt p 29
    else
      let s3 := (s2.emit (.frame (portAt p) o t)).countSent f p f.queue
      let s4 := if late && !f.lateCnt then s3.noteLate p else s3
      s4.dsc f (if late || f.lateCnt then 1 else 0) t

/-- A failed verdict before the commit point drops the frame whole (R18), counted at its egress port. -/
def State.dropWhole (s : State) (f : Frame) : State :=
  let s1 := s.dropFrame f
  match f.verdict with
  | .badFcs => s1.portCnt f.egress 26
  | _ => s1.portCnt f.egress 28

/-- An engine completes a segment (R138, R352). -/
def State.finishSeg (s : State) (f : Frame) (j : Nat) : State :=
  match f.segs.find? (fun g => g.j == j && !g.done) with
  | none => s
  | some g =>
    let used := 32768 - s.roFree
    let (s0, ok) := s.hwAccess (16 + g.eng) 2 (0x40000000 + used % 32768 * 256) true true
    if !ok then s0.dropFrame f
    else
      let s1 := (s0.credit g.eng (segCost (s.ctLen f) j f.segs.length) 1).freeSeg f.id j g.eng
      let f1 := { f with segs := f.segs.map (fun q => if q.j == j then { q with done := true } else q) }
      let s2 := s1.setFrame f1
      if f1.inEngine then s2
      else
        let (f2, cf, miss) := s2.render f1
        let s3 := (s2.obsEvent (.engine g.eng) 0x09 (tplSteps (s.template f.tpl))).obsEvent
          (.engine g.eng) (if f.enc then 0x0A else 0x0B)
        let s4 := if miss then
            (s3.setEng g.eng { s3.eng g.eng with tplMiss := (s3.eng g.eng).tplMiss + 1 }).setInt .ENG_INT_STAT 2
          else s3
        let s5 := if cf then s4.count .tim 0 0 0 else s4
        let f3 := { f2 with
          stage := if f.stage == .cipher then .reorder else f.stage
          launch := if cf then some (f.inTime + ((s.fld F.TIM_PTP_CFG2_RES_NS * 65536 : Nat) : Int)) else f.launch
          ptpDep := cf }
        let s6 := (s5.setFrame f3).noteRo
        let s7 := if f3.stage == .committed && f3.verdict != .unknown then s6.sendFrame f3 else s6
        (s7.noteFrame f).pumpAll

/-! ## Stage 7 (R17, R160, R167) -/

/-- A frame on its way out of a port in stages 7 or 8: the port is not idle. -/
def State.portBusy (s : State) (p : Nat) : Bool :=
  s.frames.any (fun g => g.egress == p && (g.stage == .held || g.stage == .committed))

/-- The ingress rate of a frame; a frame the part originates is held whole. -/
def State.ingressRate (s : State) (f : Frame) : Nat :=
  match f.ingress with
  | some p => s.rate p
  | none => 0

/-- Its host queue or line-side queue at stage 7. -/
def Frame.egressQueue (f : Frame) : Nat :=
  if f.enc then f.queue
  else
    match f.hport with
    | some n => hostQueue n f.cls
    | none => f.queue

/-- A tail drop at admission (R167). -/
def State.tailDrop (s : State) (f : Frame) (q c : Nat) : State := (s.dropFrame f).count .tmg 0 q c

/-- Queued frames are discarded and counted (R168). -/
def State.discardAll (s : State) (l : List Frame) : State :=
  if l.isEmpty then s
  else (l.foldl (fun t f => if f.queue = ctlQueue then t.endFrame f 4 else (t.endFrame f 4).count .tmg 0 f.queue 5) s).setInt .TMG_INT_STAT 6

/-- Queued frames that meet p are discarded (R168). -/
def State.discard (s : State) (p : Frame → Bool) : State := s.discardAll (s.frames.filter (fun f => f.stage == .queued && p f))

/-- Frames of class 0-6 at S5, and every frame at S6, are discarded as they come to be queued (R168). -/
def State.shedQueued (s : State) (f : Frame) (q : Nat) : Bool :=
  s.pwr.stage == 6 || (s.pwr.stage == 5 && decide (f.cls < 7) && decide (q < 16128))

/-- A frame comes to a queue (R167, R168): discarded, refused, or stored. -/
def State.enqueue (s : State) (f : Frame) (q : Nat) : State :=
  if s.shedQueued f q then s.discardAll [{ f with queue := q }]
  else
    match s.refuseAt f q with
    | some c => s.tailDrop f q c
    | none =>
      match s.store f q with
      | some s1 => s1
      | none => s.tailDrop f q 3

/-- Stage 7: cut-through, held for its verdict, or a place in its queue (R17, R160, R167, R172). A runt is never cut through: it is
dropped whole (R36). -/
def State.stage7 (s : State) (f : Frame) : State :=
  let p := f.egress
  let q := f.egressQueue
  let f := { f with queue := q }
  let s := s.setFrame f
  let direct := (s.queue q).frames.isEmpty && s.openQueue p q f.cls f.peer && s.portUp p && !(s.port p).paused &&
    !s.portBusy p && f.launch.isNone
  if direct then
    let redirect := match f.enc, s.trapOn (64 + f.lport) f.outOct with
      | false, some (_, _, r) => r && f.rx == .tagged
      | _, _ => false
    let cut := f.ingress.isSome && decide (64 ≤ f.octets.length) && decide (s.rate p ≤ s.ingressRate f) && (f.enc || !s.flag F.LPT_CFG_SNV f.lport) && !redirect
    s.setFrame { f with stage := .held, cut := cut }
  else s.enqueue f q

/-- The reorder stage releases a frame in its SC's order (R24, R149). A frame still in its engines may pass only to be sent
cut-through. -/
def State.release (s : State) (f : Frame) : State :=
  if !s.firstInLine f then s
  else if f.stage == .reorder then (s.stage7 f).noteRo.pumpAll
  else if f.stage == .cipher then
    match (s.stage7 f).frame? f.id with
    | some g => if g.cut then s.stage7 f else s
    | none => s
  else s

/-- Ciphertext octets of a frame that its engines have still to produce (R146). -/
def State.unproduced (s : State) (f : Frame) : Nat :=
  let l := s.ctLen f
  ((f.segs.filter (fun g => !g.done)).map (fun g => 16 * segCost l g.j f.segs.length)).sum

/-- The commit point is held back (R146): the engines of the SC's set are together slower than the egress port, and what they have
still to produce takes them longer than the port takes to send the frame. DEDUCED (log entry 33): a frame of at most 512 octets
is never held, as the spec's own example has it. -/
def State.tooSlow (s : State) (f : Frame) : Bool :=
  let pace := (((s.scSet f.sc).engs).map (fun e => (s.eng e).pace)).sum * 128
  let rate := s.rate f.egress
  decide (512 < s.ctLen f) && decide (pace < rate) && decide (f.outOct.length * pace < s.unproduced f * rate)

/-- What keeps a held frame from stage 8 (R17, R18, R37, R171, R172): its port has no link, is paused or busy, its gate, priority or the
launch guard holds it, or its verdict is awaited. -/
def State.keptBack (s : State) (f : Frame) : Bool :=
  let p := f.egress
  !s.portUp p || (s.port p).paused || s.pfcHolds p f.cls || !s.gateFits p f.cls f.outOct.length ||
    !s.guardOk p f.outOct.length (some f.id) || s.frames.any (fun g => g.egress == p && g.stage == .committed) ||
    (!f.cut && (f.verdict == .unknown || f.inEngine))

/-- The commit point (R17, R146): a held frame enters stage 8; its buckets are debited; a known good verdict sends it. -/
def State.commit (s : State) (f : Frame) : State :=
  let p := f.egress
  if f.stage != .held || s.keptBack f then s
  else if s.tooSlow f then
    if f.delayed then s else ((s.setFrame { f with delayed := true }).count .yrd 0 0 8).setInt .YRD_INT_STAT 4
  else
    let s1 := s.debitFor p f.queue f.peer f.outOct.length
    let s2 := if f.cut then s1.count .tmg 0 f.queue 2 else s1
    let f1 := { f with stage := .committed }
    let s3 := s2.setFrame f1
    if f1.verdict != .unknown && !f1.inEngine then s3.sendFrame f1 else s3

/-! ## The verdict (R18, R20, R89) -/

/-- The replay state an accepted frame leaves (R14, R88): in the SA's record, which the standby is told of, or in the drained record
that a later install has replaced. -/
def State.acceptPn (s : State) (f : Frame) (k : Nat) : State :=
  let a := (s.boundSa f k).accept f.win f.pn.toNat
  if (s.sa k).inst = f.inst then
    { s.setSa k a with
      par := { s.par with rxDirty := if s.par.rxDirty.contains k then s.par.rxDirty else s.par.rxDirty ++ [k] } }
  else { s with ghosts := s.ghosts.put (fun _ => {}) f.inst a }

/-- Learning from a validated frame (R61, R63): one to be delivered unlearned because of the limit is counted. -/
def State.learnFrom (s : State) (f : Frame) : State :=
  if f.excess then s.clsCnt (f.lport / 16) 10
  else if f.learnOk then s.learn f.lport (srcMac f.octets) f.peer else s

/-- The outcome of the verdict checks of R89 for a tagged frame with a good FCS: delivered or failed, and the state with
counters, replay state and learning. -/
def State.judge (s : State) (f : Frame) (k r : Nat) : State × Bool :=
  let n := f.secy
  let a := s.boundSa f k
  let pn := f.pn.toNat
  let tag := parseTag (s.fld F.CLS_TPID_X) (bodyOf f.octets)
  let c := tag.any (fun t => t.c)
  if !f.icvOk then
    if f.validate = 2 ∨ c then ((s.secCnt 2 r 2).saCnt f k 2, false)
    else ((s.secCnt 2 r 1).saCnt f k 1, true)
  else if f.replayProtect && a.replay pn then (s.secCnt 2 r 5, false)
  else
    let s1 := if !f.replayProtect && decide (pn < a.pn) then s.secCnt 2 r 4 else (s.secCnt 2 r 0).saCnt f k 0
    let octs := match tag with
      | some t => t.icvAt (bodyOf f.octets).length - t.data
      | none => 0
    (((s1.acceptPn f k).secCnt 1 n (if c then 1 else 0) octs).learnFrom f, true)

/-- The verdict becomes known (R18): failed frames are dropped whole before the commit point and stomped after it; a
failing queued frame waits for its dequeue. -/
def State.verdictOf (s : State) (f : Frame) : State :=
  let fcsBad := f.cutErr || !fcsOk f.octets
  let (s1, v) : State × Verdict :=
    if fcsBad then (s, .badFcs)
    else
      match f.enc, f.rx, f.sa, f.rsc with
      | false, .tagged, some k, some r =>
        let (t, ok) := s.judge f k r
        (t, if ok then .good else if f.icvOk then .late else .badIcv)
      | _, _, _, _ => (s, .good)
  let f1 := { f with verdict := v }
  let s2 := s1.setFrame f1
  if v == .good then
    let validated := f.rx == .tagged && f.icvOk
    match (if validated then s2.trapOn (64 + f.lport) f.outOct else none) with
    | some (k, r, red) =>
      let s3 := s2.toRing r f.outOct (64 + f.lport) (f.cls + 8) k f.inTime
      if red && f.stage != .committed then s3.dropFrame f1
      else if f.stage == .committed && !f1.inEngine then s3.sendFrame f1 else s3
    | none => if f.stage == .committed && !f1.inEngine then s2.sendFrame f1 else s2
  else if f.stage == .committed then (if f1.inEngine then s2 else s2.sendFrame f1)
  else if f.stage == .queued then s2
  else s2.dropWhole f1

/-- A frame's verdict may be taken now: on decrypt its ICV is complete and every earlier frame of its SC has its verdict
(R20). -/
def State.verdictDue (s : State) (f : Frame) : Bool :=
  f.verdict == .unknown &&
  (if f.enc then f.sa.isSome
   else !f.inEngine && (f.stage == .reorder || f.stage == .held || f.stage == .committed || f.stage == .queued) &&
     s.frames.all (fun g => g.enc || g.sc != f.sc || g.verdict != .unknown || decide (f.seqNo ≤ g.seqNo) || f.rsc.isNone))

/-! ## Transmit selection (R159) -/

/-- Dequeue the frame a selection chose: failed, poisoned or missed frames are dropped there (R18, R191, R212). -/
def State.dequeue (s : State) (f : Frame) (q : Nat) : State :=
  let p := f.egress
  let missed := f.ptpDep && (match f.launch with
    | some d => decide (d + 131072 < s.timeT + launchLead)
    | none => false)
  let st := (f.pages.headD 0) / 2 ^ 30
  if f.verdict != .good then s.dropWhole f
  else if s.poisoned f then (s.dropFrame f).count .cel 0 st 12
  else if missed then ((s.dropFrame f 2).count .tim 0 0 2).setInt .TIM_INT_STAT 6
  else if s.startsLate f && s.flag F.TMG_PORT_CFG_LATE_DROP p then
    let s1 := (s.dropFrame f 2).count .tmg 2 p 2
    if f.lateCnt then s1 else s1.noteLate p
  else
    let s1 := (s.unqueue q f).debitFor p q f.peer f.outOct.length
    let f1 := { f with pages := [], stage := .committed }
    (s1.setFrame f1).sendFrame f1

/-- A pause or PFC frame leaves: its counters (R49). -/
def State.sendCtl (s : State) (p : Nat) (o : List Byte) : State :=
  let s1 := ((s.emit (.frame (portAt p) o (s.txStamp p))).portCnt p 0).portCnt p 1 o.length
  let b := bodyOf o
  if beAt b 14 2 = 1 then s1.portCnt p 9
  else (List.range 8).foldl (fun t k => if nbit (beAt b 16 2) k then t.portCnt p (18 + k) else t) s1

/-- Count the gate overruns of head frames no open interval of the cycle can hold (R171). -/
def State.noteOverruns (s : State) (p : Nat) : State :=
  (s.portQueues p).foldl (fun t e =>
    match (t.queue e.1).frames.head?.bind t.frame? with
    | some f =>
      if !f.overrun && !t.gateEver p (queueClass e.1) f.outOct.length then
        ((t.setFrame { f with overrun := true }).count .tmg 2 p 0).setInt .TMG_INT_STAT 4
      else t
    | none => t) s

/-- The control FIFO's head, when the launch guard lets it start (R159, R172). -/
def State.ctlReady (s : State) (p : Nat) : Option Frame :=
  match (s.port p).ctlFifo.head?.bind s.frame? with
  | some f => if s.guardOk p f.outOct.length none then some f else none
  | none => none

/-- The control FIFO's head leaves, charged to the port bucket (R159): an MKPDU as its content, counted at its CA (R99, R119). -/
def State.sendCtlFifo (s : State) (p : Nat) (f : Frame) : State :=
  let s1 := s.setPort p { s.port p with ctlFifo := (s.port p).ctlFifo.drop 1 }
  let s2 := (s1.setBucket 2 p ((s1.bucket 2 p).debit f.outOct.length)).count .tmg 2 p 4
  let t := s.txStamp p
  let s3 := s2.rmFrame f.id
  let s4 := match f.mka with
    | some (n, m) => (s3.emit (.mkpdu n f.lport (BitVec.ofNat 48 (dstMac f.outOct)) m)).count .mka 0 n 0
    | none => s3.emit (.frame (portAt p) f.outOct t)
  ((s4.portCnt p 0).portCnt p 1 f.outOct.length).dsc f 0 t

/-- One selection of a port's transmitter (R159): control frames, the control FIFO, then the queues. -/
def State.selectTx (s : State) (p : Nat) : State :=
  if !s.portUp p || !s.gateOpen || s.pwr.stage == 6 || s.frames.any (fun g => g.egress == p && g.stage == .committed) then s
  else
    match (s.port p).macCtl with
    | o :: t => (s.setPort p { s.port p with macCtl := t }).sendCtl p o
    | [] =>
      if (s.port p).paused then s
      else
        match s.ctlReady p with
        | some f => s.sendCtlFifo p f
        | none =>
          let s := s.noteOverruns p
          match s.pickQueue p with
          | none => s
          | some (q, s1) =>
            match (s1.queue q).frames.head?.bind s1.frame? with
            | some f => s1.dequeue f q
            | none => s

end Sys2Proof.Machine
end

