-- ==== Sys2Proof/Machine/View.lean ====
section
/-!
DEFINITION. What a register reads as: the value of every field a block shows of its own state (the RO columns of the register
rules R48, R70, R94, R119, R136, R156, R174, R199, R220, R246, R263, R282, R301, R323, R349, R360, R366), the block counters behind
the CNT windows, and the stored word of every other register.
-/

namespace Sys2Proof.Machine

/-! ## Counters behind the windows -/

/-- Milliseconds spent in stage n (PWR counters 7-13). -/
def State.stageMs (s : State) (n : Nat) : W64 :=
  s.cnt .pwr 0 0 (7 + n) + BitVec.ofNat 64 (if s.pwr.stage = n then (s.nowNs - s.pwr.stageAt) / 1000000 else 0)

/-- The counter a SEL register, copy g, selects. -/
def State.selCnt (s : State) (b : CntBlk) (g : Nat) : W64 :=
  match b with
  | .pwr =>
    let c := s.fld F.PWR_CNT_SEL_CNT 0 g
    if 7 ≤ c ∧ c ≤ 13 then s.stageMs (c - 7) else s.cnt .pwr 0 0 c
  | .tck => s.cnt .tck 0 0 (s.fld F.TCK_CNT_SEL_SRC 0 g)
  | .tim => s.cnt .tim 0 0 (s.fld F.TIM_CNT_SEL_CNT 0 g)
  | .sec => s.cnt .sec (s.fld F.SEC_CNT_SEL_KIND 0 g) (s.fld F.SEC_CNT_SEL_INDEX 0 g) (s.fld F.SEC_CNT_SEL_CNT 0 g)
  | .yrd => s.cnt .yrd 0 0 (s.fld F.YRD_CNT_SEL_CNT 0 g)
  | .mka => s.cnt .mka 0 (s.fld F.MKA_CNT_SEL_CA 0 g) (s.fld F.MKA_CNT_SEL_CNT 0 g)
  | .key => s.cnt .key 0 0 (s.fld F.KEY_CNT_SEL_CNT 0 g)
  | .tmg => s.cnt .tmg (s.fld F.TMG_CNT_SEL_KIND 0 g) (s.fld F.TMG_CNT_SEL_INDEX 0 g) (s.fld F.TMG_CNT_SEL_CNT 0 g)
  | .cel => s.cnt .cel 0 (s.fld F.CEL_CNT_SEL_STACK 0 g) (s.fld F.CEL_CNT_SEL_CNT 0 g)
  | .par => s.cnt .par 0 0 (s.fld F.PAR_CNT_SEL_CNT 0 g)
  | .hfr => s.cnt .hfr (s.fld F.HFR_CNT_SEL_KIND 0 g) (s.fld F.HFR_CNT_SEL_INDEX 0 g) (s.fld F.HFR_CNT_SEL_CNT 0 g)
  | _ => 0#64

/-- The counter window of a LO or HI register. -/
def cntBlk (r : Reg) : Option CntBlk :=
  match r with
  | .PWR_CNT_LO => some .pwr
  | .PWR_CNT_HI => some .pwr
  | .TCK_CNT_LO => some .tck
  | .TCK_CNT_HI => some .tck
  | .TIM_CNT_LO => some .tim
  | .TIM_CNT_HI => some .tim
  | .SEC_CNT_LO => some .sec
  | .SEC_CNT_HI => some .sec
  | .YRD_CNT_LO => some .yrd
  | .YRD_CNT_HI => some .yrd
  | .MKA_CNT_LO => some .mka
  | .MKA_CNT_HI => some .mka
  | .KEY_CNT_LO => some .key
  | .KEY_CNT_HI => some .key
  | .TMG_CNT_LO => some .tmg
  | .TMG_CNT_HI => some .tmg
  | .CEL_CNT_LO => some .cel
  | .CEL_CNT_HI => some .cel
  | .PAR_CNT_LO => some .par
  | .PAR_CNT_HI => some .par
  | .HFR_CNT_LO => some .hfr
  | .HFR_CNT_HI => some .hfr
  | _ => none

/-- The LO register whose read captures a HI register's value. -/
def loOf (r : Reg) : Reg :=
  match r with
  | .PWR_CNT_HI => .PWR_CNT_LO
  | .TCK_CNT_HI => .TCK_CNT_LO
  | .TIM_CNT_HI => .TIM_CNT_LO
  | .SEC_CNT_HI => .SEC_CNT_LO
  | .YRD_CNT_HI => .YRD_CNT_LO
  | .MKA_CNT_HI => .MKA_CNT_LO
  | .KEY_CNT_HI => .KEY_CNT_LO
  | .TMG_CNT_HI => .TMG_CNT_LO
  | .CEL_CNT_HI => .CEL_CNT_LO
  | .PAR_CNT_HI => .PAR_CNT_LO
  | .HFR_CNT_HI => .HFR_CNT_LO
  | .CLS_SL_CNT_HI => .CLS_SL_CNT_LO
  | .OBS_ENG_CYC_HI => .OBS_ENG_CYC_LO
  | .OBS_ENG_CNT_HI => .OBS_ENG_CNT_LO
  | .OBS_PRT_CNT_HI => .OBS_PRT_CNT_LO
  | .OBS_COR_CNT_HI => .OBS_COR_CNT_LO
  | .OBS_CEL_CNT_HI => .OBS_CEL_CNT_LO
  | r => r

/-- The 64-bit counter a LO register shows, if it is one whose read captures (R355, R363). -/
def State.loCounter (s : State) (r : Reg) (i g : Nat) : Option W64 :=
  match r with
  | .CLS_SL_CNT_LO => some (s.cnt .cls 0 i (s.fld F.CLS_SL_CNT_IDX_IDX i))
  | .OBS_ENG_CYC_LO => some (s.eng i).cyc
  | .OBS_ENG_CNT_LO => some (s.obsCnt (.engine (i / 8)) (i % 8))
  | .OBS_PRT_CNT_LO => some (s.obsCnt (.port (i / 4)) (i % 4))
  | .OBS_COR_CNT_LO => some (s.obsCnt (.core (i / 4)) (i % 4))
  | .OBS_CEL_CNT_LO => some (s.obsCnt .cellar (i % 8))
  | r =>
    match cntBlk r with
    | some b => if loOf r == r then some (s.selCnt b g) else none
    | none => none

/-- The value the last read of a LO register captured (R355). -/
def State.captured (s : State) (r : Reg) (i g : Nat) : W64 := s.caps.look (fun _ => 0#64) (regKey r i g)

/-! ## What the blocks show -/

/-- A field in its place. -/
def fw (hi lo v : Nat) : Nat := v % 2 ^ (hi + 1 - lo) * 2 ^ lo

/-- Seconds between two counter values in units of 2^-16 ns. -/
def secsSince (t0 now : Int) : Nat := ((now - t0) / unitsPerSec).toNat

/-- Age in units of 2^-16 ns (R207). -/
def State.ageUnits (s : State) : Int := if s.tim.mode == .locked then 0 else (s.counter : Int) - s.tim.age0

/-- TIM_STATUS.LOCKED (R208). -/
def State.locked (s : State) : Bool :=
  match s.tim.mode with
  | .locked => true
  | .freeRun => false
  | _ => decide (s.ageUnits < (s.fld F.TIM_HOST_HOLD_S : Nat) * unitsPerSec)

/-- TIM_STATUS.STATE code. -/
def TimeMode.code (m : TimeMode) : Nat :=
  match m with
  | .freeRun => 0
  | .acquiring => 1
  | .locked => 2
  | .holdover => 3
  | .following => 4

/-- The highest S-response demand (R288). -/
def State.alarmDemand (s : State) : Nat := s.pwr.sDem.foldl (fun a e => max a e.2) 0

/-- The pace demand: S0 with PACE_EN clear (R291). -/
def State.paceDemand (s : State) : Nat := if s.flag F.PWR_CTL_PACE_EN then s.pwr.dPace else 0

/-- The demands of R288 in the order of STATUS.SRC. -/
def State.demands (s : State) : List Nat :=
  [s.pwr.dVcore, s.pwr.dTj, s.paceDemand, s.alarmDemand, s.fld F.PWR_CTL_FORCE_STAGE]

/-- The highest demand. -/
def State.topDemand (s : State) : Nat := s.demands.foldl max 0

/-- The sources at the highest demand; none while nothing is demanded (DEDUCED). -/
def State.demandSrcs (s : State) : Nat :=
  if s.topDemand = 0 then 0
  else (s.demands.zipIdx.map (fun e => if e.1 = s.topDemand then 2 ^ e.2 else 0)).sum

/-- Survival budget spent: 360,000 s, or a read-only ledger (R257, R259). -/
def State.spent (s : State) : Bool := decide (360000 ≤ s.ledger.surv) || s.ledger.ro

/-- CFG.FORM of a port. Its INT_STAT bits: LINK_CHG 0, WAKE 1, STORM 2, CFG_REJ 3, RECAL_DONE 4, FEC_UNCORR 5 (R48). -/
def State.portCfgForm (s : State) (p : Nat) : Nat :=
  if p < 64 then s.fld F.HPT_CFG_FORM p else s.fld F.LPT_CFG_FORM (p - 64)

/-- The form of a port as it stands: configured, or resolved by R32; none for a number that is no port. -/
def State.formOf (s : State) (p : Nat) : Option Nat :=
  match s.portCfgForm p with
  | 15 => none
  | 0 => if (s.port p).present then some (s.port p).formAct.toNat else none
  | f => some f

/-- A port that holds its lanes against others: configured in a form, or with a link. -/
def State.holdsLanes (s : State) (p : Nat) : Bool := (s.formOf p).isSome && (s.portCfgForm p != 0 || (s.port p).link)

/-- Lanes n.. of a form on a port overlap those of port q of its side. -/
def State.overlaps (s : State) (n form q : Nat) : Bool :=
  match s.formOf q with
  | some f => decide (q < n + formLanes form) && decide (n < q + formLanes f)
  | none => false

/-- The other ports of a port's group of eight lanes. -/
def groupOf (p : Nat) : List Nat := ((List.range 8).map (fun k => p / 8 * 8 + k)).filter (fun q => q != p)

/-- A number that is a port: not unused, and on no lane of a lower port (R28, R32). -/
def State.isPort (s : State) (p : Nat) : Bool :=
  s.portCfgForm p != 15 && (groupOf p).all (fun q => decide (p < q) || !s.holdsLanes q || !s.overlaps p 1 q)

/-- A port is powered: enabled, kept and not dormant (R43, R286, R294). -/
def State.portPowered (s : State) (p : Nat) : Bool := s.isPort p && s.portEn p && s.kept p && !(s.port p).dormant

/-- Whether power domain d is on (R153, R195, R286). A port that does not name a configured port holds no group. -/
def State.domainOn (s : State) (d : Nat) : Bool :=
  if d < 64 then
    match (s.eng d).mode with
    | .shedOff => (s.eng d).offPend
    | .failed => false
    | .out => false
    | _ => true
  else if d < 80 then true
  else if d < 96 then
    (List.range 8).any (fun k => s.portPowered ((d - 80) * 8 + k))
  else if d < 100 then
    match (s.stk (d - 96)).mode with
    | .off => false
    | .lost => false
    | .absent => false
    | _ => true
  else if d = 109 then s.obs.on
  else if d = 111 then decide (s.pwr.stage = 0)
  else decide (d < 112)

/-- SEAL_OK, open, short: 0, 1, 2 (R304). -/
def sealState (r10 : Nat) : Nat := if 1500 < r10 then 1 else if r10 < 470 then 2 else 0

/-- Seconds left of the presence window (R319, R320). -/
def State.winLeft (s : State) : Nat :=
  if s.tck.strap && !s.tck.sealBad then 0xFFF
  else
    match s.tck.pressWin with
    | some e => (e - s.tck.ts) / 32768
    | none => 0

/-- STEP outcome and duration, STA registers (R263). -/
def State.viewSta (s : State) (r : Reg) (i g : Nat) : W32 :=
  let t := s.start
  match r with
  | .STA_STATUS => BitVec.ofNat 32 (fw 31 28 t.step + fw 27 27 (b2n t.safeHold) + fw 26 26 (b2n s.ledger.ro) +
      fw 25 24 t.image + fw 23 22 t.kind + fw 21 18 t.cause + t.alt.toNat)
  | .STA_FAIL => BitVec.ofNat 32 (fw 31 31 (b2n t.failVal) + fw 30 27 t.failStep + fw 15 8 t.failDet + fw 7 0 t.failCode)
  | .STA_START => BitVec.ofNat 32 t.num
  | .STA_ENTRY => BitVec.ofNat 32 (min t.entryMs 65535)
  | .STA_RB_LO => wordOf s.ledger.rollback 0
  | .STA_RB_HI => wordOf s.ledger.rollback 1
  | .STA_SURV => BitVec.ofNat 32 (fw 31 31 (b2n s.spent) + min s.ledger.surv (2 ^ 23 - 1))
  | .STA_LEDGER => BitVec.ofNat 32 (fw 24 16 s.ledger.spares + fw 15 0 ((s.ledger.wear.foldl (fun a e => max a e.2) 0) / 65536))
  | .STA_STACK_ALT => BitVec.ofNat 32 ((List.range 4).map (fun k => s.ledger.stkLevel.look (fun _ => 0) k * 4 ^ k)).sum
  | .STA_ENG_OUT_LO => wordOf s.ledger.engOut.toNat 0
  | .STA_ENG_OUT_HI => wordOf s.ledger.engOut.toNat 1
  | .STA_STEP => BitVec.ofNat 32 (fw 17 16 (t.outcome.look (fun _ => 0) i) + min (t.ms.look (fun _ => 0) i) 65535)
  | .STA_IMG_RUN => BitVec.ofNat 32 (leNat ((s.flash.run.drop (4 * i)).take 4))
  | .STA_IMG_CNT_LO => wordOf s.flash.runCnt 0
  | .STA_IMG_CNT_HI => wordOf s.flash.runCnt 1
  | .STA_IMG_ERR => BitVec.ofNat 32 (fw 31 20 s.flash.errBlk + fw 19 4 s.flash.errOff + fw 3 0 s.flash.errChk)
  | .STA_IMG_SRC => BitVec.ofNat 32 s.flash.src
  | .STA_XSPI_FLASH => BitVec.ofNat 32 (if s.flash.known then s.flash.size else 0)
  | r => s.word r i g

/-- PWR registers (R301). -/
def State.viewPwr (s : State) (r : Reg) (i g : Nat) : W32 :=
  let p := s.pwr
  match r with
  | .PWR_STATUS => BitVec.ofNat 32 (fw 31 29 p.stage + fw 28 26 s.topDemand + fw 25 25 (b2n p.surv) + fw 24 24 (b2n s.spent) +
      fw 23 19 s.demandSrcs)
  | .PWR_DEMAND => BitVec.ofNat 32 (fw 31 29 p.dVcore + fw 28 26 p.dTj + fw 25 23 s.paceDemand + fw 22 20 s.alarmDemand +
      fw 19 17 (s.fld F.PWR_CTL_FORCE_STAGE))
  | .PWR_VCORE =>
    let v := (p.sup.look supDflt 0).mv
    BitVec.ofNat 32 (fw 31 16 (min (p.minVcore.look (fun _ => 65535) g) v) + fw 15 0 v)
  | .PWR_TJ =>
    BitVec.ofNat 32 (fw 28 24 p.tjSensor + fw 23 12 (lowBits 12 (max (p.maxTj.look (fun _ => -2048) g) p.tj)) + lowBits 12 p.tj)
  | .PWR_MARGIN67 => BitVec.ofNat 32 (lowBits 16 p.margin67)
  | .PWR_SUP =>
    let u := p.sup.look supDflt i
    BitVec.ofNat 32 (fw 31 31 (b2n u.uv) + fw 30 30 (b2n u.ov) + fw 15 0 u.mv)
  | .PWR_DOM => BitVec.ofNat 32 ((List.range 32).map (fun d => b2n (s.domainOn (32 * i + d)) * 2 ^ d)).sum
  | r => s.viewSta r i g

/-- TCK registers (R323). -/
def State.viewTck (s : State) (r : Reg) (i g : Nat) : W32 :=
  let t := s.tck
  match r with
  | .TCK_STATUS => BitVec.ofNat 32 (fw 31 31 (b2n s.presence) + fw 30 30 (b2n t.strap) + fw 29 29 (b2n (sealState t.sealR == 0)) +
      fw 28 28 (b2n s.alarm.isolated) + fw 27 27 (b2n (t.pendI || t.pendF || t.pendS || t.zDone)) + fw 26 26 (b2n t.xtalOk) +
      fw 25 25 (b2n t.batUsed) + fw 11 0 s.winLeft)
  | .TCK_RAISED => t.raised.setWidth 32
  | .TCK_FLAG => t.flags.setWidth 32
  | .TCK_PEND => BitVec.ofNat 32 (fw 31 31 (b2n t.pendI) + fw 30 30 (b2n t.pendF) + fw 29 29 (b2n t.pendS) +
      fw 28 28 (b2n t.zDone) + fw 27 25 t.pendStg + fw 4 0 t.pendSrc)
  | .TCK_TS_LO => wordOf t.ts 0
  | .TCK_TS_HI => wordOf t.ts 1
  | .TCK_SEAL => BitVec.ofNat 32 (fw 31 30 (sealState t.sealR) + min t.sealR 65535)
  | .TCK_STIM => BitVec.ofNat 32 (fw 31 29 t.stimSt + fw 4 0 t.stimSrc)
  | r => s.viewPwr r i g

/-- ACU registers (R349). -/
def State.viewAcu (s : State) (r : Reg) (i g : Nat) : W32 :=
  let u := s.acu i
  match r with
  | .ACU_CTL => BitVec.ofNat 32 (fw 30 28 u.err)
  | .ACU_FENCE => BitVec.ofNat 32 (fw 31 31 (b2n u.drained))
  | .ACU_FAULT_LO => wordOf u.faultAddr 0
  | .ACU_FAULT_HI => BitVec.ofNat 32 (fw 11 0 (u.faultAddr / 2 ^ 32))
  | .ACU_FAULT_INFO => BitVec.ofNat 32 (fw 31 31 (b2n u.faultVal) + fw 30 28 u.faultKind + fw 27 24 u.faultOrg +
      fw 23 23 (b2n u.faultWr))
  | .ACU_FAULT_CNT => BitVec.ofNat 32 u.faultCnt
  | .ACU_DBG => BitVec.ofNat 32 (fw 31 31 (b2n s.jtag.unlocked) + fw 30 28 s.jtag.lastErr)
  | r => s.viewTck r i g

/-- TIM registers (R220). -/
def State.viewTim (s : State) (r : Reg) (i g : Nat) : W32 :=
  match r with
  | .TIM_STATUS => BitVec.ofNat 32 (fw 31 29 s.tim.mode.code + fw 28 28 (b2n s.locked) + fw 27 27 (b2n s.tim.refInt) +
      min (secsSince 0 s.ageUnits) (2 ^ 17 - 1))
  | .TIM_DLY =>
    let p := s.port (s.fld F.TIM_DLY_SEL_PORT)
    BitVec.ofNat 32 (fw 31 16 (Config.txDelay p.formAct.toNat p.fecAct.toNat).toNat +
      fw 15 0 (Config.rxDelay p.formAct.toNat p.fecAct.toNat).toNat)
  | .TIM_CAP_CFG => s.word r i g ||| BitVec.ofNat 32 (fw 4 0 (s.tim.caps.look (fun _ => {}) i).fifo.length)
  | r => s.viewAcu r i g

/-- HPT and LPT registers (R48). -/
def State.viewPort (s : State) (r : Reg) (i g : Nat) : W32 :=
  let lpt := decide (Reg.LPT_CFG.ctorIdx ≤ r.ctorIdx)
  let p := if lpt then 64 + i else i
  let q := s.port p
  let status := BitVec.ofNat 32 (fw 31 31 (b2n q.link) + fw 30 30 (b2n q.dormant) + fw 29 29 (b2n (q.paused || q.pfcPaused != 0#8)) +
      fw 28 28 (b2n q.storm) + fw 27 24 q.formAct.toNat + fw 23 22 q.fecAct.toNat + fw 9 0 (s.fifoFill p / 256))
  let recal := BitVec.ofNat 32 (fw 5 4 (match q.recal with
    | .idle => 0
    | .queued => 1
    | .running => 2
    | .rejected => 3))
  let snap := fun (x : FieldRef) =>
    let k := s.fld x i
    if k < 35 then (s.snaps.look (fun _ => 0#64) (p * 64 + k)).toNat else 0
  match r with
  | .HPT_STATUS => status
  | .LPT_STATUS => status
  | .HPT_RECAL => (s.word r i) ||| recal
  | .LPT_RECAL => (s.word r i) ||| recal
  | .HPT_STAT_LO => wordOf (snap F.HPT_STAT_IDX_IDX) 0
  | .HPT_STAT_HI => wordOf (snap F.HPT_STAT_IDX_IDX) 1
  | .LPT_STAT_LO => wordOf (snap F.LPT_STAT_IDX_IDX) 0
  | .LPT_STAT_HI => wordOf (snap F.LPT_STAT_IDX_IDX) 1
  | .HPT_MAC_LO => wordOf (s.portMac p) 0
  | .HPT_MAC_HI => BitVec.ofNat 32 (s.portMac p / 2 ^ 32 % 2 ^ 16)
  | .LPT_MAC_LO => wordOf (s.portMac p) 0
  | .LPT_MAC_HI => BitVec.ofNat 32 (s.portMac p / 2 ^ 32 % 2 ^ 16)
  | .HPT_MAP =>
    match s.lineOf p with
    | some l => BitVec.ofNat 32 (fw 7 7 1 + fw 5 0 l)
    | none => s.word r i
  | r => s.viewTim r i g

/-- CLS, SEC, ENG and YRD registers (R70, R94, R156). -/
def State.viewPath (s : State) (r : Reg) (i g : Nat) : W32 :=
  match r with
  | .CLS_BANK => BitVec.ofNat 32 (fw 2 2 (b2n s.cls.drained) + fw 0 0 (b2n s.cls.active))
  | .CLS_SL_MAC_COUNT => BitVec.ofNat 32 (s.macCount i)
  | .CLS_LP_LCOUNT => BitVec.ofNat 32 (s.learnCount i)
  | .SEC_SECY_CFG => if (s.secy i).cfgd then s.word r i ||| BitVec.ofNat 32 (2 ^ F.SEC_SECY_CFG_VALID.lo) else s.word r i
  | .SEC_SECY_SCI_LO => wordOf (s.sci i) 0
  | .SEC_SECY_SCI_HI => wordOf (s.sci i) 1
  | .SEC_SECY_TX =>
    let y := s.secy i
    let old := match s.frames.find? (fun f => f.enc && f.secy == i && f.stage == .parked) with
      | some f => (s.counter - f.arrived) / 65536000000
      | none => 0
    BitVec.ofNat 32 (fw 31 31 (b2n y.txValid) + fw 30 30 (b2n y.stopped) + fw 29 29 (b2n y.held) + fw 28 28 (b2n y.pendValid) +
      fw 25 24 y.pendAn + fw 17 16 y.txAn + min old 255)
  | .ENG_STATE =>
    let e := s.eng i
    let m := match e.mode with
      | .inService => 0
      | .draining => 1
      | .test => 2
      | .shedOff => 3
      | .failed => 4
      | .out => 5
    BitVec.ofNat 32 (fw 31 29 m + fw 28 26 e.fault + fw 25 15 e.keys.length + fw 3 0 e.slots.length)
  | .ENG_PACE => BitVec.ofNat 32 (fw 31 16 (s.eng i).pace + fw 15 0 (s.eng i).paceMin)
  | .ENG_LOAD => BitVec.ofNat 32 (fw 31 24 (s.eng i).load +
      fw 14 0 (s.yrd.sets.filter (fun e => e.2.engs.contains i)).length)
  | .ENG_CAL => BitVec.ofNat 32 (fw 31 24 (s.eng i).tap + fw 15 0 (s.eng i).ratio)
  | .ENG_TEST_LAST =>
    let e := s.eng i
    BitVec.ofNat 32 (fw 31 31 (b2n e.tested) + fw 30 30 (b2n e.passed) +
      (if e.tested then min ((s.nowNs - e.testAt) / 1000000000) (2 ^ 30 - 1) else 0))
  | .YRD_STATUS =>
    BitVec.ofNat 32 (fw 31 25 s.inService.length +
      fw 24 18 ((List.range 64).filter (fun e => (s.eng e).mode == .failed || (s.eng e).mode == .out)).length +
      fw 14 0 (s.sas.filter (fun e => e.2.hot)).length)
  | .YRD_PIN => BitVec.ofNat 32 s.pinCount
  | .YRD_CAPDEM => BitVec.ofNat 32 (fw 31 16 s.yrd.cap + fw 15 0 s.yrd.dem)
  | .YRD_MARGIN => BitVec.ofNat 32 (lowBits 16 s.yrd.margin)
  | .YRD_TEST => s.word r i ||| BitVec.ofNat 32 (fw 28 26 (match s.yrd.testSt with
    | .idle => 0
    | .deferred => 1
    | .draining => 2
    | .running => 3
    | .passed => 4
    | .failed => 5
    | .rejected => 6
    | .aborted => 7))
  | .YRD_RO_STAT => BitVec.ofNat 32 (fw 31 16 (min (s.pwr.minRo.look (fun _ => 32768) g) s.roFree) + fw 15 0 s.roFree)
  | r => s.viewPort r i g

/-- The CAs whose SecY has a current transmit SA (R119). -/
def State.securedCas (s : State) : Nat :=
  ((List.range 2048).filter (fun n => s.flag F.MKA_CTL_EN && (s.flag F.MKA_CA_CFG_VALID n || (s.ca n).cfgd) &&
    (s.curSa (s.fld F.MKA_CA_CFG_SECY n)).isSome)).length

/-- PairSt codes of MKA_STATUS. -/
def PairSt.code (p : PairSt) : Nat :=
  match p with
  | .idle => 0
  | .committing => 1
  | .showing => 2
  | .confirmed => 3
  | .stored => 4
  | .failed => 5

/-- MKA, KEY and TMG registers (R119, R136, R174). -/
def State.viewMka (s : State) (r : Reg) (i g : Nat) : W32 :=
  match r with
  | .MKA_STATUS => BitVec.ofNat 32 (fw 31 28 s.pairing.st.code +
      fw 11 0 s.securedCas)
  | .MKA_PAIR_RES => BitVec.ofNat 32 (fw 31 31 (b2n s.pairing.codeVal) + s.pairing.code.toNat)
  | .MKA_CA_CFG => if (s.ca i).cfgd then s.word r i ||| BitVec.ofNat 32 (2 ^ F.MKA_CA_CFG_VALID.lo) else s.word r i
  | .KEY_STATUS => BitVec.ofNat 32 (fw 31 31 (b2n s.tck.kek.present) + fw 30 30 (b2n s.start.kekNew) + fw 29 29 (b2n s.zeroized) +
      fw 16 0 (65536 - (s.saSlots.filter (fun e => e.2.st != .free)).length))
  | .KEY_PROV_CMD => depo (s.word r i g) 31 31 (b2n s.prov.active)
  | .KEY_RNG_STAT => s.word r i ||| BitVec.ofNat 32 (fw 31 31 (b2n s.rng.esOk) + fw 30 30 (b2n s.rng.esFail))
  | .SVC_STATUS => BitVec.ofNat 32 (fw 31 31 (b2n (s.svc.look (fun _ => {}) i).busy) + (s.word r i).toNat % 2 ^ 31)
  | .TMG_BUF_FREE => BitVec.ofNat 32 (fw 27 0 s.freePages)
  | .TMG_BUF_MIN => BitVec.ofNat 32 (fw 27 0 (min (s.pwr.minBuf.look (fun _ => 2 ^ 28) g) s.freePages))
  | .TMG_PORT_STATUS =>
    let q := s.gatePort i
    let n := match q.oper with
      | some l => l.entries.length
      | none => 0
    BitVec.ofNat 32 (fw 31 31 (b2n q.oper.isSome) + fw 30 30 (b2n q.pend.isSome) + fw 29 23 n + fw 22 16 q.entry +
      fw 15 8 q.gates.toNat)
  | .TMG_PORT_PQ_FILL =>
    BitVec.ofNat 32 (fw 31 16 (s.queue (privQueue i 1)).frames.length + fw 15 0 (s.queue (privQueue i 0)).frames.length)
  | r => s.viewPath r i g

/-- CEL_STK_STATE.STATE code. -/
def StkMode.code (m : StkMode) : Nat :=
  match m with
  | .init => 1
  | .on => 2
  | .draining => 3
  | .off => 4
  | .waking => 5
  | .lost => 6
  | .absent => 0

/-- CEL, PAR, PCI, HFR, MGT and OBS registers (R199, R246, R349, R360). -/
def State.viewRest (s : State) (r : Reg) (i g : Nat) : W32 :=
  match r with
  | .CEL_STATUS => BitVec.ofNat 32 (fw 31 31 (b2n s.cel.initDone) + fw 30 30 (b2n s.cel.refused) + fw 29 29 (b2n s.cel.clip) +
      fw 7 0 s.cel.poolGib)
  | .CEL_STK_STATE =>
    let k := s.stk i
    BitVec.ofNat 32 (fw 31 29 k.mode.code + fw 28 27 (k.partner.getD 0) + fw 26 26 (b2n k.copyValid) + fw 25 13 k.remaps.length)
  | .CEL_STK_POOL => BitVec.ofNat 32 (fw 27 0 (s.stk i).share)
  | .PAR_STATUS =>
    let p := s.par
    BitVec.ofNat 32 (fw 31 29 p.st.code + fw 28 26 (if p.fenceOut then 6 else p.ptSt.code) + fw 25 23 p.ptShed +
      fw 22 22 (b2n p.synced) + fw 21 21 (b2n s.leaseValid) + fw 20 20 (b2n p.actOut) + fw 19 19 (b2n p.actIn) +
      fw 18 18 (b2n p.gate) + fw 17 17 (b2n p.beatOk) + fw 16 15 p.tetherUp.toNat + fw 14 13 p.format +
      fw 12 12 s.slotNo + fw 11 11 (b2n p.noTether))
  | .PAR_PARTNER_LO => wordOf s.par.ptSerial.toNat 0
  | .PAR_PARTNER_HI => wordOf s.par.ptSerial.toNat 1
  | .PCI_STATUS => BitVec.ofNat 32 (fw 31 29 s.pci.speed + fw 28 26 s.pci.width + fw 25 25 (b2n s.pci.bme))
  | .PCI_ISUM_LO => BitVec.ofNat 32 ((List.range 32).map (fun n => b2n (s.srcSet n) * 2 ^ n)).sum
  | .PCI_ISUM_HI => BitVec.ofNat 32 (b2n (s.srcSet 32))
  | .PCI_PSUM =>
    BitVec.ofNat 32 ((List.range 32).map (fun n => b2n (if i < 2 then s.intOn .HPT_INT_STAT .HPT_INT_EN (32 * i + n)
      else s.intOn .LPT_INT_STAT .LPT_INT_EN (32 * (i - 2) + n)) * 2 ^ n)).sum
  | .HFR_TX_CTL => depo (s.word r i) 30 30 (b2n (s.ring i).stopped)
  | .HFR_RX_CTL => depo (s.word r i) 30 30 (b2n (s.ring (8 + i)).stopped)
  | .HFR_TX_HEAD => BitVec.ofNat 32 (s.ring i).head
  | .HFR_RX_HEAD => BitVec.ofNat 32 (s.ring (8 + i)).head
  | .MGT_SESS => s.word r i ||| BitVec.ofNat 32 ((List.range 4).map (fun k => b2n (s.sess.look (fun _ => {}) k).open_ * 2 ^ k)).sum
  | .OBS_STATUS => BitVec.ofNat 32 (fw 31 31 (b2n s.obs.on) + fw 30 30 (b2n !s.obsRuns) + fw 15 0 s.obs.epoch)
  | .OBS_SMPW_CMD => BitVec.ofNat 32 (fw 24 16 s.obs.samples.length)
  | .GLB_SERIAL_LO => wordOf s.fuses.serial.toNat 0
  | .GLB_SERIAL_HI => wordOf s.fuses.serial.toNat 1
  | .GLB_MAC_LO => wordOf s.fuses.macBase.toNat 0
  | .GLB_MAC_HI => wordOf s.fuses.macBase.toNat 1
  | .GLB_STRAP => BitVec.ofNat 32 (fw 3 3 (b2n s.tck.strap) + s.straps.toNat)
  | r => s.viewMka r i g

/-- What register r, element i, shows to the origin group of copy g. -/
def State.regView (s : State) (r : Reg) (i g : Nat) : W32 :=
  match s.loCounter r i g with
  | some v => v.setWidth 32
  | none =>
    if loOf r != r then (s.captured (loOf r) i g >>> 32).setWidth 32
    else
      s.viewRest r i g

end Sys2Proof.Machine
end

