-- ==== Sys2Proof/Machine/Regs.lean ====
section
/-!
DEFINITION. A write to a register, field by field (R8-R10, R345): refused fields, reserved bits, ranges, what is counted as an
access fault, which masters a block accepts writes from, and CFG_REJ.
-/

namespace Sys2Proof

/-- PF0, Iaholt and the service cores. -/
def Origin.main (o : Origin) : Bool :=
  match o with
  | .pf0 => true
  | .iaholt => true
  | .core _ => true
  | .task _ _ => true
  | .pf1 => false
  | .smbus => false

/-- PF0 or Iaholt. -/
def Origin.pfIa (o : Origin) : Bool := o == .pf0 || o == .iaholt

end Sys2Proof

namespace Sys2Proof.Machine

/-- The fields of a register. -/
def regFields (r : Reg) : List FieldDef :=
  match allRegs.find? (fun x => x.reg == r) with
  | some x => x.flds
  | none => []

/-- The fields as origin o meets them: only PF0, Iaholt and the service cores may write PF1_WR (R358). -/
def fieldsFor (o : Origin) (r : Reg) : List FieldDef :=
  if r == .OBS_CTL && !o.main then (regFields r).map (fun f => if f.hi = 30 then { f with acc := .ro } else f) else regFields r

/-- Bits that hold a field of the other side: they ignore writes (R48). -/
def ignored (r : Reg) : W32 :=
  match r with
  | .HPT_CFG => 0x50000000#32
  | .LPT_FC => 0x00FFFF03#32
  | _ => 0#32

/-- Whether register r lies between registers a and b of the map. -/
def Reg.within (r a b : Reg) : Bool := decide (a.ctorIdx ≤ r.ctorIdx) && decide (r.ctorIdx ≤ b.ctorIdx)

/-- What PF1 may write of OBS while PF1_WR is set (R358). -/
def pf1Obs (r : Reg) : Bool :=
  r.within .OBS_ENG_CYC_LO .OBS_CEL_CNT_HI || r == .OBS_CTL || r == .OBS_SMPW_CMD || r == .OBS_INT_STAT || r == .OBS_INT_EN

/-- Whether register r, element i, accepts a write of origin o (R136, R199, R301, R344, R349, R358). The image loader writes at
ST06 by its own operation. -/
def State.accepts (s : State) (o : Origin) (r : Reg) (i : Nat) : Bool :=
  if r.within .PWR_STATUS .PWR_CNT_HI then o.main
  else if r.within .CEL_CTL .CEL_STK_POOL && r != .CEL_RCFG then o.main
  else if r.within .SVC_CTL .SVC_TAG3 then o.ownsCtx i
  else if r.within .HFR_TX_BASE_LO .HFR_TRAP_DA_HI then o == .pf0
  else if r == .ACU_RBASE || r == .ACU_RPAGES || r == .ACU_RATTR || r == .ACU_CTL then
    if i / (if r == .ACU_CTL then 1 else 16) = 80 ∨ i / (if r == .ACU_CTL then 1 else 16) = 81 then
      o == .pf0 || o == .smbus || o == .iaholt
    else match o with
      | .core _ => true
      | _ => false
  else if o == .pf1 && r.within .OBS_CTL .OBS_CEL_CNT_HI then s.flag F.OBS_CTL_PF1_WR && pf1Obs r
  else true

/-- Registers that their masters write only inside a presence window: the region registers of ACUs 80 and 81 (R344). -/
def presGated (r : Reg) (i : Nat) : Bool :=
  (r == .ACU_RBASE || r == .ACU_RPAGES || r == .ACU_RATTR) && (i / 16 == 80 || i / 16 == 81)

/-- Whether a field is refused to a write now (R10); the image loader writes by its own operation (R274). -/
def State.refused (s : State) (f : FieldDef) : Bool :=
  match f.acc with
  | .ro => true
  | .rwi => true
  | .rwp => !s.presence
  | _ => false

/-- The bits the fields of a register take. -/
def fieldMask (l : List FieldDef) : W32 :=
  BitVec.ofNat 32 (l.map (fun f => 2 ^ (f.hi + 1) - 2 ^ f.lo)).sum

/-- The stored word a write leaves: refused and WO fields unchanged, RW1C bits cleared, the others written (R8, R10). -/
def State.merged (s : State) (l : List FieldDef) (old v : W32) : W32 :=
  l.foldl (fun w f =>
    if s.refused f then w
    else
      match f.acc with
      | .wo => w
      | .w1c => w &&& ~~~(v &&& fieldMask [f])
      | .rws => w
      | _ => depo w f.hi f.lo (bits v f.hi f.lo)) old

/-- A written field whose value is outside its range. -/
def State.outOfRange (s : State) (l : List FieldDef) (v : W32) : Bool :=
  l.any (fun f => !f.lim.isEmpty && !s.refused f && f.acc != .wo && f.acc != .w1c &&
    !f.lim.any (fun e => decide (e.1 ≤ bits v f.hi f.lo) && decide (bits v f.hi f.lo ≤ e.2)))

/-- The fault a write makes: 0 none, 5 for an RWP field it would change, 4 for another refused field or a reserved bit. -/
def State.writeFault (s : State) (l : List FieldDef) (ign cur v : W32) : Nat :=
  let bad := fun (p : Bool) => l.any (fun f => s.refused f && (f.acc == .rwp) == p && bits v f.hi f.lo != bits cur f.hi f.lo)
  if bad true then 5 else if bad false || (v &&& ~~~(fieldMask l ||| ign)) != 0#32 then 4 else 0

/-- A refused write sets the block's CFG_REJ (R36, R40, R94, R119, R220, R246, R301, R323, R174). -/
def State.cfgRej (s : State) (r : Reg) (i : Nat) : State :=
  if r.within .HPT_CFG .HPT_STAT_SNAP then s.setInt .HPT_INT_STAT 3 i
  else if r.within .LPT_CFG .LPT_STAT_SNAP then s.setInt .LPT_INT_STAT 3 i
  else if r == .CLS_AGE then [0, 1, 2, 3].foldl (fun t k => t.setInt .CLS_SL_INT_STAT 2 k) s
  else if r == .CLS_LP_MODE || r == .CLS_LP_LEARN then s.setInt .CLS_SL_INT_STAT 2 (i / 16)
  else if r.within .SEC_CTL .SEC_SECY_TX then s.setInt .SEC_INT_STAT 7
  else if r.within .MKA_CTL .MKA_CA_DEST then (s.setWord .MKA_EVT (BitVec.ofNat 32 (2 ^ 31 + 9 * 2 ^ 27))).setInt .MKA_INT_STAT 9
  else if r.within .TMG_CTL .TMG_PORT_PQ_FILL then s.setInt .TMG_INT_STAT 0
  else if r.within .TIM_CTL .TIM_CNT_HI then s.setInt .TIM_INT_STAT 8
  else if r.within .PAR_CTL .PAR_CNT_HI then s.setInt .PAR_INT_STAT 10
  else if r.within .PWR_STATUS .PWR_CNT_HI then s.setInt .PWR_INT_STAT 7
  else if r.within .TCK_STATUS .TCK_RESP_WIN then s.setInt .TCK_INT_STAT 7
  else s

/-- The window copy of a register that origin o meets. -/
def copyOf (o : Origin) (r : Reg) : Nat := if (allRegs.find? (fun x => x.reg == r)).any (fun x => x.copies == .window) then o.grp else 0

/-- The word a write of v would leave in register r. -/
def State.wouldBe (s : State) (o : Origin) (r : Reg) (i g : Nat) (v : W32) : W32 := s.merged (fieldsFor o r) (s.word r i g) v

/-- A write of v to a register, field by field, by an origin the block accepts; ok is the register's own rule on the word it
would hold. A value outside its range leaves the register unchanged and sets CFG_REJ (log entry 11). -/
def State.putReg (s : State) (o : Origin) (r : Reg) (i : Nat) (v : W32) (ok : W32 → Bool) : State :=
  let l := fieldsFor o r
  let g := copyOf o r
  if !s.accepts o r i then s.fault4 o r i
  else if presGated r i && !s.presence then s.fault5 o r i
  else
    let k := s.writeFault l (ignored r) (s.regView r i g) v
    let w := s.wouldBe o r i g v
    let s1 := if s.outOfRange l v || !ok w then s.cfgRej r i
      else s.setWord r w i g
    if k = 0 then s1 else s1.recordFault o (regAddr r i) true k

/-- A write of v that took state s to t by the register's own operation: its refused fields and reserved bits are counted, once in all
(R9, R10, R342). -/
def State.countOnce (s t : State) (o : Origin) (r : Reg) (i : Nat) (v : W32) : State :=
  let k := s.writeFault (fieldsFor o r) (ignored r) (s.regView r i (copyOf o r)) v
  if k = 0 || (t.acu o.acu).faultCnt != (s.acu o.acu).faultCnt then t else t.recordFault o (regAddr r i) true k

/-- The fields of a write beside what it commands are stored. -/
def State.storeFields (s : State) (o : Origin) (r : Reg) (i : Nat) (v : W32) : State :=
  s.setWord r (s.wouldBe o r i (copyOf o r) v) i (copyOf o r)

/-- The plain register write. -/
def State.putRegPlain (s : State) (o : Origin) (r : Reg) (i : Nat) (v : W32) : State := s.putReg o r i v (fun _ => true)

end Sys2Proof.Machine
end

