-- ==== Sys2Proof/Machine/Eng.lean ====
section
/-!
DEFINITION. The engines' and yardmaster's own commands (07): pace (R140), margin (R142), placement (R147), tests (R150-R152), engine
states and faults (R153, R154), shedding (R155), the template and set windows (R156).
-/

namespace Sys2Proof.Machine

/-! ## Pace and margin (R140, R142) -/

/-- An engine's domain is on (R153). -/
def Eng.powered (e : Eng) : Bool :=
  match e.mode with
  | .shedOff => e.offPend
  | .failed => false
  | .out => false
  | _ => true

/-- A new pace figure at time t (ns): the lowest of the last second is kept. -/
def Eng.setPace (e : Eng) (t p : Nat) : Eng :=
  let l := (e.paceLow.filter (fun x => decide (t < x.1 + 1000000000) && decide (x.2 < p))) ++ [(t, p)]
  { e with pace := p, paceLow := l, paceMin := minOf p (l.map (·.2)) }

/-- Since when an engine of pace p has been below 0.5 G blocks/s (R154). -/
def Eng.watch (e : Eng) (t p : Nat) : Eng := { e with slowAt := if 500 ≤ p then none else some (e.slowAt.getD t) }

/-- The paces a window gives: each ring's count over 8.192 µs scaled by RATIO, in M blocks/s; 0 while the domain is off (R140). -/
def State.takePaces (s : State) (counts : List Nat) : State :=
  (List.range 64).foldl (fun t k =>
    let e := t.eng k
    let p := min 65535 (counts.getD k 0 * e.ratio * 1000 / (256 * 8192))
    if e.powered then t.setEng k ((e.setPace s.nowNs p).watch s.nowNs p) else t) s

/-- (C - D) / C in units of 0.01 %, D a frame cost per 100 µs. With no engine in service the quotient has no value (R142): a
free value. -/
def State.marginOf (s : State) (d : Nat) : Int × State :=
  let c : Int := (s.capacity * 1000000 : Nat)
  if c = 0 then
    let (r, s1) := s.draw
    (((r.setWidth 16).toInt), s1)
  else ((c - (d * 10000 : Nat)) * 10000 / c, s)

/-- The margin period (R142): C, D and the margins, reported and passed to the shed controller. -/
def State.marginPeriod (s : State) : State :=
  let (m, s1) := s.marginOf s.yrd.demAcc
  let (m67, s2) := s1.marginOf s.pwr.dem67
  { s2 with
    yrd := { s2.yrd with cap := s.capacity / 10, dem := s.yrd.demAcc / 1000, margin := m, demLast := s.yrd.demAcc, demAcc := 0 }
    pwr := { s2.pwr with margin67 := m67, dem67 := 0 } }

/-! ## Placement (R147) -/

/-- Sets below their size grow. -/
def State.refit (s : State) : State := (s.yrd.sets.map (·.1)).foldl (fun t k => t.fitSet k) s

/-- The 10 ms figures: each engine's load in percent of its pace, each SC's demand. -/
def State.measureLoads (s : State) : State :=
  let s1 := (List.range 64).foldl (fun t k =>
    let e := t.eng k
    t.setEng k { e with load := if e.pace = 0 then 0 else min 255 (e.work / (e.pace * 100)), work := 0 }) s
  { s1 with yrd := { s1.yrd with sets := s1.yrd.sets.mapV (fun _ => {}) (fun v => { v with demand := v.demNow, demNow := 0 }) } }

/-- The busiest SC of engine a that engine b does not serve and has room for. -/
def State.busiest (s : State) (a b : Nat) : Option Nat :=
  let ok := s.yrd.sets.filter (fun v => v.2.engs.contains a && !v.2.engs.contains b &&
    decide ((s.eng b).keys.length + (s.scSlots v.1).length ≤ 1024))
  (ok.foldl (fun (x : Option (Nat × ScSet)) v => match x with
    | none => some v
    | some w => if w.2.demand < v.2.demand then some v else some w) none).map (·.1)

/-- One move of an overloaded engine's busiest SC to the least-loaded engine below 50 % (R147 rule 5, R148): added before removed. -/
def State.moveFrom (s : State) (a : Nat) : Option State :=
  let low := s.inService.filter (fun e => e != a && decide ((s.eng e).load < 50))
  let tgt := low.foldl (fun (x : Option Nat) e => match x with
    | none => some e
    | some b => if (s.eng e).load < (s.eng b).load then some e else some b) none
  match tgt with
  | none => none
  | some b =>
    match s.busiest a b with
    | none => none
    | some k =>
      let s1 := (s.loadKeys b (s.scSlots k)).setScSet k { s.scSet k with engs := (s.scSet k).engs ++ [b] }
      some ((s1.leaveSet k a).count .yrd 0 0 2)

/-- Moves from overloaded engines, one for each, while n moves are left. -/
def State.moves (s : State) (l : List Nat) (n : Nat) : State :=
  match l with
  | [] => s
  | a :: t =>
    if n = 0 then s
    else
      match s.moveFrom a with
      | some s1 => s1.moves t (n - 1)
      | none => s.moves t n

/-- The 10 ms rebalance (R147 rules 2 and 5): at most eight moves. -/
def State.rebalance (s : State) : State :=
  let s1 := s.measureLoads.refit
  s1.moves (s1.inService.filter (fun e => decide (85 < (s1.eng e).load))) 8

/-- A set shrinks to the size that has been lower for 100 ms (R147 rule 2): the engines added last leave. -/
def State.setShrink (s : State) (k : Nat) : State :=
  let v := s.scSet k
  if v.want = 0 ∨ v.engs.length ≤ v.want then s
  else
    let s1 := (v.engs.drop v.want).foldl (fun t e => t.leaveSet k e) s
    s1.setScSet k { s1.scSet k with want := 0 }

/-! ## Engine tests (R150-R152) -/

/-- A test may begin (R151). -/
def State.testOk (s : State) (e : Nat) : Bool :=
  let c := (s.capacity - (s.eng e).pace) * 1000000
  decide (s.pwr.stage ≤ 1) && decide (c + 10 * (s.yrd.demLast * 10000) ≤ 10 * c) &&
    decide (5 * s.committedDemand [6, 7] ≤ 4 * c)

/-- Another test is deferred, draining or running. -/
def State.testBusy (s : State) : Bool :=
  match s.yrd.testSt with
  | .deferred => true
  | .draining => true
  | .running => true
  | _ => false

/-- The engine leaves every set and drains (R152 step 1). -/
def State.startTest (s : State) (e : Nat) : State :=
  let s1 := (s.setEng e { s.eng e with mode := .draining }).leaveAll e
  { s1 with yrd := { s1.yrd with testSt := .draining, lastRot := e } }

/-- A test is selected: it begins, or it is deferred and counted (R151). -/
def State.selectTest (s : State) (e op : Nat) (req : Bool) : State :=
  let s1 := { s with yrd := { s.yrd with testEng := some e, testOp := op, testReq := req } }
  if s1.testOk e then s1.startTest e
  else ({ s1 with yrd := { s1.yrd with testSt := .deferred } }).count .yrd 0 0 4

/-- The rotation's turn (R150): the next engine in service after the last one tested. -/
def State.rotate (s : State) : State :=
  if s.testBusy ∨ s.fld F.YRD_CTL_ROT_S = 0 then s
  else
    match ((List.range 64).map (fun k => (s.yrd.lastRot + 1 + k) % 64)).find? (fun e => (s.eng e).mode == .inService) with
    | some e => s.selectTest e 3 false
    | none => s

/-- A write of YRD_TEST.REQ (R150): from PF0, Iaholt or a service core; refused while another test is in hand, and for an engine
not in service. -/
def State.testRequest (s : State) (o : Origin) (op e : Nat) : State :=
  if !o.main then s.fault4 o .YRD_TEST 0
  else
    let s1 := (s.setFld F.YRD_TEST_OP op).setFld F.YRD_TEST_ENGINE e
    if s.testBusy ∨ op % 4 = 0 ∨ (s.eng (e % 64)).mode ≠ .inService then s1 else s1.selectTest (e % 64) (op % 4) true

/-- The test in hand ends: its state, and TEST_DONE for a request. -/
def State.endTest (s : State) (st : TestSt) : State :=
  let s1 := { s with yrd := { s.yrd with testSt := st, testEng := none } }
  if s.yrd.testReq then s1.setInt .YRD_INT_STAT 0 else s1

/-- A deferred test is retried (R151). -/
def State.testRetry (s : State) : State :=
  match s.yrd.testSt, s.yrd.testEng with
  | .deferred, some e => if (s.eng e).mode == .inService && s.testOk e then s.startTest e else s
  | _, _ => s

/-- tTEST_DEFER passes: a request is rejected, a rotation test is skipped and the rotation goes on behind its engine (R151). -/
def State.testDeferExpired (s : State) : State :=
  match s.yrd.testSt with
  | .deferred =>
    if s.yrd.testReq then ({ s with yrd := { s.yrd with testSt := .rejected, testEng := none } }).setInt .YRD_INT_STAT 1
    else { s with yrd := { s.yrd with testSt := .idle, testEng := none, lastRot := s.yrd.testEng.getD s.yrd.lastRot } }
  | _ => s

/-- A test draining or running is aborted: the engine returns with its old calibration (R152). -/
def State.abortTest (s : State) : State :=
  match s.yrd.testEng with
  | some e =>
    match s.yrd.testSt with
    | .draining => ((s.setEng e { s.eng e with mode := .inService }).endTest .aborted).refit
    | .running => ((s.setEng e { s.eng e with mode := .inService }).endTest .aborted).refit
    | _ => s
  | none => s

/-- The last slot of a draining engine is empty (R153): the test runs. -/
def State.engineDrained (s : State) (e : Nat) : State :=
  if (s.eng e).mode == .draining && (s.eng e).slots.isEmpty then
    let s1 := s.setEng e { s.eng e with mode := .test }
    { s1 with yrd := { s1.yrd with testSt := .running } }
  else s

/-! ## Faults (R153, R154) -/

/-- What becomes of a frame whose segment was in a failed engine (R154): before its commit point that work is dispatched again;
after it the frame ends stomped. -/
def State.failFrame (s : State) (e : Nat) (f : Frame) : State :=
  if f.stage == .committed then
    let f1 := { f with verdict := .engineFault, segs := f.segs.map (fun g => if g.eng == e then { g with done := true } else g) }
    let s1 := (s.dropSegs f (some e)).setFrame f1
    if f1.inEngine then s1 else s1.sendFrame f1
  else
    let whole := decide ((s.scSet f.sc).engs.length < 2) && decide (1 < f.segs.length)
    let s1 := s.dropSegs f (if whole then none else some e)
    let f1 := { f with
      segs := if whole then [] else f.segs.filter (fun g => g.done || g.eng != e)
      stage := .dispatch, refetch := true }
    (s1.setFrame f1).dispatch f1

/-- An engine fails (R154): it leaves every set, its frames are dispatched again or stomped, its domain goes off, the fault is
recorded and source 16 raised; a test of another engine is aborted. -/
def State.failEngine (s : State) (e cause : Nat) : State :=
  let hit := s.frames.filter (fun f => f.segs.any (fun g => !g.done && g.eng == e))
  let own := s.yrd.testEng == some e
  let s1 := (s.setEng e { s.eng e with mode := .failed, fault := cause, offPend := false }).leaveAll e
  let s2 := if own then s1 else s1.abortTest
  let s3 := hit.foldl (fun t f => match t.frame? f.id with
    | some g => t.failFrame e g
    | none => t) s2
  let s4 := (s3.setEng e { (s3.eng e).dark with slots := [] }).ledgerEvent (.engineFault e cause)
  ((s4.setWord .ENG_EVT (BitVec.ofNat 32 (fw 31 31 1 + fw 30 28 cause + fw 5 0 e))).setInt .ENG_INT_STAT 0).raise 16

/-- x in its place in a rising list. -/
def insNat (x : Nat) (l : List Nat) : List Nat :=
  match l with
  | [] => [x]
  | y :: r => if x ≤ y then x :: y :: r else y :: insNat x r

/-- The median of the paces in service. -/
def State.medianPace (s : State) : Nat :=
  let l := (s.inService.map (fun e => (s.eng e).pace)).foldr insNat []
  l.getD (l.length / 2) 0

/-- An engine's pace is a fault (R141, R154 cause 4): below 0.5 G blocks/s for 1 ms, or below a quarter of the median m. -/
def Eng.slow (e : Eng) (t m : Nat) : Bool := decide (4 * e.pace < m) || e.slowAt.any (fun a => decide (a + 1000000 ≤ t))

/-- A fault is detected (R153, R154): causes 1, 2 and 4 in an engine in service or draining, cause 4 only when its pace is one; cause 3,
a known-answer mismatch, in test. -/
def State.engineFault (s : State) (e cause : Nat) : State :=
  let g := s.eng e
  let real := cause == 1 || cause == 2 || (cause == 4 && g.slow s.nowNs s.medianPace)
  match g.mode with
  | .inService => if real then s.failEngine e cause else s
  | .draining =>
    if !real then s
    else if s.yrd.testEng == some e then (s.failEngine e cause).endTest .failed else s.failEngine e cause
  | .test => if cause = 3 then ((s.setInt .ENG_INT_STAT 1).failEngine e 3).endTest .failed else s
  | _ => s

/-- A pace window ends: the paces (R140), and the engines whose pace is a fault (R141, R154). -/
def State.paceWindow (s : State) (counts : List Nat) : State :=
  let s1 := s.takePaces counts
  let m := s1.medianPace
  ((List.range 64).filter (fun e => (s1.eng e).slow s1.nowNs m)).foldl (fun t e => t.engineFault e 4) s1

/-- A handshake has been outstanding for tENG_STALL: cause 2. -/
def State.engineStall (s : State) (e : Nat) : State := if (s.eng e).slots.isEmpty then s else s.engineFault e 2

/-- The tests end (R152 steps 3-5): a known-answer mismatch fails the engine; otherwise its calibration is applied. -/
def State.testDone (s : State) (e : Nat) (pass : Bool) (ratio tap : Nat) : State :=
  if s.yrd.testSt != .running || s.yrd.testEng != some e || (s.eng e).mode != .test then s
  else
    let op := s.yrd.testOp
    let good := pass || !nbit op 0
    let g := { s.eng e with tested := true, passed := good, testAt := s.nowNs }
    let s1 := (s.setEng e g).count .yrd 0 0 3
    if good then
      let g1 := if nbit op 1 then { g with ratio := ratio % 65536, tap := tap % 256 } else g
      ((s1.setEng e { g1 with mode := .inService }).endTest .passed).refit
    else ((s1.setInt .ENG_INT_STAT 1).failEngine e 3).endTest .failed

/-! ## Shedding (R155) -/

/-- More engines are wanted than are in service (R155). -/
def State.engineWanted (s : State) : Bool :=
  match s.enginesKept with
  | none => true
  | some n => decide (s.inService.length < n)

/-- A SHED_OFF engine is brought back (R153): its pace check passes, or it fails with cause 4. -/
def State.engineWake (s : State) (e p : Nat) : State :=
  if (s.eng e).mode != .shedOff || !s.engineWanted then s
  else if p < 500 ∨ 4 * p < s.medianPace then s.failEngine e 4
  else (s.setEng e ({ s.eng e with mode := .inService, offPend := false }.setPace s.nowNs p)).refit

/-! ## Windows (R156) -/

/-- Read a template (any master). -/
def State.tplRead (s : State) (o : Origin) : State :=
  let g := o.grp
  let l := s.template (s.fld F.ENG_TPL_IDX_TPL 0 g)
  (s.cmdErr .ENG_TPL_CMD g 0).setWords .ENG_TPL_DATA ((List.range 8).map (fun k => l.getD k 0#32)) g

/-- A template write in service: RWI, refused to every master once ST06 has ended (R10, R156). -/
def State.tplWrite (s : State) (o : Origin) : State :=
  ((s.cmdErr .ENG_TPL_CMD o.grp 1).setInt .ENG_INT_STAT 3).fault4 o .ENG_TPL_CMD 0

/-- Read the set of an SC (R156). -/
def State.scwRead (s : State) (o : Origin) : State :=
  let g := o.grp
  let n := s.fld F.YRD_SCW_IDX_SC 0 g
  let l := (s.scSet (if s.flag F.YRD_SCW_IDX_RX 0 g then 2048 + n else n)).engs
  s.setWord .YRD_SCW_DATA (BitVec.ofNat 32 (fw 31 31 (b2n !l.isEmpty) + fw 30 28 l.length +
    (l.zipIdx.map (fun x => x.1 * 64 ^ x.2)).sum % 2 ^ 24)) 0 g

end Sys2Proof.Machine
end

