-- ==== Sys2Proof/Machine/Ports.lean ====
section
/-!
DEFINITION. The logical ports (02): links and their forms (R28-R32), recalibration (R33), the host writes of MAX_FRAME and
FC_THR (R36, R40), pause storms (R38), dormancy, beacons and waking (R43, R44), statistics snapshots (R47).
-/

namespace Sys2Proof.Machine

/-- AN_EN of a port. -/
def State.anEn (s : State) (p : Nat) : Bool := if p < 64 then s.flag F.HPT_CFG_AN_EN p else s.flag F.LPT_CFG_AN_EN (p - 64)

/-- A host port mapped to none has its transmitter and receiver off (R34). -/
def State.mapped (s : State) (p : Nat) : Bool := decide (64 ≤ p) || (s.lineOf p).isSome

/-- The port can bring up or hold a link: enabled, kept, mapped, not dormant (R34, R43, R294). -/
def State.portLive (s : State) (p : Nat) : Bool := s.portEn p && s.kept p && s.mapped p && !(s.port p).dormant

/-- A port receives frames: it has a link and its receiver is on. -/
def State.receives (s : State) (p : Nat) : Bool := s.portUp p && s.mapped p

/-! ## Forms, lanes and the bring-up (R28-R32) -/

/-- CFG.FEC of a port. -/
def State.portCfgFec (s : State) (p : Nat) : Nat := if p < 64 then s.fld F.HPT_CFG_FEC p else s.fld F.LPT_CFG_FEC (p - 64)

/-- LT_EN of a port. -/
def State.ltEn (s : State) (p : Nat) : Bool := if p < 64 then s.flag F.HPT_CFG_LT_EN p else s.flag F.LPT_CFG_LT_EN (p - 64)

/-- The FEC a form runs (R29): 1 none, 2 RS(528,514), 3 RS(544,514). 0 leaves it to the form or to auto-negotiation. -/
def fecOk (form fec : Nat) : Bool :=
  fec == 0 || (match form with
    | 0 => true
    | 1 => fec == 1
    | 2 => fec == 1 || fec == 2
    | 4 => fec == 1 || fec == 2
    | _ => fec == 3)

/-- The FEC a link in a form comes up with: the configured one, else what was negotiated where the form leaves a choice. -/
def linkFec (form cfg neg : Nat) : Nat :=
  if cfg ≠ 0 ∧ fecOk form cfg then cfg
  else
    match form with
    | 1 => 1
    | 2 => if neg = 2 then 2 else 1
    | 4 => if neg = 2 then 2 else 1
    | _ => 3

/-- A form fits on the lanes from a port's lowest lane to the end of its group, aligned (R28, R32). -/
def formFits (n form : Nat) : Bool := n % formLanes form == 0 && decide (n % 8 + formLanes form ≤ 8)

/-- A form fits an AUTO port on the lanes that remain in its group (R32 step 1). -/
def State.formFree (s : State) (p form : Nat) : Bool :=
  formRate form != 0 && formFits (p % 64) form && (groupOf p).all (fun q => !s.holdsLanes q || !s.overlaps p form q)

/-- The abilities a port advertises (R31, R32): its configured form, or every form that fits the lanes remaining. -/
def State.abilities (s : State) (p : Nat) : List Nat :=
  match s.portCfgForm p with
  | 0 => ((List.range 12).drop 1).filter (fun f => s.formFree p f)
  | f => [f]

/-- Lanes that R32 passes over at port p on its way through a group: of a form that stands, or of a number with nothing to bring up;
0 where the group waits for p. DESIGN CHOICE (log entry 35): a port with EN clear is passed over. -/
def State.passes (s : State) (p : Nat) : Nat :=
  match s.formOf p with
  | some f => formLanes f
  | none => if s.portCfgForm p = 15 ∨ !s.portEn p then 1 else 0

/-- Port p is reached from port q of its group in R32's order. -/
def State.reached (s : State) (p q fuel : Nat) : Bool :=
  match fuel with
  | 0 => false
  | k + 1 => if q = p then true else if p < q ∨ s.passes q = 0 then false else s.reached p (q + s.passes q) k

/-- It is an AUTO port's turn in its group (R32 step 2): the lanes below it have their ports. -/
def State.itsTurn (s : State) (p : Nat) : Bool := s.portCfgForm p != 0 || s.reached p (p / 8 * 8) 9

/-- A form a port may come up in. -/
def State.mayCome (s : State) (p form : Nat) : Bool :=
  if s.portCfgForm p = 0 then s.itsTurn p && s.formFree p form else formRate form != 0 && form == s.portCfgForm p

/-- A port begins to bring up its link (R31, R44): Clause 73 with its advertisement, training, or its form directly. It advertises
its abilities, its FEC, and symmetric pause when it generates pause. -/
def State.bringUp (s : State) (p : Nat) : State :=
  let s1 := s.setPort p { s.port p with phase := if s.anEn p then .negotiating else if s.ltEn p then .training else .direct }
  if s.anEn p then
    s1.emit (.advert (portAt p) (s.abilities p) (s.portCfgFec p) (decide (p < 64) && s.fld F.HPT_FC_MODE p == 1))
  else s1

/-- The ports whose lanes an AUTO port has taken lose their place (R71). -/
def State.displace (s : State) (p : Nat) : State :=
  (groupOf p).foldl (fun t q =>
    if t.portCfgForm q == 0 && (t.port q).present && t.overlaps p (t.port p).formAct.toNat q then
      t.setPort q { t.port q with present := false, formAct := 0xF#4 }
    else t) s

/-- The link comes up in a form (R28, R29, R31, R32, R33): its own if it is configured, else one that fits the lanes that remain when
its turn has come; never while its recalibration runs. -/
def State.linkUp (s : State) (p form fec : Nat) : State :=
  let q := s.port p
  let fm := if s.portCfgForm p = 0 then form else s.portCfgForm p
  if !s.portLive p || q.link || q.recal == .running || !s.mayCome p fm then s
  else
    ((s.setPort p { q with
      link := true, phase := .off, present := s.portCfgForm p == 0
      formAct := BitVec.ofNat 4 fm, fecAct := BitVec.ofNat 2 (linkFec fm (s.portCfgFec p) fec) }).displace p).portInt p 0

/-- A link that went down at shed stage S4 or above leaves no queued frames (R167, R168). -/
def State.discardDown (s : State) (p : Nat) : State := if 4 ≤ s.pwr.stage then s.discard (fun f => f.egress == p) else s

/-- The link goes down: LINK_CHG, counter 32, a queued recalibration starts (R33); a port that may have a link begins anew. -/
def State.linkDown (s : State) (p : Nat) : State :=
  let q := s.port p
  if !q.link then s
  else
    let t := (((s.setPort p { q with
      link := false, txBusy := false
      recal := if q.recal == .queued then .running else q.recal }).portInt p 0).portCnt p 32).discardDown p
    if t.portLive p then t.bringUp p else t

/-- The forms probed without DME pages, in order, with their FEC (R32). UNVERIFIED (log entry 35): the rule names no FEC for
100GBASE-R on 4 lanes; which of its two is probed is left free. -/
def probeForms : List (Nat × Nat) :=
  [(0xB, 3), (0xA, 3), (0x7, 3), (0x6, 3), (0x4, if Config.probeRs then 2 else 1), (0x2, 2), (0x2, 1), (0x1, 1)]

/-- The first probe from position k on whose lanes fit; the last form always fits. -/
def State.nextProbe (s : State) (p k : Nat) : Nat :=
  match (List.range 8).find? (fun d => s.formFree p (probeForms.getD ((k + d) % 8) (1, 1)).1) with
  | some d => (k + d) % 8
  | none => 7

/-- A forced form is probed (R32): kept when it reached block lock and alignment, else the next form follows. -/
def State.probe (s : State) (p : Nat) (reached : Bool) : State :=
  let q := s.port p
  let k := s.nextProbe p q.probe
  if s.image || s.portCfgForm p != 0 || q.link || !s.portLive p || !s.itsTurn p then s
  else if reached then
    let e := probeForms.getD k (1, 1)
    s.linkUp p e.1 e.2
  else s.setPort p { q with probe := s.nextProbe p (k + 1) }

/-! ## Recalibration (R33) -/

/-- A recalibration request (R33). DESIGN CHOICE (log entry 35): one made while a recalibration of the port runs changes nothing. -/
def State.recalReq (s : State) (p : Nat) (queue : Bool) : State :=
  let q := s.port p
  if q.recal == .running then s
  else if !q.link then s.setPort p { q with recal := .running }
  else if queue then s.setPort p { q with recal := .queued }
  else (s.setPort p { q with recal := .rejected }).portInt p 4

/-- The lanes of a port, as ledger lane entries: of its form, one while it has none. -/
def State.lanesOf (s : State) (p : Nat) : List Nat := (List.range (((s.formOf p).map formLanes).getD 1)).map (fun k => p + k)

/-- A recalibration finishes (R33, R258): each lane's coefficients take effect and go to the ledger. -/
def State.recalDone (s : State) (p : Nat) (coefs : List W32) : State :=
  if (s.port p).recal == .running then
    let s1 := s.setPort p { s.port p with recal := .idle }
    ((s.lanesOf p).zipIdx.foldl (fun t e =>
      let c := coefs.getD e.2 (t.port e.1).coef
      (t.setPort e.1 { t.port e.1 with coef := c }).storeLane e.1 c) s1).portInt p 4
  else s

/-- The largest growth of the SecYs of a line port (R21, R22): of every SecY that is valid on it, and with no image of the one that
becomes valid when the port is configured. -/
def State.growthOn (s : State) (lp : Nat) : Nat :=
  let own := if s.image then [] else [lp]
  (own ++ s.secysOn lp).foldl (fun a n => max a (s.growth n)) 0

/-- The bound of R22 for a host port's MAX_FRAME. -/
def State.maxFrameOk (s : State) (p v : Nat) : Bool :=
  match s.lineOf p with
  | some lp => decide (v + s.growthOn lp ≤ s.maxFrame (64 + lp))
  | none => true

/-- A host write of MAX_FRAME (R36). -/
def State.writeMaxFrame (s : State) (o : Origin) (p : Nat) (v : W32) : State :=
  s.putReg o .HPT_MAX_FRAME p v (fun w => s.maxFrameOk p (bits w 13 0))

/-- A host write of FC_THR: XON < XOFF_LOW ≤ XOFF_HIGH (R40). -/
def State.writeFcThr (s : State) (o : Origin) (p : Nat) (v : W32) : State :=
  s.putReg o .HPT_FC_THR p v (fun w => decide (bits w 8 0 < bits w 17 9) && decide (bits w 17 9 ≤ bits w 26 18))

/-- A pause or PFC frame is sent again while the fill stays above the threshold that caused it (R39). -/
def State.pauseRefresh (s : State) (p : Nat) : State :=
  let q := s.port p
  let n := s.fifoFill p
  let above := fun (t : Nat) => decide (t * 256 ≤ n)
  match s.fld F.HPT_FC_MODE p with
  | 1 => if q.pauseSent && above (s.fld F.HPT_FC_THR_XOFF_HIGH p) then s.sendPause p else s
  | 2 =>
    if q.pfcSent = 0#8 then s
    else
      let s1 := if above (s.fld F.HPT_FC_THR_XOFF_LOW p) then s.sendPfc p (s.fld F.HPT_FC_PFC_LOW p) else s
      if above (s.fld F.HPT_FC_THR_XOFF_HIGH p) then s1.sendPfc p (s.fld F.HPT_FC_PFC_EN p) else s1
  | _ => s

/-- The time of a received pause, or of one priority of a PFC frame, runs out (R37). -/
def State.pauseExpired (s : State) (p : Nat) (pri : Option Nat) : State :=
  let q := s.port p
  match pri with
  | none => s.setPort p { q with paused := false }
  | some k => s.setPort p { q with pfcPaused := q.pfcPaused &&& ~~~(BitVec.ofNat 8 (2 ^ (k % 8))) }

/-- The priority of class 7 on a port: the guard of R38 measures it too. -/
def State.stormPaused (s : State) (p : Nat) : Bool :=
  (s.port p).paused || (s.port p).pfcPaused == 0xFF#8 || (s.port p).pfcPaused.getLsbD (s.prio p 7)

/-- STORM_MS of a port. -/
def State.stormMs (s : State) (p : Nat) : Nat :=
  if p < 64 then s.fld F.HPT_STORM_STORM_MS p else s.fld F.LPT_STORM_STORM_MS (p - 64)

/-- The pause-storm guard acts (R38): STORM, received pause ignored, source 20. DEDUCED (log entry 35): a pause already in force ends
at once; the rule says only that received pause and PFC are ignored. -/
def State.pauseStorm (s : State) (p : Nat) : State :=
  if s.stormMs p != 0 && s.stormPaused p && !(s.port p).storm then
    ((s.setPort p { s.port p with storm := true, paused := false, pfcPaused := 0#8 }).portInt p 2).raise 20
  else s

/-- 100 ms pass with no pause received: the port obeys again (R38). -/
def State.stormQuiet (s : State) (p : Nat) : State := s.setPort p { s.port p with storm := false }

/-- A port goes dormant (R43). A transmitter squelched because its member is standby never does. -/
def State.goDormant (s : State) (p : Nat) (byS3 : Bool) : State :=
  let q := s.port p
  let en := if p < 64 then s.flag F.HPT_CFG_DORMANT_EN p else s.flag F.LPT_CFG_DORMANT_EN (p - 64)
  if q.link || q.dormant || !s.portEn p || s.par.st == .standby || !(byS3 || en) then s
  else s.setPort p { q with dormant := true, dormByS3 := byS3, phase := .off }

/-- A dormant port wakes (R44): WAKE, counter 33, training starts within tWAKE. -/
def State.wakePort (s : State) (p : Nat) : State :=
  let q := s.port p
  if q.dormant && s.portEn p && s.kept p then
    (((s.setPort p { q with dormant := false, dormByS3 := false }).portInt p 1).portCnt p 33).bringUp p
  else s

/-- All counters of a port copied at one instant (R47). -/
def State.statSnap (s : State) (p : Nat) : State :=
  (List.range 35).foldl (fun t k =>
    let v := if p < 64 then s.cnt .hpt 0 p k else s.cnt .lpt 0 (p - 64) k
    { t with snaps := t.snaps.put (fun _ => 0#64) (p * 64 + k) v }) s

end Sys2Proof.Machine
end

