-- ==== Sys2Proof/Machine/Power.lean ====
section
/-!
DEFINITION. Supplies, demands and shedding (14): the monitors of R283-R285, the demands of R288-R291, the stage in force (R292), what
each stage withdraws (R293-R295, R168) and restores, the survival range (R297, R298).
-/

namespace Sys2Proof.Machine

/-! ## Level sources (R309, R311) -/

/-- The monitor of a source is being stimulated: its output does not reach the source (R318). -/
def State.stimulated (s : State) (src : Nat) : Bool := s.tck.stimSt == 1 && s.tck.stimSrc == src

/-- One event of a monitored event source. -/
def State.monEvent (s : State) (src : Nat) : State := if s.stimulated src then s else s.raise src

/-- A level source's condition: entering it is a raise; leaving it ends the raise. -/
def State.level (s : State) (src : Nat) (on : Bool) : State :=
  let was := s.tck.raised.getLsbD src
  if on == was || s.stimulated src then s
  else
    let s1 := { s with tck := { s.tck with raised := s.tck.raised ^^^ BitVec.ofNat 26 (2 ^ src) } }
    if on then s1.raise src else s1

/-! ## The STATUS record (R226, R234) -/

/-- A member that may send on the tether: keyed, not isolated, not in safe hold (R253, R314). -/
def State.mayTether (s : State) : Bool :=
  s.tetherKeyed && !s.alarm.isolated && !s.start.safeHold

/-- Send a STATUS record. -/
def State.sendStatus (s : State) : State :=
  if s.mayTether then s.sendRec 0x02 (.status s.par.st s.pwr.stage s.leaseValid (if s.isActive then s.par.joined else s.par.synced)) else s

/-! ## What the stages withdraw and restore (R168, R293) -/

/-- The registers of PD109 (R357). -/
def pd109 (r : Reg) : Bool :=
  r.within .OBS_CTL .OBS_CEL_CNT_HI &&
    !(r == .OBS_CTL || r == .OBS_STATUS || r == .OBS_INT_STAT || r == .OBS_INT_EN || r.within .OBS_LOGW_CMD .OBS_LOGW_SEQ)

/-- PD109 off. -/
def State.obsOff (s : State) : State := { s with obs := { s.obs with on := false } }

/-- PD109 on again (R357): selections, counters and samples are zero and gone, EPOCH advances, RESTART. -/
def State.obsOn (s : State) : State :=
  if s.obs.on then s
  else
    let keep := fun (k : Nat) => match regList[k / 2 ^ 22]? with
      | some r => !pd109 r
      | none => true
    let s1 := { s with
      regs := s.regs.filter (fun e => keep e.1)
      caps := s.caps.filter (fun e => keep e.1)
      obs := { s.obs with on := true, epoch := (s.obs.epoch + 1) % 65536, cnts := [], prev := [], edged := [], wrapped := [], samples := [] } }
    ((List.range 64).foldl (fun t k => t.setEng k { t.eng k with cyc := 0#64, cycAcc := 0, busy := 0 }) s1).setInt .OBS_INT_STAT 3

/-- Ports not kept at the stage in force go down (R294); the queues of ports that are down or not enabled are discarded (R167,
R168). -/
def State.dropUnkept (s : State) : State :=
  let s1 := (List.range 128).foldl (fun t p => if t.kept p then t else t.linkDown p) s
  s1.discard (fun f => !s1.portUp f.egress)

/-- Take the actions of stage n. -/
def State.takeStage (s : State) (n : Nat) : State :=
  match n with
  | 1 => s.obsOff
  | 2 => s.abortTest
  | 3 => (List.range 128).foldl (fun t p => t.goDormant p true) (s.celShed true)
  | 4 => s.dropUnkept.shedEngines
  | 5 => (s.dropUnkept.discard (fun f => decide (f.cls < 7) && decide (f.queue < 16128))).shedEngines
  | 6 => (s.discard (fun _ => true)).shedEngines
  | _ => s

/-- DORMANT_EN of a port. -/
def State.dormantEn (s : State) (p : Nat) : Bool :=
  if p < 64 then s.flag F.HPT_CFG_DORMANT_EN p else s.flag F.LPT_CFG_DORMANT_EN (p - 64)

/-- The ports that the stage no longer disables begin to bring up their links (R31, R294). -/
def State.portsBack (s : State) : State :=
  if s.start.step != 15 || s.start.held || s.start.safeHold then s
  else (List.range 128).foldl (fun t p => if t.isPort p && t.portLive p && !(t.port p).link && (t.port p).phase == .off then t.bringUp p else t) s

/-- Restore what stage n withdrew, on leaving it (R43, R194, R294, R357); the engines to be kept are computed anew (R155). The engines shed at S4 come back by their own wake. -/
def State.leaveStage (s : State) (n : Nat) : State :=
  let s := s.shedEngines
  match n with
  | 1 => s.obsOn
  | 4 => s.portsBack
  | 5 => s.portsBack
  | 3 => (List.range 128).foldl (fun t p =>
      if (t.port p).dormByS3 && !t.dormantEn p then t.wakePort p else t) (s.celShed false)
  | _ => s

/-! ## The stage in force (R292) -/

/-- Note a change of stage: its counters, PWR_EVT, the interrupt, the record to the partner. -/
def State.noteStage (s : State) (old n : Nat) : State :=
  let c := s.cnt .pwr 0 0 (7 + old) + BitVec.ofNat 64 ((s.nowNs - s.pwr.stageAt) / 1000000)
  let s1 := { s with
    cnts := s.cnts.put (fun _ => 0#64) (cntKey .pwr 0 0 (7 + old)) c
    pwr := { s.pwr with stageAt := s.nowNs } }
  let s2 := (s1.setWord .PWR_EVT (BitVec.ofNat 32 (fw 31 31 1 + fw 30 28 old + fw 27 25 n + fw 24 20 s.demandSrcs))).setInt
    .PWR_INT_STAT (if old < n then 0 else 1)
  s2.sendStatus

/-- Enter the stages above the one in force up to n, in order. -/
def State.climb (s : State) (k : Nat) (fuel : Nat) : State :=
  match fuel with
  | 0 => s
  | f + 1 => (((({ s with pwr := { s.pwr with stage := k } }).count .pwr 0 0 k)).takeStage k).climb (k + 1) f

/-- The demands are looked at: a demand above the stage in force is entered at once, with every stage between (R292). After a
power-on reset the stage stays S0 until ST03. -/
def State.shed (s : State) : State :=
  let n := s.topDemand
  if s.pwr.started && decide (s.pwr.stage < n) then (s.climb (s.pwr.stage + 1) (n - s.pwr.stage)).noteStage s.pwr.stage n else s

/-- tSTEP_BACK has passed since the last change: the stage falls by one (R292). -/
def State.stepBack (s : State) : State :=
  let n := s.pwr.stage
  if s.topDemand < n then
    (((({ s with pwr := { s.pwr with stage := n - 1 } }).count .pwr 0 0 (n - 1))).leaveStage n).noteStage n (n - 1)
  else s

/-! ## Supplies (R283, R284, R289) -/

/-- The lower and upper levels of a supply, mV; VCORE is watched below its nominal only for the shed levels. -/
def supLevels (k : Nat) : Nat × Nat :=
  match k with
  | 0 => (0, 800)
  | 1 => (810, 890)
  | 2 => (1140, 1260)
  | 3 => (1045, 1155)
  | 4 => (380, 420)
  | 5 => (1710, 1890)
  | 6 => (1710, 1890)
  | 7 => (3135, 3465)
  | 8 => (3000, 3600)
  | _ => (2200, 3700)

/-- The absolute maximum of a supply, mV (R369). -/
def supMax (k : Nat) : Nat :=
  match k with
  | 0 => 900
  | 1 => 1000
  | 2 => 1400
  | 3 => 1300
  | 4 => 550
  | 5 => 2100
  | 6 => 2100
  | 7 => 3800
  | 8 => 3800
  | _ => 3900

/-- The stage that VCORE demands at a level in mV (R289). -/
def vcoreStage (mv : Nat) : Nat := if mv ≤ 640 then 5 else if mv ≤ 670 then 4 else if mv ≤ 700 then 2 else 0

/-- A reading of a supply. -/
def State.setSupply (s : State) (k mv : Nat) : State :=
  let (lo, hi) := supLevels k
  let v : Supply := { mv := mv, uv := decide (mv < lo), ov := decide (hi < mv) }
  let m := if k = 0 then [0, 1, 2].foldl (fun t g => Tab.put (fun _ => 65535) t g (min (Tab.look (fun _ => 65535) t g) mv)) s.pwr.minVcore
    else s.pwr.minVcore
  { s with pwr := { s.pwr with sup := s.pwr.sup.put supDflt k v, minVcore := m } }

/-- A rail is lost: below half its lower level (log entry 24). -/
def railLost (k mv : Nat) : Bool := decide (2 * mv < (supLevels k).1)

/-- What the loss of a rail does while VCORE holds (R375). -/
def State.loseRail (s : State) (k : Nat) : State :=
  if k = 1 ∨ k = 2 then
    let s1 := (List.range 128).foldl (fun t p => t.linkDown p) s
    { s1 with par := { s1.par with tetherUp := 0#2 }, pci := { s1.pci with speed := 0, width := 0 } }
  else if k = 3 ∨ k = 4 ∨ k = 5 then
    [0, 1, 2, 3].foldl (fun t n => if t.stkUp n || (t.stk n).mode == .waking then t.loseStack n else t) s
  else if k = 6 then ({ s with par := { s.par with actOut := false, gate := false } }).emit (.pin 10 false)
  else s

/-- The tack room's supply after a reading of VAUX or VBAT (R302, R303, TCK_STATUS.BAT_USED). -/
def State.tackSupply (s : State) : State :=
  let bat := decide ((s.supply 8).mv < 3000)
  let t := s.tck
  { s with tck := { t with
      onBat := bat
      batMark := t.batMark || bat
      batUsed := t.batUsed || bat
      power := t.power && !(bat && decide ((s.supply 9).mv < 2000)) } }

/-- A level of a supply is crossed (R284): UV or OV and the supply or battery source, the VCORE demand, what the loss of the rail
does. -/
def State.crossing (s : State) (k mv : Nat) : State :=
  let was := s.supply k
  let s1 := s.setSupply k mv
  let v := s1.supply k
  let s2 := if v.uv && !was.uv then s1.setInt .PWR_INT_STAT 2 else s1
  let s3 := if v.ov && !was.ov then s2.setInt .PWR_INT_STAT 3 else s2
  let s4 := if k = 9 then s3.level 6 (v.uv || v.ov)
    else s3.level 10 ((List.range 9).any (fun j => (s3.supply j).uv || (s3.supply j).ov))
  let s5 := if railLost k mv then s4.loseRail k else s4
  let s6 := if k = 8 ∨ k = 9 then s5.tackSupply else s5
  if k = 0 then ({ s6 with pwr := { s6.pwr with dVcore := max s6.pwr.dVcore (vcoreStage mv) } }).shed else s6

/-- VCORE has stayed 15 mV above a level for tSUP_HOLD: the demand falls to the stage of the level above (R289). -/
def State.vcoreReturn (s : State) (mv : Nat) : State :=
  let s1 := s.setSupply 0 mv
  { s1 with pwr := { s1.pwr with dVcore := min s1.pwr.dVcore (if mv < 655 then 5 else if mv < 685 then 4 else if mv < 715 then 2 else 0) } }

/-! ## Junction temperature (R285, R290, R297, R308) -/

/-- The stage that Tj demands, Tj in units of 0.25 °C (R290). -/
def tjStage (t : Int) : Nat := if 560 ≤ t then 6 else if 528 ≤ t then 5 else if 500 ≤ t then 4 else if 460 ≤ t then 2 else 0

/-- The threshold of a Tj demand. -/
def tjLevel (n : Nat) : Int :=
  match n with
  | 6 => 560
  | 5 => 528
  | 4 => 500
  | _ => 460

/-- x in its place in a rising list. -/
def insInt (x : Int) (l : List Int) : List Int :=
  match l with
  | [] => [x]
  | y :: r => if x ≤ y then x :: y :: r else y :: insInt x r

/-- Twice the median of the readings: the sum of the two middle ones of an even number. -/
def median2 (l : List Int) : Int :=
  let m := l.foldr insInt []
  m.getD ((m.length - 1) / 2) 0 + m.getD (m.length / 2) 0

/-- Time above +125 °C is added up for the survival count (R257). -/
def State.survTime (s : State) (above : Bool) : State :=
  let acc := match s.pwr.survFrom with
    | some t => s.pwr.survAcc + (s.nowNs - t)
    | none => s.pwr.survAcc
  { s with pwr := { s.pwr with survAcc := acc, survFrom := if above then some s.nowNs else none } }

/-- Tj is taken from the sensors that are not left out (R285, R308). -/
def State.takeTj (s : State) (l : List Int) : State :=
  let e := (l.zipIdx.filter (fun x => !s.pwr.tjLeft.contains x.2))
  match e.foldl (fun (a : Option (Int × Nat)) x => match a with
    | none => some x
    | some b => if b.1 < x.1 then some x else some b) none with
  | none => s
  | some (t, n) =>
    let m := [0, 1, 2].foldl (fun u g => Tab.put (fun _ => (-2048 : Int)) u g (max (Tab.look (fun _ => (-2048 : Int)) u g) t)) s.pwr.maxTj
    { s with pwr := { s.pwr with tj := t, tjSensor := n, maxTj := m, dTj := max s.pwr.dTj (tjStage t) } }

/-- Entering or leaving the survival range, +125 °C to +140 °C (R297, R298). -/
def State.survival (s : State) : State :=
  let inn := decide (500 ≤ s.pwr.tj) && decide (s.pwr.tj ≤ 560)
  let s1 := { s with pwr := { s.pwr with surv := inn } }
  if inn && !s.pwr.surv then
    let s2 := s1.setInt .PWR_INT_STAT 4
    if s2.spent then (s2.setInt .PWR_INT_STAT 5).raise 23 else s2
  else s1

/-- The 24 core sensors and the tack room's own are read (R285, R308), units of 0.25 °C. -/
def State.tjSample (s : State) (l : List Int) (tack : Int) : State :=
  let md := median2 l
  let odd : List (Int × Nat) := l.zipIdx.filter (fun x => decide (200 < (2 * x.1 - md).natAbs) && !s.pwr.tjLeft.contains x.2)
  let far := l.filter (fun x => decide (x < -180) || decide (600 < x))
  let s1 := { s with pwr := { s.pwr with tjLeft := s.pwr.tjLeft ++ odd.map (fun (x : Int × Nat) => x.2) } }
  let s2 := (List.range (odd.length + far.length)).foldl (fun t _ => t.monEvent 14) s1
  let s3 := (s2.level 5 (decide (tack < -200) || decide (600 < tack))).takeTj l
  (s3.survTime (decide (500 < s3.pwr.tj))).survival.shed

/-- Tj has stayed at or below its threshold less TJ_HYST for TJ_HOLD_S: the demand falls to the next lower threshold's stage
(R290). -/
def State.tjReturn (s : State) : State :=
  let d := s.pwr.dTj
  if d ≠ 0 ∧ s.pwr.tj ≤ tjLevel d - (s.fld F.PWR_CTL_TJ_HYST * 4 : Nat) then
    { s with pwr := { s.pwr with dTj := if d = 6 then 5 else if d = 5 then 4 else if d = 4 then 2 else 0 } }
  else s

/-- The survival count is written (R257): whole seconds above +125 °C; SPENT at 360,000 s. -/
def State.survWrite (s : State) : State :=
  let s1 := s.survTime s.pwr.survFrom.isSome
  let n := s1.pwr.survAcc / 1000000000
  if n = 0 then s1
  else
    ({ s1 with pwr := { s1.pwr with survAcc := s1.pwr.survAcc % 1000000000 } }).ledgerPut (blkState 1)
      (fun l => { l with surv := min (l.surv + n) (2 ^ 23 - 1) })

/-! ## Pace (R291) -/

/-- The margin the shed controller judges: on classes 6 and 7 from S4 upward. -/
def State.judged (s : State) : Int := if 4 ≤ s.pwr.stage then s.pwr.margin67 else s.yrd.margin

/-- The judged margin has stayed below 10 % for 1 ms. -/
def State.paceLow (s : State) : State :=
  let d := max s.pwr.dPace (min 5 (s.pwr.stage + 1))
  if !s.flag F.PWR_CTL_PACE_EN || decide (1000 ≤ s.judged) || d == s.pwr.dPace then s
  else ((({ s with pwr := { s.pwr with dPace := d } }).count .pwr 0 0 15).setInt .PWR_INT_STAT 6).shed

/-- The judged margin has stayed at or above 30 % for PACE_HOLD_S: the demand falls by one stage. -/
def State.paceReturn (s : State) : State :=
  if s.judged < 3000 then s else { s with pwr := { s.pwr with dPace := s.pwr.dPace - 1 } }

/-! ## The forced demand (R288, R301) -/

/-- A write of PWR_CTL: FORCE_STAGE 0-6 inside a presence window. -/
def State.writePwrCtl (s : State) (o : Origin) (v : W32) : State := (s.putRegPlain o .PWR_CTL 0 v).shed

def State.forceStage (s : State) (o : Origin) (n : Nat) : State := s.writePwrCtl o (depo (s.word .PWR_CTL) 31 29 n)

end Sys2Proof.Machine
end

