-- ==== Sys2Proof/Machine/CelWin.lean ====
section
/-!
DEFINITION. The cellar's movers and a stack's drain (R168, R195), and the region and DIAG windows (R199, R200).
-/

namespace Sys2Proof.Machine

/-! ## Stacks in service (R193-R195) -/

/-- Discard one queued frame for the pool's sake: the lowest class, the oldest of it, whichever stack holds it (R168). -/
def State.shedOldest (s : State) : State :=
  match (List.range 8).findSome? (fun c => s.frames.find? (fun f => f.stage == .queued && f.cls == c)) with
  | some f => s.discardAll [f]
  | none => s

/-- A mover reads lines through its ACU, verified; an access the ACU denies makes the line uncorrectable (R195, R342). The answer says
whether a line waits for a node's restore, and what each line holds. -/
def State.moverRead (s : State) (seen : List LineSeen) (acu : Nat) (l : List Nat) : State × Bool × List (Option (BitVec 512)) :=
  l.foldl (fun (t, wait, out) a =>
    let (t1, ok) := t.hwAccess acu 7 (0x80000000000 + lineStk a * 2 ^ 36 + lineIdx a * 64) false true
    let (t2, p, w) := if ok then t1.readData seen a else (t1.loseData a false, .lost, none)
    (t2, wait || p == .waiting, out ++ [w])) (s, false, [])

/-- A mover writes lines; a line that could not be read is poisoned where it goes. -/
def State.moverWrite (s : State) (acu : Nat) (l : List (Nat × Option (BitVec 512))) : State :=
  l.foldl (fun t e =>
    match e.2 with
    | some w =>
      let (t1, ok) := t.hwAccess acu 7 (0x80000000000 + lineStk e.1 * 2 ^ 36 + lineIdx e.1 * 64) true true
      if ok then (t1.putData [] e.1 w).1 else t1.poisonLines e.1 1
    | none => t.poisonLines e.1 1) s

/-- Move a frame's page g of a DRAINING stack (R195): every line read and verified, written to a page of a kept stack, the reference
switched, the source freed. Without a free page, a frame is discarded first (R168). -/
def State.moveFrame (s : State) (k g : Nat) (f : Frame) (seen : List LineSeen) : State :=
  let acu := 82 + g % 8
  let lines := fun (g : Nat) => (List.range 16).map (pageLine [g])
  match s.takePage 4 s.tmg.nextStk with
  | none => s.shedOldest
  | some (g1, s1) =>
    let (s2, wait, ws) := s1.moverRead seen acu (lines g)
    if wait then s2.giveBack [g1]
    else
      let s3 := s2.moverWrite acu ((lines g1).zip ws)
      let s4 := { s3 with frames := s3.frames.map (fun (x : Frame) =>
        if x.id == f.id then ({ x with pages := x.pages.map (fun y => if y == g then g1 else y) } : Frame) else x) }
      ((s4.giveBack [g]).count .cel 0 k 16).notePages

/-- The piece of SA, CNT or OVT that a mover takes next from stack k, and how many of its lines: up to the end of its first page that
holds something, or all when none does. -/
def State.movePiece (s : State) (k : Nat) : Option (Region × Nat) :=
  (s.cel.layout.find? (fun r => r.stack == k && decide (1 ≤ r.kind) && decide (r.kind < 4))).map (fun r =>
    let b := k * 2 ^ 38 + r.first
    match s.cel.lines.find? (fun e => decide (b ≤ e.1) && decide (e.1 < b + r.lines)) with
    | some e => (r, min r.lines ((e.1 - b) / 16 * 16 + 16))
    | none => (r, r.lines))

/-- Move lines of SA, CNT or OVT in the same way (R195). -/
def State.moveRegion (s : State) (k : Nat) (r : Region) (n : Nat) (seen : List LineSeen) : State :=
  let b := k * 2 ^ 38 + r.first
  let src := (s.cel.lines.filter (fun e => decide (b ≤ e.1) && decide (e.1 < b + n))).map (·.1)
  let at0 := s.pieceBase r
  let (s1, wait, ws) := s.moverRead seen 82 src
  if wait ∨ (s1.stk k).mode ≠ .draining then s1
  else
    let s2 := s1.replace1 r n
    let dst := src.map (fun a => (placeOf s2.cel.layout r.kind (at0 + (a - b))).getD 0)
    (s2.moverWrite 82 (dst.zip ws)).count .cel 0 k 16

/-- A cellar mover moves one page of a DRAINING stack (R195): frames' pages first, then what the stack holds of SA, CNT and OVT. -/
def State.pageMove (s : State) (k : Nat) (seen : List LineSeen) : State :=
  if (s.stk k).mode != .draining then s
  else
    (match s.frames.find? (fun (f : Frame) => f.pages.any (fun g => g / 2 ^ 30 == k)) with
      | some f => s.moveFrame k ((f.pages.find? (fun g => g / 2 ^ 30 == k)).getD 0) f seen
      | none =>
        match s.movePiece k with
        | some (r, n) => s.moveRegion k r n seen
        | none => s).celTidy

/-- The last page has left a DRAINING stack: OFF, its copies rehomed (R194), DIAG with its lines on the highest ON stack (R177; log
entry 16). -/
def State.stackDrained (s : State) (k : Nat) : State :=
  if (s.stk k).mode == .draining && s.frames.all (fun (f : Frame) => f.pages.all (fun g => g / 2 ^ 30 != k)) && (s.movePiece k).isNone then
    let diag := ((s.cel.layout.filter (fun r => r.kind == 8 && r.stack == k)).map (fun r =>
      (s.cel.lines.filter (fun e => decide (k * 2 ^ 38 + r.first ≤ e.1) && decide (e.1 < k * 2 ^ 38 + r.first + r.lines))).map
        (fun e => (e.1 - (k * 2 ^ 38 + r.first), s.plainOf e.1 e.2)))).flatten
    let s1 := s.setStk k { s.stk k with mode := .off, partner := none, copyValid := false, moves := false }
    let s2 := (s1.rehome false).replaceDiag k
    let s3 := diag.foldl (fun t e => match placeOf t.cel.layout 8 e.1 with
      | some a => (t.putData [] a e.2).1
      | none => t) s2
    (s3.celEvt 7 0 (k * 2 ^ 38)).celTidy
  else s

/-! ## The region and DIAG windows (R199, R200) -/

/-- Read region IDX into DATA0-2. -/
def State.rgwRead (s : State) (o : Origin) : State :=
  let g := o.grp
  let x := s.fld F.CEL_RGW_IDX_REGION 0 g
  if 8 < x then (s.cmdErr .CEL_RGW_CMD g 2).celEvt 8 0 0
  else
    let l := s.cel.layout.filter (fun r => r.kind == x)
    let onStk := (List.range 4).filter (fun k => l.any (fun r => r.stack == k))
    let d := match l with
      | [] => [BitVec.ofNat 32 (fw 30 27 x), 0#32, 0#32]
      | r :: _ => [BitVec.ofNat 32 (2 ^ 31 + fw 30 27 x + fw 26 25 (s.prot x) + fw 24 24 (b2n (s.ksMode x)) +
          (onStk.map (fun k => 2 ^ (20 + k))).sum), BitVec.ofNat 32 (fw 17 0 ((r.lines + 16383) / 16384)), BitVec.ofNat 32 (fw 29 0 r.first)]
    (s.cmdErr .CEL_RGW_CMD g 0).setWords .CEL_RGW_DATA d g

/-- A DIAG window command (R199): who may give it, whether DIAG exists and holds the line. -/
def State.dgwCmd (s : State) (o : Origin) (f : State → Nat → State) : State :=
  let g := o.grp
  let n := s.fld F.CEL_DGW_OFF_LINE 0 g
  let no := fun (e : Nat) => (s.cmdErr .CEL_DGW_CMD g e).celEvt 8 0 0
  if !o.main then no 1
  else if s.diagLines ≤ n then no 2
  else
    match placeOf s.cel.layout 8 n with
    | none => no 2
    | some a => if s.cel.keys.isNone then no 0 else f (s.cmdErr .CEL_DGW_CMD g 0) a

/-- Read a DIAG line. -/
def State.dgwRead (s : State) (o : Origin) : State :=
  s.dgwCmd o (fun t a =>
    match t.readData [] a with
    | (t1, _, some w) => t1.celTidy.setWords .CEL_DGW_DATA ((List.range 16).map (fun j => wordOf w.toNat j)) o.grp
    | (t1, _, none) => (t1.celTidy.cmdErr .CEL_DGW_CMD o.grp 3).celEvt 8 0 0)

/-- Write a DIAG line. -/
def State.dgwWrite (s : State) (o : Origin) : State :=
  s.dgwCmd o (fun t a =>
    let l := t.words .CEL_DGW_DATA 16 o.grp
    t.celWrite a (BitVec.ofNat 512 ((l.zipIdx.map (fun e => e.1.toNat * 2 ^ (32 * e.2))).sum)))

end Sys2Proof.Machine
end

