-- ==== Sys2Proof/Machine/Key.lean ====
section
/-!
DEFINITION. The key store's commands (06): remasking (R123), the slot, CAK and provisioning windows (R124, R128, R136),
zeroization (R129), the service cipher (R130-R133), the entropy source (R134, R135).
-/

namespace Sys2Proof.Machine

/-! ## Re-masking (R123) -/

/-- The background sweep re-masks every occupied slot (R123). -/
def State.remaskSweep (s : State) : State :=
  if s.maskStopped then s
  else
    let s1 := ((s.saSlots.filter (fun e => e.2.klen != 0)).map (·.1)).foldl State.remaskSa s
    let s2 := ((s1.cakSlots.filter (fun e => e.2.klen != 0)).map (·.1)).foldl (fun t k => [0, 1, 2].foldl (fun u n => u.remaskPart k n) t) s1
    let s3 := if s2.tetherKey.present then s2.remaskTt else s2
    let (r, s4) := (s3.drbgM 1).draw
    { s4 with
      ctxKey := if s4.ctxKey.present then s4.ctxKey.remask (r.setWidth 256) else s4.ctxKey
      tck := { s4.tck with kek := if s4.tck.kek.present then s4.tck.kek.remask ((r >>> 256).setWidth 256) else s4.tck.kek } }

/-! ## The SA slot window (R124, R136) -/

def State.keyRefuse (s : State) (r : Reg) (g e : Nat) : State := (s.cmdErr r g e).setInt .KEY_INT_STAT 1

/-- Read a slot's state into DATA0. -/
def State.slotwRead (s : State) (o : Origin) : State :=
  let g := o.grp
  let k := s.fld F.KEY_SLOTW_IDX_SLOT 0 g
  let x := s.saSlot k
  let st := match x.st with
    | .free => 0
    | .held => 1
    | .releasing => 2
  (s.cmdErr .KEY_SLOTW_CMD g 0).setWord .KEY_SLOTW_DATA0
    (BitVec.ofNat 32 (fw 31 30 st + fw 29 28 (x.klen / 16) + fw 19 11 (s.refs k) + fw 10 0 x.owner)) 0 g

/-- Allocate the lowest FREE slot (R124). -/
def State.slotwAllocate (s : State) (o : Origin) : State :=
  let g := o.grp
  let ca := match o with
    | .task _ c => c % 2048
    | _ => s.fld F.KEY_SLOTW_IDX_CA 0 g
  if !o.isCore then s.keyRefuse .KEY_SLOTW_CMD g 1
  else
    match s.allocSlot ca with
    | none => s.keyRefuse .KEY_SLOTW_CMD g 3
    | some (k, s1) => (s1.cmdErr .KEY_SLOTW_CMD g 0).setFld F.KEY_SLOTW_IDX_SLOT k 0 g

/-- Release a HELD slot (R124). -/
def State.slotwRelease (s : State) (o : Origin) : State :=
  let g := o.grp
  let k := s.fld F.KEY_SLOTW_IDX_SLOT 0 g
  if !o.isCore then s.keyRefuse .KEY_SLOTW_CMD g 1
  else if (s.saSlot k).st != .held || !s.ownsSlot o k then s.keyRefuse .KEY_SLOTW_CMD g 2
  else (s.cmdErr .KEY_SLOTW_CMD g 0).releaseSlot k

/-- GEN of n octets into a HELD empty slot (R124); refused while DRBG-K refuses (R135). -/
def State.slotwGen (s : State) (o : Origin) (n : Nat) : State :=
  let g := o.grp
  let k := s.fld F.KEY_SLOTW_IDX_SLOT 0 g
  if !o.isCore then s.keyRefuse .KEY_SLOTW_CMD g 1
  else if (s.saSlot k).st != .held || !s.ownsSlot o k then s.keyRefuse .KEY_SLOTW_CMD g 2
  else if s.zeroized then s.keyRefuse .KEY_SLOTW_CMD g 5
  else if (s.saSlot k).klen != 0 then s.keyRefuse .KEY_SLOTW_CMD g 4
  else if !s.drbgKOk then (s.keyRefuse .KEY_SLOTW_CMD g 0).drbgRefused
  else (s.cmdErr .KEY_SLOTW_CMD g 0).genSlot k n

/-! ## The CAK window (R128, R136) -/

/-- Words of octets, four to a word, first octet highest. -/
def octWords (n : Nat) (l : List Byte) : List W32 :=
  (List.range n).map (fun k => BitVec.ofNat 32 (beNat (((l ++ zeros (4 * n)).drop (4 * k)).take 4)))

def State.cakwRead (s : State) (o : Origin) : State :=
  let g := o.grp
  let x := s.cakSlot (s.fld F.KEY_CAKW_IDX_SLOT 0 g)
  let d0 := fw 31 31 (b2n (x.klen != 0)) + fw 30 30 (b2n x.ledger) + fw 29 28 (x.klen / 16) + fw 5 0 x.ckn.length
  ((s.cmdErr .KEY_CAKW_CMD g 0).setWord .KEY_CAKW_DATA0 (BitVec.ofNat 32 d0) 0 g).setWords .KEY_CAKW_DATA1 (octWords 8 x.ckn) g

/-- ERASE (R128): inside a presence window, from PF0 and Iaholt as provisioning; the slot empties when no image record fills
it. -/
def State.cakwErase (s : State) (o : Origin) : State :=
  let g := o.grp
  let k := s.fld F.KEY_CAKW_IDX_SLOT 0 g
  if !o.pfIa then s.keyRefuse .KEY_CAKW_CMD g 1
  else if !s.presence then (s.keyRefuse .KEY_CAKW_CMD g 2).fault5 o .KEY_CAKW_CMD 0
  else if !s.ledger.caks.any (fun r => r.1 == k) then s.keyRefuse .KEY_CAKW_CMD g 3
  else
    let s1 := (s.cmdErr .KEY_CAKW_CMD g 0).eraseCak k
    if (s1.cakSlot k).image then s1.setCakSlot k { s1.cakSlot k with ledger := false }
    else (s1.emptyCak k).notice (.cakSlot k)

/-! ## Provisioning (R128) -/

/-- CMD.ERR of the provisioning window; a command refused sets WIN_ERR (R136). -/
def State.provErr (s : State) (e g : Nat) : State :=
  let t := s.cmdErr .KEY_PROV_CMD g e
  if e = 0 ∨ e = 4 then t else t.setInt .KEY_INT_STAT 1

/-- A provisioning command not accepted: the master, or no window. -/
def State.provCmd (s : State) (o : Origin) (f : State → State) : State :=
  if !o.pfIa then s.provErr 1 o.grp
  else if !s.presence then (s.provErr 2 o.grp).fault5 o .KEY_PROV_CMD 0
  else f s

/-- A session ends, with every value drawn or derived for it discarded. -/
def State.provEnd (s : State) (e : Nat) : State :=
  if s.prov.active then (({ s with prov := {} }).provErr e s.prov.window).count .key 0 0 7 else s

/-- An ephemeral P-384 private key of a random block. -/
def privOf (r : BitVec 512) : Nat := r.toNat % (n384 - 1) + 1

/-- BEGIN with a target slot. -/
def State.provBegin (s : State) (o : Origin) (slot : Nat) : State :=
  s.provCmd o (fun t =>
    if !t.drbgKOk then ((t.provErr 3 o.grp).drbgRefused).count .key 0 0 7
    else
      let (r, t1) := t.drbgReq.draw
      let d := privOf r
      ({ t1 with prov := { active := true, slot := slot % 1024, window := o.grp, priv := d, pub := ecPub d } }.setFld F.KEY_PROV_CMD_SLOT (slot % 1024) 0 o.grp).provErr 0 o.grp)

/-- An access to the octet port: reads give the part's public key, or the wrapped record after COMMIT; writes collect the host's
public key in 25 words and its wrap in 20. -/
def State.provData (s : State) (o : Origin) (write : Bool) (v : W32) : State :=
  if write then
    if !s.presence then s.fault5 o .KEY_PROV_DATA 0
    else if !o.pfIa || !s.prov.active then s
    else { s with prov := { s.prov with inp := s.prov.inp ++ beOctets 4 v.toNat } }
  else
    let src := if s.prov.result.isEmpty then s.prov.pub else s.prov.result
    let w := BitVec.ofNat 32 (beNat ((src ++ zeros (s.prov.rdPos + 4)).drop s.prov.rdPos |>.take 4))
    ({ s with prov := { s.prov with rdPos := s.prov.rdPos + 4 } }).emit (.readData o (regAddr .KEY_PROV_DATA 0) w)

/-- The part's serial number as a WRAPPED_KEY record carries it (R271): least significant octet first. -/
def State.serialOct (s : State) : List Byte := leOctets 8 s.fuses.serial.toNat

/-- What COMMIT checks: the key and CKN of the target slot. -/
def Prov.check (p : Prov) : Option (List Byte × List Byte) :=
  let pub := p.inp.take 97
  match ecdh p.priv pub with
  | none => none
  | some z =>
    match keyUnwrap ((sha384 (z ++ p.pub ++ pub)).take 32) ((p.inp.drop 100).take 80) with
    | none => none
    | some t =>
      match readCakPlain t with
      | some (slot, key, ckn) => if slot = p.slot then some (key, ckn) else none
      | none => none

/-- COMMIT: the checks, the slot, the ledger record, the restart of the CAs that name the slot. -/
def State.provCommit (s : State) (o : Origin) : State :=
  s.provCmd o (fun t =>
    if !t.prov.active then t.provErr 3 o.grp
    else if t.zeroized then t.provEnd 3
    else
      match t.prov.check with
      | none => t.provEnd 3
      | some (key, ckn) =>
        match t.storeCak t.prov.slot key ckn with
        | (t1, true) =>
          let w := t1.serialOct ++ (t1.wrapCak t.prov.slot key ckn).getD []
          (((({ t1 with prov := { result := w } }).provErr 0 o.grp).notice (.cakSlot t.prov.slot))).setInt .KEY_INT_STAT 4
        | (t1, false) => t1.provEnd 5)

def State.provAbort (s : State) (o : Origin) : State := s.provCmd o (fun t => t.provEnd 0)

/-- The session's 60 s have passed. -/
def State.provTimeout (s : State) : State := s.provEnd 4

/-! ## Zeroization (R129) -/

/-- The shares of every SA slot and CAK slot overwritten. -/
def State.scrubSlots (s : State) : State :=
  let s1 := (s.saSlots.map (·.1)).foldl (fun t k =>
    let ((a, b), t1) := t.noise
    t1.setSaSlot k { t1.saSlot k with klen := 0, sh0 := a, sh1 := b }) s
  (s1.cakSlots.map (·.1)).foldl (fun t k =>
    let ((a, b), t1) := t.noise
    let ((c, d), t2) := t1.noise
    let ((e, f), t3) := t2.noise
    t3.setCakSlot k { sh0 := a, sh1 := b, ick0 := c, ick1 := d, kek0 := e, kek1 := f }) s1

/-- A service-cipher context overwritten with fresh random data (R129). -/
def SvcCtx.wipe (r q : BitVec 512) : SvcCtx :=
  { ivFix := r.setWidth 32, ivCnt := (r >>> 32).setWidth 64, chain := (r >>> 96).setWidth 128, ghash := (r >>> 224).setWidth 128, keyId := q.toNat }

/-- The KEK overwritten (R129). -/
def State.wipeKek (s : State) : State :=
  let ((a, b), s1) := s.noise
  { s1 with tck := { s1.tck with kek := { sh0 := a, sh1 := b } } }

/-- The service-cipher contexts, the context key and the tether key overwritten (R129). -/
def State.wipeSvc (s : State) : State :=
  let s1 := (s.svc.map (·.1)).foldl (fun t k =>
    let (r, t1) := t.draw
    let (q, t2) := t1.draw
    { t2 with svc := t2.svc.put (fun _ => {}) k (SvcCtx.wipe r q) }) s
  let ((a, b), s2) := s1.noise
  let ((c, d), s3) := s2.noise
  { s3 with ctxKey := { sh0 := a, sh1 := b }, tetherKey := { sh0 := c, sh1 := d } }

/-- Zeroization (R129): keys overwritten, the cellar refused, bound and queued frames end, every SA retired. -/
def State.zeroize (s : State) : State :=
  let s1 := ((((s.endBound).celRefuse).scrubSlots).wipeSvc).wipeKek
  let s2 := { s1 with
    engs := s1.engs.mapV (fun _ => {}) (fun e => { e with keys := [] })
    zeroized := true, prov := {}, pairing := { st := s1.pairing.st }
    par := { s1.par with k1 := none }
    sess := s1.sess.mapV (fun _ => {}) (fun e => { e with key := [] })
    rng := { s1.rng with k := {}, m := {} } }
  let s3 := (((s2.sas.filter (fun e => e.2.installed)).map (·.1)).foldl (fun t k => t.retireSa k) s2)
  (s3.notice .zeroized).setInt .KEY_INT_STAT 0

/-- A write of KEY_ZERO. -/
def State.keyZero (s : State) (o : Origin) (v : W32) : State :=
  s.countOnce (if s.presence && bits v 15 0 == 0x5A3C then s.zeroize else s) o .KEY_ZERO 0 v

/-! ## The service cipher (R130-R133; log entry 18) -/

def State.svcCtx (s : State) (k : Nat) : SvcCtx := s.svc.look (fun _ => {}) k
def State.setSvc (s : State) (k : Nat) (v : SvcCtx) : State := { s with svc := s.svc.put (fun _ => {}) k v }

/-- What an operation produces, held until it is done. -/
structure SvcOut where
  err  : Nat := 0
  mem  : Option (List Byte) := none
  tag  : Option (BitVec 128) := none
  iv   : Option (BitVec 96) := none
  slot : Option (List Byte) := none
deriving DecidableEq, Repr

/-- The key an operation uses: error 1 for a slot the origin may not name, 2 for an empty or zeroized one. -/
def State.svcKey (s : State) (o : Origin) (x : SvcCtx) (w : W32) : Except Nat (List Byte) :=
  let n := bits w 16 0
  let mine := match o with
    | .task _ ca => some ca
    | _ => none
  let cakOk := fun (c : Nat) => match mine with
    | some ca => s.fld F.MKA_CA_CFG_CAK_SLOT ca == c
    | none => true
  match bits w 31 29 with
  | 0 => match x.key with
    | some k => .ok k
    | none => .error 2
  | 1 =>
    let k := n % 65536
    let held := match mine with
      | some ca => (s.saSlot k).st == .held && (s.saSlot k).owner == ca
      | none => true
    if !held then .error 1 else if s.zeroized || (s.saSlot k).klen == 0 then .error 2 else .ok (s.saKey k)
  | 2 =>
    let k := n % 1024
    if !cakOk k then .error 1 else if s.zeroized || (s.cakSlot k).klen == 0 then .error 2 else .ok (s.cakKey k)
  | 3 =>
    let k := n / 2 % 1024
    if !cakOk k then .error 1 else if s.zeroized || (s.cakSlot k).klen == 0 then .error 2
    else .ok (if n % 2 = 0 then s.ickKey k else s.kekKey k)
  | 4 => if mine.isSome then .error 1 else if s.zeroized || !s.tetherKey.present then .error 2 else .ok s.ttKey
  | _ => .error 1

/-- A slot key crosses the key bus into the context (R123). -/
def State.svcBus (s : State) (w : W32) : State :=
  match bits w 31 29 with
  | 0 => s
  | 1 => s.busLoad (bits w 15 0)
  | 2 => s.busCak (bits w 16 0 % 1024) 0
  | 3 => s.busCak (bits w 16 0 / 2 % 1024) (1 + bits w 16 0 % 2)
  | _ => s.busTt

/-- The first address of a run of octets whose access the origin's ACU denies, with the fault's kind. -/
def State.svcDeny (s : State) (o : Origin) (a n : Nat) (wr : Bool) : Option (Nat × Nat) :=
  if n = 0 then none
  else
    ((List.range ((a + n - 1) / 256 + 1 - a / 256)).map (fun j => if j = 0 then a else (a / 256 + j) * 256)).findSome? (fun x =>
      let k := s.acuKind o x wr
      if k = 0 then none else some (x, k))

/-- An operation refused: STATUS.ERR, and counted. -/
def State.svcRefuse (s : State) (ctx e : Nat) : State :=
  (s.setWord .SVC_STATUS (depo (s.word .SVC_STATUS ctx) 30 28 e) ctx).count .key 0 0 6

/-- Every operation of the service cipher: CTL's write by a service core, the randomness it needs, its source octets, its work,
its results held until SVC_OPERATION_DONE. f gives the new context and the results. -/
def State.svcOp (s : State) (o : Origin) (ctx op nsrc : Nat) (f : State → SvcCtx → List Byte → Except Nat (State × SvcCtx × SvcOut)) : State :=
  let c := ctx % 32
  s.hostWrite o .SVC_CTL c (fun s =>
    let x := s.svcCtx c
    let src := (s.word .SVC_SRC c).toNat
    let dst := (s.word .SVC_DST c).toNat
    if !o.ownsCtx c then s.fault4 o .SVC_CTL c
    else if x.busy then s
    else if s.maskStopped then s.svcRefuse c 5
    else
      match s.svcDeny o src nsrc false with
      | some (a, k) => s.recordFault o a false k
      | none =>
        match f (s.drbgM (nsrc / 16 + 1)) x (s.rdMem src nsrc) with
        | .error e => s.svcRefuse c e
        | .ok (s1, x1, r) =>
          match r.mem.bind (fun l => s.svcDeny o dst l.length true) with
          | some (a, k) => s.recordFault o a true k
          | none =>
            ((s1.setSvc c { x1 with
              mode := if op = 12 ∨ op = 13 then x1.mode else op, busy := true, resErr := r.err, resMem := r.mem.map (fun l => (dst, l)), resTag := r.tag, resIv := r.iv
              resSlot := r.slot.map (fun k => (dst % 65536, k)) }).setWord .SVC_STATUS (depo (s1.word .SVC_STATUS c) 30 28 0) c).obsEvent
                (.core o.acu) 0x04)

/-- Payload and additional octets of a context. -/
def State.svcLen (s : State) (ctx : Nat) : Nat := s.fld F.SVC_LEN_N (ctx % 32)
def State.svcAad (s : State) (ctx : Nat) : Nat := s.fld F.SVC_AAD_N (ctx % 32)
def State.svcKeyWord (s : State) (ctx : Nat) : W32 := s.word .SVC_KEY (ctx % 32)

/-- The IV and TAG registers by word. -/
def svcIvReg (n : Nat) : Reg :=
  match n with
  | 0 => .SVC_IV0
  | 1 => .SVC_IV1
  | _ => .SVC_IV2

def svcTagReg (n : Nat) : Reg :=
  match n with
  | 0 => .SVC_TAG0
  | 1 => .SVC_TAG1
  | 2 => .SVC_TAG2
  | _ => .SVC_TAG3

/-- The IV words as written, bits 95:64 first. -/
def State.svcIv (s : State) (ctx : Nat) : List Byte :=
  let c := ctx % 32
  ((([2, 1, 0] : List Nat).map (fun n => beOctets 4 (s.word (svcIvReg n) c).toNat)).flatten)

/-- The key a context works under, with its source. -/
def ctxKeyId (w : W32) (k : List Byte) : Nat := beNat (beOctets 4 w.toNat ++ 1#8 :: k)

/-- A context's key changes: its IV counter is to start anew (R132). -/
def SvcCtx.under (x : SvcCtx) (id : Nat) : SvcCtx := if x.keyId = id then x else { x with keyId := id, ivCnt := 0#64 }

/-- Operations that use a key: the key of SVC_KEY after its checks. -/
def State.svcKeyed (s : State) (o : Origin) (ctx op nsrc : Nat)
    (f : State → SvcCtx → List Byte → List Byte → Except Nat (State × SvcCtx × SvcOut)) : State :=
  s.svcOp o ctx op nsrc (fun t x m =>
    let w := t.svcKeyWord ctx
    match t.svcKey o x w with
    | .error e => .error e
    | .ok k => f (t.svcBus w) (x.under (ctxKeyId w k)) k m)

/-- ECB over whole blocks. -/
def State.svcEcb (s : State) (o : Origin) (ctx : Nat) (enc : Bool) : State :=
  s.svcKeyed o ctx (if enc then 1 else 2) (s.svcLen ctx) (fun t x k m =>
    .ok (t, x, { mem := some ((blocks16 (m.take (m.length / 16 * 16))).map (fun b => if enc then aesEnc k b else aesDec k b)).flatten }))

/-- CBC over whole blocks; the first chaining block is the IV followed by 32 zero bits. -/
def State.svcCbc (s : State) (o : Origin) (ctx : Nat) (enc : Bool) : State :=
  s.svcKeyed o ctx (if enc then 3 else 4) (s.svcLen ctx) (fun t x k m =>
    let iv := t.svcIv ctx ++ zeros 4
    let bs := blocks16 (m.take (m.length / 16 * 16))
    let r := if enc then cbcEnc k iv bs else cbcDec k iv bs
    .ok (t, { x with chain := blkBits r.2 }, { mem := some r.1 }))

/-- CTR; the first counter block is the IV followed by a 32-bit 1. -/
def State.svcCtrOp (s : State) (o : Origin) (ctx : Nat) : State :=
  s.svcKeyed o ctx 5 (s.svcLen ctx) (fun t x k m =>
    let c := blkBits (t.svcIv ctx ++ [0#8, 0#8, 0#8, 1#8])
    .ok (t, { x with chain := c + BitVec.ofNat 128 ((m.length + 15) / 16) }, { mem := some (ctrMode k c (blocks16 m)) }))

/-- The IV of a GCM encrypt (R132): the fixed field is drawn when the context's key has changed, and the counter then starts at 1. -/
def State.svcNextIv (s : State) (x : SvcCtx) : Except Nat (State × SvcCtx × BitVec 96) :=
  if x.ivCnt = 0#64 then
    if !s.drbgKOk then .error 5
    else
      let (r, s1) := s.drbgReq.draw
      let fix := r.setWidth 32
      .ok (s1, { x with ivFix := fix, ivCnt := 2#64 }, fix ++ 1#64)
  else .ok (s, { x with ivCnt := x.ivCnt + 1 }, x.ivFix ++ x.ivCnt)

/-- The GHASH state a GCM tag comes from (R133): the tag without the cipher block of the first counter. -/
def ghashState (k iv tag : List Byte) : BitVec 128 := blkBits (xorL tag (aesEnc k (iv ++ [0#8, 0#8, 0#8, 1#8])))

/-- GCM encrypt: additional octets, then payload, from SRC. -/
def State.svcGcmEnc (s : State) (o : Origin) (ctx : Nat) : State :=
  let a := s.svcAad ctx
  s.svcKeyed o ctx 6 (a + s.svcLen ctx) (fun t x k m =>
    match t.svcNextIv x with
    | .error e => .error e
    | .ok (t1, x1, iv) =>
      let r := gcmEnc k (beOctets 12 iv.toNat) (m.take a) (m.drop a)
      .ok (t1, { x1 with ghash := ghashState k (beOctets 12 iv.toNat) r.2 }, { mem := some r.1, tag := some (blkBits r.2), iv := some iv }))

/-- The tag words as written. -/
def State.svcTag (s : State) (ctx : Nat) : List Byte :=
  let c := ctx % 32
  ((([3, 2, 1, 0] : List Nat).map (fun n => beOctets 4 (s.word (svcTagReg n) c).toNat)).flatten)

/-- GCM decrypt: the plaintext leaves only when the tag checks. -/
def State.svcGcmDec (s : State) (o : Origin) (ctx : Nat) : State :=
  let a := s.svcAad ctx
  s.svcKeyed o ctx 7 (a + s.svcLen ctx) (fun t x k m =>
    let r := gcmDec k (t.svcIv ctx) (m.take a) (m.drop a) (t.svcTag ctx)
    let x1 := { x with ghash := ghashState k (t.svcIv ctx) (gcmTag k (t.svcIv ctx) (m.take a) (m.drop a)) }
    if r.2 then .ok (t, x1, { mem := some r.1 }) else .ok (t, x1, { err := 4 }))

/-- CMAC of the payload into the tag. -/
def State.svcCmacOp (s : State) (o : Origin) (ctx : Nat) : State :=
  s.svcKeyed o ctx 8 (s.svcLen ctx) (fun t x k m =>
    let r := blkBits (cmac k m)
    .ok (t, { x with ghash := r }, { tag := some r }))

/-- Key wrap of clear memory, or of the slot SRC names in SVC_KEY's layout (KSRC 0 read as an SA slot): a slot needs a protected
wrapping key (R131). -/
def State.svcWrap (s : State) (o : Origin) (ctx : Nat) (fromSlot : Bool) : State :=
  s.svcKeyed o ctx 9 (if fromSlot then 0 else s.svcLen ctx / 8 * 8) (fun t x k m =>
    if fromSlot then
      let w := t.word .SVC_SRC (ctx % 32)
      let w1 := if bits w 31 29 = 0 then depo w 31 29 1 else w
      if bits (t.svcKeyWord ctx) 31 29 = 0 then .error 3
      else
        match t.svcKey o x w1 with
        | .error e => .error e
        | .ok d => .ok (t.svcBus w1, x, { mem := some (keyWrap k d) })
    else .ok (t, x, { mem := some (keyWrap k m) }))

/-- Whether a key may be filled into the SA slot SVC_DST names: HELD, empty, the origin's own (R124). -/
def State.svcDst (s : State) (o : Origin) (ctx : Nat) : Nat :=
  let k := (s.word .SVC_DST (ctx % 32)).toNat % 65536
  if (s.saSlot k).st != .held || !s.ownsSlot o k || (s.saSlot k).klen != 0 then 1 else if s.zeroized then 2 else 0

/-- A key goes to a slot, or to memory when no protected source gave it (R131). -/
def State.svcKeyOut (s : State) (o : Origin) (ctx : Nat) (toSlot prot : Bool) (x : SvcCtx) (k : List Byte) :
    Except Nat (State × SvcCtx × SvcOut) :=
  if toSlot then
    let e := s.svcDst o ctx
    if e ≠ 0 then .error e else if k.length = 16 ∨ k.length = 32 then .ok (s, x, { slot := some k }) else .error 4
  else if prot then .error 3 else .ok (s, x, { mem := some k })

/-- Key unwrap. -/
def State.svcUnwrap (s : State) (o : Origin) (ctx : Nat) (toSlot : Bool) : State :=
  s.svcKeyed o ctx 10 (s.svcLen ctx) (fun t x k m =>
    if !toSlot && bits (t.svcKeyWord ctx) 31 29 != 0 then .error 3
    else
      match keyUnwrap k m with
      | none => .error 4
      | some d => t.svcKeyOut o ctx toSlot false x d)

/-- KDF: the context's octets, then the label's, from SRC; the output has the key's length. -/
def State.svcKdf (s : State) (o : Origin) (ctx : Nat) (toSlot : Bool) : State :=
  let a := s.svcAad ctx
  s.svcKeyed o ctx 11 (a + s.svcLen ctx) (fun t x k m =>
    t.svcKeyOut o ctx toSlot (bits (t.svcKeyWord ctx) 31 29 != 0) x (kdfOct k (m.drop a) (m.take a) k.length))

/-- The context key. -/
def State.ctxKeyOct (s : State) : List Byte := sharedKey s.ctxKey.sh0 s.ctxKey.sh1 32

/-- The clear form of a save, 96 octets (R133): mode, key source, chaining value, IV field and counter, GHASH. -/
def SvcCtx.save (x : SvcCtx) (w : W32) : List Byte :=
  let l := beOctets 1 x.mode ++ beOctets 4 w.toNat ++ beOctets 16 x.chain.toNat ++ beOctets 4 x.ivFix.toNat ++
    beOctets 8 x.ivCnt.toNat ++ beOctets 16 x.ghash.toNat
  l ++ zeros (96 - l.length)

/-- What a clear form restores. -/
def SvcCtx.restore (x : SvcCtx) (l : List Byte) : SvcCtx :=
  { x with mode := (oct l 0).toNat, chain := BitVec.ofNat 128 (beAt l 5 16), ivFix := BitVec.ofNat 32 (beAt l 21 4), ivCnt := BitVec.ofNat 64 (beAt l 25 8),
           ghash := BitVec.ofNat 128 (beAt l 33 16) }

/-- SAVE: clear form only for a clear context key (R133). -/
def State.svcSave (s : State) (o : Origin) (ctx : Nat) (wrapped : Bool) : State :=
  s.svcOp o ctx 12 0 (fun t x _ =>
    let w := t.svcKeyWord ctx
    let l := x.save w
    if !wrapped then (if bits w 31 29 = 0 then .ok (t, x, { mem := some l }) else .error 3)
    else if !t.ctxKey.present then .error 2
    else .ok (t, x, { mem := some (keyWrap t.ctxKeyOct l) }))

/-- RESTORE (R133): a wrapped save's check, and the same key source; a context whose key source is a slot takes wrapped saves only. -/
def State.svcRestore (s : State) (o : Origin) (ctx : Nat) (wrapped : Bool) : State :=
  s.svcOp o ctx 13 (if wrapped then 104 else 96) (fun t x m =>
    let w := t.svcKeyWord ctx
    if !wrapped && bits w 31 29 != 0 then .error 1
    else if wrapped && !t.ctxKey.present then .error 2
    else
      match (if wrapped then keyUnwrap t.ctxKeyOct m else some m) with
      | none => .error 4
      | some l =>
        if beAt l 1 4 ≠ w.toNat ∧ (bits w 31 29 ≠ 0 ∨ beAt l 1 4 / 2 ^ 29 ≠ 0) then .error 1
        else .ok (t, x.restore l, {}))

/-- DRBG output to a slot, or to memory. -/
def State.svcDrbg (s : State) (o : Origin) (ctx : Nat) (toSlot : Bool) : State :=
  s.svcOp o ctx 14 0 (fun t x _ =>
    let n := if toSlot then (if t.svcLen ctx = 16 then 16 else 32) else t.svcLen ctx
    match t.drbgTake (n / 512 + 1) n with
    | none => .error 5
    | some (l, t1) => if toSlot then t1.svcKeyOut o ctx true false x l else .ok (t1, x, { mem := some l }))

/-- Load a clear context key: 16 octets, or 32. -/
def State.svcLoad (s : State) (o : Origin) (ctx : Nat) : State :=
  let n := if s.svcLen ctx = 16 then 16 else 32
  s.svcOp o ctx 15 n (fun t x m => .ok (t, { x with key := some m, ivCnt := 0#64 }, {}))

/-- An operation is done: its results go to memory, tag, IV or slot, and STATUS shows its error. -/
def State.svcDone (s : State) (ctx : Nat) : State :=
  let c := ctx % 32
  let x := s.svcCtx c
  if !x.busy then s
  else
    let s1 := s.setSvc c { x with busy := false, resErr := 0, resMem := none, resTag := none, resIv := none, resSlot := none }
    let s2 := match x.resMem with
      | some (a, l) => s1.wrMem a l
      | none => s1
    let s3 := match x.resTag with
      | some t => [0, 1, 2, 3].foldl (fun (u : State) n => u.setWord (svcTagReg n) (wordOf t.toNat n) c) s2
      | none => s2
    let s4 := match x.resIv with
      | some t => [0, 1, 2].foldl (fun (u : State) n => u.setWord (svcIvReg n) (wordOf t.toNat n) c) s3
      | none => s3
    let (s5, e) : State × Nat := match x.resSlot with
      | some (k, key) =>
        if s4.zeroized then (s4, 2) else if (s4.saSlot k).st == .held && (s4.saSlot k).klen == 0 then (s4.fillSlot k key, x.resErr) else (s4, 1)
      | none => (s4, x.resErr)
    let s6 := s5.setWord .SVC_STATUS (depo (s5.word .SVC_STATUS c) 30 28 e) c
    if e = 0 then s6 else s6.count .key 0 0 6

/-! ## Randomness (R134, R135) -/

/-- A reseed falls due: DRBG-K, or DRBG-M. -/
def State.drbgReseed (s : State) (k : Bool) : State :=
  let f : Drbg → Drbg := fun d => if s.rng.esFail then { d with due := true } else {}
  { s with rng := if k then { s.rng with k := f s.rng.k } else { s.rng with m := f s.rng.m } }

/-- The entropy alarm (R135, R309). -/
def State.entropyFailed (s : State) : State :=
  ({ s with rng := { s.rng with esFail := true, esOk := false, retest := false } }).raise 15

/-- The repetition count test (R134): no 41 identical samples in a row; n counts the run that last ends. -/
def repOk (l : List Bool) (last : Bool) (n : Nat) : Bool :=
  match l with
  | [] => true
  | b :: t => let k := if b == last then n + 1 else 1
    decide (k < 41) && repOk t b k

/-- The adaptive proportion test on one window (R134): fewer than 795 samples equal to its first. -/
def propOk (l : List Bool) : Bool :=
  match l with
  | [] => true
  | b :: t => decide (t.countP (· == b) + 1 < 795)

/-- Both tests on samples, the proportion test over windows of 1,024. -/
def healthy (l : List Bool) : Bool :=
  repOk l false 0 && (List.range (l.length / 1024 + 1)).all (fun k => propOk ((l.drop (1024 * k)).take 1024))

/-- The start-up test (R134): 4,096 samples through both tests, then the DRBG known-answer test. -/
def startUpOk (t : StartUp) : Bool := t.samples.length == 4096 && healthy t.samples && t.kat

/-- A continuous test fails in service: the start-up test is rerun; a second failure within 1 s raises the
alarm. -/
def State.entropyFail (s : State) : State :=
  if s.rng.esFail then s
  else
    match s.rng.lastFail with
    | some t => if s.counter < t + 65536000000000 then s.entropyFailed
      else { s with rng := { s.rng with retest := true, lastFail := some s.counter } }
    | none => { s with rng := { s.rng with retest := true, lastFail := some s.counter } }

/-- The rerun ends. -/
def State.entropyRetest (s : State) (test : StartUp) : State :=
  if !s.rng.retest then s
  else if startUpOk test then (({ s with rng := { s.rng with retest := false } }).count .key 0 0 4).setInt .KEY_INT_STAT 2
  else s.entropyFailed

end Sys2Proof.Machine
end

