-- ==== Sys2Proof/Machine/SecCmd.lean ====
section
/-!
DEFINITION. The SA window and the receive-SC window (R91, R92, R95), epochs (R81), the drain of a retired SA (R92), parked frames
whose hold time ends (R83), the SecY register writes (R94).
-/

namespace Sys2Proof.Machine

/-- A window command of R91 refused: CMD.ERR and WIN_ERR. -/
def State.secRefuse (s : State) (r : Reg) (g e : Nat) : State := (s.cmdErr r g e).setInt .SEC_INT_STAT 6

/-- An SA window command other than read: the service cores only (R91); idx is SAW_IDX. -/
def State.sawCmd (s : State) (o : Origin) (f : State → Nat → State) : State :=
  let g := o.grp
  let k := s.fld F.SEC_SAW_IDX_IDX 0 g
  if !o.isCore then s.secRefuse .SEC_SAW_CMD g 1
  else if 73728 ≤ k then s.secRefuse .SEC_SAW_CMD g 6
  else f (s.cmdErr .SEC_SAW_CMD g 0) k

/-- The PN of DATA1 and DATA2. -/
def State.sawPn (s : State) (g : Nat) : Nat := (s.word .SEC_SAW_DATA1 0 g).toNat + (s.word .SEC_SAW_DATA2 0 g).toNat * 2 ^ 32

/-- The PN does not fit the suite of SA k: bits 63:32 of a non-XPN PN are 0 (R95). -/
def State.pnWide (s : State) (k pn : Nat) : Bool := !s.xpn (s.saSecy k) && decide (2 ^ 32 ≤ pn)

/-- Read an SA into DATA0-8 (R95). -/
def State.sawRead (s : State) (o : Origin) : State :=
  let g := o.grp
  let k := s.fld F.SEC_SAW_IDX_IDX 0 g
  if 73728 ≤ k then s.secRefuse .SEC_SAW_CMD g 6
  else
    let a := s.sa k
    let tx := decide (k < 8192)
    let d0 := fw 31 31 (b2n a.installed) + fw 30 30 (b2n a.drained) + fw 29 29 (b2n (tx && s.curSa (k / 4) == some k)) +
      fw 28 28 (b2n (tx && a.stopped)) + fw 27 27 (b2n a.hot) + fw 15 0 a.slot
    let pn2 := if tx then a.lease else a.h
    let s1 := s.cmdErr .SEC_SAW_CMD g 0
    ((((((s1.setWord .SEC_SAW_DATA0 (BitVec.ofNat 32 d0) 0 g).setWord .SEC_SAW_DATA1 (wordOf a.pn 0) 0 g).setWord
      .SEC_SAW_DATA2 (wordOf a.pn 1) 0 g).setWord .SEC_SAW_DATA3 (wordOf pn2 0) 0 g).setWord .SEC_SAW_DATA4 (wordOf pn2 1) 0 g).setWord
      .SEC_SAW_DATA5 a.ssci 0 g).setWords .SEC_SAW_DATA6 [wordOf a.salt.toNat 0, wordOf a.salt.toNat 1, wordOf a.salt.toNat 2] g

/-- Install an SA (R91): refused while its AN is installed or undrained, for a key of the wrong length, for PN 0. -/
def State.sawInstall (s : State) (o : Origin) : State :=
  let g := o.grp
  s.sawCmd o (fun t k =>
    let a := t.sa k
    let n := t.saSecy k
    let slot := t.fld F.SEC_SAW_DATA0_KEY_SLOT 0 g
    let pn := t.sawPn g
    let d := t.words .SEC_SAW_DATA6 3 g
    let salt := (d.getD 0 0#32).toNat + (d.getD 1 0#32).toNat * 2 ^ 32 + (d.getD 2 0#32).toNat * 2 ^ 64
    if a.installed then t.secRefuse .SEC_SAW_CMD g 2
    else if a.retired then t.secRefuse .SEC_SAW_CMD g 3
    else if (8192 ≤ k ∧ !(t.rsc ((k - 8192) / 4)).valid) ∨ !t.secyValid n ∨ pn = 0 ∨ t.pnWide k pn then
      t.secRefuse .SEC_SAW_CMD g 6
    else if (t.saSlot slot).st ≠ .held ∨ (t.saSlot slot).klen ≠ t.suiteKey n then t.secRefuse .SEC_SAW_CMD g 4
    else if !t.ownsSlot o slot then t.secRefuse .SEC_SAW_CMD g 1
    else t.installSa k slot pn (t.word .SEC_SAW_DATA5 0 g) (BitVec.ofNat 96 salt))

/-- Retire an SA (R92). -/
def State.sawRetire (s : State) (o : Origin) : State := s.sawCmd o (fun t k => t.retireSa k)

/-- Raise a PN or L, never lower it (R91). -/
def State.sawRaise (s : State) (o : Origin) : State :=
  let g := o.grp
  s.sawCmd o (fun t k =>
    let pn := t.sawPn g
    if !(t.sa k).installed ∨ t.pnWide k pn then t.secRefuse .SEC_SAW_CMD g 6
    else if pn < (t.sa k).pn then t.secRefuse .SEC_SAW_CMD g 5
    else t.raiseSa k pn)

/-- Arm a switch of an SA's SecY for an epoch (R81, R91). -/
def State.armSa (s : State) (k : Nat) (epoch : Int) : State :=
  (s.setSecy (k / 4) { s.secy (k / 4) with pendValid := true, pendAn := k % 4, pendAt := epoch }).tellSa 5 k

/-- Disarm the SecY of an SA. -/
def State.disarmSa (s : State) (k : Nat) : State :=
  (s.setSecy (k / 4) { s.secy (k / 4) with pendValid := false }).tellSa 6 k

/-- A SWITCH takes effect at once (R81). -/
def State.switchSa (s : State) (k : Nat) : State := (s.switchTo (k / 4) (k % 4)).tellSa 7 k

def State.sawArm (s : State) (o : Origin) (epoch : Int) : State :=
  s.sawCmd o (fun t k => if 8192 ≤ k then t.secRefuse .SEC_SAW_CMD o.grp 6 else t.armSa k epoch)

def State.sawDisarm (s : State) (o : Origin) : State :=
  s.sawCmd o (fun t k => if 8192 ≤ k then t.secRefuse .SEC_SAW_CMD o.grp 6 else t.disarmSa k)

def State.sawSwitch (s : State) (o : Origin) : State :=
  s.sawCmd o (fun t k =>
    if 8192 ≤ k ∨ !(t.sa k).installed then t.secRefuse .SEC_SAW_CMD o.grp 6 else t.switchSa k)

/-- Read a receive SC into DATA0-2 (R95). -/
def State.rscwRead (s : State) (o : Origin) : State :=
  let g := o.grp
  let x := s.rsc (s.fld F.SEC_RSCW_IDX_IDX 0 g)
  let d0 := fw 31 31 (b2n x.valid) + fw 30 30 (b2n x.implicit) + fw 10 0 x.secy
  ((s.cmdErr .SEC_RSCW_CMD g 0).setWord .SEC_RSCW_DATA0 (BitVec.ofNat 32 d0) 0 g).setWords .SEC_RSCW_DATA1
    [wordOf x.sci.toNat 0, wordOf x.sci.toNat 1] g

/-- The rules of R72 on a new receive SC. -/
def State.rscOk (s : State) (n : Nat) (sci : W64) (imp : Bool) : Bool :=
  s.secyValid n && (s.findRsc (s.secyLine n) sci.toNat).isNone && (!imp || (s.implicitRsc (s.secyLine n)).isNone)

/-- Install a receive SC (R72, R91). -/
def State.rscwInstall (s : State) (o : Origin) : State :=
  let g := o.grp
  let r := s.fld F.SEC_RSCW_IDX_IDX 0 g
  let w := s.word .SEC_RSCW_DATA0 0 g
  let d := s.words .SEC_RSCW_DATA1 2 g
  let sci := BitVec.ofNat 64 ((d.getD 0 0#32).toNat + (d.getD 1 0#32).toNat * 2 ^ 32)
  if !o.isCore then s.secRefuse .SEC_RSCW_CMD g 1
  else if (s.rsc r).valid ∨ !s.rscOk (bits w 10 0) sci (bits w 30 30 == 1) then s.secRefuse .SEC_RSCW_CMD g 6
  else (s.cmdErr .SEC_RSCW_CMD g 0).installRsc r (bits w 10 0) sci (bits w 30 30 == 1)

/-- Remove a receive SC: refused while one of its SAs is installed or undrained (R92). -/
def State.rscwRemove (s : State) (o : Origin) : State :=
  let g := o.grp
  let r := s.fld F.SEC_RSCW_IDX_IDX 0 g
  if !o.isCore then s.secRefuse .SEC_RSCW_CMD g 1
  else if s.rscBusy r then s.secRefuse .SEC_RSCW_CMD g 3
  else (s.cmdErr .SEC_RSCW_CMD g 0).removeRsc r

/-- A retired SA drains (R92); the receive SCs of a SecY no longer valid, or of a removed peer, are removed once drained (R71, R101). -/
def State.saDrained (s : State) (k : Nat) : State :=
  let t := s.drainSa k
  if 8192 ≤ k then
    let r := (k - 8192) / 4
    if (t.rsc r).valid && ((t.rsc r).leaving || !t.secyValid (t.rsc r).secy) && !t.rscBusy r then t.removeRsc r else t
  else t

/-- An armed epoch passes (R81): the switch, or SW_MISS when the armed SA is not installed. A STOPPED SecY's switch clears
STOPPED. -/
def State.keySwitchEpoch (s : State) (n : Nat) : State :=
  let y := s.secy n
  if !y.pendValid then s
  else
    let s1 := s.setSecy n { y with pendValid := false }
    if (s.sa (n * 4 + y.pendAn)).installed then s1.switchTo n y.pendAn else s1.setInt .SEC_INT_STAT 4

/-- A parked frame's hold time ends (R83): the oldest parked frame of a SecY is dropped. -/
def State.parkedDrop (s : State) (n : Nat) : State :=
  match s.frames.find? (fun f => f.enc && f.secy == n && f.stage == .parked) with
  | some f => ((s.dropFrame f).secCnt 1 n 5).setInt .SEC_INT_STAT 2
  | none => s

/-- A write of SEC_SECY_CFG, SEC_SECY_WIN or SEC_CTL (R94). -/
def State.writeSecReg (s : State) (o : Origin) (r : SecReg) (v : W32) : State :=
  match r with
  | .cfg n => s.putReg o .SEC_SECY_CFG (n % 2048) v (fun w => bits w 23 22 != 3)
  | .win n => s.putReg o .SEC_SECY_WIN (n % 2048) v (fun w => decide (bits w 30 0 ≤ 2 ^ 30))
  | .ctl => s.putReg o .SEC_CTL 0 v (fun w => decide (bits w 7 0 ≤ 250))

end Sys2Proof.Machine
end

