-- ==== Sys2Proof/Machine/MkaTx.lean ====
section
/-!
DEFINITION. MKA participants and what they send (05): the participants (R96, R97), MN leases and member identifiers (R98, R111),
MKPDUs and when they may leave (R99, R100, R103, R112).
-/

namespace Sys2Proof.Machine

/-! ## Participants (R96, R97) -/

/-- CA n is in use. -/
def State.caValid (s : State) (n : Nat) : Bool := s.flag F.MKA_CTL_EN && (s.flag F.MKA_CA_CFG_VALID n || (s.ca n).cfgd)

def State.caSecy (s : State) (n : Nat) : Nat := s.fld F.MKA_CA_CFG_SECY n
def State.caLine (s : State) (n : Nat) : Nat := s.secyLine (s.caSecy n)
def State.caCak (s : State) (n : Nat) : Nat := s.fld F.MKA_CA_CFG_CAK_SLOT n
def State.caSci (s : State) (n : Nat) : W64 := BitVec.ofNat 64 (s.sci (s.caSecy n))

/-- The CA that serves a SecY. -/
def State.caOf (s : State) (secy : Nat) : Option Nat := (List.range 2048).find? (fun n => s.caValid n && s.caSecy n == secy)

/-- The live peers of a CA. -/
def Ca.live (c : Ca) : List Peer := c.peers.filter (fun p => p.live)

/-- A peer has reported the key (mi, kn) as installed for receive (R107). -/
def Peer.hasKey (p : Peer) (mi : BitVec 96) (kn : W32) : Bool := p.use.any (fun u => u.latestMi == mi && u.latestKn == kn && u.latestRx)

/-- A peer shows the key (mi, kn) in use for transmit (R107). -/
def Peer.usesKey (p : Peer) (mi : BitVec 96) (kn : W32) : Bool := p.use.any (fun u => u.latestMi == mi && u.latestKn == kn && u.latestTx)

/-- A peer has not shown that it no longer transmits with the key (mi, kn) (R110). -/
def Peer.maySend (p : Peer) (mi : BitVec 96) (kn : W32) : Bool :=
  p.use.isNone || p.usesKey mi kn || p.use.any (fun u => u.oldMi == mi && u.oldKn == kn && u.oldTx)

/-- Set an MKA_INT_STAT bit with its MKA_EVT record. -/
def State.mkaInt (s : State) (b n : Nat) : State :=
  (s.setWord .MKA_EVT (BitVec.ofNat 32 (2 ^ 31 + b * 2 ^ 27 + n))).setInt .MKA_INT_STAT b

def State.mkaCnt (s : State) (n c : Nat) : State := s.count .mka 0 n c

/-- Mirror a CA's state (R234): what depends on it waits for its confirmation (R112). -/
def State.tellCa (s : State) (n : Nat) : State :=
  let c := s.ca n
  let t := s.tell 0x20 (.mkaState n c.mi c.isKs c.ksSci c.kn c.latestAn c.oldAn)
  t.setCa n { t.ca n with ksConf := t.told }

/-- Mirror a peer (R234). -/
def State.tellPeer (s : State) (n : Nat) (p : Peer) : State := s.tell 0x22 (.mkaPeer n p.mi p.mn p.sci p.live)

/-- Mirror an epoch or its withdrawal (R234): arming waits for its confirmation (R112). -/
def State.tellEpoch (s : State) (n : Nat) (e : Option Int) : State :=
  let t := s.tell 0x31 (.epoch n (s.ca n).latestAn (s.ca n).kn e)
  t.setCa n { t.ca n with conf := t.told }

/-- Secured or unsecured: CA_CHG (R119). -/
def State.noteSecured (s : State) (n : Nat) : State :=
  let now := (s.curSa (s.caSecy n)).isSome
  if now == (s.ca n).secured then s else (s.setCa n { s.ca n with secured := now }).mkaInt 0 n

/-! ## Timing (R103, R119) -/

/-- The timing the registers give. -/
def State.mkaTimes (s : State) : MkaTimes :=
  { life := s.fld F.MKA_TIME0_LIFE_MS, grid := s.fld F.MKA_TIME1_GRID_MS, guard := s.fld F.MKA_TIME1_GUARD_MS
    sakLife := s.fld F.MKA_TIME3_SAK_LIFE_S }

/-- The timing CA n uses: a write takes effect from its next hello. -/
def State.timesOf (s : State) (n : Nat) : MkaTimes := (s.ca n).times.getD s.mkaTimes

/-- CA n takes the timing the registers give. -/
def State.takeTimes (s : State) (n : Nat) : State := s.setCa n { s.ca n with times := some s.mkaTimes }

/-- Milliseconds in units of the time counter. -/
def msUnits (n : Nat) : Nat := n * 65536000000

/-! ## MN leases and member identifiers (R98, R111, R236) -/

/-- Ask for an MN lease up to e (R236). -/
def State.mnLeaseTo (s : State) (n e : Nat) : State :=
  let c := s.ca n
  if s.mirrors then (s.setCa n { c with mnReq := e }).sendRec 0x21 (.mnLease n e)
  else (s.setCa n { c with mnReq := e, mnLease := e }).count .par 0 0 5

/-- The next lease once the next MN has passed the confirmed end less half a lease. -/
def State.mnLeaseCheck (s : State) (n : Nat) : State :=
  let c := s.ca n
  if c.mnLease < c.mn + 1 + 512 ∧ c.mnReq = c.mnLease then s.mnLeaseTo n (c.mnLease + 1024) else s

/-- Draw a new MI and restart MN at 1 (R98): leases of the old MI no longer count. A refused draw is counted and changes nothing. -/
def State.newMi (s : State) (n : Nat) : State :=
  if !s.drbgKOk then s.drbgRefused
  else
    let (r, s1) := s.drbgReq.draw
    let s2 := s1.setCa n { s1.ca n with mi := r.setWidth 96, mn := 0, mnLease := 0, mnReq := 0, mnFrom := s1.par.txSeq, mnLog := [] }
    (s2.mnLeaseTo n 1023).tellCa n

/-! ## MKPDUs (R99, R100, R103, R107, R109, R112) -/

/-- The 802.1AE cipher suite identifier of a SUITE code (R75; PRESUMED, log entry 14). -/
def suiteId (c : Nat) : W64 := BitVec.ofNat 64 (0x0080C20001000001 + c)

/-- CA n has its switch armed for the latest SAK. -/
def State.armed (s : State) (n : Nat) : Bool :=
  let y := s.secy (s.caSecy n)
  y.pendValid && y.pendAn == (s.ca n).latestAn

/-- The SAK Use set (R99): once any SA is installed; the latest SAK only once the standby holds its SAs (R112). -/
def State.sakUse (s : State) (n : Nat) : Option SakUse :=
  let c := s.ca n
  let y := s.caSecy n
  let cur := s.curSa y
  let low := fun (an : Nat) =>
    let m := (c.live.filterMap (fun p => p.rsc.map (fun r => (s.sa (8192 + 4 * r + an)).pn))).foldl min (2 ^ 64)
    if m = 2 ^ 64 then 1 else m
  let oldTx := c.oldSlot.isSome && cur == some (4 * y + c.oldAn)
  if !c.hasSak then none
  else if s.confirmed c.saConf then
    some { latestMi := c.ksMi, latestKn := c.kn, latestAn := c.latestAn, latestRx := true, latestTx := cur == some (4 * y + c.latestAn)
           oldMi := c.prevMi, oldKn := c.prevKn, oldTx := oldTx, lowestPn := low c.latestAn }
  else if c.oldSlot.isSome then
    some { latestMi := c.prevMi, latestKn := c.prevKn, latestAn := c.oldAn, latestRx := true, latestTx := oldTx
           oldMi := 0, oldKn := 0, oldTx := false, lowestPn := low c.oldAn }
  else none

/-- The MKPDU a CA would send next. -/
def State.mkpduOf (s : State) (n : Nat) : Mkpdu :=
  let c := s.ca n
  let y := s.caSecy n
  let ids := fun (l : List Peer) => l.map (fun p => (p.mi, p.mn))
  { ckn := (s.cakSlot (s.caCak n)).ckn, wellFormed := true, icvOk := true, mi := c.mi, mn := c.mn + 1, sci := s.caSci n
    prio := s.fld F.MKA_CA_CFG_KS_PRIO n, isKs := c.isKs, cap := 3, desired := true
    live := ids c.live, pot := ids (c.peers.filter (fun p => !p.live)), use := s.sakUse n
    sak := if c.distSak && s.confirmed c.saConf then
        some ⟨c.latestAn, s.fld F.SEC_SECY_CFG_CONF y, c.kn, suiteId (s.fld F.SEC_SECY_CFG_SUITE y), c.wrap⟩
      else none
    epoch := if c.isKs && s.armed n && s.confirmed c.conf then
        (c.epoch.filter (fun e => decide (s.timeT < e))).map (fun e =>
          ⟨c.latestAn, c.kn, (e / unitsPerSec).toNat, (e % unitsPerSec / 65536).toNat⟩)
      else none
    suites := []
    ignored := false }

/-- The octets of an MKPDU's frame, FCS included: the header, the parameter sets of 802.1X (PRESUMED, log entry 14), padding. -/
def mkpduLen (m : Mkpdu) : Nat :=
  let list := fun (k : Nat) => if k = 0 then 0 else 4 + 16 * k
  let sets := 32 + (m.ckn.length + 3) / 4 * 4 + list m.live.length + list m.pot.length + (if m.use.isSome then 44 else 0) +
    ((m.sak.map (fun d => 16 + d.wrap.length)).getD 0) + (if m.epoch.isSome then 28 else 0) + 20
  max 60 (18 + sets) + 4

/-- The destination of a CA's MKPDUs, as MKA_CA_DEST.DA selects it (R99). -/
def State.caDest (s : State) (n : Nat) : BitVec 48 :=
  match s.fld F.MKA_CA_DEST_DA n with
  | 1 => 0x0180C200000E
  | 2 => 0x0180C2000000
  | _ => 0x0180C2000003

/-- A frame of the service cores enters the control FIFO of line port lp (R11, R12, R157). -/
def State.pushCtl (s : State) (lp : Nat) (src : FrameSrc) (o : List Byte) (m : Option (Nat × Mkpdu)) : State :=
  let f : Frame := {
    id := s.nextId, enc := true, src := src, octets := o, stage := .queued, lport := lp, queue := ctlQueue, outOct := o
    verdict := .good, arrived := s.counter, inTime := s.timeT, mka := m }
  let q := s.port (64 + lp)
  { s with nextId := s.nextId + 1, frames := s.frames ++ [f] }.setPort (64 + lp) { q with ctlFifo := q.ctlFifo ++ [f.id] }

/-- What an MKPDU of a CA waits for (R103, R111, R112, R135): its port up, its ICV computable, the key server state mirrored, its MN
leased, 10 ms since the last one. -/
def State.mkpduReady (s : State) (n : Nat) : Bool :=
  let c := s.ca n
  s.portUp (64 + s.caLine n) && !s.maskStopped && s.confirmed c.ksConf && decide (c.mn + 1 ≤ c.mnLease) &&
    c.lastTx.all (fun t => decide (t + msUnits 10 ≤ s.counter))

/-- An MKPDU becomes due (R103). -/
def State.due (s : State) (n : Nat) : State := s.setCa n { s.ca n with sendDue := true }

/-- The MKPDU leaves for its port's control FIFO. -/
def State.putMkpdu (s : State) (n : Nat) : State :=
  let c := s.ca n
  let m := s.mkpduOf n
  let log := (c.mnLog.filter (fun e => decide (s.counter < e.2 + msUnits 30000))) ++ [(c.mn + 1, s.counter)]
  let head := beOctets 6 (s.caDest n).toNat ++ beOctets 6 (s.portMac (64 + s.caLine n)) ++ [0x88#8, 0x8E#8]
  let s1 := (s.busCak (s.caCak n) 1).setCa n { c with mn := c.mn + 1, sendDue := false, mnLog := log, lastTx := some s.counter }
  (s1.pushCtl (s.caLine n) (.mka n) (head ++ zeros (mkpduLen m - 14)) (some (n, m))).mnLeaseCheck n

/-- Send an MKPDU, or leave it due while it waits (R103, R111, R113). An MN that would pass 0xFFFF_FFFF restarts with a new MI (R98). -/
def State.sendMkpdu (s : State) (n : Nat) : State :=
  if !(s.ca n).active || !s.caValid n || !s.isActive then s
  else
    let s := if 0xFFFFFFFF ≤ (s.ca n).mn then s.newMi n else s
    if 0xFFFFFFFF ≤ (s.ca n).mn || !s.mkpduReady n then s.due n else s.putMkpdu n

/-- Send what is due. -/
def State.sendIfDue (s : State) (n : Nat) : State := if (s.ca n).sendDue then s.sendMkpdu n else s

/-- The running CAs. -/
def State.running (s : State) : List Nat := (s.cas.filter (fun e => e.2.active)).map (·.1)

/-- As time goes on: the MKPDUs that are due and need wait no longer (R103). -/
def State.sendReady (s : State) : State :=
  (s.running.filter (fun n => (s.ca n).sendDue && decide ((s.ca n).mn < 0xFFFFFFFF) && s.mkpduReady n)).foldl State.sendMkpdu s

end Sys2Proof.Machine
end

