-- ==== Sys2Proof/Machine/Mka.lean ====
section
/-!
DEFINITION. Key agreement (05): distribution of a SAK (R104-R106), election (R102), peers (R101), the switch and the old SAs
(R107-R110), received MKPDUs (R99, R113), starts, restarts and timers (R97, R98, R115).
-/

namespace Sys2Proof.Machine

/-! ## SSCIs, salts, SAs of a SAK (R105) -/

/-- SSCI of an SCI among the SCIs of the live participants (R105): 1 for the lowest. -/
def ssciOf (l : List W64) (x : W64) : W32 := BitVec.ofNat 32 (1 + (l.filter (fun y => decide (y.toNat < x.toNat))).length)

/-- The salt of 802.1X from the key server's MI and KN (R105; PRESUMED, log entry 14). -/
def saltOf (mi : BitVec 96) (kn : W32) : BitVec 96 :=
  mi ^^^ BitVec.ofNat 96 ((kn.toNat % 2 ^ 16 * 2 ^ 16 + kn.toNat / 2 ^ 16) * 2 ^ 64)

/-- The SCIs of the live participants, the part included. -/
def State.liveScis (s : State) (n : Nat) : List W64 := s.caSci n :: (s.ca n).live.map (fun p => p.sci)

/-- The SSCIs a draw assigns now. -/
def State.drawSscis (s : State) (n : Nat) : List (W64 × W32) := (s.liveScis n).map (fun x => (x, ssciOf (s.liveScis n) x))

/-- The SSCI of an SCI in an assignment. -/
def ssciIn (l : List (W64 × W32)) (x : W64) : Option W32 := (l.find? (fun e => e.1 == x)).map (fun e => e.2)

/-- An SCI that joins a distribution in progress takes the next SSCI (log entry 20). -/
def addSsci (l : List (W64 × W32)) (x : W64) : List (W64 × W32) :=
  if (ssciIn l x).isSome then l else l ++ [(x, BitVec.ofNat 32 (l.length + 1))]

/-- The receive SCs of a SecY. -/
def State.rscsOf (s : State) (y : Nat) : List Nat := (s.rscs.filter (fun e => e.2.valid && e.2.secy == y)).map (·.1)

/-- The SA indices of one AN of a SecY: its transmit SA and one on each receive SC. -/
def State.sasOf (s : State) (y an : Nat) : List Nat := (4 * y + an) :: (s.rscsOf y).map (fun r => 8192 + 4 * r + an)

/-- Install an SA of a SAK, with next PN or L 1. -/
def State.installKey (s : State) (n k slot : Nat) (sci : W64) (sscis : List (W64 × W32)) (salt : BitVec 96) : State :=
  let x := s.xpn (s.caSecy n)
  s.installSa k slot 1 (if x then (ssciIn sscis sci).getD 0 else 0) (if x then salt else 0)

/-- Install the latest SAK's receive SA on a peer's receive SC (R101, R104): on XPN only for an SCI the SAK has an SSCI for. -/
def State.installPeer (s : State) (n r : Nat) (sci : W64) : State :=
  let c := s.ca n
  let k := 8192 + 4 * r + c.latestAn
  match (if c.hasSak then c.slot else none) with
  | some slot =>
    if (s.sa k).installed || (s.sa k).retired || (s.xpn (s.caSecy n) && (ssciIn c.sscis sci).isNone) then s
    else s.installKey n k slot sci c.sscis c.salt
  | none => s

/-! ## The switch epoch withdrawn (R108, R109) -/

/-- An armed switch, or an epoch not yet armed, is withdrawn. -/
def State.disarmCa (s : State) (n : Nat) : State :=
  if (s.ca n).epoch.isSome then
    let t := s.setCa n { s.ca n with epoch := none }
    (if (t.secy (t.caSecy n)).pendValid then t.disarmSa (4 * t.caSecy n) else t).tellEpoch n none
  else s

/-! ## Distribution (R104-R106) -/

/-- A SAK never used for transmit gives way to a newer one: its switch is withdrawn, its transmit SA retires, its receive SAs wait as old
ones, its slot is released. -/
def State.supersede (s : State) (n : Nat) : State :=
  let c := s.ca n
  match (if c.toSwitch then c.slot else none) with
  | none => s
  | some k =>
    let t := (((s.disarmCa n).retireSa (4 * s.caSecy n + c.latestAn)).releaseSlot k)
    t.setCa n { t.ca n with olds := (t.ca n).olds ++ [⟨c.latestAn, c.ksMi, c.kn, false⟩] }

/-- The latest SAK is the pending one, its SAs installed (R105). -/
def State.sakInstalled (s : State) (n : Nat) (p : PendSak) : State :=
  let d := s.ca n
  let keep := d.toSwitch
  s.setCa n { d with
    pend := none, kn := p.kn, ksMi := p.ksMi, hasSak := true, salt := p.salt, sscis := p.sscis, toSwitch := true, epoch := none
    saConf := s.told, latestAn := p.an, slot := some p.slot, distSak := p.own, wrap := p.wrap
    oldAn := if keep then d.oldAn else d.latestAn
    oldSlot := if keep then d.oldSlot else d.slot
    prevMi := if keep then d.prevMi else d.ksMi
    prevKn := if keep then d.prevKn else d.kn
    olds := d.olds.filter (fun o => o.an != p.an) }

/-- Install the SAs of a pending SAK once it is confirmed and its AN clear (R105, R106, R112). A SAK the part has transmitted under since
start gets no transmit SA (R191). -/
def State.tryInstall (s : State) (n : Nat) : State :=
  let c := s.ca n
  match c.pend with
  | none => s
  | some p =>
    if !s.confirmed c.conf then s
    else
      let y := s.caSecy n
      let old := s.sasOf y p.an
      let s1 := old.foldl (fun t k => t.retireSa k) s
      if old.any (fun k => (s1.sa k).retired) then s1
      else
        let s2 := c.live.foldl (fun t q =>
          match q.rsc with
          | some r => t.installKey n (8192 + 4 * r + p.an) p.slot q.sci p.sscis p.salt
          | none => t) (s1.supersede n)
        let s3 := if c.usedTx.contains (p.ksMi, p.kn) then s2 else s2.installKey n (4 * y + p.an) p.slot (s2.caSci n) p.sscis p.salt
        let s4 := ((s3.sakInstalled n p).mkaCnt n 7).tellCa n
        (if p.own then s4.mkaCnt n 6 else s4).due n

/-- A SAK becomes pending (R105, R112): mirrored, wrapped under the tether key, before anything depends on it. One already pending gives
way to it. -/
def State.takePend (s : State) (n : Nat) (p : PendSak) : State :=
  let s1 := match (s.ca n).pend with
    | some q => s.releaseSlot q.slot
    | none => s
  let key := s1.saKey p.slot
  let s2 := if s1.mirrors then (s1.busLoad p.slot).busTt.tell 0x10 (.sak n (keyWrap s1.ttKey key) key.length p.kn p.an p.sscis p.salt) else s1
  (s2.setCa n { s2.ca n with pend := some p, conf := s2.told }).tryInstall n

/-- A distribution begins (R105): SAK, slot, KN, AN. Without randomness or a free slot it is tried again later. -/
def State.startDist (s : State) (n : Nat) : State :=
  let c := s.ca n
  let y := s.caSecy n
  let later := s.setCa n { c with dist := true, wantSak := true }
  if s.zeroized || s.maskStopped then later
  else if !s.drbgKOk then later.drbgRefused
  else
    match s.allocSlot n with
    | none => later.mkaInt 8 n
    | some (k, s1) =>
      let s2 := ((s1.genSlot k (s1.suiteKey y)).busLoad k).busCak (s.caCak n) 2
      let kn := c.kn + 1
      let p : PendSak := {
        an := if c.hasSak then (c.latestAn + 1) % 4 else 0
        kn := kn, ksMi := c.mi, slot := k, salt := if s.xpn y then saltOf c.mi kn else 0, own := true
        sscis := s.drawSscis n, wrap := keyWrap (s2.kekKey (s.caCak n)) (s2.saKey k) }
      (s2.setCa n { s2.ca n with dist := true, wantSak := false }).takePend n p

/-- A trigger of R104: nothing while a distribution is in progress, which then serves both. -/
def State.trigger (s : State) (n : Nat) : State :=
  let c := s.ca n
  if !c.active || !c.isKs || c.live.isEmpty || c.dist || !s.isActive then s else s.startDist n

/-! ## Election (R102) -/

/-- (priority, SCI) pairs in order. -/
def ksLt (a b : Nat × W64) : Bool := decide (a.1 < b.1) || (a.1 == b.1 && decide (a.2.toNat < b.2.toNat))

/-- The key server's SCI among the live participants; 0 for none. -/
def State.bestKs (s : State) (n : Nat) : W64 :=
  let l := ((s.fld F.MKA_CA_CFG_KS_PRIO n, s.caSci n) :: (s.ca n).live.map (fun p => (p.prio, p.sci))).filter (fun e => e.1 != 255)
  match l with
  | [] => 0
  | e :: t => (t.foldl (fun a b => if ksLt b a then b else a) e).2

/-- The election is rerun (R102, R104): a new key server role with live peers distributes a SAK; a SAK drawn here and not installed goes
with the role. -/
def State.elect (s : State) (n : Nat) : State :=
  let c := s.ca n
  let k := s.bestKs n
  if k = c.ksSci then s
  else
    let me := k == s.caSci n
    let drop := !me && c.pend.any (fun p => p.own)
    let s0 := match (if drop then c.pend else none) with
      | some p => s.releaseSlot p.slot
      | none => s
    let s1 := s0.setCa n { c with
      ksSci := k, isKs := me, dist := c.dist && me, distSak := c.distSak && me, wantSak := c.wantSak && me
      pend := if drop then none else c.pend }
    let s2 := (((s1.tellCa n).mkaCnt n 15).mkaInt 1 n).due n
    if me then s2.trigger n else s2

/-! ## Peers (R101) -/

/-- A receive SC for a peer: the one its SCI has, or the lowest free one; IMPLICIT on a point-to-point port of one SecY (R72). -/
def State.peerRsc (s : State) (n : Nat) (sci : W64) : Option (Nat × State) :=
  match s.findRsc (s.caLine n) sci.toNat with
  | some r => some (r, s.setRsc r { s.rsc r with leaving := false })
  | none =>
    match firstIdx (fun r => !(s.rsc r).valid) 0 16384 with
    | some r => some (r, s.installRsc r (s.caSecy n) sci (s.impFor (s.caLine n)))
    | none => none

/-- Replace a peer of a CA. -/
def State.setPeer (s : State) (n : Nat) (p : Peer) : State :=
  s.setCa n { s.ca n with peers := (s.ca n).peers.map (fun (q : Peer) => if q.mi == p.mi then p else q) }

/-- An SCI joins the SAK being distributed. -/
def State.joinDist (s : State) (n : Nat) (sci : W64) : State :=
  let c := s.ca n
  s.setCa n { c with
    pend := c.pend.map (fun (p : PendSak) => { p with sscis := addSsci p.sscis sci })
    sscis := if c.toSwitch then addSsci c.sscis sci else c.sscis }

/-- A potential peer becomes live (R101, R104, R108): its receive SC, the election, and the SAK it needs. -/
def State.goLive (s : State) (n : Nat) (p : Peer) : State :=
  match s.peerRsc n p.sci with
  | none => s.mkaCnt n 13
  | some (r, s1) =>
    let was := s1.ca n
    let q := { p with live := true, rsc := some r }
    let s2 := (s1.setPeer n q).tellPeer n q
    let s3 := ((s2.setCa n { s2.ca n with lastPeerLost := false }).due n).joinDist n p.sci
    let s4 := ((if was.isKs then s3.disarmCa n else s3).installPeer n r p.sci).elect n
    if was.isKs && (s4.ca n).isKs then
      if was.live.isEmpty || s4.xpn (s4.caSecy n) || !was.hasSak then s4.trigger n
      else (s4.setCa n { s4.ca n with distSak := was.pend.isNone }).due n
    else s4

/-- A removed peer's receive SC goes once its SAs have drained (R92, R101), unless another peer has it. -/
def State.freePeerRsc (s : State) (n : Nat) (p : Peer) : State :=
  match p.rsc with
  | some r =>
    if (s.ca n).peers.any (fun q => q.rsc == some r) then s
    else
      let t := ([0, 1, 2, 3] : List Nat).foldl (fun (t : State) a => t.retireSa (8192 + 4 * r + a)) s
      if t.rscBusy r then t.setRsc r { t.rsc r with leaving := true } else t.removeRsc r
  | none => s

/-- A peer leaves its list (R101, R104, R115). -/
def State.dropPeer (s : State) (n : Nat) (p : Peer) : State :=
  let s1 := s.setCa n { s.ca n with peers := (s.ca n).peers.filter (fun q => q.mi != p.mi) }
  if !p.live then s1
  else
    let s2 := (s1.tellPeer n { p with live := false }).freePeerRsc n p
    let s3 := ((s2.mkaCnt n 14).mkaInt 4 n).elect n
    let d := s3.ca n
    if d.live.isEmpty then s3.setCa n { d with lastPeerLost := true, wantSak := false, dist := d.dist && (d.pend.isSome || d.toSwitch) }
    else s3.trigger n

/-! ## The switch (R107-R110) -/

/-- Old receive SAs of a switch are retired, of each live peer that no longer transmits with that key (R110). -/
def State.retireOldOf (s : State) (n : Nat) (o : OldSak) : State :=
  let c := s.ca n
  let s1 := c.live.foldl (fun t p =>
    match p.rsc with
    | some r => if p.maySend o.mi o.kn then t else t.retireSa (8192 + 4 * r + o.an)
    | none => t) s
  if c.live.any (fun p => p.maySend o.mi o.kn) then s1 else s1.setCa n { s1.ca n with olds := (s1.ca n).olds.filter (fun x => x != o) }

/-- The old receive SAs whose retention has passed. -/
def State.retireOld (s : State) (n : Nat) : State := ((s.ca n).olds.filter (fun o => o.done)).foldl (fun t o => t.retireOldOf n o) s

/-- The part has switched to the latest SAK (R110): the old transmit SA retires, the old slot is released, the old receive SAs wait. -/
def State.postSwitch (s : State) (n : Nat) (cnt : Nat) : State :=
  let c := s.ca n
  let s1 := match c.oldSlot with
    | some k => (s.retireSa (4 * s.caSecy n + c.oldAn)).releaseSlot k
    | none => s
  (s1.setCa n { s1.ca n with
    toSwitch := false, dist := c.pend.isSome, distSak := false, epoch := none, oldSlot := none
    olds := if c.oldSlot.isSome then c.olds ++ [⟨c.oldAn, c.prevMi, c.prevKn, false⟩] else c.olds
    usedTx := c.usedTx ++ [(c.ksMi, c.kn)] }).mkaCnt n cnt

/-- Switch at once (R81, R108). -/
def State.switchNow (s : State) (n : Nat) : State := (s.switchSa (4 * s.caSecy n + (s.ca n).latestAn)).postSwitch n 11

/-- The first multiple of tSW_GRID no earlier than tSW_GUARD from now (R108). -/
def State.nextEpoch (s : State) (n : Nat) : Int :=
  let g : Int := (msUnits (s.timesOf n).grid : Nat)
  let t := s.timeT + (msUnits (s.timesOf n).guard : Nat)
  (t + g - 1) / g * g

/-- Switch when the rule of R107 holds: at once, or by announcing an epoch (R108). -/
def State.trySwitch (s : State) (n : Nat) : State :=
  let c := s.ca n
  if !c.toSwitch || c.pend.isSome || c.epoch.isSome || !s.isActive || !s.confirmed c.saConf || !s.confirmed c.conf then s
  else if c.isKs then
    if c.live.isEmpty || c.live.any (fun p => !p.hasKey c.ksMi c.kn) then s
    else if (s.timesOf n).grid = 0 || !s.locked then s.switchNow n
    else
      let e := s.nextEpoch n
      (s.setCa n { c with epoch := some e }).tellEpoch n (some e)
  else if c.live.any (fun p => p.sci == c.ksSci && p.usesKey c.ksMi c.kn) && (s.sa (4 * s.caSecy n + c.latestAn)).installed then s.switchNow n
  else s

/-- Arm the announced epoch once it is confirmed (R108, R109, R112). One confirmed only after it has passed: the key server switches at
once; a non-key server falls back to the first case of R107. -/
def State.tryArm (s : State) (n : Nat) : State :=
  let c := s.ca n
  match c.epoch with
  | some e =>
    if !c.toSwitch || !s.confirmed c.conf || (s.secy (s.caSecy n)).pendValid || !s.isActive then s
    else if s.timeT < e then (s.armSa (4 * s.caSecy n + c.latestAn) e).due n
    else if c.isKs then s.switchNow n
    else s.disarmCa n
  | none => s

/-- A SAK in use is distributed no longer once every live peer has it. -/
def State.endDist (s : State) (n : Nat) : State :=
  let c := s.ca n
  if c.distSak && !c.toSwitch && c.live.all (fun p => p.hasKey c.ksMi c.kn) then s.setCa n { c with distSak := false } else s

/-- What a CA does as soon as it can: pending installs, switches, epochs, MKPDUs that are due. -/
def State.pollCa (s : State) (n : Nat) : State :=
  let s1 := s.tryInstall n
  let c := s1.ca n
  let s2 := if c.toSwitch && s1.curSa (s1.caSecy n) == some (4 * s1.caSecy n + c.latestAn) then s1.postSwitch n 10 else s1
  ((((s2.trySwitch n).tryArm n).endDist n).noteSecured n).sendIfDue n

/-- Every running CA. -/
def State.pollMka (s : State) : State := s.running.foldl State.pollCa s

/-! ## Receiving an MKPDU (R99-R101, R105, R107, R109) -/

/-- A Distributed SAK of the key server (R100, R105, R191): nothing for the SAK it already has. -/
def State.takeSak (s : State) (n : Nat) (m : Mkpdu) (d : DistSak) : State :=
  let c := s.ca n
  let y := s.caSecy n
  let known := (c.hasSak && c.ksMi == m.mi && c.kn == d.kn) || c.pend.any (fun p => p.ksMi == m.mi && p.kn == d.kn) ||
    c.usedTx.contains (m.mi, d.kn)
  if known || s.zeroized then s
  else if d.suite ≠ suiteId (s.fld F.SEC_SECY_CFG_SUITE y) ∨ d.conf ≠ s.fld F.SEC_SECY_CFG_CONF y then (s.mkaCnt n 9).mkaInt 3 n
  else
    match keyUnwrap (s.kekKey (s.caCak n)) d.wrap with
    | none => (s.mkaCnt n 8).mkaInt 2 n
    | some key =>
      if key.length ≠ s.suiteKey y then (s.mkaCnt n 8).mkaInt 2 n
      else
        match s.allocSlot n with
        | none => s.mkaInt 8 n
        | some (k, s1) =>
          let p : PendSak := {
            an := d.an % 4, kn := d.kn, ksMi := m.mi, slot := k, salt := if s.xpn y then saltOf m.mi d.kn else 0, own := false
            sscis := s.drawSscis n, wrap := [] }
          (((s1.busCak (s.caCak n) 2).fillSlot k key).busLoad k).takePend n p

/-- A switch-epoch TLV that cannot be followed (R109). -/
def State.skipEpoch (s : State) (n : Nat) : State := (s.mkaCnt n 12).mkaInt 7 n

/-- The switch epoch of the key server (R109), or its withdrawal (R108). A TLV of another KN than the latest distributed is ignored. -/
def State.takeEpoch (s : State) (n : Nat) (t : Option EpochTlv) : State :=
  let c := s.ca n
  match t with
  | none => if c.epoch.isSome && !c.isKs then s.disarmCa n else s
  | some t =>
    let e := timeSNs t.sec t.ns
    match c.pend with
    | some p => if t.kn = p.kn then s.skipEpoch n else s
    | none =>
      if t.kn ≠ c.kn ∨ !c.toSwitch ∨ c.epoch = some e then s
      else if (s.sa (4 * s.caSecy n + c.latestAn)).installed && t.an == c.latestAn && s.locked && decide (s.timeT + msUnits 1 ≤ e) then
        let u := s.disarmCa n
        (u.setCa n { u.ca n with epoch := some e }).tellEpoch n (some e)
      else s.skipEpoch n

/-- The MKPDU lists this CA's MI with an MN sent no more than tMKA_LIFE ago (R101). -/
def State.lists (s : State) (n : Nat) (m : Mkpdu) : Bool :=
  let c := s.ca n
  (m.live ++ m.pot).any (fun e => e.1 == c.mi &&
    c.mnLog.any (fun l => l.1 == e.2 && decide (s.counter ≤ l.2 + msUnits (s.timesOf n).life)))

/-- What an MKPDU says of its sender. -/
def Peer.heard (p : Peer) (m : Mkpdu) : Peer :=
  { p with mn := m.mn, sci := m.sci, prio := m.prio, use := if m.use.isSome then m.use else p.use
           suites := if m.suites.isEmpty then p.suites else m.suites }

/-- The sender in the peer lists: known, added, or ignored when the lists are full. -/
def State.takePeer (s : State) (n : Nat) (m : Mkpdu) : State :=
  let c := s.ca n
  match c.peers.find? (fun p => p.mi == m.mi) with
  | some p =>
    let q := p.heard m
    let s1 := (s.setPeer n q).tellPeer n q
    if !p.live && s.lists n m then s1.goLive n q else s1
  | none =>
    if 255 ≤ c.peers.length ∨ (firstIdx (fun r => !(s.rsc r).valid) 0 16384).isNone then s.mkaCnt n 13
    else
      let q := ({ mi := m.mi, mn := m.mn, sci := m.sci, prio := m.prio, live := false, rsc := none } : Peer).heard m
      let s1 := ((s.setCa n { c with peers := c.peers ++ [q] }).tellPeer n q).due n
      if s.lists n m then s1.goLive n q else s1

/-- Everything an accepted MKPDU tells the active member. -/
def State.takeMkpdu (s : State) (n : Nat) (m : Mkpdu) : State :=
  let s1 := s.takePeer n m
  if (s1.ca n).peers.any (fun p => p.mi == m.mi && p.live) then
    let s2 := s1.retireOld n
    let ks := m.sci == (s2.ca n).ksSci && !(s2.ca n).isKs
    let s3 := match (if ks then m.sak else none) with
      | some d => s2.takeSak n m d
      | none => s2
    (if ks then s3.takeEpoch n m.epoch else s3).pollCa n
  else s1.pollCa n

/-- A received MKPDU (R99): its checks, then its content; a standby refreshes liveness and MN only (R113). While the service cipher is
stopped its ICV cannot be checked and it is discarded (R135). -/
def State.mkpduIn (s : State) (lp : Nat) (m : Mkpdu) : State :=
  let cas := (List.range 2048).filter (fun n => s.caValid n && s.caLine n == lp)
  match cas.find? (fun n => (s.ca n).active && (s.cakSlot (s.caCak n)).ckn == m.ckn) with
  | none =>
    match cas with
    | n :: _ => s.mkaCnt n 3
    | [] => s
  | some n =>
    if !m.wellFormed then s.mkaCnt n 3
    else if s.maskStopped then s
    else
      let s := s.busCak (s.caCak n) 1
      if !m.icvOk then s.mkaCnt n 2
      else if (s.ca n).peers.any (fun p => p.mi == m.mi && decide (m.mn ≤ p.mn)) then s.mkaCnt n 4
      else if m.mi = (s.ca n).mi then s
      else
        let s1 := s.mkaCnt n 1
        let s2 := if m.ignored then s1.mkaCnt n 5 else s1
        if s2.isActive then s2.takeMkpdu n m
        else s2.setCa n { s2.ca n with peers := (s2.ca n).peers.map (fun (p : Peer) => if p.mi == m.mi then { p with mn := m.mn } else p) }

/-! ## Starting, restarting, timers (R97, R98, R101, R103-R105, R110, R115) -/

/-- The counters of a CA reset when it restarts (R119). -/
def State.clearCaCnts (s : State) (n : Nat) : State :=
  { s with cnts := (List.range 16).foldl (fun t k => t.put (fun _ => 0#64) (cntKey .mka 0 n k) 0#64) s.cnts }

/-- A CA starts (R97, R98): its MI drawn, MN at 1, no peers, itself key server until a live peer is better. The SAs it had go tMKA_LIFE
after its last live peer (R115). Without a draw it does not run, and starts when one succeeds. -/
def State.beginCa (s : State) (n : Nat) : State :=
  let c := s.ca n
  let s0 := match c.pend with
    | some p => s.releaseSlot p.slot
    | none => s
  let s1 := (s0.disarmCa n).clearCaCnts n
  let ks := s.fld F.MKA_CA_CFG_KS_PRIO n != 255
  let s2 := s1.setCa n { s1.ca n with
    active := s.drbgKOk, peers := [], isKs := ks, ksSci := if ks then s.caSci n else 0, dist := false, distSak := false, wantSak := false
    pend := none, lastPeerLost := c.hasSak || c.lastPeerLost, kn := 0 }
  (s2.takeTimes n).newMi n

/-- CA_START: a valid CA whose slot holds a CAK and that is not running. -/
def State.caStart (s : State) (n : Nat) : State :=
  if s.caValid n && (s.cakSlot (s.caCak n)).klen != 0 && !(s.ca n).active && s.isActive then (s.beginCa n).due n |>.sendIfDue n else s

/-- A running CA restarts (R98). -/
def State.restartCa (s : State) (n : Nat) : State :=
  if (s.ca n).active && s.isActive then ((s.beginCa n).due n).sendIfDue n else s

/-- A CAK slot was written or emptied (R97, R98). -/
def State.cakChanged (s : State) (k : Nat) : State :=
  let l := (List.range 2048).filter (fun n => s.caValid n && s.caCak n == k)
  if (s.cakSlot k).klen = 0 then l.foldl (fun t n => t.setCa n { t.ca n with active := false }) s
  else l.foldl State.restartCa s

/-- A hello timer expires (R103): the CA takes the timing in the registers (R119), mirrors its peers (R234) and sends. -/
def State.hello (s : State) (n : Nat) : State :=
  if !(s.ca n).active then s
  else ((s.ca n).peers.foldl (fun t p => t.tellPeer n p) (s.takeTimes n)).sendMkpdu n

/-- A peer's tMKA_LIFE passes at the active member (R101, R113). -/
def State.peerTimeout (s : State) (n : Nat) (mi : BitVec 96) : State :=
  match (if s.isActive then (s.ca n).peers.find? (fun p => p.mi == mi) else none) with
  | some p => (s.dropPeer n p).pollCa n
  | none => s

/-- tSAK_LIFE passes (R104). -/
def State.sakLife (s : State) (n : Nat) : State :=
  if (s.timesOf n).sakLife = 0 ∨ !(s.ca n).hasSak then s else (s.trigger n).pollCa n

/-- The retry of a distribution that found no slot or no randomness (R105). -/
def State.slotRetry (s : State) (n : Nat) : State :=
  let c := s.ca n
  if c.wantSak && c.isKs && !c.live.isEmpty && s.isActive then (s.startDist n).pollCa n else s

/-- tRX_RETAIN has passed since the earliest switch still waiting for it (R110). -/
def State.rxRetained (s : State) (n : Nat) : State :=
  let c := s.ca n
  match c.olds.find? (fun o => !o.done) with
  | none => s
  | some o => (s.setCa n { c with olds := c.olds.map (fun x => if x == o then { o with done := true } else x) }).retireOld n

/-- tMKA_LIFE after the last live peer was removed, the CA retires all its SAs and gives up its SAKs (R115). -/
def State.caSaRetire (s : State) (n : Nat) : State :=
  let c := s.ca n
  if !c.lastPeerLost || !c.live.isEmpty then s
  else
    let y := s.caSecy n
    let s1 := (([0, 1, 2, 3] : List Nat).map (fun a => s.sasOf y a)).flatten.foldl (fun t k => t.retireSa k) (s.disarmCa n)
    let s1 := ((s1.rscsOf y).filter (fun r => !c.peers.any (fun p => p.rsc == some r))).foldl (fun t r =>
      if t.rscBusy r then t.setRsc r { t.rsc r with leaving := true } else t.removeRsc r) s1
    let s2 := ([c.slot, c.oldSlot, c.pend.map (fun p => p.slot)] : List (Option Nat)).foldl (fun t e =>
      match e with
      | some k => t.releaseSlot k
      | none => t) s1
    (s2.setCa n { s2.ca n with hasSak := false, slot := none, oldSlot := none, pend := none, toSwitch := false, dist := false, distSak := false,
                               wantSak := false, olds := [], lastPeerLost := false }).noteSecured n

/-- A SecY's SA asks for a new SAK (R82, R104): only a key server answers. -/
def State.rekeySecy (s : State) (y : Nat) : State :=
  match s.caOf y with
  | some n => (s.trigger n).pollCa n
  | none => s

/-- An SA's cold placed state is lost (R191). -/
def State.lostSa (s : State) (k : Nat) : State :=
  match s.caOf (s.saSecy k) with
  | some n => if (s.ca n).isKs then (s.trigger n).pollCa n else s.restartCa n
  | none => s

end Sys2Proof.Machine
end

