-- ==== Sys2Proof/Machine/CaWin.lean ====
section
/-!
DEFINITION. The CA window and the timing registers of MKA (R119, R120).
-/

namespace Sys2Proof.Machine

def State.cawErr (s : State) (g e : Nat) : State := s.cmdErr .MKA_CAW_CMD g e

/-- Read CA. The task of CA n runs on core n mod 16 (log entry 20). -/
def State.cawReadCa (s : State) (o : Origin) : State :=
  let g := o.grp
  let n := s.fld F.MKA_CAW_IDX_CA 0 g
  if !s.caValid n then s.cawErr g 2
  else
    let c := s.ca n
    let y := s.secy (s.caSecy n)
    let d0 := fw 31 31 (b2n c.active) + fw 30 30 (b2n c.isKs) + fw 29 29 (b2n (s.curSa (s.caSecy n)).isSome) + fw 28 28 (b2n y.pendValid) +
      fw 27 24 (n % 16) + fw 23 16 c.live.length + fw 15 8 (c.peers.length - c.live.length) + fw 7 6 c.latestAn + fw 5 4 c.oldAn
    (s.cawErr g 0).setWords .MKA_CAW_DATA [BitVec.ofNat 32 d0, c.kn, wordOf c.mi.toNat 0, wordOf c.mi.toNat 1, wordOf c.mi.toNat 2,
      wordOf c.mn 0, wordOf c.mnLease 0, wordOf c.ksSci.toNat 0, wordOf c.ksSci.toNat 1] g

/-- Read peer. -/
def State.cawReadPeer (s : State) (o : Origin) : State :=
  let g := o.grp
  let n := s.fld F.MKA_CAW_IDX_CA 0 g
  if !s.caValid n then s.cawErr g 2
  else
    match (s.ca n).peers[s.fld F.MKA_CAW_IDX_PEER 0 g]? with
    | none => s.cawErr g 3
    | some p =>
      let s1 := (s.cawErr g 0).setWord .MKA_CAW_DATA (BitVec.ofNat 32 (fw 31 31 (b2n p.live))) 0 g
      let s2 := s1.setWords .MKA_CAW_DATA [wordOf p.mi.toNat 0, wordOf p.mi.toNat 1, wordOf p.mi.toNat 2, wordOf p.mn 0] g 2
      s2.setWords .MKA_CAW_DATA [wordOf p.sci.toNat 0, wordOf p.sci.toNat 1] g 7

/-- REKEY: from PF0, Iaholt and the service cores. -/
def State.cawRekey (s : State) (o : Origin) : State :=
  let g := o.grp
  let n := s.fld F.MKA_CAW_IDX_CA 0 g
  if !o.main then s.cawErr g 1
  else if !s.caValid n then s.cawErr g 2
  else ((s.cawErr g 0).trigger n).pollCa n

/-- RESTART: inside a presence window. -/
def State.cawRestart (s : State) (o : Origin) : State :=
  let g := o.grp
  let n := s.fld F.MKA_CAW_IDX_CA 0 g
  if !s.presence then (s.cawErr g 4).fault5 o .MKA_CAW_CMD 0
  else if !s.caValid n then s.cawErr g 2
  else (s.cawErr g 0).restartCa n

/-- A write of MKA_TIME0-3 (R119). -/
def State.writeMkaTime (s : State) (o : Origin) (k : Nat) (v : W32) : State :=
  match k % 4 with
  | 0 => s.putReg o .MKA_TIME0 0 v (fun w => decide (3 * bits w 15 0 ≤ bits w 31 16))
  | 1 => s.putRegPlain o .MKA_TIME1 0 v
  | 2 => s.putRegPlain o .MKA_TIME2 0 v
  | _ => s.putRegPlain o .MKA_TIME3 0 v

end Sys2Proof.Machine
end

