-- ==== Sys2Proof/Machine/Session.lean ====
section
/-!
DEFINITION. Presence pairing (R116, R117, R232) and the STATUS outputs (R118, R382).
-/

namespace Sys2Proof.Machine

/-- The slot a session stores into: the pairing slot, or the pair slot for a tether session. -/
def State.pairSlot (s : State) : Nat := if s.pairing.tether then 1023 else s.fld F.MKA_PAIR_CFG_SLOT

/-- The frame of a pairing message (R116): an EAPOL-Announcement, packet type 6, with one Organizationally Specific TLV (type 127,
PRESUMED, log entry 14) of the OUI of R109, from a MAC address, padded and with its FCS. -/
def pairFrame (src kind : Nat) (body : List Byte) : List Byte :=
  let v := beOctets 3 0x0C5F1A ++ BitVec.ofNat 8 kind :: body
  let tlv := beOctets 2 (127 * 512 + v.length) ++ v
  let b := beOctets 6 0x0180C2000003 ++ beOctets 6 src ++ beOctets 2 0x888E ++ [3#8, 6#8] ++ beOctets 2 tlv.length ++ tlv
  let o := b ++ zeros (60 - b.length)
  o ++ fcs o

/-- Send a pairing message, 2 COMMIT, 3 REVEAL, 4 CONFIRM: on every line port that has a link, or on the tether (R116, R232). -/
def State.pairSend (s : State) (k : Nat) : State :=
  let p := s.pairing
  let id := beOctets 8 p.pid.toNat
  let body := id ++ (match k with
    | 2 => sha384 (p.pub ++ p.nonce)
    | 3 => p.nonce ++ p.pub
    | _ => cmac p.kconf (p.t ++ id))
  if p.tether then s.emit (.pairing (pairFrame s.macBase k body))
  else ((List.range 64).filter (fun n => s.portUp (64 + n))).foldl (fun t n => t.pushCtl n .pairing (pairFrame (t.portMac (64 + n)) k body) none) s

/-- Pairing fails (R117): everything drawn or derived is discarded. -/
def State.pairFail (s : State) : State :=
  let p := s.pairing
  (({ s with pairing := { st := .failed, tether := p.tether, code := p.code, codeVal := p.codeVal } }).mkaInt 6 0)

/-- The CAK is stored (R117 step 6): slot, ledger, mirror, restart of the CAs that name the slot. -/
def State.pairStore (s : State) : State :=
  let p := s.pairing
  let k := s.pairSlot
  match s.storeCak k p.cak p.ckn with
  | (_, false) => s.pairFail
  | (s1, true) =>
    let s2 := if s1.mirrors then s1.busTt.tell 0x40 (.cak k p.ckn 32 (keyWrap s1.ttKey p.cak)) else s1
    ((({ s2 with pairing := { st := .stored, tether := p.tether, code := p.code, codeVal := p.codeVal } }).mkaInt 5 0).notice (.cakSlot k))

/-- A counted press of PRESENCE_N for pairing: a first press opens a session, a second confirms (R116, R117, R232). -/
def State.pairPress (s : State) : State :=
  let p := s.pairing
  let tether := (s.cakSlot 1023).klen == 0 && s.par.heardHello
  match p.st with
  | .showing =>
    let s1 := ({ s with pairing := { p with st := .confirmed, press2 := true } }).pairSend 4
    if p.held then s1.pairStore else s1
  | .committing => s
  | .confirmed => s
  | _ =>
    let may := if tether then (s.par.st == .start || s.par.st == .solo || s.par.st == .active)
      else (s.par.st == .solo || s.par.st == .active)
    if !s.flag F.MKA_CTL_PAIR_EN || !may then s
    else if !s.drbgKOk then s.drbgRefused.mkaInt 6 0
    else
      let (r1, s1) := s.drbgReq.draw
      let (r2, s2) := s1.draw
      let d := privOf r2
      ({ s2 with pairing := { st := .committing, tether := tether, pid := r1.setWidth 64, nonce := beOctets 16 (r1.toNat / 2 ^ 64), priv := d,
                              pub := ecPub d } } : State).pairSend 2

/-- The session's channel: the line ports, or the tether. -/
def PairCh.isTether (c : PairCh) : Bool :=
  match c with
  | .tether => true
  | .line _ => false

/-- A COMMIT (R117 step 1). -/
def State.pairCommit (s : State) (ch : PairCh) (pid : W64) (cm : List Byte) : State :=
  let p := s.pairing
  if PairCh.isTether ch != p.tether || pid == p.pid then s
  else
    match p.st with
    | .committing =>
      match p.peerId with
      | none => ({ s with pairing := { p with peerId := some pid, commit := cm, reveal := true } }).pairSend 3
      | some q => if q = pid then s else s.pairFail
    | .showing => if p.peerId = some pid then s else s.pairFail
    | .confirmed => if p.peerId = some pid then s else s.pairFail
    | _ => s

/-- What the session derives (R117 step 3). -/
def Pairing.derive (p : Pairing) (pid : W64) (nonce pub : List Byte) (z : List Byte) : Pairing :=
  let mine := p.pub ++ p.nonce
  let theirs := pub ++ nonce
  let t := sha384 (if p.pid.toNat < pid.toNat then mine ++ theirs else theirs ++ mine)
  let k := sha384 (z ++ t)
  { p with st := .showing, derived := true, t := t, cak := k.take 32, kconf := (k.drop 32).take 16, ckn := (t.drop 2).take 16,
           code := BitVec.ofNat 16 (beAt t 0 2), codeVal := true, sym := 0 }

/-- A REVEAL (R117 steps 2 to 4). -/
def State.pairReveal (s : State) (ch : PairCh) (pid : W64) (nonce pub : List Byte) : State :=
  let p := s.pairing
  if PairCh.isTether ch != p.tether || p.st != .committing || p.peerId != some pid then s
  else if sha384 (pub ++ nonce) ≠ p.commit then s.pairFail
  else
    match ecdh p.priv pub with
    | none => s.pairFail
    | some z => { s with pairing := p.derive pid nonce pub z }

/-- A CONFIRM (R117 step 5): held until the part's own second press. -/
def State.pairConfirm (s : State) (ch : PairCh) (pid : W64) (tag : List Byte) : State :=
  let p := s.pairing
  if PairCh.isTether ch != p.tether || !p.derived || p.peerId != some pid || (p.st != .showing && p.st != .confirmed) then s
  else if tag ≠ cmac p.kconf (p.t ++ beOctets 8 pid.toNat) then s.pairFail
  else
    let s1 := { s with pairing := { p with held := true } }
    if p.press2 then s1.pairStore else s1

/-- tPAIR_TX: the session's messages go out again. -/
def State.pairTimer (s : State) : State :=
  let p := s.pairing
  match p.st with
  | .committing => let s1 := s.pairSend 2
    if p.reveal then s1.pairSend 3 else s1
  | .showing => (s.pairSend 2).pairSend 3
  | .confirmed => ((s.pairSend 2).pairSend 3).pairSend 4
  | _ => s

/-- tPAIR_WIN ends before the derivation. -/
def State.pairWindowEnd (s : State) : State := if s.pairing.st = .committing then s.pairFail else s

/-- tPAIR_CONF ends before the store. -/
def State.pairConfEnd (s : State) : State :=
  if s.pairing.st = .showing ∨ s.pairing.st = .confirmed then s.pairFail else s

/-- The next second of the STATUS display (R118): the 5 s of a failed or stored session end with the idle state. -/
def State.pairSymbol (s : State) : State :=
  let p := s.pairing
  let next : Pairing := { p with sym := (p.sym + 1) % 8 }
  match p.st with
  | .idle => s
  | .committing => s
  | .showing => { s with pairing := next }
  | .confirmed => { s with pairing := next }
  | _ => { s with pairing := if 5 ≤ p.sym + 1 then { p with st := .idle, sym := 0 } else next }

/-! ## The STATUS outputs (R118, R382) -/

/-- On or off. -/
def ledIf (b : Bool) : Led := if b then .on else .off

/-- The STATUS outputs during pairing, STATUS0 first (R118): none once the session is idle. -/
def Pairing.leds (p : Pairing) : Option (List Led) :=
  let nib := p.code.toNat / 16 ^ (3 - p.sym / 2 % 4) % 16
  let lit := fun (v : Nat) (k : Nat) => ledIf (p.sym % 2 == 0 && nbit v k)
  let code := [lit nib 0, lit nib 1, lit nib 2, lit nib 3, lit (p.sym / 2 % 4) 0, lit (p.sym / 2 % 4) 1]
  let dark := List.replicate 6 Led.off
  match p.st with
  | .idle => none
  | .committing => some (dark ++ [.off, .hz1])
  | .showing => some (code ++ [.off, .on])
  | .confirmed => some (code ++ [.on, .on])
  | .failed => some (dark ++ [.hz4, .hz4])
  | .stored => some (dark ++ [.on, .on])

/-- The CAs that may be valid: those with a configuration word, and those configured with no image. -/
def State.caList (s : State) : List Nat :=
  let byReg := s.regs.filterMap (fun e => if e.1 / 2 ^ 20 = 4 * Reg.MKA_CA_CFG.ctorIdx then some (e.1 % 2 ^ 20) else none)
  ((byReg ++ (s.cas.map (·.1)).filter (fun n => !byReg.contains n)).filter s.caValid)

/-- STATUS1: the valid CAs (R382). -/
def State.caLed (s : State) : Led :=
  let l := s.caList
  let up := l.filter (fun n => (s.curSa (s.caSecy n)).isSome)
  if l.any (fun n => (s.cakSlot (s.caCak n)).klen == 0) then .hz4
  else if up.isEmpty then .off
  else if up.length = l.length then .on else .hz1

/-- The STATUS outputs, STATUS0 first: pairing's, else the first state of each output's list that holds (R382). -/
def State.ledsNow (s : State) : List Led :=
  match s.pairing.leds with
  | some l => l
  | none =>
    let sick := s.engs.any (fun e => e.2.mode == .failed || e.2.mode == .out) || [0, 1, 2, 3].any (fun k => (s.stk k).mode == .absent || (s.stk k).mode == .lost)
    [ if s.pwr.sup.any (fun e => e.2.uv || e.2.ov) then .hz4 else if sick then .hz1 else .on,
      s.caLed,
      if s.locked then .on else if s.tim.mode == .freeRun then .off else .hz1,
      if s.pwr.surv then .hz4 else if 4 ≤ s.pwr.stage then .on else if 1 ≤ s.pwr.stage then .hz1 else .off,
      if s.alarm.isolated then .on else if s.tck.flags != 0 then .hz1 else .off,
      if s.isActive then .on else if s.par.st == .standby then .hz1 else if s.par.st == .start then .hz4 else .off,
      ledIf (s.tck.pressWin.isSome || s.tck.strap),
      if s.start.safeHold then .hz4 else if s.start.step = 15 then .on else if s.start.step = 0 then .off else .hz1 ]

/-- Drive the STATUS outputs as they stand now. -/
def State.driveLeds (s : State) : State :=
  let l := s.ledsNow
  if l = s.leds then s else { s with leds := l }.emit (.status l)

end Sys2Proof.Machine
end

