-- ==== Sys2Proof/Machine/Time.lean ====
section
/-!
DEFINITION. The time unit's commands (10): adjustment (R204), ownership (R205), snapshot (R206), states (R207, R208), the PTP
service (R209, R210), captures and outputs (R215, R216), the reference switch (R202), following in a pair (R218).
-/

namespace Sys2Proof.Machine

/-! ## States (R207, R208) -/

/-- TIM_STATUS.LOCKED is looked at again: each change sets LOCK_CHG (R208). -/
def State.relock (s : State) : State :=
  if s.locked == s.tim.locked then s
  else ({ s with tim := { s.tim with locked := s.locked } }).setInt .TIM_INT_STAT 1

/-- Enter a state (R207): leaving LOCKED starts the age; each change sets STATE_CHG. -/
def State.timeTo (s : State) (m : TimeMode) : State :=
  if s.tim.mode == m then s
  else
    let age := if s.tim.mode == .locked then (s.counter : Int) else s.tim.age0
    (({ s with tim := { s.tim with mode := m, age0 := age } }).setInt .TIM_INT_STAT 0).relock

/-- The state after a reset other than power-on (R207). -/
def State.timeReset (s : State) : State :=
  match s.tim.mode with
  | .locked => s.timeTo .holdover
  | .holdover => s
  | .following => s.timeTo .holdover
  | .freeRun => s
  | .acquiring => s.timeTo .freeRun

/-- The age reaches HOLD_S (R208). -/
def State.ageExpired (s : State) : State :=
  match s.tim.mode with
  | .locked => s
  | .freeRun => s
  | _ => ({ s with tim := { s.tim with age0 := min s.tim.age0 ((s.counter : Int) - (s.fld F.TIM_HOST_HOLD_S : Nat) * unitsPerSec) } }).relock

/-- The member becomes standby (R207). -/
def State.timeFollow (s : State) : State := s.timeTo .following

/-- The member takes the active role (R207): age kept. -/
def State.timeTake (s : State) : State := if s.tim.mode == .following then s.timeTo .holdover else s

/-! ## Outputs (R216) -/

/-- START of an output pin, 0 PPS_OUT, 1-4 TEV0-3. -/
def State.outStart (s : State) (p : Nat) : Int :=
  timeSNs ((s.word .TIM_OUT_S_HI p).toNat % 2 ^ 16 * 2 ^ 32 + (s.word .TIM_OUT_S_LO p).toNat)
    (if p = 0 then 0 else s.fld F.TIM_OUT_NS_NS p)

/-- PERIOD_NS in units of 2^-16 ns. -/
def State.outPeriod (s : State) (p : Nat) : Nat :=
  (if p = 0 then 1000000000 else s.fld F.TIM_OUT_PERIOD_NS p) * 65536

/-- An output is enabled: a TEV pin also as an output. -/
def State.outOn (s : State) (p : Nat) : Bool := s.flag F.TIM_OUT_CFG_EN p && (p == 0 || s.flag F.TIM_CAP_CFG_OUT p)

def State.outPin (s : State) (p : Nat) : OutPin := s.tim.outs.look (fun _ => {}) p
def State.setOut (s : State) (p : Nat) (v : OutPin) : State :=
  { s with tim := { s.tim with outs := s.tim.outs.put (fun _ => {}) p v } }

/-- Arm an output for its first pulse at or after T; a single shot keeps its START until it has fired (R216, R217). -/
def State.armOut (s : State) (p : Nat) : State :=
  let v := s.outPin p
  let st := s.outStart p
  let per := s.outPeriod p
  if !s.outOn p then s.setOut p { v with next := none, done := false }
  else if per = 0 then (if v.done then s else s.setOut p { v with next := some st })
  else
    let n := if s.timeT ≤ st then 0 else (s.timeT - st + per - 1) / per
    s.setOut p { v with next := some (st + n * per) }

/-- The output pin driven: LOW inverts the pulse. -/
def State.driveOut (s : State) (p : Nat) (high : Bool) : State := s.emit (.pin p (high != s.flag F.TIM_OUT_CFG_LOW p))

/-- A scheduled edge (R216): the pulse starts at its time and ends WIDTH_NS later. -/
def State.outEdge (s : State) (p : Nat) : State :=
  let v := s.outPin p
  match v.next with
  | none => s
  | some t =>
    if !s.outOn p then s
    else if v.high then
      if s.timeT < t + (s.fld F.TIM_OUT_WIDTH_NS p * 65536 : Nat) then s
      else
        let per := s.outPeriod p
        (s.setOut p { v with high := false, done := per == 0, next := if per = 0 then none else some (t + per) }).driveOut p false
    else if s.timeT < t then s
    else (s.setOut p { v with high := true }).driveOut p true

/-! ## Adjustment (R204, R205) -/

/-- The gate lists follow disciplined time: the entry into which it now falls (R170). -/
def State.gateSync (s : State) : State :=
  s.tmg.gates.foldl (fun t e =>
    let g := t.gatePort e.1
    let (k, b) := g.now t.timeT
    t.setGatePort e.1 { g with entry := k, gates := b }) s

/-- What follows a step or set: counted, STEP, outputs and gate lists resume at the new T. -/
def State.stepped (s : State) : State :=
  let t := (([0, 1, 2, 3, 4] : List Nat).foldl (fun (t : State) p => if t.outOn p then t.armOut p else t) s).gateSync
  (t.count .tim 0 0 3).setInt .TIM_INT_STAT 2

/-- Set RATE: the elapsed drift is folded into OFFSET. -/
def Tim.setRate (t : Tim) (c : Nat) (r : W32) : Tim :=
  { t with ofs := BitVec.ofInt 96 (t.timeOf c - c), anchor := BitVec.ofNat 96 c, rate := r }

/-- Move T by an amount. -/
def Tim.move (t : Tim) (x : Int) : Tim := { t with ofs := BitVec.ofInt 96 (t.ofs.toInt + x) }

/-- Set T. -/
def Tim.setT (t : Tim) (c : Nat) (x : Int) : Tim := { t with ofs := BitVec.ofInt 96 (x - c), anchor := BitVec.ofNat 96 c }

/-- The master that owns time (R205). -/
def State.ownsTime (s : State) (o : Origin) : Bool :=
  match s.fld F.TIM_CTL_OWNER with
  | 0 => o.isCore
  | 1 => o.pfIa
  | _ => false

/-- An adjustment is refused: CMD.ERR, counted, ADJ_REJ. -/
def State.adjRefuse (s : State) (g e : Nat) : State := ((s.cmdErr .TIM_ADJ_CMD g e).count .tim 0 0 4).setInt .TIM_INT_STAT 7

/-- An adjustment (R204): f is its effect; jump marks step and set. -/
def State.adjust (s : State) (o : Origin) (rated jump : Bool) (f : Tim → Tim) : State :=
  let g := o.grp
  let r := (s.word .TIM_ADJ_RATE 0 g).toInt
  if s.par.st == .standby then s.adjRefuse g 4
  else if !s.ownsTime o then s.adjRefuse g 1
  else if rated && decide (219902325 < r.natAbs) then s.adjRefuse g 2
  else
    let t := f s.tim
    if t.timeOf s.counter < 0 then s.adjRefuse g 3
    else
      let s1 := ({ s with tim := t }).cmdErr .TIM_ADJ_CMD g 0
      if jump then s1.stepped else s1

/-- The step operand. -/
def State.adjStepOf (s : State) (g : Nat) : Int :=
  signed 64 ((s.word .TIM_ADJ_STEP_LO 0 g).toNat + (s.word .TIM_ADJ_STEP_HI 0 g).toNat * 2 ^ 32)

/-- The set operand. -/
def State.adjSetOf (s : State) (g : Nat) : Int :=
  timeSNs ((s.word .TIM_ADJ_SET_S_HI 0 g).toNat % 2 ^ 16 * 2 ^ 32 + (s.word .TIM_ADJ_SET_S_LO 0 g).toNat)
    (s.fld F.TIM_ADJ_SET_NS_NS 0 g)

def State.adjRateCmd (s : State) (o : Origin) : State :=
  s.adjust o true false (fun t => t.setRate s.counter (s.word .TIM_ADJ_RATE 0 o.grp))

def State.adjStepCmd (s : State) (o : Origin) : State := s.adjust o false true (fun t => t.move (s.adjStepOf o.grp))

def State.adjBothCmd (s : State) (o : Origin) : State :=
  s.adjust o true true (fun t => (t.setRate s.counter (s.word .TIM_ADJ_RATE 0 o.grp)).move (s.adjStepOf o.grp))

def State.adjSetCmd (s : State) (o : Origin) : State := s.adjust o false true (fun t => t.setT s.counter (s.adjSetOf o.grp))

/-- A write of TIM_CTL.OWNER (R205, R207). -/
def State.writeOwner (s : State) (o : Origin) (v : Nat) : State :=
  if v % 4 = s.fld F.TIM_CTL_OWNER then s
  else if !s.presence then s.fault5 o .TIM_CTL 0
  else if v % 4 = 3 then s.cfgRej .TIM_CTL 0
  else
    let t := s.setFld F.TIM_CTL_OWNER (v % 4)
    if t.tim.mode == .following then t else t.timeTo (if v % 4 = 2 then .freeRun else .holdover)

/-- TIM_SNAP.TAKE (R206). -/
def State.timeSnap (s : State) : State :=
  let c := s.counter
  let t := s.timeT
  let sec := t / unitsPerSec
  let sub := (t % unitsPerSec).toNat
  let w3 := fun (u : State) (r : Reg) (n : Nat) => ((u.setWord r (wordOf n 0) 0).setWord r (wordOf n 1) 1).setWord r (wordOf n 2) 2
  let s1 := w3 (w3 (w3 s .TIM_CNT c) .TIM_OFS s.tim.ofs.toNat) .TIM_ANCHOR s.tim.anchor.toNat
  ((((s1.setWord .TIM_RATE s.tim.rate).setWord .TIM_DT_FRAC (BitVec.ofNat 32 (sub % 65536))).setWord .TIM_DT_NS
    (BitVec.ofNat 32 (sub / 65536))).setWord .TIM_DT_S_LO (wordOf (lowBits 48 sec) 0)).setWord .TIM_DT_S_HI (wordOf (lowBits 48 sec) 1)

/-! ## The reference (R202) -/

/-- TIME_REF_IN fails: the internal oscillator; the switch adds at most 1 ns, a free value, to the counter (log entry 19). -/
def State.refSwitch (s : State) : State :=
  if s.tim.refInt then s
  else
    let (r, s1) := s.draw
    let add := r.toNat % 65537
    let s2 := { s1 with tim := { s1.tim with refInt := true, cnt := s1.tim.cnt + BitVec.ofNat 112 (add * 65536) } }
    let s3 := (s2.count .tim 0 0 8).setInt .TIM_INT_STAT 3
    if (s.tim.mode == .locked || s.tim.mode == .acquiring) && s.tim.ptp.master.isSome then
      { s3.timeTo .acquiring with tim := { (s3.timeTo .acquiring).tim with ptp := { s3.tim.ptp with good := 0 } } }
    else s3

/-- ST03's choice of reference (R202): each start returns to TIME_REF_IN, and switches away where the pin is absent. -/
def State.refChoose (s : State) (pin : Bool) : State :=
  let t := { s with tim := { s.tim with refInt := false } }
  if pin then t else t.refSwitch

/-! ## The PTP service (R209, R210) -/

/-- PTP runs on host and line ports: enabled there, from ST14 on (R209, R248). -/
def State.ptpPorts (s : State) : Bool :=
  s.start.step == 15 && !s.start.held && (List.range 4).any (fun n => s.word .TIM_PORT_EN n != 0#32)

/-- PTP runs on MGT: enabled there, from ST10 on (R209, R248). -/
def State.ptpMgt (s : State) : Bool := decide (10 < s.start.step) && !s.start.held && s.flag F.TIM_PORT_EN4_MGT

/-- The PTP service runs on a port: not in safe hold (R253), not while following (R207). -/
def State.ptpOn (s : State) : Bool := (s.ptpPorts || s.ptpMgt) && !s.start.safeHold && s.tim.mode != .following

def State.setPtp (s : State) (f : Ptp → Ptp) : State := { s with tim := { s.tim with ptp := f s.tim.ptp } }

/-- The data sets are compared as lists: the smaller is better. -/
def lexLt (a b : List Nat) : Bool :=
  match a, b with
  | [], [] => false
  | [], _ => true
  | _, [] => false
  | x :: p, y :: q => decide (x < y) || (x == y && lexLt p q)

/-- The part's own data set: clock class 248, accuracy 0xFE, variance 0xFFFF (PRESUMED, log entry 19). -/
def State.ownSet (s : State) : List Nat :=
  [s.fld F.TIM_PTP_CFG0_PRIO1, 248, 0xFE, 0xFFFF, s.fld F.TIM_PTP_CFG0_PRIO2, s.macBase * 65536, 0]

/-- The best announced master, if it is better than the part or the part is never master (R209). -/
def State.bestMaster (s : State) : Option W64 :=
  match s.tim.ptp.foreign.foldl (fun a e =>
    match a with
    | none => some e
    | some b => if lexLt e.2 b.2 then some e else a) none with
  | none => none
  | some b => if s.flag F.TIM_CTL_SLAVE_ONLY || lexLt b.2 s.ownSet then some b.1 else none

/-- The part is master of its domain. -/
def State.ptpMaster (s : State) : Bool := s.ptpOn && !s.flag F.TIM_CTL_SLAVE_ONLY && s.tim.ptp.master.isNone

/-- The best master clock algorithm runs (R207, R209). -/
def State.bmca (s : State) : State :=
  let m := s.bestMaster
  if m == s.tim.ptp.master then s
  else
    let t := s.setPtp (fun p => { p with master := m, good := 0, pendT1 := none, reqT3 := none, t12 := none })
    if m.isSome && t.fld F.TIM_CTL_OWNER == 0 && (t.tim.mode == .freeRun || t.tim.mode == .holdover) then t.timeTo .acquiring else t

/-- The servo on one measured offset, units of 2^-16 ns (R207, R210): a step beyond STEP_NS, else a new RATE within 200 ppm, a
free value (log entry 19); then LOCKED after 16 offsets within LOCK_NS, or back to ACQUIRING beyond ten times that. -/
def State.servo (s : State) (ofs : Int) : State :=
  if s.fld F.TIM_CTL_OWNER ≠ 0 ∨ s.par.st = .standby then s
  else
    let lock := (s.fld F.TIM_PTP_CFG3_LOCK_NS * 65536 : Nat)
    let s1 :=
      if s.fld F.TIM_PTP_CFG1_STEP_NS * 65536 < ofs.natAbs then
        let t := s.tim.move (-ofs)
        if t.timeOf s.counter < 0 then s else ({ s with tim := t }).stepped
      else
        let (r, t) := s.draw
        let rate : Int := (r.toNat % 439804651 : Nat) - 219902325
        { t with tim := t.tim.setRate t.counter (BitVec.ofInt 32 rate) }
    match s1.tim.mode with
    | .acquiring =>
      let n := if ofs.natAbs < lock then s1.tim.ptp.good + 1 else 0
      let s2 := s1.setPtp (fun p => { p with good := n })
      if 16 ≤ n then (s2.setPtp (fun p => { p with good := 0 })).timeTo .locked else s2
    | .locked =>
      if 10 * lock < ofs.natAbs then (s1.setPtp (fun p => { p with good := 0 })).timeTo .acquiring else s1
    | _ => s1

/-- A Sync's times are known: the offset from the master, less the path delay. -/
def State.syncMeasured (s : State) (t1 t2 : Int) : State :=
  (s.setPtp (fun p => { p with pendT1 := none, t12 := some (t1, t2) })).servo (t2 - t1 - s.tim.ptp.delay)

/-- A Sync (R209): its ingress time is now; a two-step Sync waits for its Follow_Up. -/
def State.ptpSync (s : State) (port : W64) (seq : Nat) (two : Bool) (t1 corr : Int) : State :=
  if !s.ptpOn then s
  else
    let c := s.count .tim 0 0 6
    if s.tim.ptp.master != some port then c
    else if two then c.setPtp (fun p => { p with pendT1 := some (seq, s.timeT - corr) })
    else c.syncMeasured t1 (s.timeT - corr)

/-- Octets of a PTP message of a type (IEEE 1588-2019, PRESUMED, log entry 14): Announce 64, the peer-delay and delay responses 54, the others 44. -/
def ptpLen (kind : Nat) : Nat := if kind = 11 then 64 else if kind = 2 ∨ kind = 3 ∨ kind = 9 ∨ kind = 10 then 54 else 44

/-- A PTP message leaves on the enabled PTP ports (R209): on MGT through its bucket, over Ethernet (R45, R161). -/
def State.ptpOut (s : State) (kind seq : Nat) : State :=
  let t := if s.ptpPorts then s.emit (.ptp kind seq) else s
  if s.ptpMgt then t.mgtSend (.ptp kind seq) (max 64 (18 + ptpLen kind)) else t

/-- Send a PTP message of a type. -/
def State.ptpSend (s : State) (kind : Nat) : State := (s.ptpOut kind s.tim.ptp.seq).setPtp (fun p => { p with seq := (p.seq + 1) % 65536 })

/-- Another PTP message (R209). -/
def State.ptpMsg (s : State) (m : PtpMsg) : State :=
  if !s.ptpOn then s
  else
    let p := s.tim.ptp
    let peer := s.flag F.TIM_CTL_PROFILE
    match m with
    | .announce port p1 c a v p2 gm st =>
      (s.setPtp (fun q => { q with foreign := q.foreign.filter (fun e => e.1 != port) ++ [(port, [p1, c, a, v, p2, gm.toNat, st, port.toNat])] })).bmca
    | .followUp port q t1 =>
      match p.pendT1 with
      | some (n, t2) => if p.master == some port && n == q then s.syncMeasured t1 t2 else s
      | none => s
    | .delayReq _ q => if s.ptpMaster && !peer then s.ptpOut 9 q else s
    | .delayResp port q t4 =>
      match p.reqT3, p.t12 with
      | some (n, t3), some (t1, t2) =>
        if p.master == some port && n == q && !peer then
          s.setPtp (fun x => { x with delay := ((t2 - t1) + (t4 - t3)) / 2, reqT3 := none })
        else s
      | _, _ => s
    | .pdelayReq _ q => if peer then (s.ptpOut 3 q).ptpOut 10 q else s
    | .pdelayResp _ q t2 t3 =>
      match p.reqT3 with
      | some (n, t1) =>
        if n == q && peer then s.setPtp (fun x => { x with delay := ((s.timeT - t1) - (t3 - t2)) / 2, reqT3 := none }) else s
      | none => s

/-- A message interval ends (R209): a master sends Sync with its Follow_Up, and Announce; a slave its delay request. -/
def State.ptpTimer (s : State) (k : PtpTimer) : State :=
  match k with
  | .sync => if s.ptpMaster then (s.ptpOut 8 s.tim.ptp.seq).ptpSend 0 else s
  | .announce => if s.ptpMaster then s.ptpSend 11 else s
  | .delayReq =>
    if !s.ptpOn || (s.tim.ptp.master.isNone && !s.flag F.TIM_CTL_PROFILE) then s
    else
      (s.setPtp (fun p => { p with reqT3 := some (p.seq, s.timeT) })).ptpSend (if s.flag F.TIM_CTL_PROFILE then 2 else 1)

/-- Announce receipt timeout, or three Sync intervals without a Sync (R207). -/
def State.announceTimeout (s : State) : State :=
  match s.tim.ptp.master with
  | none => s
  | some m =>
    let t := (s.setPtp (fun p => { p with foreign := p.foreign.filter (fun e => e.1 != m), master := none, good := 0 })).count .tim 0 0 7
    if t.tim.mode == .locked || t.tim.mode == .acquiring then t.timeTo .holdover else t

/-! ## The host's lock (R207) -/

/-- A write of TIM_HOST.HOST_LOCK. -/
def State.hostLock (s : State) (o : Origin) (lock : Bool) : State :=
  let t := s.setFld F.TIM_HOST_HOST_LOCK (b2n lock)
  if t.fld F.TIM_CTL_OWNER ≠ 1 ∨ !o.pfIa then t
  else if lock && (t.tim.mode == .freeRun || t.tim.mode == .holdover) then t.timeTo .locked
  else if !lock && t.tim.mode == .locked then t.timeTo .holdover
  else t

/-- No host adjustment within WDOG_S. -/
def State.hostWatchdog (s : State) : State :=
  if s.fld F.TIM_CTL_OWNER = 1 ∧ s.tim.mode = .locked then s.timeTo .holdover else s

/-! ## Captures (R215) -/

def State.cap (s : State) (p : Nat) : Cap := s.tim.caps.look (fun _ => {}) p
def State.setCap (s : State) (p : Nat) (v : Cap) : State :=
  { s with tim := { s.tim with caps := s.tim.caps.put (fun _ => {}) p v } }

/-- The chosen edge on an input, 0 PPS_IN, 1-4 TEV0-3. -/
def State.capEdge (s : State) (p : Nat) : State :=
  if !s.flag F.TIM_CAP_CFG_EN p || (p != 0 && s.flag F.TIM_CAP_CFG_OUT p) then s
  else if 16 ≤ (s.cap p).fifo.length then (s.count .tim 0 0 5).setInt .TIM_INT_STAT 5
  else (s.setCap p { fifo := (s.cap p).fifo ++ [(s.timeT, s.counter)] }).setInt .TIM_INT_STAT 4

/-- POP: the oldest capture into the pin's registers, its fraction in steps of 0.25 ns. -/
def State.capPop (s : State) (p : Nat) : State :=
  match (s.cap p).fifo with
  | [] => s
  | (t, _) :: l =>
    let sec := lowBits 48 (t / unitsPerSec)
    let sub := (t % unitsPerSec).toNat
    (((s.setCap p { fifo := l }).setWord .TIM_CAP_S_LO (wordOf sec 0) p).setWord .TIM_CAP_S_HI
      (BitVec.ofNat 32 (fw 31 16 (sub % 65536 / 16384 * 16384) + sec / 2 ^ 32)) p).setWord .TIM_CAP_NS (BitVec.ofNat 32 (sub / 65536)) p

/-! ## Following (R218) -/

/-- A mirrored time record (R218, R234): OFFSET and RATE so that T agrees with the active's, with the tether's measured delay. -/
def State.followTime (s : State) (rate : W32) (t : Int) : State :=
  let c := s.counter
  ({ s with tim := { (s.tim.setT c (t + s.par.tDelay)) with rate := rate, age0 := c } }).relock

end Sys2Proof.Machine
end

