-- ==== Sys2Proof/Machine/Bolt.lean ====
section
/-!
DEFINITION. The bolt and the pair states (11): the pins and the transmit gate (R221, R224), changes of state (R240, R241), what ends with
the active role (R14, R226), a claim (R237, R239, R243), the fence and the conflict (R225, R228).
-/

namespace Sys2Proof.Machine

/-! ## Pins and the gate (R221, R224; pin codes of log entry 13) -/

/-- Drive ACT_OUT. -/
def State.setAct (s : State) (on : Bool) : State :=
  if s.par.actOut == on then s else ({ s with par := { s.par with actOut := on } }).emit (.pin 10 on)

/-- Drive FENCE_OUT. -/
def State.setFence (s : State) (on : Bool) : State :=
  if s.par.fenceOut == on then s else ({ s with par := { s.par with fenceOut := on } }).emit (.pin 11 on)

/-- BEAT_OUT toggles or stays still. -/
def State.setBeat (s : State) (on : Bool) : State :=
  if s.par.beatOut == on then s else ({ s with par := { s.par with beatOut := on } }).emit (.pin 12 on)

/-- The transmit gate, with TXGATE asserted (low) while it is open. -/
def State.setGate (s : State) (on : Bool) : State :=
  if s.par.gate == on then s else ({ s with par := { s.par with gate := on } }).emit (.pin 13 (!on))

/-- The gate follows its three conditions (R224): ACT_OUT high, ACT_IN low for tBOLT_SETTLE, FENCE_IN low. -/
def State.gateLook (s : State) : State := s.setGate (s.par.actOut && s.par.settled && !s.par.actIn && !s.par.fenceIn)

/-- The MKPDUs of a claim leave once the gate is open (R113, R243). -/
def State.gateOpened (s : State) : State :=
  let t := s.gateLook
  if t.par.gate && !s.par.gate then t.running.foldl State.sendIfDue t else t

/-! ## States (R240, R241) -/

/-- Enter a pair state: STATE_CHG, the ledger's event; sync ends outside STANDBY (R227), and a standby follows time (R207). -/
def State.parTo (s : State) (st : PairState) : State :=
  if s.par.st == st then s
  else
    let old := s.par.st
    let s1 := { s with par := { s.par with
      st := st
      synced := s.par.synced && st == PairState.standby
      noTether := false } }
    let s2 := (s1.parInt 0 (some old)).ledgerEvent (.pairState st)
    if st == .standby then s2.timeFollow else s2

/-- The records of this member are confirmed by itself (R233): nothing awaits the partner. -/
def State.ownConfirm (s : State) : State :=
  { s with
    par := { s.par with
      unacked := []
      resync := false
      snapEnd := none
      joined := false }
    sas := s.sas.mapV (fun _ => {}) (fun a => { a with lease := max a.lease a.leaseReq })
    cas := s.cas.mapV (fun _ => {}) (fun c => { c with mnLease := max c.mnLease c.mnReq }) }

/-- What the service cores had put into the control FIFOs goes: a member that is not active sends no MKPDU (R113). -/
def State.dropMkpdus (s : State) : State :=
  (s.frames.filter (fun f => match f.src with
    | .mka _ => true
    | .pairing => true
    | _ => false)).foldl (fun t f => t.endFrame f) s

/-- ACT_OUT falls: the gate closes, what is bound ends (R14), a handover under way is over. -/
def State.actDown (s : State) : State :=
  let s1 := (((s.setAct false).gateLook).dropMkpdus).endBound
  { s1 with par := { s1.par with
    handing := none
    draining := false
    conflict := false
    keepClaim := false } }

/-- The active role ends without a handover: START, nobody confirms for it any more (R241). -/
def State.endAct (s : State) : State := (s.actDown.parTo .start).ownConfirm

/-- The lease is looked at again (R226): BEAT_OUT follows it, and an active member whose lease is invalid leaves its role. -/
def State.leaseLook (s : State) : State :=
  let v := s.leaseValid
  let s1 := s.setBeat v
  if !v && s1.isActive then s1.endAct else s1

/-- A member whose start has reached pair operation (R248 ST12) and that may take part in it (R253). -/
def State.pairRuns (s : State) : Bool := decide (12 ≤ s.start.step) && !s.start.held && !s.start.safeHold && s.par.st != .fenced

/-! ## Fence (R228) -/

/-- Drive the fence: counted, FENCED_PARTNER; the partner shows FENCED until it is heard again. -/
def State.fencePartner (s : State) : State :=
  (((({ s with par := { s.par with
    ptSt := .fenced
    ptKnown := true } }).setFence true).count .par 0 0 8).parInt 2)

/-- tFENCE_PULSE ends. -/
def State.fencePulseEnd (s : State) : State := s.setFence false

/-! ## The claim (R225, R237, R239, R243) -/

/-- A member may raise ACT_OUT (R225); the settling of ACT_IN is BOLT_SETTLED's (log entry 26). -/
def State.mayClaim (s : State) : Bool := s.pairRuns && s.leaseValid && !s.par.actIn && !s.par.fenceIn

/-- A transmit SA's next PN above the highest lease end held for it (R237); past the last PN the SA is stopped (R83). -/
def State.claimSa (s : State) (k : Nat) : State :=
  let a := s.sa k
  let p := max a.pn (s.par.saLease.look (fun _ => 0) k + 1)
  if s.pnMax k < p then ((s.setSa k { a with pn := s.pnMax k, stopped := true }).handleStop (k / 4))
  else (s.setSa k { a with pn := p }).firstLease k

/-- A receive SA's L raised to the mirrored one (R239); with shared optics the mirrored replay state is the one used. -/
def State.claimRx (s : State) (k : Nat) : State :=
  let a := s.sa k
  match s.par.mirRx.find? (fun e => e.1 == k) with
  | none => s
  | some (_, l, h, d) =>
    if s.flag F.PAR_CTL_WIRING then s.setSa k { a with pn := max a.pn l, h := max a.h h, d := if a.h < h then d else a.d }
    else s.setSa k { a with pn := max a.pn l }

/-- The mirrored SAK of an AN of CA n. -/
def State.mirOf (s : State) (n an : Nat) : MirSak := s.par.mirSak.look (fun _ => {}) (n * 4 + an)

/-- Whether the key server has to distribute anew at a claim (R104, R113): a live peer without a SAK, one the SAK has no SSCI for, a
transmit SA past the PN threshold, or a SAK that was mirrored and never distributed. -/
def State.distLost (s : State) (n : Nat) : Bool :=
  let c := s.ca n
  let k := 4 * s.caSecy n + c.latestAn
  c.isKs && !c.live.isEmpty && !c.toSwitch &&
    (!c.hasSak || (if s.xpn (s.caSecy n) then c.live.any (fun p => (ssciIn c.sscis p.sci).isNone) else decide (0xC0000000 < (s.sa k).pn)) ||
      ((s.mirOf n ((c.latestAn + 1) % 4)).have_ && (s.mirOf n ((c.latestAn + 1) % 4)).kn == c.kn + 1))

/-- The SAKs of CA n as the claim finds them (R110, R112, R218): the latest, which may still wait for its switch; the one in use until
then; older receive SAs, which await retirement, their slots released. -/
def State.claimSaks (s : State) (n : Nat) : State :=
  let c := s.ca n
  let y := s.caSecy n
  let late := s.mirOf n c.latestAn
  let has := late.have_ || c.hasSak
  let wait := late.have_ && (s.sa (4 * y + c.latestAn)).installed && s.curSa y != some (4 * y + c.latestAn)
  let mi := if c.ksMi != 0 then c.ksMi else if c.isKs then c.mi
    else ((c.peers.find? (fun p => p.sci == c.ksSci)).map (fun p => p.mi)).getD 0
  let inUse := fun (an : Nat) => an == c.latestAn || (wait && an == c.oldAn)
  let other := ([0, 1, 2, 3] : List Nat).filter (fun an => !inUse an)
  let old := other.filter (fun an => (s.rscsOf y).any (fun r => (s.sa (8192 + 4 * r + an)).installed))
  let s1 := other.foldl (fun t an => if (s.mirOf n an).have_ then t.releaseSlot (s.mirOf n an).slot else t) s
  s1.setCa n { c with
    hasSak := has, ksMi := mi, toSwitch := wait, dist := wait && c.isKs, distSak := wait && c.isKs
    slot := if late.have_ then some late.slot else c.slot
    salt := if late.have_ then late.salt else c.salt
    sscis := if late.have_ then late.sscis else c.sscis
    wrap := if wait && c.isKs then keyWrap (s.kekKey (s.caCak n)) (s.saKey late.slot) else c.wrap
    oldSlot := if wait && c.oldAn != c.latestAn && (s.mirOf n c.oldAn).have_ then some (s.mirOf n c.oldAn).slot else none
    prevMi := mi, prevKn := (s.mirOf n c.oldAn).kn
    olds := old.map (fun an => ⟨an, mi, (s.mirOf n an).kn, false⟩)
    lastPeerLost := has && c.live.isEmpty }

/-- A CA's MN above its highest lease end, or above the handover record's last MN (R237); past the last MN a new MI (R98). Its SAKs, and a
distribution that has to be started again, follow (R113). -/
def State.claimCa (s : State) (n : Nat) : State :=
  let s1 := s.claimSaks n
  let c := s1.ca n
  let e := max c.mn (s.par.mnLease.look (fun _ => 0) n)
  let again := s1.distLost n
  let s2 := s1.setCa n { c with mn := e, sendDue := true, lastTx := none, wantSak := again, dist := c.dist || again }
  if 0xFFFFFFFF ≤ e then s2.newMi n else s2.mnLeaseTo n ((e + 1) / 1024 * 1024 + 1023)

/-- What the partner mirrored is taken over. -/
def State.takeMirror (s : State) : State :=
  let s1 := ((s.sas.filter (fun e => decide (e.1 < 8192) && e.2.installed)).map (·.1)).foldl State.claimSa s
  let s2 := ((s1.sas.filter (fun e => decide (8192 ≤ e.1) && e.2.installed)).map (·.1)).foldl State.claimRx s1
  s2.running.foldl State.claimCa s2

/-- The mirrored records of a standby are gone. -/
def State.dropTabs (s : State) : State :=
  { s with par := { s.par with
    saLease := []
    mnLease := []
    mirRx := []
    mirSak := []
    handRec := none } }

/-- The claim of the active role (R243). Format 1 ends with it (R229). -/
def State.claim (s : State) (role : PairState) : State :=
  if !s.mayClaim then s
  else
    let s1 := (s.takeMirror).dropTabs
    let s2 := if s1.par.format = 1 then
        { s1 with par := { s1.par with
          format := 0
          k1 := none } }
      else s1
    let s3 := (((s2.setAct true).parTo role).timeTake).emptyBuckets
    let s4 := ((s3.count .par 0 0 6).parInt 1).gateOpened
    s4.running.foldl State.slotRetry s4

/-- All mirrored SA and CA state is discarded (R241). -/
def State.discardMirror (s : State) : State :=
  let s1 := ((s.saSlots.filter (fun e => e.2.st != .free)).map (·.1)).foldl (fun t k => t.wipeSlot k) s
  let s2 := ((s1.rscs.filter (fun e => e.2.valid)).map (·.1)).foldl State.removeRsc s1
  ({ s2 with
    sas := []
    secys := s2.secys.mapV (fun _ => {}) (fun y => { cfgd := y.cfgd, held := y.held })
    cas := s2.cas.mapV (fun _ => {}) (fun c => { cfgd := c.cfgd }) }).dropTabs

/-- Every CA that can start does. -/
def State.startCas (s : State) : State := (List.range 2048).foldl State.caStart s

/-- The claim as SOLO from START (R241): mirrored state goes, every CA restarts, at ST14 while the start is still running. -/
def State.claimSolo (s : State) : State :=
  if !s.mayClaim then s
  else
    let s1 := (s.discardMirror).claim .solo
    if s1.start.step = 15 then s1.startCas else s1

/-! ## The lines of the bolt (R225, R241) -/

/-- ACT_IN rises: the gate closes; with ACT_OUT high, a conflict. -/
def State.actInRise (s : State) : State :=
  let open_ := s.par.gate
  let s1 := ({ s with par := { s.par with
    actIn := true
    settled := false } }).gateLook
  if !s1.par.actOut then s1
  else
    let s2 := (s1.count .par 0 0 9).parInt 3
    if open_ || s2.slotNo == 0 then
      { s2 with par := { s2.par with
        conflict := true
        keepClaim := true } }
    else s2.endAct

/-- ACT_IN falls: a synced standby claims, by the handover record or as RECOVERY. -/
def State.actInFall (s : State) : State :=
  let s1 := { s with par := { s.par with
    actIn := false
    conflict := false
    keepClaim := false } }
  if s1.par.st == .standby && s1.par.synced then s1.claim (s1.par.handRec.getD .recovery) else s1

/-- ACT_IN has been low for tBOLT_SETTLE. -/
def State.boltSettled (s : State) : State :=
  if s.par.actIn then s
  else ({ s with par := { s.par with settled := true } }).gateOpened

/-- tBOLT_CONFLICT has passed with ACT_IN still high: the member that keeps its claim fences. -/
def State.conflictTimeout (s : State) : State :=
  if s.par.conflict && s.par.keepClaim && s.par.actIn && s.leaseValid then
    ({ s with par := { s.par with conflict := false } }).fencePartner
  else s

/-! ## Timers of the active role (R241) -/

def State.testMax (s : State) : State := if s.par.st == .test then s.parTo .active else s

/-- The partner is in STANDBY. -/
def State.hasStandby (s : State) : Bool := s.par.ptKnown && s.par.ptSt == .standby

def State.recoverHold (s : State) : State := if s.par.st == .recovery && s.hasStandby then s.parTo .active else s

def State.recoverMax (s : State) : State := if s.par.st == .recovery && !s.hasStandby then s.parTo .solo else s

end Sys2Proof.Machine
end

