-- ==== Sys2Proof/Machine/Acu.lean ====
section
/-!
DEFINITION. The rules of an access control unit (R343, R344): the shadow set in its region registers, COMMIT, the fence.
-/

namespace Sys2Proof.Machine

/-- The enabled regions of ACU u's shadow set (R340, R349). -/
def State.acuShadow (s : State) (u : Nat) : List (Nat × Nat × BitVec 5) :=
  ((List.range 16).map (fun r =>
    ((s.word .ACU_RBASE (u * 16 + r)).toNat, (s.word .ACU_RPAGES (u * 16 + r)).toNat,
      BitVec.ofNat 5 (s.fld F.ACU_RATTR_RWXUP (u * 16 + r))))).filter (fun x => x.2.1 != 0)

/-- Two regions share no page. -/
def apart (a b : Nat × Nat × BitVec 5) : Bool := decide (a.1 + a.2.1 ≤ b.1) || decide (b.1 + b.2.1 ≤ a.1)

/-- No two regions of a list overlap. -/
def allApart (l : List (Nat × Nat × BitVec 5)) : Bool :=
  match l with
  | [] => true
  | a :: t => t.all (apart a) && allApart t

/-- A set that a COMMIT takes: no overlap, nothing past the top of the address space. -/
def rulesOk (l : List (Nat × Nat × BitVec 5)) : Bool := allApart l && l.all (fun x => decide (x.1 + x.2.1 ≤ 2 ^ 32))

/-- The shadow set of ACU u becomes its rules in force (R343). -/
def State.acuTake (s : State) (u : Nat) : State :=
  s.setAcu u { s.acu u with rules := s.acuShadow u, drained := false, err := 0 }

/-- A refused COMMIT: CTL.ERR and OVERLAP (R343, R349). -/
def State.acuRefuse (s : State) (u e : Nat) : State := (s.setAcu u { s.acu u with err := e }).setInt .ACU_INT_STAT 1

/-- Who may write the region registers of ACU u (R344). -/
def acuMaster (o : Origin) (u : Nat) : Bool :=
  if u = 80 ∨ u = 81 then o == .pf0 || o == .smbus || o == .iaholt
  else match o with
    | .core _ => true
    | _ => false

/-- A write of ACU_CTL.COMMIT (R343, R344): inside a presence window for ACUs 80 and 81. -/
def State.acuCommit (s : State) (o : Origin) (u : Nat) : State :=
  if !acuMaster o u then s.acuRefuse u 1
  else if (u = 80 ∨ u = 81) ∧ !s.presence then s.fault5 o .ACU_CTL u
  else if !(s.acu u).drained then s.acuRefuse u 3
  else if !rulesOk (s.acuShadow u) then s.acuRefuse u 2
  else s.acuTake u

/-- No access under the old rules remains. -/
def State.acuDrained (s : State) (u : Nat) : State := s.setAcu u { s.acu u with drained := true }

end Sys2Proof.Machine
end

