-- ==== Sys2Proof/Machine/ClsCmd.lean ====
section
/-!
DEFINITION. The classifier's commands (03): bank switch (R60), ageing (R64), the table window (R68, R70), flushes (R65), parity
repair (R67), the MODE write (R53, R70).
-/

namespace Sys2Proof.Machine

/-- WIN_ERR of a list of slices. -/
def State.winErr (s : State) (l : List Nat) : State := l.foldl (fun t k => t.setInt .CLS_SL_INT_STAT 2 k) s

/-- A table window command of copy g refused: TW_CMD.ERR and WIN_ERR. -/
def State.twRefuse (s : State) (g : Nat) (l : List Nat) : State :=
  (s.setWord .CLS_TW_CMD (depo (s.word .CLS_TW_CMD 0 g) 30 30 1) 0 g).winErr l

/-- CMD as a window command of copy g begins: SLICE, TABLE, BANK stored, ERR clear. -/
def State.twBegin (s : State) (g slice table bank : Nat) : State :=
  s.setWord .CLS_TW_CMD (BitVec.ofNat 32 (fw 13 12 slice + fw 11 8 table + fw 7 7 bank + fw 31 31 (bits (s.word .CLS_TW_CMD 0 g) 31 31))) 0 g

/-- A write of a window command while BUSY is refused (R70). -/
def State.twBusy (s : State) (g : Nat) : Bool := bits (s.word .CLS_TW_CMD 0 g) 31 31 == 1

/-- Words of each table (R56, R58, R68): T0-T5, prefix results, peer, SecY selection, receive-SC map, MAC entries. -/
def tableSize (t : Nat) : Nat :=
  match t with
  | 0 => 131072
  | 1 => 2 ^ 21
  | 2 => 2 ^ 20
  | 3 => 2 ^ 20
  | 4 => 2 ^ 18
  | 5 => 2 ^ 18
  | 6 => 655360
  | 7 => 1024
  | 8 => 512
  | 9 => 16384
  | 10 => 262144
  | _ => 0

/-- The bank switch (R60): RWP, refused until DRAINED. SAs whose SC becomes or ceases to be class 7 are placed anew (R147). -/
def State.bankSwitch (s : State) (o : Origin) : State :=
  if !s.presence then s.fault5 o .CLS_BANK 0
  else if !s.cls.drained then s.winErr [0, 1, 2, 3]
  else ({ s with cls := { s.cls with active := !s.cls.active, drained := false } }).repin s

/-! ## Commands on a slice's MAC table (R65, R70) -/

/-- BUSY of a window copy. -/
def State.twHold (s : State) (g : Nat) (b : Bool) : State :=
  s.setWord .CLS_TW_CMD (depo (s.word .CLS_TW_CMD 0 g) 31 31 (b2n b)) 0 g

/-- A MAC entry as it is stored (R64): the AGE of a static entry stays 0. -/
def storedMac (e : BitVec 96) : BitVec 96 :=
  if meStatic e then withMP (e.toNat - meAge e * 2 ^ 59) else withMP e.toNat

/-- A flush runs in a slice. -/
def State.flushing (s : State) (k : Nat) : Bool := s.cls.flushes.any (fun f => f.slice == k)

/-- A command on a slice's MAC table is carried out (R65, R70): read, write where it stands, insert by key, delete by key; a flush
runs from here, with BUSY set. DESIGN CHOICE (log entry 31): a write where it stands stores reserved bits as given, an insert
clears them. -/
def State.twApply (s : State) (c : TwCmd) : State :=
  let e := c.entry
  let s := s.twHold c.window false
  match c.op with
  | 1 =>
    let n := (s.macEnt c.slice c.addr).toNat
    s.setWords .CLS_TW_DATA [wordOf n 0, wordOf n 1, wordOf n 2] c.window
  | 2 => s.setMacEnt c.slice c.addr (storedMac e)
  | 3 =>
    match s.macInsert c.slice (storedMac (mkMac (meMac e) (meLport e) (mePeer e) (meAge e) (meStatic e))) with
    | (t, true) => t
    | (t, false) => (t.setWord .CLS_TW_CMD (depo (t.word .CLS_TW_CMD 0 c.window) 30 30 1) 0 c.window).setInt .CLS_SL_INT_STAT 1 c.slice
  | 4 =>
    match s.macFind c.slice (meLport e) (meMac e) with
    | some i => s.dropMac c.slice i
    | none => s
  | op =>
    let f : Flush := ⟨c.slice, op == 6, if op = 6 then mePeer e else meLport e, c.window⟩
    { s.twHold c.window true with cls := { s.cls with flushes := s.cls.flushes ++ [f] } }

/-- Commands on a slice's table are carried out one at a time, in order of arrival (R65): one that comes while a flush runs waits
with BUSY set. -/
def State.twRun (s : State) (c : TwCmd) : State :=
  if s.flushing c.slice then { s.twHold c.window true with cls := { s.cls with waiting := s.cls.waiting ++ [c] } }
  else s.twApply c

/-- The commands of a list that wait for slice k, in order, until one of them is a flush. -/
def State.twDrain (s : State) (k : Nat) (l : List TwCmd) : State :=
  match l with
  | [] => s
  | c :: t =>
    if c.slice == k && !s.flushing k then
      (({ s with cls := { s.cls with waiting := s.cls.waiting.erase c } }).twApply c).twDrain k t
    else s.twDrain k t

/-- The flush that began first ends (R65; log entry 31): matching entries removed, BUSY clear, then the commands that waited. -/
def State.flushDone (s : State) : State :=
  match s.cls.flushes with
  | [] => s
  | f :: rest =>
    let t := (s.flushWalk f).twHold f.window false
    let u := { t with cls := { t.cls with flushes := rest } }
    u.twDrain f.slice u.cls.waiting

/-- A window read of one word, or of a MAC entry's three words, into DATA (R70). -/
def State.twRead (s : State) (o : Origin) (slice table bank : Nat) : State :=
  let g := o.grp
  let a := s.fld F.CLS_TW_ADDR_ADDR 0 g
  if s.twBusy g then s.winErr [slice % 4]
  else
    let s1 := s.twBegin g slice table bank
    if tableSize table ≤ a then s1.twRefuse g [slice % 4]
    else if table = 10 then s1.twRun ⟨g, 1, slice % 4, a, 0#96⟩
    else s1.setWord .CLS_TW_DATA (s1.clsWord (slice % 4) table (if banked table then bank % 2 else 0) a) 0 g

/-- The MAC entry in DATA0-2. -/
def State.twEntry (s : State) (g : Nat) : BitVec 96 :=
  BitVec.ofNat 96 ((s.word .CLS_TW_DATA 0 g).toNat + (s.word .CLS_TW_DATA 1 g).toNat * 2 ^ 32 + (s.word .CLS_TW_DATA 2 g).toNat * 2 ^ 64)

/-- The queues of a peer entry that entry a of a bank would hold (R157): QBASE is a multiple of 8, at most 15,608, and no other
valid entry of the bank has it. -/
def State.qbaseOk (s : State) (bank a w : Nat) : Bool :=
  let q := bits (BitVec.ofNat 32 w) 13 0
  bits (BitVec.ofNat 32 w) 30 30 == 0 ||
  (q % 8 == 0 && decide (q ≤ 15608) && (List.range 1024).all (fun k =>
    let e := peerEnt (s.clsWord 0 7 bank k)
    k == a || !e.valid || e.qbase != q))

/-- A window write (R60, R68, R70): tables 0-8 in all slices, inside a presence window, never the active bank nor, until
DRAINED, the newly inactive bank or what it reaches; the receive-SC map is refused; a MAC entry is written where it stands. -/
def State.twWrite (s : State) (o : Origin) (slice table bank : Nat) : State :=
  let g := o.grp
  let a := s.fld F.CLS_TW_ADDR_ADDR 0 g
  let all := [0, 1, 2, 3]
  let w := (s.word .CLS_TW_DATA 0 g).toNat
  if s.twBusy g then s.winErr (if table ≤ 8 then all else [slice % 4])
  else
    let s1 := s.twBegin g slice table bank
    if table = 10 then
      if !o.main ∨ tableSize 10 ≤ a then s1.twRefuse g [slice % 4]
      else
        s1.twRun ⟨g, 2, slice % 4, a, s.twEntry g⟩
    else if 9 ≤ table then s1.twRefuse g [slice % 4]
    else if !s.presence then (s1.twRefuse g all).fault5 o .CLS_TW_CMD 0
    else if tableSize table ≤ a then s1.twRefuse g all
    else if banked table then
      if bank % 2 = s.bank ∨ !s.cls.drained ∨ (table = 7 ∧ !s.qbaseOk (bank % 2) a w) then s1.twRefuse g all
      else s1.setClsAll table (bank % 2) a (withP w)
    else if !s.cls.drained && s.reaches table a then s1.twRefuse g all
    else s1.setClsAll table 0 a (withP w)

/-- A MAC-table command by key or flush (R70): PF0, Iaholt, the service cores. -/
def State.twMac (s : State) (o : Origin) (slice op table bank : Nat) : State :=
  let g := o.grp
  if s.twBusy g then s.winErr [slice % 4]
  else
    let s1 := s.twBegin g slice table bank
    if !o.main then s1.twRefuse g [slice % 4] else s1.twRun ⟨g, op, slice % 4, 0, s.twEntry g⟩

/-- Such a command of a row that names its slice alone: TABLE and BANK of TW_CMD stay as they are. -/
def State.twKey (s : State) (o : Origin) (slice op : Nat) : State :=
  s.twMac o slice op (s.fld F.CLS_TW_CMD_TABLE 0 o.grp) (s.fld F.CLS_TW_CMD_BANK 0 o.grp)

/-- A bad replicated word is copied from the next slice (R67). DESIGN CHOICE (log entry 31): when the copied word is bad in that
slice too, slice k reports it again and awaits another repair. -/
def State.parityRepair (s : State) (slice word : Nat) : State :=
  let k := slice % 4
  match s.cls.repairs.find? (fun e => e.1 == k && e.2 == word) with
  | some e =>
    let tb := e.2 % 2 ^ 27
    let key := fun (n : Nat) => n * 2 ^ 27 + tb
    let w := s.cls.mem.look clsDflt (key ((k + 1) % 4))
    let s1 := { s with cls := { s.cls with
      mem := s.cls.mem.put clsDflt (key k) w
      repairs := s.cls.repairs.filter (fun x => x != e) } }
    if evenW w then s1 else s1.perr k (key k) false
  | none => s

/-- The write of CLS_LP_MODE: MODE never holds 0b11 (R70). -/
def State.writeLpMode (s : State) (o : Origin) (p : Nat) (v : W32) : State :=
  s.putReg o .CLS_LP_MODE p v (fun w => bits w 31 30 != 3)

/-- The write of CLS_AGE: 0 or 30-65,535 (R64, R70). A write of 0 cancels the scheduled sweep, a later
write of another value schedules one. -/
def State.writeAge (s : State) (o : Origin) (v : W32) : State :=
  (s.putReg o .CLS_AGE 0 v (fun w => bits w 15 0 == 0 || decide (30 ≤ bits w 15 0))).schedule

/-- The scheduled ageing sweep is due (R64); the next one follows after the period in force now. -/
def State.ageingSweep (s : State) : State :=
  match s.cls.sweepAt with
  | some t =>
    if s.nowNs < t then s
    else
      let u := s.sweep
      { u with cls := { u.cls with sweepAt := some (t + u.sweepPeriod) } }
  | none => s

end Sys2Proof.Machine
end

