-- ==== Sys2Proof/Machine/Shp.lean ====
section
/-!
DEFINITION. The traffic manager's commands (08): the shaper, queue, policer and gate windows (R163, R166, R174), gate lists (R170),
launch times (R172, R173), PTP departures (R212).
-/

namespace Sys2Proof.Machine

/-- A TMG window command refused: its ERR and WIN_ERR (R174). -/
def State.tmgRefuse (s : State) (r : Reg) (g e : Nat) : State := (s.cmdErr r g e).setInt .TMG_INT_STAT 1

/-- A window write's permission: PF0, Iaholt, the service cores. -/
def State.tmgWrite (s : State) (o : Origin) (r : Reg) (idx : Bool) (f : State → State) : State :=
  if !o.main then s.tmgRefuse r o.grp 1 else if !idx then s.tmgRefuse r o.grp 2 else f (s.cmdErr r o.grp 0)

/-! ## Shapers (R161-R163) -/

/-- Buckets of a level: 16,384 queues, 1,024 peers, 130 ports. -/
def shwSize (lvl : Nat) : Nat :=
  match lvl with
  | 0 => 16384
  | 1 => 1024
  | 2 => 130
  | _ => 0

def State.shwLvl (s : State) (g : Nat) : Nat := s.fld F.TMG_SHW_IDX_LEVEL 0 g
def State.shwIdx (s : State) (g : Nat) : Nat := s.fld F.TMG_SHW_IDX_INDEX 0 g

/-- The settings last written to a bucket: those pending, else those in force. -/
def Bucket.cfg (b : Bucket) : Nat × Nat × Nat × Nat × Nat := b.pend.getD (b.rate, b.burst, b.ovh, b.crate, b.weight)

/-- Read a bucket (R174). -/
def State.shwRead (s : State) (o : Origin) : State :=
  let g := o.grp
  if shwSize (s.shwLvl g) ≤ s.shwIdx g then s.tmgRefuse .TMG_SHW_CMD g 2
  else
    let b := s.bucket (s.shwLvl g) (s.shwIdx g)
    let (r, u, v, c, w) := b.cfg
    let e := b.pendAt.getD 0
    let sec := (e / unitsPerSec).toNat
    ((((((s.cmdErr .TMG_SHW_CMD g 0).setWord .TMG_SHW_DATA0 (BitVec.ofNat 32 (fw 31 26 v + fw 19 0 r)) 0 g).setWord
      .TMG_SHW_DATA1 (BitVec.ofNat 32 c) 0 g).setWord .TMG_SHW_DATA2 (BitVec.ofNat 32 (fw 31 20 w + fw 15 0 u)) 0 g).setWord
      .TMG_SHW_DATA3 (BitVec.ofInt 32 (b.tokens / 8)) 0 g).setWord .TMG_SHW_DATA4 (BitVec.ofNat 32 sec) 0 g).setWords .TMG_SHW_DATA5
      [BitVec.ofNat 32 (sec / 2 ^ 32 % 65536)] g |>.setWord .TMG_SHW_DATA6
      (BitVec.ofNat 32 ((e % unitsPerSec).toNat / 65536)) 0 g

/-- Hold new settings for a bucket until its next refill, or the first at or after an epoch (R163). -/
def State.holdBucket (s : State) (lvl i : Nat) (d0 d1 d2 : W32) (at_ : Option Int) : State :=
  let b := s.bucket lvl i
  s.setBucket lvl i { b with
    pend := some (bits d0 19 0, bits d2 15 0, bits d0 31 26, if lvl = 0 then bits d1 19 0 else b.crate, if lvl < 2 then bits d2 31 20 else b.weight)
    pendAt := at_ }

/-- The settings are in the window's ranges. -/
def shwOk (lvl : Nat) (d0 d1 d2 : W32) : Bool :=
  decide (bits d0 19 0 ≤ 800000) && (lvl != 0 || decide (bits d1 19 0 ≤ 800000)) && (decide (2 ≤ lvl) || decide (1 ≤ bits d2 31 20))

/-- A shaper write, at the next refill or at an epoch of disciplined time. -/
def State.shwWrite (s : State) (o : Origin) (epoch : Bool) : State :=
  let g := o.grp
  let lvl := s.shwLvl g
  s.tmgWrite o .TMG_SHW_CMD (decide (s.shwIdx g < shwSize lvl)) (fun t =>
    let d0 := t.word .TMG_SHW_DATA0 0 g
    let d1 := t.word .TMG_SHW_DATA1 0 g
    let d2 := t.word .TMG_SHW_DATA2 0 g
    let ns := t.fld F.TMG_SHW_DATA6_EPOCH_NS 0 g
    let e := timeSNs (t.fld F.TMG_SHW_DATA5_EPOCH_S 0 g * 2 ^ 32 + (t.word .TMG_SHW_DATA4 0 g).toNat) ns
    if !shwOk lvl d0 d1 d2 || (epoch && decide (1000000000 ≤ ns)) then t.tmgRefuse .TMG_SHW_CMD g 3
    else if epoch && decide (e ≤ t.timeT) then t.tmgRefuse .TMG_SHW_CMD g 4
    else t.holdBucket lvl (t.shwIdx g) d0 d1 d2 (if epoch then some e else none))

/-! ## Queues and policers (R166, R167, R174) -/

/-- Read a queue (R174); a fill of part of a KiB is rounded down (log entry 34). -/
def State.qwRead (s : State) (o : Origin) : State :=
  let g := o.grp
  let k := s.fld F.TMG_QW_IDX_QUEUE 0 g
  let q := s.queue k
  (((s.cmdErr .TMG_QW_CMD g 0).setWord .TMG_QW_DATA0 (BitVec.ofNat 32 (fw 31 16 q.qlimit + fw 15 0 q.ylimit)) 0 g).setWord
    .TMG_QW_DATA1 (BitVec.ofNat 32 (s.fill k / 1024 % 2 ^ 28)) 0 g).setWord .TMG_QW_DATA2 (BitVec.ofNat 32 q.frames.length) 0 g

def State.qwWrite (s : State) (o : Origin) : State :=
  let g := o.grp
  s.tmgWrite o .TMG_QW_CMD true (fun t =>
    let k := t.fld F.TMG_QW_IDX_QUEUE 0 g
    t.setQueue k { t.queue k with qlimit := t.fld F.TMG_QW_DATA0_QLIMIT 0 g, ylimit := t.fld F.TMG_QW_DATA0_YLIMIT 0 g })

def State.polwRead (s : State) (o : Origin) : State :=
  let g := o.grp
  let p := s.policer (s.fld F.TMG_POLW_IDX_POLICER 0 g)
  (((s.cmdErr .TMG_POLW_CMD g 0).setWord .TMG_POLW_DATA0 (BitVec.ofNat 32 (fw 31 31 (b2n p.en) + fw 30 30 (b2n p.redAct) + fw 19 0 p.cir)) 0 g).setWord
    .TMG_POLW_DATA1 (BitVec.ofNat 32 p.pir) 0 g).setWord .TMG_POLW_DATA2 (BitVec.ofNat 32 (fw 31 16 p.pbs + fw 15 0 p.cbs)) 0 g

/-- The settings of a policer from its words. -/
def Policer.load (p : Policer) (d0 d1 d2 : W32) : Policer :=
  { p with
    en := nbit d0.toNat 31
    redAct := nbit d0.toNat 30
    cir := bits d0 19 0, pir := bits d1 19 0, pbs := bits d2 31 16, cbs := bits d2 15 0 }

/-- PIR ≥ CIR and PBS ≥ CBS. -/
def polOk (d0 d1 d2 : W32) : Bool := decide (bits d0 19 0 ≤ bits d1 19 0) && decide (bits d2 15 0 ≤ bits d2 31 16)

def State.polwWrite (s : State) (o : Origin) : State :=
  let g := o.grp
  s.tmgWrite o .TMG_POLW_CMD true (fun t =>
    let d0 := t.word .TMG_POLW_DATA0 0 g
    let d1 := t.word .TMG_POLW_DATA1 0 g
    let d2 := t.word .TMG_POLW_DATA2 0 g
    let k := t.fld F.TMG_POLW_IDX_POLICER 0 g
    if polOk d0 d1 d2 then t.setPolicer k ((t.policer k).load d0 d1 d2) else t.tmgRefuse .TMG_POLW_CMD g 3)

/-! ## Gate lists (R170, R174) -/

/-- Entry k of a port's admin list. -/
def admDflt (_ : Nat) : BitVec 8 × Nat := (0xFF#8, 0)
def State.admEntry (s : State) (p k : Nat) : BitVec 8 × Nat := s.tmg.admin.look admDflt (p * 64 + k)
def State.setAdm (s : State) (p k : Nat) (v : BitVec 8 × Nat) : State :=
  { s with tmg := { s.tmg with admin := s.tmg.admin.put admDflt (p * 64 + k) v } }

def State.gcwRead (s : State) (o : Origin) : State :=
  let g := o.grp
  let e := s.admEntry (s.fld F.TMG_GCW_IDX_PORT 0 g) (s.fld F.TMG_GCW_IDX_ENTRY 0 g)
  ((s.cmdErr .TMG_GCW_CMD g 0).setWord .TMG_GCW_DATA0 (e.1.setWidth 32) 0 g).setWord .TMG_GCW_DATA1 (BitVec.ofNat 32 e.2) 0 g

/-- An entry interval in its range. -/
def ivalOk (n : Nat) : Bool := decide (256 ≤ n) && decide (n ≤ 1000000000)

/-- Write an admin entry: accepted only inside a presence window. -/
def State.gcwWrite (s : State) (o : Origin) : State :=
  let g := o.grp
  if !s.presence then (s.tmgRefuse .TMG_GCW_CMD g 1).fault5 o .TMG_GCW_CMD 0
  else
    let n := s.fld F.TMG_GCW_DATA1_INTERVAL_NS 0 g
    if ivalOk n then
      (s.cmdErr .TMG_GCW_CMD g 0).setAdm (s.fld F.TMG_GCW_IDX_PORT 0 g) (s.fld F.TMG_GCW_IDX_ENTRY 0 g)
        (BitVec.ofNat 8 (s.fld F.TMG_GCW_DATA0_GATES 0 g), n)
    else s.tmgRefuse .TMG_GCW_CMD g 3

/-- ConfigChange on a port (R170): the admin values become pending until the change time. -/
def State.gateConfig (s : State) (p : Nat) : State :=
  let base := timeSNs (s.fld F.TMG_PORT_BASE_S_HI_S p * 2 ^ 32 + (s.word .TMG_PORT_BASE_S_LO p).toNat) (s.fld F.TMG_PORT_BASE_NS_NS p)
  let cyc := s.fld F.TMG_PORT_CYCLE_NS_NS p
  let l : GateList := {
    base := base, cycle := cyc, ext := s.fld F.TMG_PORT_EXT_NS_NS p
    entries := (List.range (s.fld F.TMG_PORT_CFG_ADMIN_LEN p)).map (fun k => s.admEntry p k) }
  let per : Int := (cyc * 65536 : Nat)
  let want := s.timeT + 65536000
  let at_ := if s.timeT < base then base else if per = 0 then want else base + (want - base + per - 1) / per * per
  s.setGatePort p { s.gatePort p with pend := some (l, at_) }

/-- A write of CFG_CHANGE: inside a presence window. -/
def State.configChange (s : State) (o : Origin) (p : Nat) : State :=
  if s.presence then s.gateConfig p else s.fault5 o .TMG_PORT_CFG p

/-- The change time of a port's pending list (R170): it becomes operational. -/
def State.gateChange (s : State) (p : Nat) : State :=
  let q := s.gatePort p
  match q.pend with
  | none => s
  | some (l, t) =>
    if s.timeT < t then s
    else
      let q1 := { q with oper := some l, pend := none }
      let (k, b) := q1.now s.timeT
      (s.setGatePort p { q1 with entry := k, gates := b }).setInt .TMG_INT_STAT 3

/-- The entry of a port's list into which disciplined time falls (R170). -/
def State.gateAdvance (s : State) (p : Nat) : State :=
  let q := s.gatePort p
  let (k, b) := q.now s.timeT
  s.setGatePort p { q with entry := k, gates := b }

/-! ## Launch times (R172, R173, R212) -/

/-- The head frame of a port's privileged queue. -/
def State.pqHead (s : State) (x k : Nat) : Option Frame := (s.queue (privQueue x k)).frames.head?.bind s.frame?

/-- A launch lead of 400 ns on a line port. -/
def lineLead : Int := 26214400

/-- The head of a host port's privileged queue is due (R172): the port selects. -/
def State.launchDue (s : State) (n k : Nat) : State :=
  match s.pqHead n (k % 2) with
  | some f =>
    match f.launch with
    | some t => if s.timeT < t - launchLead then s else s.selectTx n
    | none => s.selectTx n
  | none => s

/-- The head of a line port's privileged queue is released into stage 2 (R173): it takes its class, SecY, peer and PN as any frame
does; a frame that finds frames before it in its egress queue, or its SA not hot, is counted late. A poisoned frame is dropped (R191, R196). -/
def State.launchRelease (s : State) (n k : Nat) : State :=
  match s.pqHead (64 + n) (k % 2) with
  | none => s
  | some f =>
    let due := match f.launch with
      | some t => decide (t - lineLead ≤ s.timeT)
      | none => true
    let late := match f.launch with
      | some t => decide (t - lineLead + s.lateNs (64 + n) < s.timeT)
      | none => false
    if !due then s
    else
      if s.poisoned f then (s.dropFrame f).count .cel 0 (f.pages.headD 0 / 2 ^ 30) 12
      else
      let s0 := if late && !f.lateCnt then s.noteLate (64 + n) else s
      if late && s.flag F.TMG_PORT_CFG_LATE_DROP (64 + n) then (s0.dropFrame f 2).count .tmg 2 (64 + n) 2
      else
        let f1 := { f with stage := .fifo, pages := [], lateCnt := f.lateCnt || late }
        let s1 := (s0.unqueue (privQueue (64 + n) (k % 2)) f).setFrame f1
        let s2 := s1.classifyEnc f1
        match s2.frame? f.id with
        | some g =>
          let cold := match s2.curSa g.secy with
            | some a => !(s2.sa a).hot
            | none => true
          let behind := g.launch.isSome && !g.lateCnt && (cold || !(s2.queue g.queue).frames.isEmpty)
          if behind then (s2.setFrame { g with lateCnt := true }).noteLate (64 + n) else s2
        | none => s2

/-- The head of a privileged queue has not started by its launch time plus LATE_NS (R172): dropped, or sent at the first
opportunity; counted late once. On a line port the late test stands at release. -/
def State.launchLate (s : State) (p k : Nat) : State :=
  match s.pqHead p (k % 2) with
  | none => s
  | some f =>
    match f.launch with
    | none => s
    | some t =>
      let lim := (if p < 64 then t else t - lineLead) + s.lateNs p
      if s.timeT ≤ lim ∨ f.lateCnt then s
      else if s.flag F.TMG_PORT_CFG_LATE_DROP p then ((s.dropFrame f 2).count .tmg 2 p 2).noteLate p
      else (s.setFrame { f with lateCnt := true }).noteLate p

/-- A PTP event frame has missed its departure (R212): dropped before its commit point and counted. -/
def State.ptpMissed (s : State) (id : Nat) : State :=
  match s.frame? id with
  | some f =>
    let gone := match f.launch with
      | some d => decide (d + 131072 < s.timeT + launchLead)
      | none => false
    if f.ptpDep && gone && f.stage != .committed then ((s.dropFrame f 2).count .tim 0 0 2).setInt .TIM_INT_STAT 6 else s
  | none => s

end Sys2Proof.Machine
end

