-- ==== Sys2Proof/Machine/Image.lean ====
section
/-!
DEFINITION. The rennet image (13): its copies in flash, header, signature and blocks (R264-R270), the records and how ST06 applies
and checks them (R271-R276), and the pass-through (R279-R281).
-/

namespace Sys2Proof.Machine

/-! ## Copies (R264-R269) -/

/-- n octets from offset a of cells that list nothing below a; an erased octet reads 0xFF. -/
def octRun (t : Tab Byte) (a n : Nat) : List Byte :=
  match n with
  | 0 => []
  | n + 1 =>
    match t with
    | [] => 0xFF#8 :: octRun [] (a + 1) n
    | (i, v) :: r => if i = a then v :: octRun r (a + 1) n else 0xFF#8 :: octRun ((i, v) :: r) (a + 1) n

/-- n octets of the flash from offset a. -/
def Flash.octs (f : Flash) (a n : Nat) : List Byte := octRun (f.cells.dropWhile (fun (e : Nat × Byte) => decide (e.1 < a))) a n

/-- k octets from position n as a number, least significant first. -/
def leAt (l : List Byte) (n k : Nat) : Nat := leNat ((l.drop n).take k)

/-- n rounded up to a multiple of m. -/
def roundUp (n m : Nat) : Nat := (n + m - 1) / m * m

/-- Where copy k (1 A, 2 B) begins. -/
def Flash.copyAt (f : Flash) (k : Nat) : Nat := if k = 2 then f.size / 2 else 0

/-- SIG_OFF, BLOCK_OFF and IMAGE_LEN of an image of n blocks (R266). -/
def sigOff (n : Nat) : Nat := roundUp (0x100 + 48 * n) 256
def blockOff (n : Nat) : Nat := roundUp (sigOff n + 256) 65536
def imageLen (n : Nat) : Nat := blockOff n + 65536 * n

/-- BLOCK_COUNT and IMAGE_COUNTER of a header. -/
def hdrBlocks (h : List Byte) : Nat := leAt h 24 4
def hdrCounter (h : List Byte) : Nat := leAt h 16 8

/-- A label: octets 0x20-0x7E, then zeros to the end. -/
def labelOk (l : List Byte) : Bool :=
  (l.dropWhile (fun b => decide (0x20 ≤ b.toNat) && decide (b.toNat ≤ 0x7E))).all (· == 0#8)

/-- A well-formed header of a copy that may take half octets (R264, R266, R267). -/
def hdrOk (h : List Byte) (half : Nat) : Bool :=
  let n := hdrBlocks h
  h.take 8 == [0x5E#8, 0x6B#8, 0x08#8, 0x64#8, 1#8, 0#8, 0#8, 1#8] && leAt h 8 4 == 0x64085F1A && decide (leAt h 12 2 ≤ 0x0B01) &&
    leAt h 14 2 == 0 && decide (1 ≤ hdrCounter h) && decide (1 ≤ n) && decide (n ≤ 4095) && leAt h 28 4 == imageLen n &&
    leAt h 32 4 == 0x100 && leAt h 36 4 == sigOff n && leAt h 40 4 == blockOff n && leAt h 44 4 == 0 &&
    labelOk ((h.drop 48).take 32) && (h.drop 80).all (· == 0#8) && decide (imageLen n ≤ half)

/-- Header, digest list and signature block of copy k. -/
def Flash.header (f : Flash) (k : Nat) : List Byte := f.octs (f.copyAt k) 256
def Flash.digestList (f : Flash) (k : Nat) : List Byte := f.octs (f.copyAt k + 0x100) (48 * hdrBlocks (f.header k))
def Flash.sigBlock (f : Flash) (k : Nat) : List Byte := f.octs (f.copyAt k + sigOff (hdrBlocks (f.header k))) 256

/-- Block b of copy k. -/
def Flash.block (f : Flash) (k b : Nat) : List Byte := f.octs (f.copyAt k + blockOff (hdrBlocks (f.header k)) + 65536 * b) 65536

/-- The checks of ST05 (R269): 0, or the failure code 3 or 4. -/
def State.sigCheck (s : State) (hdr dig sig : List Byte) : Nat :=
  if sha384 (sig.take 97) != s.fuses.keyHash || !ecdsaOk (sig.take 97) (hdr ++ dig) ((sig.drop 100).take 48) ((sig.drop 148).take 48) then 3
  else if hdrCounter hdr < s.ledger.rollback then 4
  else 0

/-- Block b of copy k agrees with a digest list. -/
def Flash.blockOk (f : Flash) (dig : List Byte) (k b : Nat) : Bool := sha384 (f.block k b) == (dig.drop (48 * b)).take 48

/-! ## Register records (R273, R274) -/

/-- The image loader may write this field (R274). -/
def FieldDef.loadable (f : FieldDef) : Bool := f.acc == .rw || f.acc == .rwp || f.acc == .rwi

/-- A register's own rule on its word, beside the ranges of its fields (R40, R64, R119, R216, R323). -/
def State.regRule (s : State) (r : Reg) (i : Nat) (w : W32) : Bool :=
  match r with
  | .TIM_OUT_PERIOD => i == 0 || bits w 29 0 == 0 || decide (s.fld F.TIM_OUT_WIDTH_NS i < bits w 29 0)
  | .TIM_OUT_WIDTH =>
    if i = 0 then decide (bits w 29 0 < 1000000000) else s.fld F.TIM_OUT_PERIOD_NS i == 0 || decide (bits w 29 0 < s.fld F.TIM_OUT_PERIOD_NS i)
  | .HPT_FC_THR => decide (bits w 8 0 < bits w 17 9) && decide (bits w 17 9 ≤ bits w 26 18)
  | .MKA_TIME0 => decide (3 * bits w 15 0 ≤ bits w 31 16)
  | .CLS_AGE => bits w 15 0 == 0 || decide (30 ≤ bits w 15 0)
  | .TCK_RESP => !(bits w 28 28 == 1 && bits w 27 25 == 0)
  | _ => true

/-- ST06 writes VALUE under MASK to the register at an address; none when the record is invalid (R274, R344). -/
def State.imageWrite (s : State) (a : Nat) (m v : W32) : Option State :=
  match findReg a with
  | none => none
  | some (x, i) =>
    let can := x.flds.filter FieldDef.loadable
    let old := s.word x.reg i
    let mc := fieldMask can
    let w := (old &&& ~~~(m &&& mc)) ||| (v &&& m &&& mc)
    let acuReg := x.reg == .ACU_RBASE || x.reg == .ACU_RPAGES || x.reg == .ACU_RATTR
    if x.flds.any (fun f => f.acc == .rws) || (v &&& m &&& ~~~(mc ||| ignored x.reg)) != 0#32 ||
        can.any (fun f => !f.lim.isEmpty && !f.lim.any (fun e => decide (e.1 ≤ bits w f.hi f.lo) && decide (bits w f.hi f.lo ≤ e.2))) ||
        !s.regRule x.reg i w || (acuReg && i / 16 != 80 && i / 16 != 81) then none
    else
      let t := s.setWord x.reg w i
      some (if x.reg == .TCK_RESP || x.reg == .TCK_RESP_WIN then { t with tck := { t.tck with raises := t.tck.raises.put (fun _ => []) i [] } } else t)

/-- The 32-bit words of a body. -/
def wordsOf (b : List Byte) : List W32 := (chunk 4 (b.length / 4 + 1) b).map (fun o => BitVec.ofNat 32 (leNat o))

/-- REG32: pairs of address and value. -/
def State.loadRegs (s : State) (l : List W32) : Option State :=
  match l with
  | a :: v :: t => (s.imageWrite a.toNat 0xFFFFFFFF#32 v).bind (fun s1 => s1.loadRegs t)
  | _ => some s

/-- REG_MASK: triples of address, mask and value. -/
def State.loadMasks (s : State) (l : List W32) : Option State :=
  match l with
  | a :: m :: v :: t => (s.imageWrite a.toNat m v).bind (fun s1 => s1.loadMasks t)
  | _ => some s

/-- REG_ARRAY: values at a stride. -/
def State.loadArray (s : State) (a stride : Nat) (l : List W32) : Option State :=
  match l with
  | [] => some s
  | v :: t => (s.imageWrite a 0xFFFFFFFF#32 v).bind (fun s1 => s1.loadArray (a + stride) stride t)

/-- What ST06 sets to none before its first record (R273). -/
def State.imageClear (s : State) : State :=
  let s1 := (List.range 64).foldl (fun t n => (((t.setFld F.HPT_CFG_FORM 15 n).setFld F.LPT_CFG_FORM 15 n).setFld F.HPT_MAP_VALID 0 n)) s
  let s2 := (List.range 2048).foldl (fun t n => (t.setFld F.SEC_SECY_CFG_VALID 0 n).setFld F.MKA_CA_CFG_VALID 0 n) s1
  (List.range 512).foldl (fun t a => (t.setClsAll 8 0 a (withP 0)).setClsAll 8 1 a (withP 0)) s2

/-! ## The other records (R272, R275) -/

/-- PORT_MAP: octet n to HPT_MAP of HPn. -/
def State.loadMap (s : State) (n : Nat) (b : List Byte) : Option State :=
  match b with
  | [] => some s
  | o :: t =>
    if o.getLsbD 6 then none
    else ((s.setFld F.HPT_MAP_VALID (b2n o.msb) n).setFld F.HPT_MAP_LINE (o.toNat % 64) n).loadMap (n + 1) t

/-- A table word an image may hold: no reserved KIND, no prefix beyond /80, QBASE as R157 asks. -/
def tableWordOk (target : Nat) (w : W32) : Bool :=
  if target < 6 then bits w 30 29 != 3 && (bits w 30 29 != 1 || decide (bits w 28 22 ≤ 80))
  else if target = 7 then bits w 30 30 == 0 || (bits w 13 0 % 8 == 0 && decide (bits w 13 0 ≤ 15608))
  else true

/-- TABLE, targets 0-8: entries from FIRST on in every slice, both banks of a banked table. -/
def State.loadTable (s : State) (target a : Nat) (l : List W32) : Option State :=
  match l with
  | [] => some s
  | w :: t =>
    if tableSize target ≤ a || !tableWordOk target w then none
    else
      let s1 := s.setClsAll target 0 a (withP w.toNat)
      (if banked target then s1.setClsAll target 1 a (withP w.toNat) else s1).loadTable target (a + 1) t

/-- TABLE, target 10: static MAC entries; one that finds its bucket full is invalid (DEDUCED, log entry 21). -/
def State.loadMacs (s : State) (slice : Nat) (l : List W32) : Option State :=
  match l with
  | a :: b :: c :: t =>
    let e := withMP (a.toNat + b.toNat * 2 ^ 32 + c.toNat * 2 ^ 64)
    if meStatic e then
      match s.macInsert slice (mkMac (meMac e) (meLport e) (mePeer e) (meAge e) true) with
      | (s1, true) => s1.loadMacs slice t
      | (_, false) => none
    else none
  | _ => some s

/-- No bit outside a window DATA register's writable fields. -/
def plainBits (r : Reg) (w : W32) : Bool := (w &&& ~~~(fieldMask ((regFields r).filter FieldDef.loadable))) == 0#32

/-- SHAPER. -/
def State.loadShaper (s : State) (lvl i : Nat) (l : List W32) : Option State :=
  match l with
  | a :: b :: c :: t =>
    if decide (i < shwSize lvl) && shwOk lvl a b c && plainBits .TMG_SHW_DATA0 a && plainBits .TMG_SHW_DATA1 b && plainBits .TMG_SHW_DATA2 c
    then (s.holdBucket lvl i a b c none).loadShaper lvl (i + 1) t
    else none
  | _ => some s

/-- QUEUE. -/
def State.loadQueue (s : State) (i : Nat) (l : List W32) : Option State :=
  match l with
  | w :: t =>
    if i < 16384 then (s.setQueue i { s.queue i with qlimit := bits w 31 16, ylimit := bits w 15 0 }).loadQueue (i + 1) t else none
  | [] => some s

/-- POLICER. -/
def State.loadPolicer (s : State) (i : Nat) (l : List W32) : Option State :=
  match l with
  | a :: b :: c :: t =>
    if decide (i < 1024) && polOk a b c && plainBits .TMG_POLW_DATA0 a && plainBits .TMG_POLW_DATA1 b && plainBits .TMG_POLW_DATA2 c then
      (s.setPolicer i ((s.policer i).load a b c)).loadPolicer (i + 1) t
    else none
  | _ => some s

/-- GATE: admin entries from 0 on. -/
def State.loadGate (s : State) (p k : Nat) (l : List W32) : Option State :=
  match l with
  | a :: b :: t =>
    if plainBits .TMG_GCW_DATA0 a && plainBits .TMG_GCW_DATA1 b && ivalOk (bits b 30 0) then
      (s.setAdm p k (BitVec.ofNat 8 (bits a 7 0), bits b 30 0)).loadGate p (k + 1) t
    else none
  | _ => some s

/-- Apply one record of a type with its body, whose length is LEN; none when it is invalid (R272, R274, R275). -/
def State.loadRecord (s : State) (ty : Nat) (b : List Byte) : Option State :=
  let ws := wordsOf b
  let w := fun (k : Nat) => (ws.getD k 0#32).toNat
  let n := b.length
  let z3 := leAt b 1 3 == 0
  match ty with
  | 0x01 => if n % 8 = 0 then s.loadRegs ws else none
  | 0x02 => if n % 12 = 0 then s.loadMasks ws else none
  | 0x03 => if 12 ≤ n ∧ n = 12 + 4 * w 2 ∧ w 1 % 4 = 0 then s.loadArray (w 0) (w 1) (ws.drop 3) else none
  | 0x10 => if n = 64 then s.loadMap 0 b else none
  | 0x20 =>
    let tg := (oct b 0).toNat
    let words := leAt b 2 2
    if n < 12 ∨ oct b 1 ≠ 0#8 ∨ n ≠ 12 + 4 * words * w 2 then none
    else if tg ≤ 8 ∧ words = 1 then s.loadTable tg (w 1) (ws.drop 3)
    else if tg = 10 ∧ words = 3 ∧ w 1 < 4 then s.loadMacs (w 1) (ws.drop 3)
    else none
  | 0x30 =>
    let k := (oct b 0).toNat
    if n = 36 ∧ 1 ≤ k ∧ z3 ∧ tplValid (ws.drop 1) then
      some { s with yrd := { s.yrd with tpls := s.yrd.tpls.put (fun _ => []) k (ws.drop 1) } }
    else none
  | 0x40 => if 12 ≤ n ∧ (oct b 0).toNat ≤ 2 ∧ z3 ∧ n = 12 + 12 * w 2 then s.loadShaper (oct b 0).toNat (w 1) (ws.drop 3) else none
  | 0x41 => if 8 ≤ n ∧ n = 8 + 4 * w 1 then s.loadQueue (w 0) (ws.drop 2) else none
  | 0x42 => if 8 ≤ n ∧ n = 8 + 12 * w 1 then s.loadPolicer (w 0) (ws.drop 2) else none
  | 0x43 =>
    let p := (oct b 0).toNat
    if 8 ≤ n ∧ p < 128 ∧ z3 ∧ 1 ≤ w 1 ∧ w 1 ≤ 64 ∧ n = 8 + 8 * w 1 then
      (s.loadGate p 0 (ws.drop 2)).map (fun t =>
        let t1 := t.setFld F.TMG_PORT_CFG_ADMIN_LEN (w 1) p
        { t1 with flash := { t1.flash with gateReq := if t1.flash.gateReq.contains p then t1.flash.gateReq else t1.flash.gateReq ++ [p] } })
    else none
  | 0x50 =>
    if n ≠ 88 then none
    else if leAt b 0 8 = s.fuses.serial.toNat then some { s with flash := { s.flash with keys := s.flash.keys ++ [b.drop 8] } }
    else some s
  | 0x60 =>
    if 12 ≤ n ∧ n = 12 + w 2 ∧ w 1 % 16 = 0 then
      some { s.wrMem (0x31000000 + w 1) (b.drop 12) with flash := { s.flash with patches := s.flash.patches ++ [(w 0, w 1, w 2)] } }
    else none
  | 0x70 => if n = 48 then some { s with flash := { s.flash with migr := s.flash.migr ++ [b] } } else none
  | _ => none

/-- What ST06 has come to: the state, or the block, offset and check number of a failure with the failure code. -/
inductive Loaded where
  | ok (s : State)
  | failed (s : State) (blk off chk code : Nat)

/-- The records of block k from offset off on: they end exactly at its USED (R270, R271). -/
def State.loadRecords (s : State) (fuel k off : Nat) (b : List Byte) : Loaded :=
  match fuel with
  | 0 => if b.isEmpty then .ok s else .failed s k off 0 6
  | fuel + 1 =>
    if b.isEmpty then .ok s
    else
      let len := leAt b 4 4
      if b.length < 8 ∨ leAt b 2 2 ≠ 0 ∨ len % 4 ≠ 0 ∨ b.length < 8 + len then .failed s k off 0 6
      else
        match s.loadRecord (leAt b 0 2) ((b.drop 8).take len) with
        | some s1 => s1.loadRecords fuel k (off + 8 + len) (b.drop (8 + len))
        | none => .failed s k off 0 6

/-- A block's header (R270), then its records. -/
def State.loadBlock (s : State) (k : Nat) (b : List Byte) : Loaded :=
  let used := leAt b 4 4
  if leAt b 0 4 ≠ k ∨ 65520 < used ∨ leAt b 8 8 ≠ 0 ∨ !((b.drop (16 + used)).all (· == 0xFF#8)) then .failed s k 0 0 6
  else s.loadRecords (used / 8 + 1) k 16 ((b.drop 16).take used)

/-- Blocks k on: each against its digest before any of its records (R269, R274). -/
def State.loadBlocks (s : State) (n k : Nat) : Loaded :=
  match n with
  | 0 => .ok s
  | n + 1 =>
    if !s.flash.blockOk s.flash.digests s.start.image k then .failed s k 0 0 5
    else
      match s.loadBlock k (s.flash.block s.start.image k) with
      | .ok s1 => s1.loadBlocks n (k + 1)
      | f => f

/-! ## Final checks (R276) -/

/-- A configured port: its FORM is not 0xF. -/
def State.configured (s : State) (p : Nat) : Bool := s.portCfgForm p != 15

/-- Check 1 for one port. -/
def State.check1 (s : State) (p : Nat) : Bool :=
  let f := s.portCfgForm p
  !s.configured p || ((p % 64) % formLanes f == 0 && fecOk f (s.portCfgFec p) &&
    (List.range (formLanes f - 1)).all (fun k => !s.configured (p + k + 1)))

/-- Check 2 for one line port: its host ports exist, lie in its slice and fit its rate (R34, R50). -/
def State.check2 (s : State) (lp : Nat) : Bool :=
  let hs := s.hostsOf lp
  let fl := s.portCfgForm (64 + lp)
  hs.isEmpty || (s.configured (64 + lp) && hs.all (fun h => s.configured h && h / 16 == lp / 16) &&
    (fl == 0 || hs.any (fun h => s.portCfgForm h == 0) ||
      decide ((hs.map (fun h => formRate (s.portCfgForm h))).sum ≤ formRate fl)))

/-- No two equal. -/
def allDiffer (l : List Nat) : Bool :=
  match l with
  | [] => true
  | a :: t => !t.contains a && allDiffer t

/-- The valid SecYs of the image. -/
def State.imageSecys (s : State) : List Nat := (List.range 2048).filter (fun n => s.flag F.SEC_SECY_CFG_VALID n)

/-- The SCI an image gives a SecY. -/
def State.imageSci (s : State) (n : Nat) : Nat := (s.word .SEC_SECY_SCI_HI n).toNat * 2 ^ 32 + (s.word .SEC_SECY_SCI_LO n).toNat

/-- Check 3 for one SecY among the valid ones. -/
def State.check3 (s : State) (ys : List Nat) (n : Nat) : Bool :=
  let lp := s.secyLine n
  let tpl := s.fld F.SEC_SECY_CFG_TPL n
  s.imageSci n % 65536 != 0 && (s.xpn n || decide (formRate (s.portCfgForm (64 + lp)) ≤ 100000)) &&
    (s.flag F.SEC_SECY_CFG_INCLUDE_SCI n || (s.fld F.CLS_LP_MODE_MODE lp == 0 && ys.all (fun m => m == n || s.secyLine m != lp))) &&
    decide (s.fld F.SEC_SECY_CFG_CLEAR_TAGS n + b2n (s.carrier tpl).isSome ≤ 2) && (tpl == 0 || s.yrd.tpls.idxs.contains tpl)

/-- Check 4: selection entries and peers of both banks (R54, R157). -/
def State.check4 (s : State) : Bool :=
  [0, 1].all (fun b =>
    ((List.range 512).all (fun a =>
      let w := s.clsWord 0 8 b a
      bits w 30 30 == 0 || (s.flag F.SEC_SECY_CFG_VALID (bits w 10 0) && s.secyLine (bits w 10 0) == a / 8))) &&
    (let ps := ((List.range 1024).map (fun a => peerEnt (s.clsWord 0 7 b a))).filter (fun e => e.valid)
     allDiffer (ps.map (fun e => e.qbase))))

/-- A wrapped-key record as the tack room's KEK opens it (R126). -/
def State.openRecord (s : State) (w : List Byte) : Option (Nat × List Byte × List Byte) := s.kek?.bind (fun k => (keyUnwrap k w).bind readCakPlain)

/-- The CKN that a CAK slot will hold after ST07: a ledger record's before the image's (R126). -/
def State.cknLoaded (s : State) (slot : Nat) : Option (List Byte) :=
  let l := (s.ledger.caks.map (·.2)) ++ s.flash.keys
  (l.findSome? (fun w => (s.openRecord w).filter (fun x => x.1 == slot))).map (fun x => x.2.2)

/-- Check 5: CAs: a SecY each, and on one line port neither a slot nor a CKN twice (R96). -/
def State.check5 (s : State) : Bool :=
  let cs := (List.range 2048).filter (fun n => s.flag F.MKA_CA_CFG_VALID n)
  cs.all (fun n => s.flag F.SEC_SECY_CFG_VALID (s.fld F.MKA_CA_CFG_SECY n)) && allDiffer (cs.map (fun n => s.fld F.MKA_CA_CFG_SECY n)) &&
    allDiffer (cs.map (fun n => s.fld F.MKA_CA_CFG_CAK_SLOT n * 64 + s.secyLine (s.fld F.MKA_CA_CFG_SECY n))) &&
    allDiffer (cs.filterMap (fun n => (s.cknLoaded (s.fld F.MKA_CA_CFG_CAK_SLOT n)).map (fun k =>
      beNat (1#8 :: k) * 64 + s.secyLine (s.fld F.MKA_CA_CFG_SECY n))))

/-- Check 6 (R178): BUF and DIAG have a protection field, 0 ENC+INT, 1 ENC, 2 NONE; keystream only under ENC+INT. -/
def State.check6 (s : State) : Bool :=
  !(s.flag F.CEL_RCFG_BUF_KS && s.fld F.CEL_RCFG_BUF_PROT != 0) && decide (s.fld F.CEL_RCFG_BUF_PROT < 2) && decide (s.fld F.CEL_RCFG_DIAG_PROT < 3)

/-- The slots of wrapped keys that the tack room's KEK opens. -/
def State.wrapSlots (s : State) : List Nat :=
  s.flash.keys.filterMap (fun w => (s.openRecord w).map (fun (x : Nat × List Byte × List Byte) => x.1))

/-- Patches that do not overlap. -/
def patchesApart (l : List (Nat × Nat × Nat)) : Bool :=
  match l with
  | [] => true
  | a :: t => t.all (fun b => decide (a.2.1 + a.2.2 ≤ b.2.1) || decide (b.2.1 + b.2.2 ≤ a.2.1)) && patchesApart t

/-- The first final check that fails, 0 when every one passes (R276). -/
def State.finalCheck (s : State) : Nat :=
  let ys := s.imageSecys
  if !(List.range 128).all s.check1 then 1
  else if !(List.range 64).all s.check2 then 2
  else if !allDiffer (ys.map s.imageSci) || !ys.all (s.check3 ys) then 3
  else if !s.check4 then 4
  else if !s.check5 then 5
  else if !s.check6 then 6
  else if !allDiffer s.wrapSlots || decide (1024 < s.flash.keys.length) then 7
  else if decide (1 < s.flash.migr.length) || (!s.flash.migr.isEmpty && !s.flag F.PAR_CTL_MIG_EN) then 8
  else if !s.flash.patches.all (fun p => p.1 == 0x20B01 && decide (p.2.1 + p.2.2 ≤ 262144)) || !patchesApart s.flash.patches then 9
  else 0

/-- ST06 lowers a host port's MAX_FRAME to what its line port takes (R22). -/
def State.lowerMax (s : State) (h : Nat) : State :=
  match s.lineOf h with
  | some lp =>
    let most := s.maxFrame (64 + lp) - s.growthOn lp
    if most < s.maxFrame h then s.setFld F.HPT_MAX_FRAME_MAX_FRAME most h else s
  | none => s

/-- The rules of ACUs 80 and 81 that an image has written take force when ST06 ends (DEDUCED, log entry 21). -/
def State.imageAcu (s : State) (u : Nat) : State :=
  if s.acuShadow u == (s.acu u).rules || !rulesOk (s.acuShadow u) then s else s.setAcu u { s.acu u with rules := s.acuShadow u }

/-- ST06 as a whole (R273-R276). -/
def State.applyImage (s : State) : Loaded :=
  let n := hdrBlocks s.flash.hdr
  match s.imageClear.loadBlocks n 0 with
  | .ok s1 =>
    match s1.finalCheck with
    | 0 =>
      let s2 := (List.range 64).foldl State.lowerMax s1
      let s3 := (s2.imageAcu 80).imageAcu 81
      let s4 := ([0, 1, 2, 3, 4].foldl State.armOut s3).schedule
      .ok { s4 with flash := { s4.flash with
        run := sha384 (s4.flash.hdr ++ s4.flash.digests), runCnt := hdrCounter s4.flash.hdr, src := s4.start.image } }
    | c => .failed s1 0 0 c 6
  | f => f

/-- STA_IMG_ERR of a failed ST06, and the detail of STA_FAIL (R269, R276). -/
def State.imageErr (s : State) (blk off chk : Nat) : State :=
  { s with flash := { s.flash with errBlk := blk, errOff := off, errChk := chk } }
def imageDetail (blk chk : Nat) : Nat := (if chk = 0 then blk else chk) % 256

/-! ## The pass-through (R279-R281) -/

/-- CMD.ERR of an STA_XSPI command, which is then over. -/
def State.xspiErr (s : State) (g e : Nat) : State := s.cmdErr .STA_XSPI_CMD g e

/-- A pass-through command begins: refused unchanged while BUSY, and for masters other than PF0, Iaholt and SMBus. -/
def State.xspiBegin (s : State) (o : Origin) (op : Nat) (e : State → Nat) : State :=
  let g := o.grp
  if s.flash.op.isSome then s
  else if !(o == .pf0 || o == .iaholt || o == .smbus) then s.xspiErr g 1
  else
    match e s with
    | 0 =>
      { s.setWord .STA_XSPI_CMD (depo (depo (s.word .STA_XSPI_CMD 0 g) 30 28 0) 31 31 1) 0 g with
        flash := { s.flash with op := some (g, op, (s.word .STA_XSPI_ADDR 0 g).toNat) } }
    | k => if k = 2 then (s.xspiErr g 2).fault5 o .STA_XSPI_CMD 0 else s.xspiErr g k

/-- Whether n octets from a fall in the source copy. -/
def Flash.inSource (f : Flash) (a n : Nat) : Bool :=
  if f.src = 0 then false else decide (a < f.copyAt f.src + f.size / 2) && decide (f.copyAt f.src < a + n)

/-- The flash answers and suspends (R265). -/
def Flash.writable (f : Flash) : Bool := f.sfdp && f.suspend

/-- READ of LEN octets at ADDR; LEN is written with the command. -/
def State.xspiRead (s : State) (o : Origin) (len : Nat) : State :=
  (if s.flash.op.isSome || !(o == .pf0 || o == .iaholt || o == .smbus) then s else s.setFld F.STA_XSPI_CMD_LEN len 0 o.grp).xspiBegin o 1 (fun t =>
    let a := (t.word .STA_XSPI_ADDR 0 o.grp).toNat
    let n := t.fld F.STA_XSPI_CMD_LEN 0 o.grp
    if !t.flash.sfdp then 5 else if t.flash.size < a + (if n = 0 then 256 else n) then 4 else 0)

/-- PROGRAM and ERASE: presence, then the source copy, alignment and range, then the flash. -/
def State.xspiWrite (s : State) (o : Origin) (op n : Nat) : State :=
  s.xspiBegin o op (fun t =>
    let a := (t.word .STA_XSPI_ADDR 0 o.grp).toNat
    if !t.presence then 2
    else if a % n ≠ 0 ∨ t.flash.size < a + n then 4
    else if t.flash.inSource a n then 3
    else if !t.flash.writable then 5 else 0)

/-- VERIFY of a copy. -/
def State.xspiVerify (s : State) (o : Origin) : State := s.xspiBegin o 4 (fun t => if t.flash.sfdp then 0 else 5)

/-- What a READ brings into DATA. -/
def State.xspiData (s : State) (g a : Nat) : State :=
  let n := s.fld F.STA_XSPI_CMD_LEN 0 g
  let l := wordsOf (s.flash.octs a (if n = 0 then 256 else n))
  s.setWords .STA_XSPI_DATA l g

/-- Program n octets of DATA at a: a cell keeps its zero bits (DEDUCED, log entry 21). -/
def State.xspiProgram (s : State) (g a : Nat) : State :=
  let os := ((List.range 64).map (fun k => leOctets 4 (s.word .STA_XSPI_DATA k g).toNat)).flatten
  { s with flash := { s.flash with cells :=
      (os.zip (List.range 256)).foldl (fun (t : Tab Byte) (e : Byte × Nat) =>
        t.put (fun _ => 0xFF#8) (a + e.2) (e.1 &&& t.look (fun _ => 0xFF#8) (a + e.2))) s.flash.cells } }

/-- Erase the 64 KiB sector at a. -/
def State.xspiErase (s : State) (a : Nat) : State :=
  { s with flash := { s.flash with cells := s.flash.cells.filter (fun (e : Nat × Byte) => decide (e.1 < a) || decide (a + 65536 ≤ e.1)) } }

/-- The checks of VERIFY on copy k: every check of ST04 and ST05 and every block digest (R279). -/
def State.copyOk (s : State) (k : Nat) : Bool :=
  let h := s.flash.header k
  let d := s.flash.digestList k
  hdrOk h (s.flash.size / 2) && s.sigCheck h d (s.flash.sigBlock k) == 0 && (List.range (hdrBlocks h)).all (fun b => s.flash.blockOk d k b)

/-- VERIFY ends: the copy's digest and counter, VER_OK, and the source that moves to an equal copy (R280). -/
def State.xspiVerified (s : State) (g a : Nat) : State :=
  let k := if a = 0 then 1 else 2
  let h := s.flash.header k
  if !hdrOk h (s.flash.size / 2) then (s.setFld F.STA_XSPI_CMD_VER_OK 0 0 g).xspiErr g 6
  else
    let d := sha384 (h ++ s.flash.digestList k)
    let s1 := ((s.setWords .STA_XSPI_VER (wordsOf d) g).setWord .STA_XSPI_VER_CNT_LO (wordOf (hdrCounter h) 0) 0 g).setWord
      .STA_XSPI_VER_CNT_HI (wordOf (hdrCounter h) 1) 0 g
    if s.copyOk k then
      let s2 := s1.setFld F.STA_XSPI_CMD_VER_OK 1 0 g
      if d == s.flash.run && s.flash.src != 0 then { s2 with flash := { s2.flash with src := k } } else s2
    else (s1.setFld F.STA_XSPI_CMD_VER_OK 0 0 g).xspiErr g 6

/-- The running command completes and BUSY clears (R281); the flash may report an error. -/
def State.xspiDone (s : State) (pass : Bool) : State :=
  match s.flash.op with
  | none => s
  | some (g, op, a) =>
    let s1 := { s with flash := { s.flash with op := none } }
    let s2 := s1.setFld F.STA_XSPI_CMD_BUSY 0 0 g
    if !pass then s2.xspiErr g 5
    else if op = 1 then s2.xspiData g a
    else if op = 2 then s2.xspiProgram g a
    else if op = 3 then s2.xspiErase a
    else s2.xspiVerified g a

/-! ## Shadow copies in OVT (R191, R278) -/

/-- The octets of image-derived OVT line n: 64 octets of a block of copy k. -/
def State.ovtLine (s : State) (k n : Nat) : BitVec 512 :=
  octLine (s.flash.octs (s.flash.copyAt k + blockOff (hdrBlocks (s.flash.header k)) + 64 * n) 64)

/-- Write image-derived OVT lines first .. first + n - 1 from copy k. -/
def State.ovtWrite (s : State) (k first n : Nat) : State :=
  (List.range n).foldl (fun t i =>
    match placeOf t.cel.layout 3 (first + i) with
    | some a => t.celWrite a (t.ovtLine k (first + i))
    | none => t) s

/-- The shadow copies ST09 writes (R248). -/
def State.ovtShadow (s : State) : State := if s.flash.src = 0 then s else s.ovtWrite s.flash.src 0 s.ovtImage

/-- The reload of lost OVT lines from the source copy ends (R191, R278): each line's block is checked against the running digest list; a
flash that fails to answer, or a block that changed, leaves its lines poisoned and is counted. -/
def State.ovtReload (s : State) (pass : Bool) : State :=
  s.cel.ovtBad.foldl (fun t r =>
    let ok := pass && s.flash.src != 0 &&
      (List.range (r.2 / 1024 + 2)).all (fun b => decide (r.1 + r.2 ≤ (r.1 / 1024 + b) * 1024) || s.flash.blockOk s.flash.digests s.flash.src (r.1 / 1024 + b))
    if ok then
      let st := ((placeOf t.cel.layout 3 r.1).map lineStk).getD 0
      (t.ovtWrite s.flash.src r.1 r.2).count .cel 0 st 15 r.2
    else { (t.setInt .STA_INT_STAT 7) with flash := { t.flash with reloadFails := t.flash.reloadFails + 1 } })
    { s with cel := { s.cel with ovtBad := [] } }

end Sys2Proof.Machine
end

