-- ==== Sys2Proof/Machine/Tack.lean ====
section
/-!
DEFINITION. The tack room (15): its log (R324), the presence window (R319, R320), the SEAL and TMP inputs (R304, R305), the clock,
crystal and glitch monitors (R306, R307), stimulation (R318), and its register commands (R316, R323).
-/

namespace Sys2Proof.Machine

/-! ## The log (R324) -/

/-- Write a log entry: 64 entries, the oldest overwritten. -/
def State.tckLog (s : State) (kind resp stage count src : Nat) : State :=
  let t := s.tck
  let e : TckEnt := {
    ts := t.ts, kind := kind, resp := BitVec.ofNat 4 resp, stage := stage, bat := t.onBat, count := count, src := src, seq := t.logSeq + 1 }
  { s with tck := { t with log := (e :: t.log).take 64, logSeq := t.logSeq + 1 } }

/-- The words of an entry. -/
def TckEnt.words (e : TckEnt) : List W32 :=
  [wordOf e.ts 0, wordOf e.ts 1,
   BitVec.ofNat 32 (fw 31 28 e.kind + fw 27 24 e.resp.toNat + fw 23 21 e.stage + fw 20 20 (b2n e.bat) + fw 15 8 (min e.count 255) + fw 4 0 e.src),
   BitVec.ofNat 32 e.seq]

/-- The log window reads entry IDX (R323). -/
def State.tckLogRead (s : State) (o : Origin) : State :=
  let g := o.grp
  s.setWords .TCK_LOGW_DATA (match s.tck.log[s.fld F.TCK_LOGW_IDX_AGE 0 g]? with
    | some e => e.words
    | none => [0#32, 0#32, 0#32, 0#32]) g

/-! ## The presence window (R319, R320) -/

/-- What the end of the window ends: a provisioning session (R128), Iaholt sessions it opened (R336). -/
def State.windowEnds (s : State) : State :=
  let s1 := s.provEnd 2
  { s1 with sess := s1.sess.filter (fun (e : Nat × IahSess) => !e.2.byWin) }

/-- After a change of what holds the window: its opening or closing is logged and acted on. -/
def State.presLook (s : State) (was : Bool) : State :=
  let now := s.presence
  if now == was then s
  else if now then (s.tckLog 5 0 0 0 0).setInt .TCK_INT_STAT 2
  else ((s.windowEnds).tckLog 6 0 0 0 0).setInt .TCK_INT_STAT 3

/-- A window that a press opened ends. -/
def State.windowClose (s : State) : State := ({ s with tck := { s.tck with pressWin := none } }).presLook s.presence

/-- PRESENCE_N has been low for tPRES_DEB: counted when it was released since the last press and the loop is intact and its
source not raised (R304, R319). The press also serves pairing (R116, R232). -/
def State.press (s : State) : State :=
  let t := s.tck
  if t.pressed then s
  else
    let s1 := { s with tck := { t with pressed := true } }
    if t.sealBad || t.raised.getLsbD 0 then s1
    else
      let s2 := { s1 with tck := { s1.tck with pressWin := some (t.ts + s.fld F.TCK_CTL_WIN_MIN * 60 * 32768) } }
      (s2.presLook s.presence).pairPress

/-- PRESENCE_N is released. -/
def State.pressRelease (s : State) : State := { s with tck := { s.tck with pressed := false } }

/-! ## SEAL, TMP and the strap (R304, R305, R320, R381) -/

/-- TMP input n is active in a sample. -/
def State.tmpActive (s : State) (tmp : BitVec 4) (n : Nat) : Bool :=
  nbit (s.fld F.TCK_CTL_TMP_EN) n && (tmp.getLsbD n == nbit (s.fld F.TCK_CTL_TMP_POL) n)

/-- Tamper input n: raised at two consecutive active samples, until one that is not. -/
def State.tmpLook (s : State) (prev now : BitVec 4) (n : Nat) : State :=
  if now.getLsbD n then (if prev.getLsbD n then s.level (1 + n) true else s) else s.level (1 + n) false

/-- The sample of tSEAL_SAMP: the loop's resistance in units of 10 ohm, the TMP levels, and the strap's reading. -/
def State.sealSample (s : State) (r10 : Nat) (tmp : BitVec 4) (strap : Bool) : State :=
  let t := s.tck
  let was := s.presence
  let bad := sealState r10 != 0
  let now := BitVec.ofNat 4 (((List.range 4).map (fun n => b2n (s.tmpActive tmp n) * 2 ^ n)).sum)
  let s1 := { s with tck := { t with
    sealR := min r10 65535
    sealBad := bad
    tmpRd := now
    strapRd := strap
    strap := if t.strapRd == strap then strap else t.strap } }
  let s2 := if bad == t.sealBad then s1.level 0 bad else s1
  let s3 := (List.range 4).foldl (fun u n => u.tmpLook t.tmpRd now n) s2
  let s4 := if s3.tck.raised.getLsbD 0 then { s3 with tck := { s3.tck with pressWin := none } } else s3
  (s4.level 9 (s4.tck.strap && !bad)).presLook was

/-! ## Clocks, crystal, glitches (R306, R307) -/

/-- What a reference out of range does beside its source: 0 TIME_REF_IN, 1 PCIe, 2 HBM, 3 host lanes, 4 line lanes, 5 tether,
6 MGT. -/
def State.clockLost (s : State) (ref : Nat) : State :=
  match ref with
  | 0 => s.refSwitch
  | 1 => { s with pci := { s.pci with speed := 0, width := 0 } }
  | 2 => [0, 1, 2, 3].foldl (fun t k => t.loseStack k) s
  | 3 => (List.range 64).foldl (fun t p => t.linkDown p) s
  | 4 => (List.range 64).foldl (fun t p => t.linkDown (64 + p)) s
  | 5 => { s with par := { s.par with tetherUp := 0 } }
  | _ => s

/-- A clock monitor's window ends. The REFCLK_T monitor does not run when ST03 found no clock there (R223). -/
def State.clockWindow (s : State) (ref : Nat) (r : ClkRes) : State :=
  if 7 ≤ ref ∨ (ref = 5 ∧ !s.start.refT) ∨ s.stimulated 12 then s
  else
    let bad := r != .inRange
    let was := s.tck.clkBad.getLsbD ref
    let s1 := if bad == was then s
      else { s with tck := { s.tck with clkBad := s.tck.clkBad ^^^ BitVec.ofNat 7 (2 ^ ref) } }
    let s2 := s1.level 12 (s1.tck.clkBad != 0#7)
    if bad && !was then s2.clockLost ref else s2

/-- A reference clock phase is too short. -/
def State.clockGlitch (s : State) (ref : Nat) : State :=
  if 7 ≤ ref ∨ (ref = 5 ∧ !s.start.refT) then s else s.monEvent 13

/-- The crystal against the RC oscillator, once per second. -/
def State.crystal (s : State) (ok : Bool) : State := ({ s with tck := { s.tck with xtalOk := ok } }).level 7 (!ok)

/-- A short excursion of VCORE, VSRD_A, VHBM_DD or VIO18. -/
def State.supplyGlitch (s : State) (k : Nat) : State := if k = 0 ∨ k = 1 ∨ k = 3 ∨ k = 6 then s.monEvent 11 else s

/-! ## Stimulation (R318) -/

/-- Sources that have a monitor. -/
def monitored (src : Nat) : Bool := decide (src ≤ 7) || (decide (10 ≤ src) && decide (src ≤ 14))

/-- A monitor is driven into its alarm condition. -/
def State.stimBegin (s : State) (src : Nat) : State := { s with tck := { s.tck with stimSt := 1, stimSrc := src } }

/-- A TCK_CMD command: PF0, Iaholt and SMBus (R323). -/
def State.tckCmd (s : State) (o : Origin) (f : State → State) : State :=
  if o == .pf0 || o == .iaholt || o == .smbus then f s else s.cmdErr .TCK_CMD o.grp 1

/-- STIM of one monitor: refused while its source is raised, while another runs, for a source with no monitor, and on VBAT (R318; log
entry 37). -/
def State.stim (s : State) (o : Origin) (src : Nat) : State :=
  s.tckCmd o (fun t =>
    let t1 := t.setFld F.TCK_CMD_SRC (src % 32) 0 o.grp
    if t1.tck.raised.getLsbD (src % 32) || !monitored (src % 32) || t1.tck.stimSt == 1 || t1.tck.onBat then t1.cmdErr .TCK_CMD o.grp 6
    else (t1.cmdErr .TCK_CMD o.grp 0).stimBegin (src % 32))

/-- A stimulation ends: its result; a condition that really holds is raised now. -/
def State.stimEnd (s : State) (pass holds : Bool) : State :=
  if s.tck.stimSt != 1 then s
  else
    let k := s.tck.stimSrc
    let s1 := (({ s with tck := { s.tck with stimSt := if pass then 2 else 3 } }).tckLog 3 0 0 0 k).setInt .TCK_INT_STAT 6
    let s2 := if pass then s1 else s1.raise 25
    if holds && k != 11 && k != 13 && k != 14 then s2.level k true else s2

/-- Every STIM_ROT_S the next of the clock and core temperature monitors; 0 disables. -/
def State.stimRotate (s : State) : State :=
  let k := s.tck.stimNext
  if s.fld F.TCK_CTL_STIM_ROT_S = 0 ∨ s.tck.stimSt = 1 then s
  else
    let s1 := { s with tck := { s.tck with stimNext := if k = 14 then 12 else k + 1 } }
    if s1.tck.raised.getLsbD k then s1 else s1.stimBegin k

/-! ## Register commands (R316, R319, R323) -/

/-- CLOSE. -/
def State.tckClose (s : State) (o : Origin) : State := s.tckCmd o (fun t => (t.cmdErr .TCK_CMD o.grp 0).windowClose)

/-- A write of TCK_FLAG: inside a presence window a 0 clears. -/
def State.flagClear (s : State) (o : Origin) (v : W32) : State :=
  let keep := s.tck.flags &&& v.setWidth 26
  if keep == s.tck.flags then s
  else if s.presence then { s with tck := { s.tck with flags := keep } }
  else s.fault5 o .TCK_FLAG 0

/-- A write of a response record: RESP, or RESP_WIN (win). Accepted, it restarts the source's count. -/
def State.respWrite (s : State) (o : Origin) (src : Nat) (win : Bool) (v : W32) : State :=
  if 26 ≤ src then s
  else
    let r := if win then Reg.TCK_RESP_WIN else Reg.TCK_RESP
    let ok := fun (w : W32) => win || !(bits w 28 28 == 1 && bits w 27 25 == 0)
    let t := s.putReg o r src v ok
    if s.presence && !s.outOfRange (fieldsFor o r) v && ok (s.wouldBe o r src 0 v) then
      { t with tck := { t.tck with raises := t.tck.raises.put (fun _ => []) src [] } }
    else t

end Sys2Proof.Machine
end

