-- ==== Sys2Proof/Machine/Start.lean ====
section
/-!
DEFINITION. Resets and the start sequence (12): what each reset keeps (R247), the start record (R249, R250), steps ST01 to ST14
(R248) with their alternates (R251), safe hold (R252-R254), the STA commands (R263).
-/

namespace Sys2Proof.Machine

/-! ## Resets (R247) -/

/-- Registers that the tack room keeps (R302, R323); STIM_ROT_S is not among them. -/
def tackRegs (s : State) : Tab W32 :=
  s.regs.filter (fun e => match regList[e.1 / 2 ^ 22]? with
    | some r => r == Reg.TCK_CTL || r == Reg.TCK_RESP || r == Reg.TCK_RESP_WIN
    | none => false)

/-- What the pins do at a reset: nothing driven, the gate closed. -/
def State.pinsDown (s : State) : State := (((s.setAct false).setGate false).setBeat false).setFence false

/-- The time unit after a cold or warm reset: counter, OFFSET, RATE, ANCHOR, state and age (R207, R247). -/
def Tim.kept (t : Tim) : Tim := { t with ptp := {}, caps := [], outs := [] }

/-- A reset of a kind: 0 power-on, 1 cold, 2 warm (R247). The start waits for START_BEGIN. -/
def State.resetTo (s : State) (kind cause : Nat) : State :=
  let s1 := s.pinsDown
  let s2 := if kind = 0 then ({ s1 with tck := { s1.tck with strap := false } }).windowClose else s1.timeReset
  let t := { s2.tck with raised := s2.tck.raised &&& ~~~(BitVec.ofNat 26 (2 ^ 21)) }
  let s3 : State := {
    pending := s2.pending
    regs := tackRegs s2
    out := s2.out
    zeroized := s2.zeroized
    ledger := s2.ledger
    fuses := s2.fuses
    straps := s2.straps
    tck := t
    tim := if kind = 0 then {} else s2.tim.kept
    pwr := if kind = 0 then { sup := s2.pwr.sup } else { s2.pwr with tjLeft := [] }
    flash := {
      cells := s2.flash.cells
      size := s2.flash.size
      sfdp := s2.flash.sfdp
      suspend := s2.flash.suspend }
    par := {
      actIn := s2.par.actIn
      fenceIn := s2.par.fenceIn
      settled := s2.par.settled
      beatOk := s2.par.beatOk }
    alarm := { queue := s2.alarm.queue }
    jtag := {
      ir := s2.jtag.ir
      extest := s2.jtag.extest && kind == 2 }
    obs := {
      on := kind == 0 || s2.pwr.stage == 0
      epoch := if kind = 2 then s2.obs.epoch else 0 }
    rng := { draws := s2.rng.draws }
    start := {
      held := true
      kind := kind
      cause := cause
      began := if kind = 0 then 0 else s2.counter } }
  ({ s3 with cls := { s3.cls with sweepAt := none } }.setFld F.TCK_CTL_STIM_ROT_S 3600).schedule

/-- VCORE or VAUX power-good, or VCORE at its reset level. -/
def State.powerOn (s : State) (c : PorCause) : State := s.resetTo 0 (match c with
  | .powerGood => 0
  | .vcoreReset => 1)

/-! ## The start record (R249, R250) -/

/-- Change the present start's record. -/
def State.updRec (s : State) (f : StartRec → StartRec) : State :=
  s.ledgerPut (blkStart s.start.num) (fun l => match l.log with
    | r :: t => if r.num = s.start.num then { l with log := f r :: t } else l
    | [] => l)

/-- The step that counts as failed in the previous start (R250). -/
def prevFailed (l : Ledger) (cause : Nat) : Option Nat :=
  match l.log with
  | [] => none
  | r :: _ =>
    if l.ro || r.erased then none
    else if r.result = 2 ∨ r.result = 3 then (if r.failStep = 0 then none else some r.failStep)
    else if r.result = 0 ∧ r.step ≠ 0 ∧ (5 ≤ cause ∧ cause ≤ 7) then some r.step
    else none

/-- ST04, ST05 and ST06 count as one step (R252). -/
def stepClass (n : Nat) : Nat := if n = 5 ∨ n = 6 then 4 else n

/-- Step n counts as failed in the previous start. -/
def State.failedBefore (s : State) (n : Nat) : Bool :=
  match s.start.prevFail with
  | some k => stepClass k == stepClass n
  | none => false

/-- Copy B is taken (R251, R259). -/
def State.wantsB (s : State) : Bool :=
  !s.ledger.ro && (s.failedBefore 4 || (s.ledger.copyB && s.ledger.failHdr == some (sha384 (s.flash.header 1))))

/-- Step n begins: marked before it begins. -/
def State.beginStep (s : State) (n : Nat) : State :=
  ({ s with start := { s.start with
    step := n
    stepAt := s.counter } }).updRec
    (fun r => { r with step := n, started := r.started ||| BitVec.ofNat 14 (2 ^ (n - 1)) })

/-- ms of a counter interval. -/
def msSince (a b : Nat) : Nat := (b - a) / 65536000000

/-- Step n ends with an outcome: 1 passed, 2 alternate or skipped, 3 failed. -/
def State.endStep (s : State) (n oc : Nat) : State :=
  let alt := if oc = 2 then s.start.alt ||| BitVec.ofNat 14 (2 ^ (n - 1)) else s.start.alt
  let s1 := ({ s with start := { s.start with
    alt := alt
    outcome := s.start.outcome.put (fun _ => 0) (n - 1) oc
    ms := s.start.ms.put (fun _ => 0) (n - 1) (msSince s.start.stepAt s.counter) } }).updRec
    (fun r => { r with finished := r.finished ||| BitVec.ofNat 14 (2 ^ (n - 1)), alt := alt })
  if oc = 2 then s1.setInt .STA_INT_STAT 1 else s1

/-- Step n is the one running. -/
def State.inStep (s : State) (n : Nat) : Bool :=
  s.start.step == n && !s.start.held && !s.start.restart && !s.start.safeHold && !s.start.fwDead

/-! ## Failure and safe hold (R252, R253) -/

/-- Safe hold: nothing transmitted, the role given up, BEAT_OUT still. -/
def State.enterHold (s : State) : State :=
  let s1 := (({ s with start := { s.start with safeHold := true } }).updRec (fun r => { r with result := 3 })).setInt .STA_INT_STAT 2
  let s2 := if s1.ledger.safeHold then s1
    else (s1.ledgerPut (blkState 2) (fun l => { l with safeHold := true })).ledgerEvent .safeHold
  (((if s2.isActive then s2.endAct else s2).setAct false).gateLook).setBeat false

/-- Step n fails with a code and a detail. -/
def State.failStep (s : State) (n code det : Nat) : State :=
  let det := det % 256
  let s1 := (s.endStep n 3).updRec (fun r => { r with result := 2, failStep := n, failCode := code, failDet := det })
  let s2 := { s1 with start := { s1.start with
    failVal := true
    failStep := n
    failCode := code
    failDet := det } }
  let s3 := if stepClass n = 4 ∧ s2.start.image = 1 then
      s2.ledgerPut (blkState 3) (fun l => { l with failHdr := some (sha384 s2.flash.hdr) })
    else s2
  if s.ledger.ro || s.failedBefore n then s3.enterHold else { s3 with start := { s3.start with restart := true } }

/-! ## The beginning of a start (R248, R249, R374) -/

/-- Every supply of the board is within its levels. -/
def State.suppliesOk (s : State) : Bool := (List.range 9).all (fun k => !(s.supply k).uv && !(s.supply k).ov)

/-- The sequencer opens the ledger, writes a new record and begins ST01. -/
def State.startBegin (s : State) : State :=
  if !s.start.held || s.par.fenceIn || !s.suppliesOk then s
  else
    let last := match s.ledger.log with
      | r :: _ => r
      | [] => { num := 0, kind := 0, cause := 0, ts := 0 }
    let n := (last.num + 1) % 2 ^ 32
    let bad := (last.result == 2 || last.result == 3) && last.failStep != 0 && !last.erased
    let s1 := { s with start := { s.start with
      held := false
      num := n
      prevFail := prevFailed s.ledger s.start.cause
      failVal := bad
      failStep := if bad then last.failStep else 0
      failCode := if bad then last.failCode else 0
      failDet := if bad then last.failDet else 0 } }
    (s1.ledgerPut (blkStart n) (fun l =>
      { l with log := ({ num := n, kind := s.start.kind, cause := s.start.cause, ts := s.tck.ts } :: l.log).take 256 })).beginStep 1

/-! ## ST01 to ST03 -/

/-- What is found when VAUX and VBAT were both lost (R303). -/
def State.tackLost (s : State) : State :=
  let t := s.tck
  let s1 := { s with
    regs := s.regs.filter (fun e => match regList[e.1 / 2 ^ 22]? with
      | some r => !(r == Reg.TCK_CTL || r == Reg.TCK_RESP || r == Reg.TCK_RESP_WIN)
      | none => true)
    tck := {
      onBat := t.onBat
      batMark := t.batMark
      raised := t.raised
      strap := t.strap
      strapRd := t.strapRd
      pressed := t.pressed
      sealR := t.sealR
      sealBad := t.sealBad
      tmpRd := t.tmpRd
      xtalOk := t.xtalOk
      clkBad := t.clkBad } }
  s1.raise 8

/-- Isolation begins (R314): ISOLATE, and what an invalid lease does. -/
def State.isolate (s : State) : State :=
  if s.alarm.isolated then s
  else (({ s with alarm := { s.alarm with isolated := true } }).setInt .TCK_INT_STAT 4).leaseLook

/-- ST01: the tack room opened; what it recorded pending isolates the part (R248, R317). -/
def State.st01 (s : State) (answers advances monitors : Bool) : State :=
  if !s.inStep 1 then s
  else if !answers || !advances then s.failStep 1 13 0
  else
    let s1 := if s.tck.power then s else s.tackLost
    let s2 := { s1 with tck := { s1.tck with
      batUsed := s1.tck.batMark
      batMark := s1.tck.onBat } }
    let s3 := if monitors then s2 else s2.raise 25
    let t := s3.tck
    let s4 := if t.pendI || t.pendF || t.pendS || t.zDone || s3.jtag.extest then s3.isolate else s3
    (s4.endStep 1 1).beginStep 2

/-- ST02: the fuses. -/
def State.st02 (s : State) (fuseOk : Bool) : State :=
  if !s.inStep 2 then s else if fuseOk then (s.endStep 2 1).beginStep 3 else s.failStep 2 11 0

/-- The KEK drawn when absent (R125), and the context key (R121). -/
def State.drawKeys (s : State) : State :=
  let (r, s1) := s.drbgReq.draw
  let ((x, y), s0) := s1.split (beOctets 32 (r.setWidth 256).toNat)
  let s2 := if s.tck.kek.present then s
    else { s0 with
      tck := { s0.tck with kek := { present := true, sh0 := x, sh1 := y } }
      start := { s0.start with kekNew := true } }
  let (c, s3) := s2.drbgReq.draw
  let ((a, b), s4) := s3.split (beOctets 32 c.toNat)
  { s4 with ctxKey := { present := true, sh0 := a, sh1 := b } }

/-- ST03: monitors, pace rings, entropy and known-answer tests, then the keys; the references looked at (R202, R223). -/
def State.st03 (s : State) (trips : Bool) (rings : Nat) (health refPin refT : Bool) : State :=
  if !s.inStep 3 then s
  else if !trips then s.failStep 3 12 0
  else if rings < 2 then s.failStep 3 10 0
  else if !health then s.failStep 3 12 0
  else
    let s1 := { s with
      rng := { s.rng with esOk := true }
      start := { s.start with refT := refT }
      pwr := { s.pwr with started := true } }
    let s2 := (s1.drawKeys).shed
    let s3 := s2.refChoose refPin
    let s4 := s3.endStep 3 1
    if s4.ledger.safeHold then s4.enterHold else s4.beginStep 4

/-! ## ST04 to ST07: the image (R260, R261, R269, R276, R127) -/

/-- A copy holds no image: its first four octets are erased (R260). -/
def Flash.blank (f : Flash) (k : Nat) : Bool := f.octs (f.copyAt k) 4 == [0xFF#8, 0xFF#8, 0xFF#8, 0xFF#8]

/-- The outcome of ST04-ST06. -/
def State.copyOutcome (s : State) : Nat := if s.start.image = 2 then 2 else 1

/-- ST04: the flash discovered, the selected copy's header, digest list and signature fetched. -/
def State.st04 (s : State) (readable : Bool) : State :=
  if !s.inStep 4 then s
  else
    let f := s.flash
    let s0 := { s with flash := { f with known := f.sfdp } }
    if !f.sfdp || (f.blank 1 && f.blank 2) then
      if s.ledger.rollback ≠ 0 then s0.failStep 4 2 0
      else ((((s0.endStep 4 1).beginStep 5).endStep 5 1).beginStep 6).endStep 6 1 |>.beginStep 7
    else
      let k := if s.wantsB then 2 else 1
      let s1 := { s0 with
        start := { s0.start with
          image := k
          takeB := k == 2 }
        flash := { s0.flash with
          hdr := f.header k
          digests := f.digestList k
          sig := f.sigBlock k } }
      let s2 := s1.updRec (fun r => { r with image := k })
      if readable && hdrOk (f.header k) (f.size / 2) then (s2.endStep 4 s2.copyOutcome).beginStep 5 else s2.failStep 4 2 0

/-- ST05: signature and anti-rollback (R256, R269). -/
def State.st05 (s : State) : State :=
  if !s.inStep 5 then s
  else
    match s.sigCheck s.flash.hdr s.flash.digests s.flash.sig with
    | 0 => (s.endStep 5 s.copyOutcome).beginStep 6
    | c => s.failStep 5 c 0

/-- ST06: every record applied; the time reference chosen (R202). -/
def State.st06 (s : State) : State :=
  if !s.inStep 6 then s
  else
    match s.applyImage with
    | .ok s1 =>
      let s2 := if s1.flag F.TIM_REF_USE_PIN then s1 else { s1 with tim := { s1.tim with refInt := true } }
      (s2.shed.endStep 6 s2.copyOutcome).beginStep 7
    | .failed s1 blk off chk code => (s1.imageErr blk off chk).failStep 6 code (imageDetail blk chk)

/-- A wrapped-key record rejected at ST07 (R127). -/
def State.unwrapFail (s : State) : State := (s.count .key 0 0 3).setInt .KEY_INT_STAT 3

/-- A wrapped-key record of the image (R127): rejected, it leaves its slot empty and is counted. -/
def State.unwrapImage (s : State) (w : List Byte) : State :=
  match s.openRecord w with
  | some (slot, key, ckn) => s.writeCak slot key ckn false true
  | none => s.unwrapFail

/-- A CAK record of the ledger (R126, R127): it has precedence; rejected, it is erased and its slot empty. -/
def State.unwrapLedger (s : State) (e : Nat × List Byte) : State :=
  let reject := ((s.eraseCak e.1).emptyCak e.1).unwrapFail
  match s.openRecord e.2 with
  | some (slot, key, ckn) => if slot = e.1 then s.writeCak slot key ckn true (s.cakSlot slot).image else reject
  | none => reject

/-- ST07. -/
def State.st07 (s : State) : State :=
  if !s.inStep 7 then s
  else
    let s1 := s.flash.keys.foldl State.unwrapImage s
    let s2 := s1.ledger.caks.foldl State.unwrapLedger s1
    (s2.endStep 7 1).beginStep 8

/-! ## ST08 to ST11 (R251) -/

/-- A stack's ledger level; a read-only ledger gives level 0 (R259). -/
def State.stkLevel (s : State) (k : Nat) : Nat := if s.ledger.ro then 0 else s.ledger.stkLevel.look (fun _ => 0) k

/-- Stacks ST08 tries, in order: from S3 only until two have trained. -/
def State.tried (s : State) (failing : List Nat) : List Nat :=
  let l := ([0, 1, 2, 3] : List Nat).filter (fun k => s.stkLevel k != 2)
  if s.pwr.stage < 3 then l
  else l.filter (fun k => decide ((l.filter (fun j => decide (j < k) && !failing.contains j)).length < 2))

/-- ST08: the stacks that fail, by number. -/
def State.st08 (s : State) (failing : List Nat) : State :=
  if !s.inStep 8 then s
  else
    let l := s.tried failing
    let bad := l.filter (fun k => failing.contains k)
    let out := bad.filter (fun k => s.stkLevel k == 1 || s.failedBefore 8)
    let again := bad.filter (fun k => !out.contains k)
    let alt := s.failedBefore 8 || ([0, 1, 2, 3] : List Nat).any (fun k => s.stkLevel k != 0)
    let s1 := ([0, 1, 2, 3] : List Nat).foldl (fun (t : State) k => t.setStk k { t.stk k with
      mode := if s.stkLevel k = 2 || bad.contains k then .absent else if l.contains k then .init else .off }) s
    let s2 := if bad.isEmpty then s1
      else s1.ledgerPut (blkState 4) (fun g =>
        let v := bad.foldl (fun (t : Tab Nat) k => t.put (fun _ => 0) k (if out.contains k then 2 else 1)) g.stkLevel
        { g with stkLevel := v })
    match again with
    | k :: _ => s2.failStep 8 7 k
    | [] => (s2.endStep 8 (if alt then 2 else 1)).beginStep 9

/-- ST09: the cellar; bad lists stacks whose lines exceed their remap table. -/
def State.st09 (s : State) (bad lines : List Nat) : State :=
  if !s.inStep 9 then s
  else if ([0, 1, 2, 3] : List Nat).any (fun k => (s.stk k).mode == .init && !bad.contains k && decide ((failedOn lines k).length ≤ 4096)) then
    (((s.celInit bad lines).ovtShadow).endStep 9 1).beginStep 10
  else s.failStep 9 9 0

/-- The lane group of a lane: eight lanes, or one tether or MGT lane. -/
def laneGroup (k : Nat) : Nat := if k < 128 then k / 8 else 16 + (k - 128)

/-- Lanes that ST10 calibrates: of configured ports, the tether lanes 128 and 129, and MGT 130. -/
def State.usedLanes (s : State) : List Nat :=
  ((List.range 128).filter s.configured).flatMap (fun p =>
    (List.range (max 1 (formLanes (s.portCfgForm p)))).map (fun k => p + k)) ++ [128, 129, 130]

/-- The coefficients that a lane runs with after ST10; none when it has failed. -/
def State.laneCoef (s : State) (coefs : List (Nat × W32)) (failing : List Nat) (k : Nat) : Option W32 :=
  let alt := !s.ledger.ro && s.ledger.laneAlt.contains (laneGroup k)
  let e := s.ledger.coefs.look (fun _ => {}) k
  if failing.contains k then none
  else if alt then (if e.valid then some e.coef else none)
  else some (((coefs.find? (fun (x : Nat × W32) => x.1 == k)).map (fun (x : Nat × W32) => x.2)).getD 0#32)

/-- ST10: the coefficients the calibration found, and the lanes that did not converge or failed their eye check. -/
def State.st10 (s : State) (coefs : List (Nat × W32)) (failing : List Nat) : State :=
  if !s.inStep 10 then s
  else
    let l := s.usedLanes
    let bad := l.filter (fun k => (s.laneCoef coefs failing k).isNone)
    match bad with
    | k :: _ =>
      let gs := (bad.map laneGroup).filter (fun g => !s.ledger.laneAlt.contains g)
      let s1 := if gs.isEmpty then s
        else s.ledgerPut (blkState 5) (fun g => { g with laneAlt := (g.laneAlt ++ gs).eraseDups })
      s1.failStep 10 8 k
    | [] =>
      let s1 := l.foldl (fun (t : State) k =>
        let c := (s.laneCoef coefs failing k).getD 0#32
        let u := if !s.ledger.ro && s.ledger.laneAlt.contains (laneGroup k) then t else t.storeLane k c
        if k < 128 then u.setPort k { u.port k with coef := c } else u) s
      let alt := !s.ledger.ro && l.any (fun k => s.ledger.laneAlt.contains (laneGroup k))
      (s1.endStep 10 (if alt then 2 else 1)).beginStep 11

/-- An engine is marked in STA_ENG_OUT; a read-only ledger's marks are ignored (R259). -/
def State.engMarked (s : State) (e : Nat) : Bool := !s.ledger.ro && s.ledger.engOut.getLsbD e

/-- An engine after its built-in test. -/
def State.engTested (s : State) (cal : List (Nat × Nat × Nat)) (pass : Bool) (e : Nat) : State :=
  let g := s.eng e
  let c := ((cal.find? (fun (x : Nat × Nat × Nat) => x.1 == e)).map (fun (x : Nat × Nat × Nat) => x.2)).getD (g.ratio, g.tap)
  s.setEng e { g with
    mode := if pass then .inService else .out
    fault := if pass then 0 else 5
    ratio := c.1 % 65536
    tap := c.2 % 256
    tested := true
    passed := pass
    testAt := s.nowNs }

/-- Step 12's skip by configuration (R223). -/
def State.soloByConfig (s : State) : Bool := !s.flag F.PAR_CTL_EN || !s.start.refT

/-- The member runs in SOLO without discovery (R223, R251). -/
def State.soloRuns (s : State) : Bool := s.soloByConfig || s.start.prevFail == some 12

/-- A member that skips discovery claims as soon as R225 lets it. -/
def State.soloTry (s : State) : State :=
  if s.pairRuns && s.soloRuns && s.par.st == .start then s.claimSolo else s

/-- ST14 is entered. -/
def State.begin14 (s : State) : State :=
  let ms := msSince s.start.began s.counter
  (({ s with start := { s.start with entryMs := ms } }).updRec (fun r => { r with entryMs := ms })).beginStep 14

/-- ST13 is entered: skipped when it failed before (R251). -/
def State.begin13 (s : State) : State :=
  let t := s.beginStep 13
  if t.start.prevFail == some 13 then (t.endStep 13 2).begin14 else t

/-- ST12 is entered: skipped by configuration or as its alternate. -/
def State.begin12 (s : State) : State :=
  let t := s.beginStep 12
  if t.soloByConfig then (t.soloTry.endStep 12 1).begin13
  else if t.start.prevFail == some 12 then (t.soloTry.endStep 12 2).begin13 else t

/-- ST11: the engines that fail, and the calibration the tests found. -/
def State.st11 (s : State) (failing : List Nat) (cal : List (Nat × Nat × Nat)) : State :=
  if !s.inStep 11 then s
  else
    let alt := s.failedBefore 11
    let l := List.range 64
    let bad := l.filter (fun e => failing.contains e)
    let s1 := l.foldl (fun (t : State) e => t.engTested cal (!bad.contains e) e) s
    match bad.filter (fun e => !alt && !s.engMarked e) with
    | e :: _ => s1.failStep 11 14 e
    | [] =>
      let marks := BitVec.ofNat 64 ((bad.map (fun e => 2 ^ e)).sum)
      let s2 := if marks == s1.ledger.engOut then s1 else s1.ledgerPut (blkState 6) (fun g => { g with engOut := marks })
      if 64 < bad.length + 2 then s2.failStep 11 10 0
      else
        let out := if alt || l.any s.engMarked then 2 else 1
        ((s2.endStep 11 out).shedEngines).begin12

/-! ## ST12 to ST14 -/

/-- ST12 ends: the member is in STANDBY or in an active state. -/
def State.st12 (s : State) : State :=
  if s.inStep 12 && (s.par.st == .standby || s.isActive) then (s.endStep 12 1).begin13 else s

/-- tST12_MAX: the member continues in START. -/
def State.st12Max (s : State) : State := if s.inStep 12 then (s.endStep 12 1).begin13 else s

/-- ST13 ends at LOCKED. -/
def State.st13 (s : State) : State := if s.inStep 13 && s.locked then (s.endStep 13 1).begin14 else s

/-- tTIME_WAIT: skipped. -/
def State.timeWait (s : State) : State := if s.inStep 13 then (s.endStep 13 2).begin14 else s

/-- What a completed start writes to the State area (R251, R256). -/
def State.closeLedger (s : State) : State :=
  let s1 := if s.start.image ≠ 0 ∧ s.ledger.rollback < s.flash.runCnt then
      s.ledgerPut (blkState 0) (fun l => { l with rollback := s.flash.runCnt })
    else s
  if s.start.image = 2 ∧ !s1.ledger.copyB then s1.ledgerPut (blkState 3) (fun l => { l with copyB := true })
  else if s.start.image = 1 ∧ (s1.ledger.copyB ∨ s1.ledger.failHdr.isSome) then
    s1.ledgerPut (blkState 3) (fun l => { l with copyB := false, failHdr := none })
  else s1

/-- ST14: ports enabled, CAs started, gate lists of the image taken, the record closed. -/
def State.st14 (s : State) : State :=
  if !s.inStep 14 then s
  else
    let s1 := s.endStep 14 1
    let s2 := (({ s1 with zeroized := false, start := { s1.start with step := 15 } }).updRec (fun r => { r with result := 1 })).closeLedger
    let s3 := s2.flash.gateReq.foldl State.gateConfig s2
    let s4 := (List.range 128).foldl (fun t p => if t.portLive p && !(t.port p).link then t.bringUp p else t) (if s3.isActive then s3.startCas else s3)
    s4.setInt .STA_INT_STAT 0

/-! ## Watchdog and restarts -/

/-- The running step exceeds its watchdog (R248): ST12 and ST13 end at their own limits. -/
def State.stepDog (s : State) : State :=
  let n := s.start.step
  if s.inStep n && ((decide (1 ≤ n) && decide (n ≤ 11)) || n == 14) then s.failStep n 1 0 else s

/-- tRESTART has passed since a step failure or a firmware fatal error (R226, R249). -/
def State.restartNow (s : State) : State :=
  if s.start.fwDead then s.resetTo 2 7
  else if s.start.restart then s.resetTo 2 (if s.start.failCode = 1 then 5 else 6) else s

/-! ## FENCE_IN (R228) -/

/-- FENCE_IN rises: FENCED, and reset held. -/
def State.fenceHigh (s : State) : State :=
  let s1 := ((({ s with par := { s.par with fenceIn := true } }).setAct false).gateLook).endBound
  let s2 := (s1.parTo .fenced).resetTo 2 4
  { s2 with par := { s2.par with st := .fenced } }

/-- FENCE_IN falls: the start that follows is a warm reset's. -/
def State.fenceLow (s : State) : State :=
  let s1 := { s with par := { s.par with fenceIn := false } }
  if s1.par.st == .fenced then { s1 with par := { s1.par with st := .start } } else s1

/-! ## STA_CMD (R254, R263) -/

/-- A refused STA_CMD. -/
def State.staRefuse (s : State) (o : Origin) (e : Nat) : State :=
  let t := (s.cmdErr .STA_CMD o.grp e).setInt .STA_INT_STAT 6
  if e = 2 then t.fault5 o .STA_CMD 0 else t

/-- The checks every STA_CMD shares: master, presence. -/
def State.staCmd (s : State) (o : Origin) (f : State → State) : State :=
  if !(o == .pf0 || o == .iaholt || o == .smbus) then s.staRefuse o 1
  else if !s.presence then s.staRefuse o 2
  else f (s.cmdErr .STA_CMD o.grp 0)

def State.staWarm (s : State) (o : Origin) : State := s.staCmd o (fun t => t.resetTo 2 8)
def State.staCold (s : State) (o : Origin) : State := s.staCmd o (fun t => t.resetTo 1 3)

/-- CLEAR_HOLD: the marks of the last two records and the copy-B preference go; then a warm reset. -/
def State.clearHold (s : State) (o : Origin) : State :=
  s.staCmd o (fun t =>
    if !t.start.safeHold then t.staRefuse o 3
    else if t.ledger.ro then t.staRefuse o 4
    else
      let u := t.ledgerPut (blkStart t.start.num) (fun l =>
        { l with log := (l.log.take 2).map (fun r => { r with erased := true }) ++ l.log.drop 2 })
      ((u.ledgerPut (blkStart (t.start.num + 255)) (fun l => l)).ledgerPut (blkState 2) (fun l => { l with safeHold := false, copyB := false, failHdr := none })).resetTo 2 9)

/-- CLEAR_ALT: stack, lane and engine levels as if no start had failed, from the next start. -/
def State.clearAlt (s : State) (o : Origin) : State :=
  s.staCmd o (fun t =>
    if t.ledger.ro then t.staRefuse o 4
    else t.ledgerPut (blkState 4) (fun l => { l with stkLevel := [], engOut := 0, laneAlt := [] }))

/-- The start-log window (R263). -/
def State.staLogRead (s : State) (o : Origin) : State :=
  let g := o.grp
  s.setWords .STA_LOGW_DATA (match s.ledger.log[s.fld F.STA_LOGW_IDX_AGE 0 g]? with
    | none => [0#32, 0#32, 0#32, 0#32, 0#32, 0#32]
    | some r => [BitVec.ofNat 32 r.num,
      BitVec.ofNat 32 (fw 31 28 r.result + fw 27 24 r.step + fw 23 22 r.kind + fw 21 18 r.cause + fw 17 16 r.image + fw 15 8 r.failCode +
        fw 7 0 r.failDet),
      wordOf r.ts 0, wordOf r.ts 1,
      BitVec.ofNat 32 (fw 29 16 r.started.toNat + r.finished.toNat),
      BitVec.ofNat 32 (fw 29 16 r.alt.toNat + min r.entryMs 65535)]) g

end Sys2Proof.Machine
end

