-- ==== Sys2Proof/Machine/Pair.lean ====
section
/-!
DEFINITION. Pair operation (11) beyond the bolt: HELLO and the tether key (R231), the receiving of records (R233, R234), resync
(R242), the lease (R226), sync (R227, R228), handover (R244), PAR_CMD (R241, R246).
-/

namespace Sys2Proof.Machine

/-! ## Small parts -/

/-- The image digest of R238. -/
def State.digest (s : State) : List Byte := if s.flash.run.isEmpty then zeros 48 else s.flash.run

/-- This member may use the tether at all: its lanes are trained and it is neither isolated nor in safe hold (R253, R314). -/
def State.onTether (s : State) : Bool := s.pairRuns && !s.alarm.isolated

/-- Time since a tether record was last accepted. -/
def State.quiet (s : State) : Nat := s.counter - s.par.lastRx

/-- The key that wraps mirrored keys: the tether key, or K1_ENC in format 1 (R229). -/
def State.mirKey (s : State) : List Byte :=
  match s.par.k1 with
  | some (e, _) => if s.par.format = 1 then e else s.ttKey
  | none => s.ttKey

/-- Mirror time (R234): RATE and T. -/
def State.tellTime (s : State) : State := s.tell 0x30 (.time s.tim.rate s.timeT)

/-- What this member says of itself in a HELLO. -/
def State.helloBody (s : State) : TBody :=
  .hello s.fuses.serial s.slotNo s.par.st (if s.par.format = 1 then 1 else 2) s.digest (BitVec.ofNat 48 s.macBase) s.par.nonce
    (s.flag F.PAR_CTL_PREFER) s.par.actOut

/-- The nonce of this start, drawn before its first HELLO (R231). -/
def State.drawNonce (s : State) : State :=
  if !s.par.nonce.isEmpty then s
  else if !s.drbgKOk then s.drbgRefused
  else
    let (r, s1) := s.drbgReq.draw
    { s1 with par := { s1.par with nonce := beOctets 16 (r.toNat % 2 ^ 128) } }

/-- A HELLO with a zero tag (R230, R231): not stored for resending. -/
def State.helloPlain (s : State) : State :=
  let s1 := s.drawNonce
  let q := s1.par.txSeq + 1
  (({ s1 with par := { s1.par with txSeq := q } }).count .par 0 0 0).emit (.tether q s1.helloBody false)

/-- A keyed HELLO. -/
def State.helloKeyed (s : State) : State := s.sendRec 0x01 s.helloBody

/-- Every 100 ms a member in START sends a HELLO, until it accepts a keyed one. -/
def State.helloTimer (s : State) : State :=
  if !s.onTether || s.soloRuns || s.par.st != .start || s.par.keyedRx || !s.drbgKOk then s
  else if s.tetherKeyed then s.helloKeyed else s.helloPlain

/-! ## The tether key (R229, R231, R232) -/

/-- The tether key from the pair secret and both HELLOs; format 1 derives its own two keys. -/
def State.deriveTether (s : State) : State :=
  let key := s.cakKey 1023
  let me := s.slotNo
  let ctx := if me = 0 then s.par.nonce ++ s.par.ptNonce ++ beOctets 8 s.fuses.serial.toNat ++ beOctets 8 s.par.ptSerial.toNat
    else s.par.ptNonce ++ s.par.nonce ++ beOctets 8 s.par.ptSerial.toNat ++ beOctets 8 s.fuses.serial.toNat
  if key.isEmpty || s.par.nonce.isEmpty || s.par.ptNonce.isEmpty then s
  else if s.par.format = 1 then
    { s with par := { s.par with
      k1 := some (kdf key "SVT pair f1 enc" ctx 32, kdf key "SVT pair f1 auth" ctx 32)
      keyedRx := false } }
  else
    let ((a, b), s1) := s.split (kdf key "SVT pair tether" ctx 32)
    { s1 with
      tetherKey := { present := true, sh0 := a, sh1 := b }
      par := { s1.par with keyedRx := false } }

/-- The format in use with a partner of a format (R229): 1 only with MIG_EN, dual-homed, this member not active. -/
def State.formatFor (s : State) (fmt : Nat) : Nat :=
  if fmt = 2 then 2
  else if fmt = 1 ∧ s.flag F.PAR_CTL_MIG_EN ∧ !s.flag F.PAR_CTL_WIRING ∧ !s.isActive then 1 else 0

/-! ## The partner's state -/

/-- The partner shows a state. A partner that is not in STANDBY and not being resynced confirms nothing (R233). -/
def State.partnerIn (s : State) (st : PairState) : State :=
  let s1 := { s with par := { s.par with
    ptSt := st
    ptKnown := true
    resync := s.par.resync && st != PairState.standby } }
  let s2 := if st != .standby && !s1.par.resync && s1.isActive then s1.ownConfirm else s1
  if s2.par.st == .solo && st == .standby then s2.parTo .active else s2

/-- Claim preference while both members are in START (R241). -/
def State.preferred (s : State) : Bool :=
  let mine := s.flag F.PAR_CTL_PREFER
  if mine != s.par.ptPrefer then mine else s.slotNo == 0

/-- Both in START with equal digests, this member preferred, the partner's ACT_OUT low: claim as SOLO. -/
def State.startClaim (s : State) : State :=
  if s.par.st == .start && s.par.keyedRx && s.par.ptSt == .start && !s.par.ptAct && s.preferred && s.par.ptDigest == s.digest then
    s.claimSolo
  else s

/-! ## Resync (R242) -/

/-- The SAs installed for AN an of a CA's SecY, with the SAK's slot and KN. -/
def State.sakAns (s : State) (n : Nat) : List (Nat × Nat × W32) :=
  let c := s.ca n
  let y := s.caSecy n
  ([0, 1, 2, 3] : List Nat).filterMap (fun an =>
    match ((s.sasOf y an).filter (fun k => (s.sa k).installed)) with
    | [] => none
    | k :: _ => some (an, (s.sa k).slot, if c.hasSak && an == c.latestAn then c.kn else c.prevKn))

/-- Snapshot of one SA: its install, its lease, what its SecY does with it. -/
def State.snapSa (s : State) (k : Nat) : State :=
  let y := s.secy (k / 4)
  let s1 := s.tellSa 2 k
  if 8192 ≤ k then s1
  else
    let s2 := s1.tell 0x12 (.pnLease k (s1.sa k).leaseReq)
    let s3 := if y.txValid && y.txAn == k % 4 then s2.tellSa 7 k else s2
    if y.pendValid && y.pendAn == k % 4 then s3.tellSa 5 k else s3

/-- Snapshot of one SAK of a CA. -/
def State.snapSak (s : State) (n slot an : Nat) (kn : W32) (sscis : List (W64 × W32)) (salt : BitVec 96) : State :=
  ((s.busLoad slot).busTt).tell 0x10 (.sak n (keyWrap s.ttKey (s.saKey slot)) (s.saKey slot).length kn an sscis salt)

/-- Snapshot of one CA with its peers and the SAs of its SecY. -/
def State.snapCa (s : State) (n : Nat) : State :=
  let c := s.ca n
  let y := s.caSecy n
  let s1 := ((s.tellCa n).tell 0x21 (.mnLease n c.mnReq))
  let s2 := (s1.sakAns n).foldl (fun t (e : Nat × Nat × W32) => t.snapSak n e.2.1 e.1 e.2.2 c.sscis ((t.sa (4 * y + e.1)).salt)) s1
  let s2 := match c.pend with
    | some p => s2.snapSak n p.slot p.an p.kn p.sscis p.salt
    | none => s2
  let s3 := s2.tellEpoch n c.epoch
  let s4 := c.peers.foldl (fun t p =>
    let u := t.tellPeer n p
    match p.rsc with
    | some r => (([0, 1, 2, 3] : List Nat).map (fun a => 8192 + 4 * r + a)).foldl (fun v k => if (v.sa k).installed then v.snapSa k else v) u
    | none => u) s3
  (([0, 1, 2, 3] : List Nat).map (fun a => 4 * y + a)).foldl (fun v k => if (v.sa k).installed then v.snapSa k else v) s4

/-- The receive replay state of every installed receive SA. -/
def State.replayOf (s : State) (l : List Nat) : List (Nat × Nat × Nat × W64) := l.map (fun k => (k, (s.sa k).pn, (s.sa k).h, (s.sa k).d))

/-- The active begins a resync: the snapshot, in SEQ order. -/
def State.beginResync (s : State) : State :=
  let s1 := ({ s with par := { s.par with
    resync := true
    joined := false
    accDigest := none } }).count .par 0 0 10
  let s2 := s1.running.foldl State.snapCa (s1.sendStatus)
  let s3 := (s2.cakSlots.filter (fun e => e.2.ledger && e.1 != 1023)).foldl (fun t e =>
    ((t.busCak e.1 0).busTt).tell 0x40 (.cak e.1 e.2.ckn e.2.klen (keyWrap t.ttKey (t.cakKey e.1)))) s2
  let s4 := s3.tell 0x13 (.rxReplay (s3.replayOf ((s3.sas.filter (fun e => decide (8192 ≤ e.1) && e.2.installed)).map (·.1))))
  { s4 with par := { s4.par with snapEnd := some s4.par.txSeq } }

/-- The partner's digest is accepted by an active member (R238). -/
def State.digestOk (s : State) : Bool := s.par.ptDigest == s.digest || s.par.accDigest == some s.par.ptDigest

/-! ## HELLO (R231, R241) -/

/-- A HELLO with a zero tag: it serves only to derive the key. -/
def State.helloZero (s : State) (seq : Nat) (serial : W64) (fmt : Nat) (digest : List Byte) (base : BitVec 48) (nonce : List Byte) : State :=
  let fresh := nonce != s.par.ptNonce
  let s1 := s.drawNonce
  let s2 := { s1 with par := { s1.par with
    tetherUp := 3#2
    heardHello := true
    ptSerial := serial
    ptNonce := nonce
    ptDigest := digest
    ptBase := base
    accDigest := if fresh then none else s1.par.accDigest
    format := s1.formatFor fmt
    rxSeq := seq
    unacked := if fresh && !s1.isActive then [] else s1.par.unacked } }
  if fresh then
    let s3 := if s2.par.format = 0 then s2 else s2.deriveTether
    if s3.drbgKOk then s3.helloPlain else s3
  else s2

/-- A member in START joins an active partner (R222, R242): with no image it adopts the partner's base before its ports are
enabled, and what it mirrored before is gone. -/
def State.joinActive (s : State) : State :=
  let s1 := if !s.image && s.start.step != 15 then { s with par := { s.par with adopted := some s.par.ptBase } } else s
  s1.discardMirror

/-- An accepted keyed HELLO (R241). -/
def State.helloIn (s : State) (st : PairState) (digest : List Byte) (base : BitVec 48) (prefer actOut : Bool) : State :=
  let s1 := { s with par := { s.par with
    keyedRx := true
    ptDigest := digest
    ptBase := base
    ptPrefer := prefer
    ptAct := actOut } }
  let s2 := s1.partnerIn st
  if s2.par.st == .start then
    if st.isAct then
      if digest == s2.digest || s2.flash.migr.contains digest then s2.joinActive else s2.discardMirror.parInt 6
    else if digest == s2.digest then s2.startClaim else s2.parInt 6
  else
    let s3 := s2.helloKeyed
    if s3.isActive && st == .start && s3.digestOk then s3.beginResync else s3

/-! ## Receiving records (R233, R234) -/

/-- Sync is lost (R227). -/
def State.syncLost (s : State) : State :=
  if s.par.st == .standby then (s.parInt 4).parTo .start else s

/-- Acknowledge what has been applied. -/
def State.sendAck (s : State) : State := if s.mayTether then s.sendRec 0x03 (.ack s.par.rxSeq) else s

/-- A record other than a zero-tagged HELLO: its tag, its SEQ, then its effect f (R231, R233). A member with no tether key can judge no
tag and discards it. -/
def State.recvRec (s : State) (seq : Nat) (tag : TTag) (ackIt : Bool) (f : State → State) : State :=
  if !s.onTether || !s.tetherKeyed then s
  else if tag != .ok then (((s.count .par 0 0 4).parInt 7).raise 22).syncLost
  else if seq ≠ s.par.rxSeq + 1 then
    let s1 := s.count .par 0 0 3
    if ackIt then s1.sendAck else s1
  else
    let s1 := ({ s with par := { s.par with
      tetherUp := 3#2
      rxSeq := seq
      lastRx := s.counter } }).count .par 0 0 1
    let s2 := f s1
    if ackIt then s2.sendAck else s2

/-- A HELLO. -/
def State.recvHello (s : State) (seq : Nat) (tag : TTag) (serial : W64) (st : PairState) (fmt : Nat) (digest : List Byte) (base : BitVec 48)
    (nonce : List Byte) (prefer actOut : Bool) : State :=
  match tag with
  | .zero => if s.onTether && !s.soloByConfig && s.drbgKOk then s.helloZero seq serial fmt digest base nonce else s
  | t => s.recvRec seq t true (fun u => u.helloIn st digest base prefer actOut)

/-- A STATUS record: the partner's state, shed stage and lease and, from an active one, whether the resync is complete. A resync
begins with it when a keyed partner in START meets a member that has claimed since their HELLOs (R242 step 1, log entry 26). -/
def State.statusIn (s : State) (st : PairState) (shedSt : Nat) (lease synced : Bool) : State :=
  let s1 := ({ s with par := { s.par with
    ptShed := shedSt
    ptLease := lease
    ptSynced := synced } }).partnerIn st
  let s2 := if s1.par.st == .start && s1.par.keyedRx && st.isAct && !s.par.ptSt.isAct then
      if s1.par.ptDigest == s1.digest then s1.joinActive else s1.discardMirror
    else s1
  if s2.par.st == .start && s2.par.keyedRx && st.isAct && synced then
    let (r, s3) := s2.draw
    let s4 := ({ s3 with par := { s3.par with tDelay := (r.toNat % 2 ^ 32 : Nat) } }).parTo .standby
    (({ s4 with par := { s4.par with synced := true } }).parInt 5).leaseLook
  else if s2.isActive && s2.par.keyedRx && st == .start && !s2.par.resync && s2.digestOk then s2.beginResync
  else s2.startClaim

/-- A lease that the partner has confirmed (R236); an MN lease asked for before its CA restarted no longer counts (R98, R111). -/
def State.confirmLease (s : State) (r : TxRec) : State :=
  match r.body with
  | .pnLease k e => (s.setSa k { s.sa k with lease := max (s.sa k).lease e }).count .par 0 0 5
  | .mnLease n e =>
    if r.seq ≤ (s.ca n).mnFrom then s else (s.setCa n { s.ca n with mnLease := max (s.ca n).mnLease e }).count .par 0 0 5
  | _ => s

/-- The SAKs of a CA as a standby holds them. -/
def State.mirrorCa (s : State) (n : Nat) : State :=
  let put := fun (m : Tab MirSak) (e : Nat × Nat × W32) =>
    let v : MirSak := { have_ := true, slot := e.2.1, kn := e.2.2, sscis := (s.ca n).sscis, salt := (s.sa (4 * s.caSecy n + e.1)).salt }
    m.put (fun _ => {}) (n * 4 + e.1) v
  { s with par := { s.par with mirSak := (s.sakAns n).foldl put s.par.mirSak } }

/-- The old active of a confirmed handover holds the mirror of what it gave up. -/
def State.becomeMirror (s : State) : State :=
  let put := fun (t : Tab Nat) (e : Nat × Nat) => t.put (fun _ => 0) e.1 e.2
  let pns := (s.sas.filter (fun (e : Nat × Sa) => decide (e.1 < 8192) && e.2.installed)).map (fun (e : Nat × Sa) => (e.1, e.2.pn - 1))
  let mns := (s.cas.filter (fun (e : Nat × Ca) => e.2.active)).map (fun (e : Nat × Ca) => (e.1, e.2.mn))
  let s1 := { s with par := { s.par with
    saLease := pns.foldl put []
    mnLease := mns.foldl put []
    mirRx := [] } }
  (mns.map (fun (e : Nat × Nat) => e.1)).foldl State.mirrorCa s1

/-- The handover record is confirmed (R244): ACT_OUT falls, STANDBY. -/
def State.handedOver (s : State) : State :=
  let s1 := (s.becomeMirror.actDown).count .par 0 0 7
  let s2 := s1.parTo .standby
  ({ s2 with par := { s2.par with
    synced := true
    ptSt := .active } }).leaseLook

/-- An ACK (R233): records confirmed, a resync complete, a handover done; what waited for the confirmation goes on. -/
def State.ackIn (s : State) (upTo : Nat) : State :=
  let gone := s.par.unacked.filter (fun r => decide (r.seq ≤ upTo))
  let left := s.par.unacked.filter (fun r => decide (upTo < r.seq))
  let s1 := gone.foldl State.confirmLease { s with par := { s.par with unacked := left } }
  let s2 := match s1.par.snapEnd with
    | some e => if e ≤ upTo then
        (({ s1 with par := { s1.par with
          snapEnd := none
          joined := true } }).parInt 5).sendStatus
      else s1
    | none => s1
  let s3 := match s2.par.handing with
    | some (_, q) => if q ≠ 0 ∧ q ≤ upTo then s2.handedOver else s2
    | none => s2
  if s3.isActive then s3.pollMka else s3

/-- A SAK record (R234): unwrapped into a slot of this member's own. -/
def State.sakIn (s : State) (n : Nat) (wrap : List Byte) (kn : W32) (an : Nat) (sscis : List (W64 × W32)) (salt : BitVec 96) : State :=
  let i := n * 4 + an % 4
  let old := s.par.mirSak.look (fun _ => {}) i
  match keyUnwrap s.mirKey wrap with
  | none => s
  | some key =>
    match s.busTt.allocSlot n with
    | none => s
    | some (k, s1) =>
      let s2 := (s1.fillSlot k key).busLoad k
      let s3 := if old.have_ then s2.releaseSlot old.slot else s2
      { s3 with par := { s3.par with mirSak := s3.par.mirSak.put (fun _ => {}) i { have_ := true, slot := k, kn := kn, sscis := sscis, salt := salt } } }

/-- The receive SC that a mirrored SA command names: the one there is, or the peer mirrored last without an installed SA moves to it
(log entry 26). -/
def State.bindRsc (s : State) (r : Nat) : State :=
  if (s.rsc r).valid then s
  else
    match s.par.lastPeer with
    | none => s
    | some (n, mi) =>
      match (s.ca n).peers.find? (fun p => p.mi == mi && p.live) with
      | none => s
      | some p =>
        let s1 := match p.rsc with
          | some q => if s.rscBusy q then s else s.removeRsc q
          | none => s
        (s1.installRsc r (s1.caSecy n) p.sci (s1.impFor (s1.caLine n))).setPeer n { p with rsc := some r }

/-- Install as a mirrored SA command does it. -/
def State.mirrorInstall (s : State) (k pn : Nat) : State :=
  let s1 := if k < 8192 then s else s.bindRsc ((k - 8192) / 4)
  let y := s1.saSecy k
  match s1.caOf y with
  | none => s1
  | some n =>
    let m := s1.par.mirSak.look (fun _ => {}) (n * 4 + k % 4)
    let sci := if k < 8192 then s1.caSci n else (s1.rsc ((k - 8192) / 4)).sci
    let ssci := (ssciIn m.sscis sci).getD 0
    if !m.have_ || (decide (8192 ≤ k) && !(s1.rsc ((k - 8192) / 4)).valid) then s1
    else
      let x := s1.xpn y
      s1.putSa k m.slot pn (if x then ssci else 0) (if x then m.salt else 0)

/-- An SA command of the active (R234): 2 install, 3 retire, 4 raise, 5 arm, 6 disarm, 7 switch. -/
def State.saCmdIn (s : State) (op k pn : Nat) : State :=
  match op with
  | 2 => s.mirrorInstall k pn
  | 3 => s.retireSa k
  | 4 => s.setSa k { s.sa k with pn := max (s.sa k).pn pn }
  | 5 =>
    match (s.caOf (k / 4)).bind (fun n => (s.ca n).epoch) with
    | some e => s.armSa k e
    | none => s
  | 6 => s.disarmSa k
  | 7 => s.switchSa k
  | _ => s

/-- A PN lease record (R236): the highest end applied. -/
def State.pnLeaseIn (s : State) (k e : Nat) : State :=
  { s with par := { s.par with saLease := s.par.saLease.put (fun _ => 0) k (max (s.par.saLease.look (fun _ => 0) k) e) } }

def State.mnLeaseIn (s : State) (n e : Nat) : State :=
  { s with par := { s.par with mnLease := s.par.mnLease.put (fun _ => 0) n (max (s.par.mnLease.look (fun _ => 0) n) e) } }

/-- A receive replay batch. -/
def State.replayIn (s : State) (l : List (Nat × Nat × Nat × W64)) : State :=
  { s with par := { s.par with mirRx := l.foldl (fun (t : Tab (Nat × Nat × W64)) e => t.put (fun _ => (0, 0, 0#64)) e.1 e.2) s.par.mirRx } }

/-- An MKA state record. A CA that has restarted, its MI new and its KN 0, has no peers (R98). -/
def State.caIn (s : State) (n : Nat) (mi : BitVec 96) (isKs : Bool) (ksSci : W64) (kn : W32) (an oldAn : Nat) : State :=
  s.setCa n { s.ca n with
    active := true
    peers := if (s.ca n).mi != mi && kn == 0 then [] else (s.ca n).peers
    mi := mi
    isKs := isKs
    ksSci := ksSci
    kn := kn
    latestAn := an % 4
    oldAn := oldAn % 4 }

/-- An MKA peer record: a live peer has a receive SC; a live peer that is so no longer has left its list. Its key server priority is not
carried (log entry 26). -/
def State.peerIn (s : State) (n : Nat) (mi : BitVec 96) (mn : Nat) (sci : W64) (live : Bool) : State :=
  let c := s.ca n
  let s0 := { s with par := { s.par with lastPeer := if live then some (n, mi) else s.par.lastPeer } }
  match c.peers.find? (fun p => p.mi == mi) with
  | some p =>
    if live then
      let q := { p with mn := mn, sci := sci, live := true }
      if p.rsc.isSome then s0.setPeer n q
      else
        match s0.peerRsc n sci with
        | some (r, s1) => s1.setPeer n { q with rsc := some r }
        | none => s0
    else if p.live then
      let s1 := s0.setCa n { c with peers := c.peers.filter (fun x => x.mi != mi) }
      s1.freePeerRsc n p
    else s0.setPeer n { p with mn := mn, sci := sci }
  | none =>
    let q : Peer := { mi := mi, mn := mn, sci := sci, prio := if sci = c.ksSci then 0 else 128, live := live, rsc := none }
    let s1 := s0.setCa n { c with peers := c.peers ++ [q] }
    if live then
      match s1.peerRsc n sci with
      | some (r, s2) => s2.setPeer n { q with rsc := some r }
      | none => s1
    else s1

/-- An epoch record. -/
def State.epochIn (s : State) (n : Nat) (e : Option Int) : State := s.setCa n { s.ca n with epoch := e }

/-- A CAK record (R126, R234): same slot, rewrapped under this member's KEK. -/
def State.cakIn (s : State) (slot : Nat) (ckn wrap : List Byte) : State :=
  match keyUnwrap s.mirKey wrap with
  | some key => ((s.storeCak slot key ckn).1).notice (.cakSlot slot)
  | none => s

/-- A handover record (R244): final lease ends, last MNs, the role. -/
def State.handoverIn (s : State) (leases mns : List (Nat × Nat)) (role : PairState) : State :=
  { s with par := { s.par with
    saLease := leases.foldl (fun (t : Tab Nat) (e : Nat × Nat) => t.put (fun _ => 0) e.1 e.2) s.par.saLease
    mnLease := mns.foldl (fun (t : Tab Nat) (e : Nat × Nat) => t.put (fun _ => 0) e.1 e.2) s.par.mnLease
    handRec := some role } }

/-- A record that only the active sends is applied by a member that is not active (R234). -/
def State.mirrorRec (s : State) (seq : Nat) (tag : TTag) (f : State → State) : State :=
  s.recvRec seq tag true (fun t => if t.isActive then t else f t)

/-! ## Timers of the tether -/

/-- tTX_RETRY: everything not yet acknowledged goes again. -/
def State.resend (s : State) : State :=
  if !s.mayTether then s
  else s.par.unacked.foldl (fun t r => (t.count .par 0 0 2).emit (.tether r.seq r.body true)) s

/-- tBEAT_REC. -/
def State.statusTimer (s : State) : State := if s.leaseValid && s.onTether then s.sendStatus else s

/-- tRX_MIRROR: receive SAs changed since the last batch. -/
def State.rxMirror (s : State) : State :=
  let l := s.par.rxDirty
  let s1 := { s with par := { s.par with rxDirty := [] } }
  if l.isEmpty then s else s1.tell 0x13 (.rxReplay (s.replayOf l))

/-- tTETHER_LOST of silence: an active member fences its standby, or abandons a resync (R228, R233). -/
def State.tetherLost (s : State) : State :=
  if !s.isActive then s
  else if s.hasStandby then
    if s.leaseValid then
      let s1 := (s.fencePartner).ownConfirm
      if s1.par.st == .solo then s1 else s1.parTo .solo
    else s
  else if s.par.resync then
    (({ s with par := { s.par with ptSt := .start } }).ownConfirm).parInt 4
  else s

/-! ## Lease and heartbeat (R226-R228) -/

/-- The pair task renews the lease. -/
def State.leaseRenew (s : State) : State :=
  if !s.pairRuns then s
  else ((({ s with par := { s.par with leaseRun := true } }).leaseLook).soloTry).startClaim

/-- Renewals have stopped for tLEASE: a firmware fatal error, unless an I response had ended the lease. -/
def State.leaseLapse (s : State) : State :=
  if !s.par.leaseRun then s
  else
    let s1 := { s with
      par := { s.par with leaseRun := false }
      start := { s.start with fwDead := s.start.fwDead || !s.alarm.isolated } }
    s1.leaseLook

/-- An edge of BEAT_IN: the pair-wiring condition ends; a standby whose tether has been silent loses sync (R227). -/
def State.beatEdge (s : State) : State :=
  let s1 := ({ s with par := { s.par with beatOk := true } }).level 21 false
  if s1.par.synced && decide (msUnits (s1.fld F.PAR_TIME0_LEASE_MS + 1) ≤ s1.quiet) then s1.syncLost else s1

/-- No edge of BEAT_IN for tLEASE (R228). -/
def State.beatLapse (s : State) : State :=
  let s1 := { s with par := { s.par with beatOk := false } }
  if !(s1.par.st == .standby && s1.par.synced) then s1
  else if msUnits (s1.fld F.PAR_TIME0_LEASE_MS) ≤ s1.quiet then
    if s1.leaseValid then (s1.fencePartner).claim .recovery else s1
  else (s1.parInt 8).level 21 true

/-- The first row of R228 comes to hold later, the tether falling silent after BEAT_IN did. -/
def State.fenceLook (s : State) : State :=
  if s.par.st == .standby && s.par.synced && !s.par.beatOk && s.par.ptSt != .fenced && s.leaseValid &&
      decide (msUnits (s.fld F.PAR_TIME0_LEASE_MS) ≤ s.quiet) then
    s.fencePartner.claim .recovery
  else s

/-! ## Discovery, handover (R241, R244) -/

/-- tDISCOVER has elapsed in START. -/
def State.discovered (s : State) : State :=
  if s.par.st != .start || !s.pairRuns || s.soloRuns then s
  else if s.par.keyedRx && s.par.ptSt.isAct then s
  else if s.par.actIn then { s with par := { s.par with noTether := true } }
  else s.claimSolo

/-- A handover begins: stage 2 admits nothing more. -/
def State.handOff (s : State) (role : PairState) : State :=
  if s.par.handing.isSome then s
  else { s with par := { s.par with
    handing := some (role, 0)
    draining := true } }

/-- The bound frames have left, or tHANDOVER has passed: the handover record. -/
def State.drainEnd (s : State) : State :=
  match s.par.handing with
  | some (role, 0) =>
    let l := (s.sas.filter (fun e => decide (e.1 < 8192) && e.2.installed)).map (fun e => (e.1, e.2.pn - 1))
    let m := (s.cas.filter (fun e => e.2.active)).map (fun e => (e.1, e.2.mn))
    let s1 := s.sendRec 0x50 (.handover l m role)
    { s1 with par := { s1.par with handing := some (role, s1.par.txSeq) } }
  | _ => s

/-- The handover record is not confirmed in time: ACT_OUT low without it, START. -/
def State.handoverLate (s : State) : State := if s.par.handing.isSome then s.endAct else s

/-- Shed stage S6 while the partner reports S5 or lower (R241). -/
def State.s6Look (s : State) : State :=
  if (s.par.st == .active || s.par.st == .recovery || s.par.st == .test) && s.pwr.stage == 6 && s.hasStandby && decide (s.par.ptShed ≤ 5) then
    s.handOff .active
  else s

/-! ## PAR_CMD (R241, R246) -/

/-- A refused PAR_CMD. -/
def State.parRefuse (s : State) (o : Origin) (e : Nat) : State :=
  let t := (s.cmdErr .PAR_CMD o.grp e).parInt 9
  if e = 3 then t.fault5 o .PAR_CMD 0 else t

/-- The checks of a PAR_CMD: the master, then presence, then the state, then the partner. -/
def State.parCmd (s : State) (o : Origin) (pres : Bool) (okState needStandby : Bool) (f : State → State) : State :=
  if !(o == .pf0 || o == .iaholt) then s.parRefuse o 1
  else if pres && !s.presence then s.parRefuse o 3
  else if !okState then s.parRefuse o 2
  else if needStandby && !s.hasStandby then s.parRefuse o 4
  else f (s.cmdErr .PAR_CMD o.grp 0)

def State.parTest (s : State) (o : Origin) : State := s.parCmd o true (s.par.st == .active) true (fun t => t.parTo .test)
def State.parExit (s : State) (o : Origin) : State := s.parCmd o false (s.par.st == .test) false (fun t => t.parTo .active)

def State.parSwitch (s : State) (o : Origin) : State :=
  s.parCmd o true (s.par.st == .test || s.par.st == .recovery) true (fun t =>
    t.handOff (if t.par.st == .test then .test else .active))

/-- ACCEPT_DIGEST, on the active (R238). -/
def State.parAccept (s : State) (o : Origin) : State :=
  s.parCmd o true s.isActive false (fun t => { t with par := { t.par with accDigest := some t.par.ptDigest } })

end Sys2Proof.Machine
end

