-- ==== Sys2Proof/Machine/Alarm.lean ====
section
/-!
DEFINITION. Alarm responses (15): what every raise does and when a record acts (R311), how responses combine (R312, R313), what is
recorded when the core cannot act (R317), the end of a hold, acknowledgement (R315).
-/

namespace Sys2Proof.Machine

/-- The core acts on responses: it is not in reset, and ST01 has finished (R317). -/
def State.coreActs (s : State) : Bool := !s.start.held && decide (2 ≤ s.start.step)

/-- Main power is absent: the tack room runs from VBAT and the core is in reset (R317; DEDUCED, log entry 24). -/
def State.backup (s : State) : Bool := s.tck.onBat && s.start.held

/-- A source's response bits Z, I, F, S (bits 3 to 0) and its S stage. -/
def State.respOf (s : State) (src : Nat) : Nat × Nat := (bits (s.word .TCK_RESP src) 31 28, bits (s.word .TCK_RESP src) 27 25)

def respZ (r : Nat) : Bool := nbit r 3
def respI (r : Nat) : Bool := nbit r 2
def respF (r : Nat) : Bool := nbit r 1
def respS (r : Nat) : Bool := nbit r 0

/-- One raise counted: the raises in the window with this one, and whether the record's responses act (R311). -/
def State.countRaise (s : State) (src : Nat) : State × Nat × Bool :=
  let w := bits (s.word .TCK_RESP_WIN src) 21 0
  let k := bits (s.word .TCK_RESP_WIN src) 31 24
  let now := s.tck.ts
  let l := (s.tck.raises.look (fun _ => []) src).filter (fun t => decide ((now - t) * 1000 ≤ w * 32768))
  let n := l.length + 1
  let acts := decide (k ≤ n)
  ({ s with tck := { s.tck with
    flags := s.tck.flags ||| BitVec.ofNat 26 (2 ^ src)
    raises := s.tck.raises.put (fun _ => []) src (if acts then [] else l ++ [now]) } }, n, acts)

/-- A raise with what its record does: source, raises counted, response bits that act, stage. -/
structure Act where
  src   : Nat
  count : Nat
  resp  : Nat
  stage : Nat
deriving DecidableEq, Repr

/-- The L response of every source raised in this step, in order; what acts is returned. -/
def State.noteRaises (s : State) (l : List Nat) : State × List Act :=
  match l with
  | [] => (s, [])
  | src :: t =>
    let (s1, n, acts) := s.countRaise src
    let s2 := if s1.coreActs then (s1.count .tck 0 src 0).setInt .TCK_INT_STAT 0 else s1
    let (r, st) := s2.respOf src
    let (s3, m) := s2.noteRaises t
    (s3, { src := src, count := n, resp := if acts then r else 0, stage := if acts && respS r then st else 0 } :: m)

/-- Record a pending response (R312, R317). -/
def State.pendPut (s : State) (a : Act) (z i f sh : Bool) : State :=
  let t := s.tck
  let none_ := !(t.pendI || t.pendF || t.pendS || t.zDone)
  { s with tck := { t with
    pendI := t.pendI || i || z
    zDone := t.zDone || z
    pendF := t.pendF || f
    pendS := t.pendS || sh
    pendStg := if sh then max t.pendStg a.stage else t.pendStg
    pendSrc := if none_ then a.src else t.pendSrc } }

/-- A response recorded while the core cannot act: a Z clears the KEK (R317). -/
def State.actPending (s : State) (a : Act) : State :=
  if a.resp = 0 then s.tckLog 0 0 0 a.count a.src
  else
    let z := respZ a.resp
    let s1 := s.pendPut a z (respI a.resp) (respF a.resp) (respS a.resp)
    let s2 := if z then s1.wipeKek else s1
    s2.tckLog 1 a.resp a.stage a.count a.src

/-- F has something to do here (R312). -/
def State.mayHand (s : State) : Bool := (s.par.st == .active || s.par.st == .recovery || s.par.st == .test) && s.hasStandby

/-- The log entry of a raise, and F and S where neither Z nor I is in effect (R313). -/
def State.actOne (s : State) (over_ : Bool) (a : Act) : State :=
  let zi := respZ a.resp || respI a.resp
  let fs := respF a.resp || respS a.resp
  if !zi && !fs then s.tckLog 0 a.resp a.stage a.count a.src
  else if !zi && over_ then s.tckLog 2 a.resp a.stage a.count a.src
  else
    let f := respF a.resp && !over_ && s.mayHand
    let sh := respS a.resp && !over_
    if !zi && !f && !sh then s.tckLog 0 a.resp a.stage a.count a.src
    else
      let s1 := (s.tckLog 1 a.resp a.stage a.count a.src).setInt .TCK_INT_STAT 1
      let s2 := if f then s1.handOff .active else s1
      if sh then ({ s2 with pwr := { s2.pwr with sDem := s2.pwr.sDem.put (fun _ => 0) a.src a.stage } }).shed else s2

/-- The responses of one step's raises act together, by rank (R313). -/
def State.actJoint (s : State) (l : List Act) : State :=
  let z := l.any (fun a => respZ a.resp)
  let zi := l.any (fun a => respZ a.resp || respI a.resp)
  let over_ := zi || s.alarm.isolated || s.alarm.zActed
  let s1 := l.foldl (fun t a => if respZ a.resp || respI a.resp then t.pendPut a (respZ a.resp) true false false else t) s
  let s2 := if z then { s1.zeroize with alarm := { s1.zeroize.alarm with zActed := true } } else s1
  let s3 := l.foldl (fun t a => t.actOne over_ a) s2
  if zi then ({ s3 with pwr := { s3.pwr with sDem := [] } }).isolate else s3

/-- The sources raised in this step: on the backup cell only sources 0 to 7 are evaluated (R317). -/
def State.takeAlarms (s : State) : State :=
  let l := if s.backup then s.alarm.queue.filter (fun k => decide (k < 8)) else s.alarm.queue
  if s.alarm.queue.isEmpty then s
  else
    let (s1, m) := ({ s with alarm := { s.alarm with queue := [] } }).noteRaises l
    if s1.coreActs then s1.actJoint m else m.foldl State.actPending s1

/-- HOLD_S after a source was last raised: its S demand ends unless the source is raised (R312). -/
def State.holdExpired (s : State) (src : Nat) : State :=
  if s.tck.raised.getLsbD src then s else { s with pwr := { s.pwr with sDem := s.pwr.sDem.put (fun _ => 0) src 0 } }

/-- A level source is raised whose response includes Z or I (R315). -/
def State.heldLevel (s : State) : Bool :=
  (List.range 26).any (fun k => s.tck.raised.getLsbD k && (respZ (s.respOf k).1 || respI (s.respOf k).1))

/-- Something is recorded pending. -/
def Tck.anyPend (t : Tck) : Bool := t.pendI || t.pendF || t.pendS || t.zDone

/-- ACK (R315); an isolation by EXTEST stays (R346). -/
def State.ack (s : State) (o : Origin) : State :=
  let g := o.grp
  s.tckCmd o (fun t =>
    if !t.presence then (t.cmdErr .TCK_CMD g 2).fault5 o .TCK_CMD 0
    else if t.heldLevel then t.cmdErr .TCK_CMD g 3
    else if t.zeroized then t.cmdErr .TCK_CMD g 4
    else if !t.tck.anyPend then t.cmdErr .TCK_CMD g 5
    else
      let t1 := { t with
        alarm := { t.alarm with isolated := t.jtag.extest }
        tck := { t.tck with
          pendI := false
          pendF := false
          pendS := false
          zDone := false
          pendStg := 0
          pendSrc := 0 } }
      let t2 := if t1.pairRuns then t1.parTo .start else t1
      ((((t2.cmdErr .TCK_CMD g 0).tckLog 4 0 0 0 0).setInt .TCK_INT_STAT 5)).leaseLook)

end Sys2Proof.Machine
end

