-- ==== Sys2Proof/Machine/Link.lean ====
section
/-!
DEFINITION. What a link that comes up does beyond its port (R31, R71, R76, R97): the ports of a lane group with no image, the SecYs and CAs
that become configured, the hold of non-XPN SecYs.
-/

namespace Sys2Proof.Machine

/-- The datapath serves: the start is complete, and the part is neither in safe hold nor isolated (R253, R314). -/
def State.serving (s : State) : Bool := s.start.step == 15 && !s.start.held && !s.start.safeHold && !s.alarm.isolated

/-- Links may come up: ST14 has enabled the ports (R248), and the part is not in safe hold (R253). -/
def State.linksRun (s : State) : Bool := s.start.step == 15 && !s.start.held && !s.start.safeHold

/-- A line port that R32 no longer gives a place (R71): its SAs are retired, its CA stops, its receive SCs go once drained. -/
def State.unconfigure (s : State) (n : Nat) : State :=
  if !(s.secy n).cfgd then s
  else
    let c := s.ca n
    let s1 := (([0, 1, 2, 3] : List Nat).flatMap (fun a => s.sasOf n a)).foldl (fun t k => t.retireSa k) s
    let held := c.slot.toList ++ c.oldSlot.toList ++ (c.pend.map (fun p => p.slot)).toList
    let s2 := held.foldl (fun t k => t.releaseSlot k) s1
    let s3 := (s2.rscsOf n).foldl (fun t r => if t.rscBusy r then t.setRsc r { t.rsc r with leaving := true } else t.removeRsc r) s2
    (s3.setCa n {}).setSecy n { s3.secy n with cfgd := false, txValid := false }

/-- SecY n and CA n become valid with LPn (R71, R97). -/
def State.configure (s : State) (n : Nat) : State :=
  if (s.secy n).cfgd then s
  else (s.setSecy n { s.secy n with cfgd := true }).setCa n { s.ca n with cfgd := true }

/-- The line port that contains L-lane n once its group is resolved, else n (R34, R48). -/
def State.lineWith (s : State) (n : Nat) : Nat :=
  match (List.range 8).find? (fun k => s.overlaps (64 + n) 1 (64 + n / 8 * 8 + k)) with
  | some k => n / 8 * 8 + k
  | none => n

/-- With no image the part writes HPT_MAP.LINE of the host ports over a group of L-lanes (R34, R48). -/
def State.mapGroup (s : State) (n : Nat) : State :=
  ((List.range 8).map (fun k => n / 8 * 8 + k)).foldl (fun t k => t.setFld F.HPT_MAP_LINE (t.lineWith k) k) s

/-- A line port came up with no image (R34, R71): the ports whose lanes it takes have lost their place, its own SecY and CA are
configured, the host ports over its lanes map to it. -/
def State.resolved (s : State) (n : Nat) : State :=
  let gone := ((List.range 8).map (fun k => n / 8 * 8 + k)).filter (fun q => (s.secy q).cfgd && !(s.port (64 + q)).present)
  ((gone.foldl State.unconfigure s).configure n).mapGroup n

/-- HELD of one SecY of a line port that has come up (R76). -/
def State.rateHold (s : State) (lp n : Nat) : State :=
  if !s.secyValid n || s.secyLine n != lp then s
  else if (s.rate (64 + lp)) ≤ 100000 then
    if (s.secy n).held then s.setSecy n { s.secy n with held := false } else s
  else if s.portCfgForm (64 + lp) = 0 ∧ !s.xpn n ∧ !(s.secy n).held then
    (s.setSecy n { s.secy n with held := true }).setInt .SEC_INT_STAT 5
  else s

/-- A link comes up (R31, R71, R76). -/
def State.linkCame (s : State) (p form fec : Nat) : State :=
  if !s.linksRun then s
  else
    let s1 := s.linkUp p form fec
    if p < 64 || !(s1.port p).link || (s.port p).link then s1
    else
      let s2 := if s1.image then s1 else s1.resolved (p - 64)
      (List.range 2048).foldl (fun t n => t.rateHold (p - 64) n) s2

/-- A forced form was probed (R32). -/
def State.probed (s : State) (p : Nat) (reached : Bool) : State :=
  if !s.linksRun then s
  else
    let s1 := s.probe p reached
    if p < 64 || !(s1.port p).link || (s.port p).link then s1
    else (List.range 2048).foldl (fun t n => t.rateHold (p - 64) n) (s1.resolved (p - 64))

/-- A port whose training failed restarts auto-negotiation after 200 ms, or training where AN_EN is clear (R31). -/
def State.trainAgain (s : State) (p : Nat) : State :=
  if !s.linksRun || (s.port p).link || !s.portLive p || !s.ltEn p then s else s.bringUp p

/-- tBEACON of a dormant port (R44): null-ability DME pages with AN_EN set, else PCS idle in its form. -/
def State.beacon (s : State) (p : Nat) : State :=
  if (s.port p).dormant then s.emit (.beacon (portAt p) (s.anEn p) ((s.formOf p).getD 0)) else s

/-- A dormant port is woken (R44). -/
def State.wakeDormant (s : State) (p : Nat) : State := if (s.port p).dormant then s.wakePort p else s

end Sys2Proof.Machine
end

