-- ==== Sys2Proof/Machine/Host.lean ====
section
/-!
DEFINITION. The host frame ring (R328-R334), the PCIe endpoint's resets (R247, R328), JTAG and the debug unlock (R346, R347), the opening of
Iaholt sessions (R336).
-/

namespace Sys2Proof.Machine

/-! ## Rings (R329-R334) -/

/-- The frame and the registers of a ring: tx chooses the TX or RX set. -/
def ringCtl (tx : Bool) : Reg := if tx then .HFR_TX_CTL else .HFR_RX_CTL
def ringTail (tx : Bool) : Reg := if tx then .HFR_TX_TAIL else .HFR_RX_TAIL
def ringIx (tx : Bool) (r : Nat) : Nat := if tx then r % 8 else 8 + r % 8

/-- Descriptors of a TX ring. -/
def State.txSize (s : State) (r : Nat) : Nat := 2 ^ (6 + s.fld F.HFR_TX_CTL_SIZE r)

/-- The host address of descriptor d of a ring. -/
def State.dscAddr (s : State) (tx : Bool) (r d : Nat) : Nat :=
  (if tx then (s.word .HFR_TX_BASE_HI r).toNat * 2 ^ 32 + s.fld F.HFR_TX_BASE_LO_ADDR r * 4096
   else (s.word .HFR_RX_BASE_HI r).toNat * 2 ^ 32 + s.fld F.HFR_RX_BASE_LO_ADDR r * 4096) + 32 * d

/-- Nothing that was fetched awaits its write-back: a ring whose EN is clear is STOPPED (R334). -/
def State.ringRest (s : State) (tx : Bool) (r : Nat) : State :=
  let i := ringIx tx r
  let g := s.ring i
  let en := bits (s.word (ringCtl tx) (r % 8)) 31 31 == 1
  if !en && g.flight.isEmpty && g.done.isEmpty && g.rxq.isEmpty then s.setRing i { g with stopped := true } else s

/-- EN set: the ring runs. -/
def State.ringOn (s : State) (tx : Bool) (r : Nat) : State :=
  let s1 := s.setWord (ringCtl tx) (depo (s.word (ringCtl tx) (r % 8)) 31 31 1) (r % 8)
  s1.setRing (ringIx tx r) { s1.ring (ringIx tx r) with stopped := false }

/-- EN clear: no further descriptor is fetched. -/
def State.ringOff (s : State) (tx : Bool) (r : Nat) : State :=
  (s.setWord (ringCtl tx) (depo (s.word (ringCtl tx) (r % 8)) 31 31 0) (r % 8)).ringRest tx r

/-- A ring command of a master: ring registers accept PF0 only (R349). -/
def State.ringCmd (s : State) (o : Origin) (r : Reg) (i : Nat) (f : State → State) : State := if o == .pf0 then f s else s.fault4 o r i

def State.ringEnable (s : State) (o : Origin) (tx : Bool) (r : Nat) : State := s.ringCmd o (ringCtl tx) (r % 8) (fun t => t.ringOn tx r)
def State.ringDisable (s : State) (o : Origin) (tx : Bool) (r : Nat) : State := s.ringCmd o (ringCtl tx) (r % 8) (fun t => t.ringOff tx r)

/-- A write of TAIL: refused beyond the ring size (R334). -/
def State.tailWrite (s : State) (o : Origin) (tx : Bool) (r : Nat) (v : W32) : State :=
  let i := r % 8
  s.ringCmd o (ringTail tx) i (fun t =>
    let n := 2 ^ (6 + bits (t.word (ringCtl tx) i) 3 0)
    let x := bits v 15 0
    if n ≤ x then t.recordFault o (regAddr (ringTail tx) i) true 6
    else (if bits v 31 16 = 0 then t else t.fault4 o (ringTail tx) i).setWord (ringTail tx) (BitVec.ofNat 32 x) i)

/-- The result of descriptor d is known at once. -/
def State.dscDone (s : State) (r d res : Nat) (irq : Bool) : State :=
  let g := s.ring r
  (s.setRing r { g with done := g.done ++ [(d, 0, res, irq)] }).count .hfr 0 r res

/-- A launch time more than tLAUNCH_MAX ahead, which is refused at the descriptor (R172). -/
def State.launchFar (s : State) (d : TxDesc) : Bool := nbit d.flags.toNat 1 && decide (s.timeT + unitsPerSec < unstamp d.launch)

/-- A descriptor is refused (R330). -/
def State.dscBad (s : State) (r : Nat) (d : TxDesc) : Bool :=
  let p := d.port.toNat
  let fl := d.flags.toNat
  !d.zeros || decide (128 ≤ p) || decide (64 ≤ fl) || decide (d.len < 60) || decide (s.maxFrame p < d.len + 4) ||
    (decide (2 ≤ r) && (nbit fl 1 || fl / 8 % 8 != 0)) ||
    s.launchFar d

/-- The body of an originated frame: LEN octets, with checksums when asked for (R41), and whether they were left out. -/
def State.dscBody (s : State) (d : TxDesc) : List Byte × Bool :=
  let b := (d.frame ++ zeros (d.len - d.frame.length)).take d.len
  if nbit d.flags.toNat 0 then checksums (s.fld F.CLS_TPID_X) b else (b, false)

/-- The frame of descriptor i goes to its privileged queue or control FIFO (R12, R329). -/
def State.dscSend (s : State) (r i : Nat) (d : TxDesc) : State :=
  let p := d.port.toNat
  let (b, frag) := s.dscBody d
  let o := b ++ fcs b
  let launch := if nbit d.flags.toNat 1 && d.launch != 0#64 then some (unstamp d.launch) else none
  let f : Frame := {
    id := s.nextId
    enc := decide (64 ≤ p)
    src := .ring r
    octets := o
    stage := .queued
    queue := ctlQueue
    lport := if p < 64 then 0 else p - 64
    hport := if p < 64 then some p else none
    cls := d.flags.toNat / 8 % 8
    outOct := o
    verdict := .good
    arrived := s.counter
    inTime := s.timeT
    launch := launch
    ringDsc := some i
    privCls := some (d.flags.toNat / 8 % 8)
    csum := nbit d.flags.toNat 0 }
  let s1 := { s with nextId := s.nextId + 1, frames := s.frames ++ [f] }
  let s2 := if frag then s1.portCnt p 34 else s1
  if r < 2 then
    let f1 := { f with queue := privQueue p r }
    (s2.setFrame f1).enqueue f1 (privQueue p r)
  else if 64 ≤ p ∧ (parse (s.fld F.CLS_TPID_X) b).etype ≠ 0x888E then (s2.dropFrame f).secCnt 0 (p - 64) 6
  else s2.setPort p { s2.port p with ctlFifo := (s2.port p).ctlFifo ++ [f.id] }

/-- The next posted descriptor of TX ring r is fetched (R330, R331). -/
def State.txFetch (s : State) (r : Nat) (d : TxDesc) : State :=
  let r := r % 8
  let g := s.ring r
  if !s.flag F.HFR_TX_CTL_EN r || g.fetch == s.fld F.HFR_TX_TAIL_IDX r then s
  else
    let i := g.fetch
    let irq := nbit d.flags.toNat 2
    let s1 := s.setRing r { g with fetch := (i + 1) % s.txSize r, flight := g.flight ++ [(i, irq)] }
    if s1.dscBad r d then (if s1.launchFar d && decide (d.port.toNat < 128) then s1.count .tmg 2 d.port.toNat 3 else s1).dscDone r i 3 irq
    else if !d.readOk then s1.dscDone r i 5 irq
    else s1.dscSend r i d

/-- The descriptor at HEAD is written back (R331). -/
def State.txBack (s : State) (r : Nat) : State :=
  let r := r % 8
  let g := s.ring r
  match g.done.find? (fun e => e.1 == g.head) with
  | none => s
  | some (d, t, res, irq) =>
    let ts := if res ≤ 1 then leOctets 8 (stamp t).toNat else zeros 8
    let st := leOctets 4 (2 ^ 31 + res * 2 ^ 28)
    let s1 := s.setRing r { g with
      head := (g.head + 1) % s.txSize r
      done := g.done.filter (fun e => e.1 != d)
      flight := g.flight.filter (fun e => e.1 != d) }
    let s2 := s1.emit (.hostWrite (s.dscAddr true r d + 16) (ts ++ st ++ zeros 4))
    (if irq then s2.setRing' r else s2).ringRest true r

/-- A frame is written to a posted RX buffer and its descriptor written back (R333). -/
def State.rxBack (s : State) (r : Nat) (addr : W64) : State :=
  let r := r % 8
  let g := s.ring (8 + r)
  match g.rxq with
  | [] => s
  | (b, port, flags, trap, ts) :: l =>
    let d := leOctets 2 b.length ++ [port, flags] ++ leOctets 4 (trap % 16) ++ leOctets 8 (stamp ts).toNat ++ leOctets 4 (2 ^ 31) ++ zeros 4
    let now := s.fld F.HFR_RX_CTL_COAL_US r == 0
    let s1 := s.setRing (8 + r) { g with
      head := (g.head + 1) % s.rxSize r
      rxq := l
      coal := !now }
    let s2 := ((s1.emit (.hostWrite addr.toNat b)).emit (.hostWrite (s.dscAddr false r g.head + 8) d)).count .hfr 1 r 0
    let s3 := s2.count .hfr 1 r 1 b.length
    (if now then s3.setRing' (8 + r) else s3).ringRest false r

/-- COAL_US has passed since the ring's last RX_DONE: a write-back that has occurred sets it (R333). -/
def State.rxCoal (s : State) (r : Nat) : State :=
  let g := s.ring (8 + r % 8)
  if g.coal then (s.setRing (8 + r % 8) { g with coal := false }).setRing' (8 + r % 8) else s

/-! ## Resets of the endpoint (R247, R328) -/

/-- The MSI-X state of a function and its PCI_IVEC entries go back to reset. -/
def State.vecReset (s : State) (pf : Nat) : State :=
  let mine := (List.range 33).filter (fun n => s.fld F.PCI_IVEC_PF n == pf)
  let s1 := mine.foldl (fun (t : State) n => t.setWord .PCI_IVEC (Reg.PCI_IVEC.rst n) n) s
  { s1 with pci := { s1.pci with
    msix := s1.pci.msix &&& (if pf = 0 then BitVec.ofNat 128 ((2 ^ 64 - 1) * 2 ^ 64) else BitVec.ofNat 128 (2 ^ 64 - 1))
    table := s1.pci.table.filter (fun e => e.1 / 2 ^ 16 != pf) } }

/-- A function-level reset of PF0 (R328): fetched frames complete without write-back. -/
def State.flr0 (s : State) : State :=
  let keep := fun (k : Nat) => match regList[k / 2 ^ 22]? with
    | some r => !r.within .HFR_TX_BASE_LO .HFR_RING_EN
    | none => true
  let s1 := { s with
    rings := []
    regs := s.regs.filter (fun e => keep e.1)
    frames := s.frames.map (fun f => { f with ringDsc := none }) }
  let s2 := (List.range 16).foldl State.irq s1
  s2.vecReset 0

/-- A function-level reset of PF1. -/
def State.flr1 (s : State) : State := s.vecReset 1

/-- A PCIe fundamental reset resets the endpoint and both its functions (log entry 12). -/
def State.pcieReset (s : State) : State :=
  let t := s.flr0.flr1
  { t with pci := { t.pci with
    speed := 0
    width := 0
    bme := false } }

/-! ## JTAG (R346) -/

/-- Load an instruction. -/
def State.ir (s : State) (c : BitVec 8) : State := { s with jtag := { s.jtag with ir := c } }

/-- An instruction that is accepted only inside a presence window, else taken as BYPASS. -/
def State.gatedIr (s : State) (c : BitVec 8) (f : State → State) : State := if s.presence then f (s.ir c) else s.ir 0xFF

/-- The EXTEST family ends service: isolation without a pending record. -/
def State.extest (s : State) (c : BitVec 8) : State :=
  s.gatedIr c (fun t => ({ t with jtag := { t.jtag with extest := true } }).isolate)

/-- IDCODE. -/
def State.idcode (s : State) : State := (s.ir 0x01).emit (.tdo (leOctets 4 0xB6408F35))

/-! ## Debug unlock (R347) -/

/-- DBG_CHAL: serial number and a fresh nonce. -/
def State.dbgChal (s : State) : State :=
  let s0 := s.ir 0x20
  if !s0.drbgKOk then s0.drbgRefused
  else
    let (r, s1) := s0.drbgReq.draw
    let n := beOctets 16 (r.toNat % 2 ^ 128)
    ({ s1 with jtag := { s1.jtag with nonce := some n } }).emit (.tdo (beOctets 8 s1.fuses.serial.toNat ++ n))

/-- The check of a response: 0 granted, else ACU_DBG.LAST_ERR. -/
def State.dbgCheck (s : State) (pub r sg : List Byte) : Nat :=
  match s.jtag.nonce with
  | none => if s.presence then 5 else 1
  | some n =>
    if !s.presence then 1
    else if sha384 pub ≠ s.fuses.keyHash then 2
    else if !ecdsaOk pub (ascii "SVT debug unlock" ++ beOctets 8 s.fuses.serial.toNat ++ n) r sg then 3
    else if !(s.start.safeHold || s.alarm.isolated) then 4 else 0

/-- DBG_RESP: a nonce serves once. Contexts, local and shared memories go; patch RAM stays. -/
def State.dbgResp (s : State) (pub r sg : List Byte) : State :=
  let e := s.dbgCheck pub r sg
  let s1 := s.ir 0x21
  let s2 := { s1 with jtag := { s1.jtag with
    nonce := none
    lastErr := e } }
  if e = 0 then
    (({ s2 with
      svc := []
      mem := s2.mem.filter (fun c => decide (0x31000000 ≤ c.1))
      jtag := { s2.jtag with unlocked := true } }).setInt .ACU_INT_STAT 2).raise 24
  else s2.setInt .ACU_INT_STAT 2

/-! ## Iaholt sessions (R336) -/

/-- The session with an identifier. -/
def State.sessOf (s : State) (id : W32) : Option (Nat × IahSess) := s.sess.find? (fun e => e.2.open_ && e.2.id == id)

/-- OPEN: answered with OPEN_ACK (nonce, public key, SESSION) when Iaholt runs, a session slot is free, the client's key is valid, and, with
no CAK in slot 1,022, a presence window is open. -/
def State.iahOpen (s : State) (nonce pub : List Byte) : State :=
  let cak := s.cakKey 1022
  match firstIdx (fun k => !(s.sess.look (fun _ => {}) k).open_) 0 4 with
  | none => s
  | some k =>
    if !s.flag F.MGT_CFG_IAH_EN || (cak.isEmpty && !s.presence) || nonce.length ≠ 16 then s
    else if !s.drbgKOk then s.drbgRefused
    else
      let (r1, s1) := s.drbgReq.draw
      let (r2, s2) := s1.draw
      let d := privOf r2
      let n := beOctets 16 (r1.toNat % 2 ^ 128)
      let id := BitVec.ofNat 32 (r1.toNat / 2 ^ 128)
      match ecdh d pub with
      | none => s
      | some z =>
        let tr := nonce ++ pub ++ n ++ ecPub d
        let key := if cak.isEmpty then (sha384 (z ++ tr)).take 32 else kdf cak "SVT Iaholt" (z ++ tr) 32
        ({ s2 with sess := s2.sess.put (fun _ => {}) k { open_ := true, id := id, byWin := cak.isEmpty, key := key } }).mgtSend
          (.iaholt (beOctets 4 id.toNat ++ n ++ ecPub d)) (s2.mgtUdp 145)

/-- A datagram is accepted: its session, its TAG, a SEQ above the last one (R336); others are discarded and counted. -/
def State.iahTake (s : State) (h : IahHdr) (f : State → Nat → State) : State :=
  let drop := { s with iahDrop := s.iahDrop + 1 }
  match s.sessOf h.session with
  | none => drop
  | some (k, x) =>
    if !s.flag F.MGT_CFG_IAH_EN then s
    else if !h.tagOk || decide (h.seq ≤ x.seq) then drop
    else f { s with sess := s.sess.put (fun _ => {}) k { x with seq := h.seq } } k

/-- A session closes. -/
def State.sessClose (s : State) (k : Nat) : State := { s with sess := s.sess.put (fun _ => {}) k {} }

end Sys2Proof.Machine
end

