-- ==== Sys2Proof/Machine/Obs.lean ====
section
/-!
DEFINITION. Observation counters and the event log (17): level events, samples, FREEZE, the sample and log windows, event
log entries (R350-R360).
-/

namespace Sys2Proof.Machine

/-! ## Level events (R353) -/

/-- The levels of a level event of a unit, by stack for the cellar (else one): none for a code that is no level event. -/
def State.obsLevels (s : State) (u : ObsUnit) (code : Nat) : Option (List Nat) :=
  match u with
  | .engine e => if code = 0x08 then some [(s.eng (e % 64)).slots.length] else none
  | .port n =>
    let p := n % 128
    if code = 0x01 then some [s.fifoFill p / 512]
    else if code = 0x04 then some [b2n (!s.portBusy p)]
    else if code = 0x05 then some [b2n ((s.port p).paused || (s.port p).pfcPaused != 0#8)]
    else none
  | .core _ => none
  | .cellar =>
    if code = 0x05 then some ((List.range 4).map (fun k => (s.cel.reads.filter (fun a => lineStk a == k)).length / 16))
    else none

/-- Counter c of unit u over n ticks of the unit in which its level stays as it is: the levels that meet THRESH, on the
stacks of STACK, count in each tick; under EDGE a level counts once, when it did not meet THRESH before. -/
def State.obsTickOne (s : State) (u : ObsUnit) (n c : Nat) : State :=
  let w := s.word u.sel (u.idx * u.nCnt + c)
  match s.obsLevels u (bits w 7 0) with
  | none => s
  | some l =>
    if bits w 31 31 = 0 then s
    else
      let mask := bits w 27 24
      let hits := l.zipIdx.map (fun (e : Nat × Nat) =>
        (e.2, (u.code != 3 || mask == 0 || nbit mask e.2) && (decide (bits w 23 16 ≤ e.1) != (bits w 28 28 == 1))))
      let key := fun (k : Nat) => obsKey u c * 4 + k
      let was := fun (k : Nat) => s.obs.prev.look (fun _ => false) (key k)
      let rise := (hits.filter (fun (e : Nat × Bool) => e.2 && !was e.1)).length
      let on := (hits.filter (fun (e : Nat × Bool) => e.2)).length
      let s1 := s.obsAdd u c (if bits w 29 29 = 1 then rise else on * n)
      { s1 with obs := { s1.obs with
          prev := hits.foldl (fun t (e : Nat × Bool) => t.put (fun _ => false) (key e.1) e.2) s1.obs.prev } }

/-- n ticks of a unit. -/
def State.obsTick (s : State) (u : ObsUnit) (n : Nat) : State :=
  if s.obsRuns && n != 0 then (List.range u.nCnt).foldl (fun a c => a.obsTickOne u n c) s else s

/-! ## Samples (R354) -/

/-- Where a sample's counter stands in ascending unit and counter order. -/
def Sample.key (x : Sample) : Nat := (x.unit * 2 ^ 8 + x.idx) * 16 + x.cnt

/-- A sample enters the buffer: after the others, but before those of the same wrap instant that it precedes. -/
def putSample (l : List Sample) (x : Sample) : List Sample :=
  let after := (l.reverse.takeWhile (fun y => y.wrap == x.wrap && decide (x.key < y.key))).reverse
  l.take (l.length - after.length) ++ [x] ++ after

/-- The counter that wrapped is sampled: the occurrence that comes after the wrap. d1 and d2 are what the occurrence shows:
the SC and SA of an engine's frame, a core's instruction address and CA, a line address; a port's FIFO fill is the part's own. -/
def State.wrapSample (s : State) (u : ObsUnit) (c : Nat) (d1 d2 : W32) : State :=
  let k := obsKey u c
  match s.obs.wrapped.find? (fun e => e.1 == k) with
  | none => s
  | some w =>
    if !s.obs.on then s else
    let occ := match u with
      | .engine e => (s.eng (e % 64)).slots.length
      | _ => 0
    let fill := match u with
      | .port n => BitVec.ofNat 32 (s.fifoFill (n % 128) / 256)
      | _ => d1
    let d2' := match u with
      | .port _ => 0#32
      | _ => d2
    let x : Sample := { unit := u.code, idx := u.idx, cnt := c, d1 := fill, d2 := d2', occ := occ, ns := s.nowNs, wrap := w.2 }
    let s1 := { s with obs := { s.obs with wrapped := s.obs.wrapped.filter (fun j => j.1 != k) } }
    if 256 ≤ s.obs.samples.length then s1.setInt .OBS_INT_STAT 1
    else
      let s2 := { s1 with obs := { s1.obs with samples := putSample s1.obs.samples x } }
      if s.obs.samples.length = 127 then s2.setInt .OBS_INT_STAT 0 else s2

/-- The words of a sample. -/
def Sample.words (x : Sample) : List W32 :=
  [BitVec.ofNat 32 (fw 31 31 1 + fw 30 29 x.unit + fw 28 22 x.idx + fw 21 19 x.cnt), x.d1, x.d2,
    BitVec.ofNat 32 (fw 3 0 x.occ), wordOf x.ns 0, wordOf x.ns 1]

/-- POP: the oldest sample into DATA0-5; with none held, DATA0 reads 0. -/
def State.smpPop (s : State) (o : Origin) : State :=
  if !s.accepts o .OBS_SMPW_CMD 0 then s.fault4 o .OBS_SMPW_CMD 0
  else if !s.obs.on then s
  else
    match s.obs.samples with
    | [] => s.setWord .OBS_SMPW_DATA 0#32 0 o.grp
    | x :: t => ({ s with obs := { s.obs with samples := t } }).setWords .OBS_SMPW_DATA x.words o.grp

/-! ## FREEZE (R355) -/

/-- A write of OBS_CTL.FREEZE. -/
def State.freeze (s : State) (o : Origin) (on : Bool) : State :=
  s.putRegPlain o .OBS_CTL 0 (depo (s.word .OBS_CTL) 31 31 (b2n on))

/-! ## The event log (R359, R360) -/

/-- The bit a setting belongs to: source, element of the block, bit. -/
def LogPend.key (x : LogPend) : Nat := (x.src * 64 + x.port) * 32 + x.bit

/-- The next setting to log: the oldest, of those at one instant the lowest source, then port, then bit. -/
def nextLog (l : List LogPend) : Option LogPend :=
  match l with
  | [] => none
  | x :: t => some ((t.takeWhile (fun y => y.ns == x.ns)).foldl (fun (a : LogPend) y => if y.key < a.key then y else a) x)

/-- An event log entry for the next setting, or its suppression within 1 ms of its bit's last entry. -/
def State.logEvent (s : State) : State :=
  match nextLog s.obs.pend with
  | none => s
  | some x =>
    let b := s.obs
    let k := x.key
    let b1 := { b with pend := b.pend.erase x }
    let last := b.lastLog.look (fun _ => 0) k
    if 0 < last ∧ x.ns < last - 1 + 1000000 then
      { s with obs := { b1 with supp := b.supp.put (fun _ => 0) k (min (b.supp.look (fun _ => 0) k + 1) 255) } }
    else
      let e : LogEnt := {
        t := x.t
        src := x.src
        port := if x.src = 16 ∨ x.src = 17 then x.port else 0
        bit := x.bit
        supp := b.supp.look (fun _ => 0) k
        evt := x.evt
        seq := b.logSeq + 1 }
      ({ s with obs := { b1 with
          log := (e :: b.log).take 1024
          logSeq := b.logSeq + 1
          supp := b.supp.put (fun _ => 0) k 0
          lastLog := b.lastLog.put (fun _ => 0) k (x.ns + 1) } }).setInt .OBS_INT_STAT 2

/-- The words of an entry. -/
def LogEnt.words (e : LogEnt) : List W32 :=
  [e.t.setWidth 32, (e.t >>> 32).setWidth 32,
    BitVec.ofNat 32 (fw 31 26 e.src + fw 25 20 e.port + fw 19 15 e.bit + fw 7 0 e.supp), e.evt]

/-- The log window reads entry IDX and its SEQ; an age with no entry reads as zeros (log entry 27). -/
def State.logRead (s : State) (o : Origin) : State :=
  if !s.accepts o .OBS_LOGW_CMD 0 then s.fault4 o .OBS_LOGW_CMD 0
  else
    let g := o.grp
    match s.obs.log[s.fld F.OBS_LOGW_IDX_AGE 0 g]? with
    | some e => (s.setWords .OBS_LOGW_DATA e.words g).setWord .OBS_LOGW_SEQ (BitVec.ofNat 32 e.seq) 0 g
    | none => (s.setWords .OBS_LOGW_DATA [0#32, 0#32, 0#32, 0#32] g).setWord .OBS_LOGW_SEQ 0#32 0 g

end Sys2Proof.Machine
end

