-- ==== Sys2Proof/Machine/Bus.lean ====
section
/-!
DEFINITION. Register accesses by any path (R8-R10, R361-R364): a read with its captures and restarts, and a write with the
register's own behaviour. Window commands, block commands and control bits do here what their own commands do.
-/

namespace Sys2Proof.Machine

/-! ## Reads -/

/-- Readable bits of a register: WO fields read 0 (R8). -/
def readable (r : Reg) (w : W32) : W32 := (regFields r).foldl (fun a f => if f.acc == .wo then depo a f.hi f.lo 0 else a) w

/-- A read of a minimum or maximum field restarts it for the reading group (R364). -/
def State.restartMin (s : State) (r : Reg) (g : Nat) : State :=
  match r with
  | .PWR_VCORE => { s with pwr := { s.pwr with minVcore := s.pwr.minVcore.drop g } }
  | .PWR_TJ => { s with pwr := { s.pwr with maxTj := s.pwr.maxTj.drop g } }
  | .TMG_BUF_MIN => { s with pwr := { s.pwr with minBuf := s.pwr.minBuf.drop g } }
  | .YRD_RO_STAT => { s with pwr := { s.pwr with minRo := s.pwr.minRo.drop g } }
  | _ => s

/-- A read of a counter's LO register captures it for the reading group, an observation counter's with the time counter
(R355, R363). -/
def State.capture (s : State) (r : Reg) (i g : Nat) : State :=
  match s.loCounter r i g with
  | none => s
  | some v =>
    let s1 := { s with caps := s.caps.put (fun _ => 0#64) (regKey r i g) v }
    if r.within .OBS_ENG_CYC_LO .OBS_CEL_CNT_HI then
      (s1.setWord .OBS_RD_TS_LO (wordOf s.nowNs 0) 0 g).setWord .OBS_RD_TS_HI (wordOf s.nowNs 1) 0 g
    else s1

/-- A read of register r, element i: the registers of PD109 read 0 while it is off (R357), SVC registers read 0 to others than
the service cores (R136). -/
def State.regRead (s : State) (o : Origin) (r : Reg) (i : Nat) : State × W32 :=
  let g := o.grp
  if pd109 r && !s.obs.on then (s, 0#32)
  else if r.within .SVC_CTL .SVC_TAG3 && !o.ownsCtx i then (s, 0#32)
  else if r == .KEY_PROV_DATA then
    let t := s.provData o false 0#32
    (t, match t.out with
      | .readData _ _ v :: _ => v
      | _ => 0#32)
  else
    let s1 := s.capture r i g
    ((s1.restartMin r g), readable r (s.regView r i g))

/-- Where service-core memory stands: local memories, shared memory, patch RAM (R339). -/
def coreMem (a : Nat) : Bool :=
  (decide (0x20000000 ≤ a) && decide (a < 0x21000000)) || (decide (0x30000000 ≤ a) && decide (a < 0x31000000)) ||
    (decide (0x31000000 ≤ a) && decide (a < 0x31040000))

/-- A 32-bit read at an internal address: its data, and whether it faulted. An offset with no register reads 0 (R362). -/
def State.busRead (s : State) (o : Origin) (a : Nat) : State × W32 × Bool :=
  let k := s.acuKind o a false
  if k ≠ 0 then (s.recordFault o a false k, 0#32, true)
  else if coreMem a then (s, BitVec.ofNat 32 (leNat (s.rdMem a 4)), false)
  else
    match findReg a with
    | none => (s, 0#32, false)
    | some (x, i) =>
      let (t, v) := s.regRead o x.reg i
      (t, v, false)

/-! ## Writes -/

/-- INT_STAT registers. -/
def statRegs : List Reg :=
  [.HPT_INT_STAT, .LPT_INT_STAT, .CLS_SL_INT_STAT, .SEC_INT_STAT, .ENG_INT_STAT, .YRD_INT_STAT, .MKA_INT_STAT, .KEY_INT_STAT,
    .TMG_INT_STAT, .CEL_INT_STAT, .TIM_INT_STAT, .PAR_INT_STAT, .STA_INT_STAT, .PWR_INT_STAT, .TCK_INT_STAT, .ACU_INT_STAT,
    .OBS_INT_STAT]

/-- Interrupt sources a register feeds (R327). -/
def srcsOf (r : Reg) : List Nat :=
  if r == .HFR_RING_STAT || r == .HFR_RING_EN then List.range 16
  else (statRegs.filter (fun x => x == r || (intInfo x).2.1 == r)).map (fun x => (intInfo x).1)

/-- The sources of a register are looked at again after its write. -/
def State.irqs (s : State) (r : Reg) : State := (srcsOf r).foldl (fun t n => t.irq n) s

/-- The fields of a command register beside its command (R10): stored or refused as in any write. -/
def State.cmdFields (s : State) (o : Origin) (r : Reg) (i : Nat) (v : W32) : State := s.countOnce (s.storeFields o r i v) o r i v

/-- A port's CFG write (R31, R43): EN clear takes its link down; EN set begins to bring it up. -/
def State.writePortCfg (s : State) (o : Origin) (p : Nat) (v : W32) : State :=
  let t := if p < 64 then s.putRegPlain o .HPT_CFG p v else s.putRegPlain o .LPT_CFG (p - 64) v
  if !t.portEn p then t.linkDown p
  else if !s.portEn p && t.linksRun && t.portLive p && !(t.port p).link then t.bringUp p
  else t

/-- A port's DORMANT write: WAKE wakes it (R44). -/
def State.writeDormant (s : State) (o : Origin) (p : Nat) (v : W32) : State :=
  let t := if p < 64 then s.putRegPlain o .HPT_DORMANT p v else s.putRegPlain o .LPT_DORMANT (p - 64) v
  if bits v 31 31 = 1 then t.wakeDormant p else t

/-- A port's RECAL write: REQ requests a recalibration, queued under QUEUE (R33). -/
def State.writeRecal (s : State) (o : Origin) (p : Nat) (v : W32) : State :=
  let t := if p < 64 then s.cmdFields o .HPT_RECAL p v else s.cmdFields o .LPT_RECAL (p - 64) v
  if bits v 0 0 = 1 then t.recalReq p (bits v 1 1 == 1) else t

/-- A write of an output's registers (R216): WIDTH_NS less than a PERIOD_NS that is not 0; the output is armed anew. -/
def State.writeOut (s : State) (o : Origin) (r : Reg) (i : Nat) (v : W32) : State :=
  let ok := fun (w : W32) =>
    let per := if i = 0 then 1000000000 else if r == .TIM_OUT_PERIOD then bits w 29 0 else s.fld F.TIM_OUT_PERIOD_NS i
    let wid := if r == .TIM_OUT_WIDTH then bits w 29 0 else s.fld F.TIM_OUT_WIDTH_NS i
    per == 0 || decide (wid < per)
  (s.putReg o r i v ok).armOut i

/-- A write of TIM_HOST: HOST_LOCK acts on the state (R207), HOLD_S on LOCKED (R208). -/
def State.writeTimHost (s : State) (o : Origin) (v : W32) : State :=
  let t := s.putRegPlain o .TIM_HOST 0 v
  (if t.fld F.TIM_HOST_HOST_LOCK = bits v 31 31 then t.hostLock o (bits v 31 31 == 1) else t).relock

/-- A write of a ring's BASE, or of its CTL (R334): BASE and SIZE only while STOPPED. -/
def State.writeRing (s : State) (o : Origin) (tx ctl : Bool) (r : Reg) (i : Nat) (v : W32) : State :=
  let idle := (s.ring (ringIx tx i)).stopped
  if !ctl then (if idle || o != .pf0 then s.putRegPlain o r i v else s.fault4 o r i)
  else
    let size := bits (s.word r i) 3 0
    let v1 := if idle then v else depo v 3 0 size
    let t := s.putRegPlain o r i v1
    let counted := (t.acu o.acu).faultCnt != (s.acu o.acu).faultCnt
    let t1 := if !idle && bits v 3 0 ≠ size && o == .pf0 && !counted then t.fault4 o r i else t
    if o != .pf0 then t1
    else if bits (t1.word r i) 31 31 = 1 then t1.ringOn tx i else t1.ringOff tx i

/-- A write of PCI_IVEC: an entry enabled while its source is set sends its message (R327). -/
def State.writeIvec (s : State) (o : Origin) (i : Nat) (v : W32) : State :=
  let t := s.putRegPlain o .PCI_IVEC i v
  if !s.flag F.PCI_IVEC_EN i && t.flag F.PCI_IVEC_EN i && t.srcSet i then
    t.message (t.fld F.PCI_IVEC_PF i) (t.fld F.PCI_IVEC_VECTOR i)
  else t

/-- The observation counter of a LO or HI register. -/
def obsOf (r : Reg) (i : Nat) : Option (ObsUnit × Nat) :=
  match r with
  | .OBS_ENG_CNT_LO => some (.engine (i / 8), i % 8)
  | .OBS_ENG_CNT_HI => some (.engine (i / 8), i % 8)
  | .OBS_PRT_CNT_LO => some (.port (i / 4), i % 4)
  | .OBS_PRT_CNT_HI => some (.port (i / 4), i % 4)
  | .OBS_COR_CNT_LO => some (.core (i / 4), i % 4)
  | .OBS_COR_CNT_HI => some (.core (i / 4), i % 4)
  | .OBS_CEL_CNT_LO => some (.cellar, i % 8)
  | .OBS_CEL_CNT_HI => some (.cellar, i % 8)
  | _ => none

/-- A write of an observation register: ignored while PD109 is off (R357); LO and HI set the counter's words (R360). -/
def State.writeObs (s : State) (o : Origin) (r : Reg) (i : Nat) (v : W32) : State :=
  if pd109 r && !s.obs.on && s.accepts o r i then s
  else
    let t := s.putRegPlain o r i v
    match obsOf r i with
    | none => t
    | some (u, c) =>
      if !s.accepts o r i then t
      else
        let old := (s.obsCnt u c).toNat
        let n := if loOf r == r then old / 2 ^ 32 * 2 ^ 32 + v.toNat else old % 2 ^ 32 + bits v 15 0 * 2 ^ 32
        { t with obs := { t.obs with cnts := t.obs.cnts.put (fun _ => 0#64) (obsKey u c) (BitVec.ofNat 64 n) } }

/-- The service cipher's operation codes (R130). -/
def State.svcStart (s : State) (o : Origin) (i : Nat) (v : W32) : State :=
  let slot := bits v 31 31 == 1
  let wrapped := bits v 30 30 == 1
  match bits v 3 0 with
  | 1 => s.svcEcb o i true
  | 2 => s.svcEcb o i false
  | 3 => s.svcCbc o i true
  | 4 => s.svcCbc o i false
  | 5 => s.svcCtrOp o i
  | 6 => s.svcGcmEnc o i
  | 7 => s.svcGcmDec o i
  | 8 => s.svcCmacOp o i
  | 9 => s.svcWrap o i slot
  | 10 => s.svcUnwrap o i slot
  | 11 => s.svcKdf o i slot
  | 12 => s.svcSave o i wrapped
  | 13 => s.svcRestore o i wrapped
  | 14 => s.svcDrbg o i slot
  | 15 => s.svcLoad o i
  | _ => s

/-- The epoch MKA has scheduled for the SecY of an SA; the present time when it has none (log entry 28). -/
def State.armEpoch (s : State) (k : Nat) : Int :=
  match (s.caOf (k / 4)).bind (fun n => (s.ca n).epoch) with
  | some e => e
  | none => s.timeT

/-- The command a write of a window's or block's CMD register gives; a reserved code starts nothing (log entry 28). -/
def State.cmdStart (s : State) (o : Origin) (r : Reg) (i : Nat) (v : W32) : State :=
  let op := bits v 2 0
  match r with
  | .STA_CMD =>
    (match op with
    | 1 => s.staWarm o
    | 2 => s.staCold o
    | 3 => s.clearHold o
    | 4 => s.clearAlt o
    | _ => s)
  | .STA_LOGW_CMD => if bits v 0 0 = 1 then s.staLogRead o else s
  | .STA_XSPI_CMD =>
    (match op with
    | 1 => s.xspiRead o (bits v 15 8)
    | 2 => s.xspiWrite o 2 256
    | 3 => s.xspiWrite o 3 65536
    | 4 => s.xspiVerify o
    | _ => s)
  | .TCK_CMD =>
    (match op with
    | 1 => s.ack o
    | 2 => s.tckClose o
    | 3 => s.stim o (bits v 7 3)
    | _ => s)
  | .TCK_LOGW_CMD => if bits v 0 0 = 1 then s.tckLogRead o else s
  | .ACU_CTL => if bits v 31 31 = 1 then s.acuCommit o i else s
  | .TIM_SNAP => if bits v 0 0 = 1 then s.timeSnap else s
  | .TIM_ADJ_CMD =>
    (match op with
    | 1 => s.adjRateCmd o
    | 2 => s.adjStepCmd o
    | 3 => s.adjBothCmd o
    | 4 => s.adjSetCmd o
    | _ => s)
  | .HPT_STAT_SNAP => if bits v 0 0 = 1 then s.statSnap i else s
  | .LPT_STAT_SNAP => if bits v 0 0 = 1 then s.statSnap (64 + i) else s
  | .CLS_BANK => if bits v 1 1 = 1 then s.bankSwitch o else s
  | .CLS_TW_CMD =>
    let sl := bits v 13 12
    let tb := bits v 11 8
    (match op with
    | 1 => s.twRead o sl tb (bits v 7 7)
    | 2 => s.twWrite o sl tb (bits v 7 7)
    | 0 => if s.twBusy o.grp then s.winErr [sl] else s
    | 7 => if s.twBusy o.grp then s.winErr [sl] else s
    | k => s.twMac o sl k tb (bits v 7 7))
  | .SEC_SAW_CMD =>
    (match bits v 3 0 with
    | 1 => s.sawRead o
    | 2 => s.sawInstall o
    | 3 => s.sawRetire o
    | 4 => s.sawRaise o
    | 5 => s.sawArm o (s.armEpoch (s.fld F.SEC_SAW_IDX_IDX 0 o.grp))
    | 6 => s.sawDisarm o
    | 7 => s.sawSwitch o
    | _ => s)
  | .SEC_RSCW_CMD =>
    (match bits v 3 0 with
    | 1 => s.rscwRead o
    | 2 => s.rscwInstall o
    | 3 => s.rscwRemove o
    | _ => s)
  | .ENG_TPL_CMD =>
    (match bits v 1 0 with
    | 1 => s.tplRead o
    | 2 => s.tplWrite o
    | _ => s)
  | .YRD_SCW_CMD => if bits v 0 0 = 1 then s.scwRead o else s
  | .MKA_CAW_CMD =>
    (match op with
    | 1 => s.cawReadCa o
    | 2 => s.cawReadPeer o
    | 3 => s.cawRekey o
    | 4 => s.cawRestart o
    | _ => s)
  | .KEY_SLOTW_CMD =>
    (match op with
    | 1 => s.slotwRead o
    | 2 => s.slotwAllocate o
    | 3 => s.slotwRelease o
    | 4 => s.slotwGen o 16
    | 5 => s.slotwGen o 32
    | _ => s)
  | .KEY_CAKW_CMD =>
    (match bits v 1 0 with
    | 1 => s.cakwRead o
    | 2 => s.cakwErase o
    | _ => s)
  | .TMG_SHW_CMD =>
    (match bits v 1 0 with
    | 1 => s.shwRead o
    | 2 => s.shwWrite o false
    | 3 => s.shwWrite o true
    | _ => s)
  | .TMG_QW_CMD =>
    (match bits v 1 0 with
    | 1 => s.qwRead o
    | 2 => s.qwWrite o
    | _ => s)
  | .TMG_POLW_CMD =>
    (match bits v 1 0 with
    | 1 => s.polwRead o
    | 2 => s.polwWrite o
    | _ => s)
  | .TMG_GCW_CMD =>
    (match bits v 1 0 with
    | 1 => s.gcwRead o
    | 2 => s.gcwWrite o
    | _ => s)
  | .CEL_RGW_CMD => if bits v 0 0 = 1 then s.rgwRead o else s
  | .CEL_DGW_CMD =>
    (match bits v 1 0 with
    | 1 => s.dgwRead o
    | 2 => s.dgwWrite o
    | _ => s)
  | .PAR_CMD =>
    (match op with
    | 1 => s.parTest o
    | 2 => s.parExit o
    | 3 => s.parSwitch o
    | 4 => s.parAccept o
    | _ => s)
  | .OBS_SMPW_CMD => if bits v 0 0 = 1 then s.smpPop o else s
  | .OBS_LOGW_CMD => if bits v 0 0 = 1 then s.logRead o else s
  | _ => s

/-- The CMD registers of cmdStart. -/
def isCmd (r : Reg) : Bool :=
  [Reg.STA_CMD, .STA_LOGW_CMD, .STA_XSPI_CMD, .TCK_CMD, .TCK_LOGW_CMD, .ACU_CTL, .TIM_SNAP, .TIM_ADJ_CMD, .HPT_STAT_SNAP,
    .LPT_STAT_SNAP, .CLS_BANK, .CLS_TW_CMD, .SEC_SAW_CMD, .SEC_RSCW_CMD, .ENG_TPL_CMD, .YRD_SCW_CMD, .MKA_CAW_CMD,
    .KEY_SLOTW_CMD, .KEY_CAKW_CMD, .TMG_SHW_CMD, .TMG_QW_CMD, .TMG_POLW_CMD, .TMG_GCW_CMD, .CEL_RGW_CMD, .CEL_DGW_CMD,
    .PAR_CMD, .OBS_SMPW_CMD, .OBS_LOGW_CMD].contains r

/-- A write to a CMD register: while BUSY only the command's own refusal; else its fields, then its command. What it makes a fault is
counted once (R10). -/
def State.writeCmd (s : State) (o : Origin) (r : Reg) (i : Nat) (v : W32) : State :=
  let busy := bits (s.word r i o.grp) 31 31 == 1
  if pd109 r && !s.obs.on && s.accepts o r i then s
  else if r.within .OBS_SMPW_CMD .OBS_LOGW_CMD && !s.accepts o r i then s.fault4 o r i
  else s.countOnce ((if busy then s else s.storeFields o r i v).cmdStart o r i v) o r i v

/-- A write of v to register r, element i, by a master whose access its ACU has passed. -/
def State.regWrite (s : State) (o : Origin) (r : Reg) (i : Nat) (v : W32) : State :=
  let t :=
    if isCmd r then s.writeCmd o r i v
    else if r.within .OBS_CTL .OBS_CEL_CNT_HI then s.writeObs o r i v
    else if r.within .TIM_OUT_CFG .TIM_OUT_WIDTH then s.writeOut o r i v
    else
      match r with
      | .PWR_CTL => s.writePwrCtl o v
      | .TCK_FLAG => s.countOnce (s.flagClear o v) o r i v
      | .TCK_RESP => s.respWrite o i false v
      | .TCK_RESP_WIN => s.respWrite o i true v
      | .TIM_CTL => s.countOnce (s.writeOwner o (bits v 31 30)) o r i v
      | .TIM_HOST => s.writeTimHost o v
      | .TIM_CAP_CFG =>
        let t := (s.cmdFields o r i v).armOut i
        if bits v 28 28 = 1 then t.capPop i else t
      | .HPT_CFG => s.writePortCfg o i v
      | .LPT_CFG => s.writePortCfg o (64 + i) v
      | .HPT_MAX_FRAME => s.writeMaxFrame o i v
      | .HPT_FC_THR => s.writeFcThr o i v
      | .HPT_DORMANT => s.writeDormant o i v
      | .LPT_DORMANT => s.writeDormant o (64 + i) v
      | .HPT_RECAL => s.writeRecal o i v
      | .LPT_RECAL => s.writeRecal o (64 + i) v
      | .CLS_AGE => s.writeAge o v
      | .CLS_LP_MODE => s.writeLpMode o i v
      | .SEC_CTL => s.writeSecReg o .ctl v
      | .SEC_SECY_CFG => s.writeSecReg o (.cfg i) v
      | .SEC_SECY_WIN => s.writeSecReg o (.win i) v
      | .YRD_TEST =>
        if bits v 31 31 = 1 then s.countOnce (s.testRequest o (bits v 30 29) (bits v 5 0)) o r i v else s.cmdFields o r i v
      | .MKA_TIME0 => s.writeMkaTime o 0 v
      | .MKA_TIME1 => s.writeMkaTime o 1 v
      | .MKA_TIME2 => s.writeMkaTime o 2 v
      | .MKA_TIME3 => s.writeMkaTime o 3 v
      | .KEY_ZERO => s.keyZero o v
      | .KEY_PROV_CMD =>
        let u := s.storeFields o r i v
        s.countOnce (match bits v 1 0 with
        | 1 => u.provBegin o (bits v 17 8)
        | 2 => u.provCommit o
        | 3 => u.provAbort o
        | _ => u) o r i v
      | .KEY_PROV_DATA => s.provData o true v
      | .SVC_CTL =>
        let t := s.putRegPlain o r i v
        if s.accepts o r i then t.svcStart o i v else t
      | .TMG_PORT_CFG =>
        let t := s.putRegPlain o r i v
        if bits v 30 30 = 0 then t
        else if s.presence ∨ (t.acu o.acu).faultCnt = (s.acu o.acu).faultCnt then t.configChange o i else t
      | .PCI_IVEC => s.writeIvec o i v
      | .HFR_TX_BASE_LO => s.writeRing o true false r i v
      | .HFR_TX_BASE_HI => s.writeRing o true false r i v
      | .HFR_TX_CTL => s.writeRing o true true r i v
      | .HFR_TX_TAIL => s.tailWrite o true i v
      | .HFR_RX_BASE_LO => s.writeRing o false false r i v
      | .HFR_RX_BASE_HI => s.writeRing o false false r i v
      | .HFR_RX_CTL => s.writeRing o false true r i v
      | .HFR_RX_TAIL => s.tailWrite o false i v
      | r => s.putRegPlain o r i v
  t.irqs r

/-- The offsets of LPT that hold host-only registers: writes to them are ignored (R48). -/
def lptHole (a : Nat) : Bool :=
  decide (0x140000 ≤ a) && decide (a < 0x180000) && (decide (a % 0x1000 = 0x010) || decide (a % 0x1000 = 0x01C))

/-- A 32-bit write at an internal address, and whether it faulted: an offset with no register is a fault of kind 6 (R362). -/
def State.busWrite (s : State) (o : Origin) (a : Nat) (v : W32) : State × Bool :=
  let k := s.acuKind o a true
  if k ≠ 0 then (s.recordFault o a true k, true)
  else if coreMem a then (s.wrMem a (leOctets 4 v.toNat), false)
  else
    match findReg a with
    | some (x, i) =>
      let t := s.regWrite o x.reg i v
      (t, decide ((t.acu o.acu).faultCnt ≠ (s.acu o.acu).faultCnt))
    | none => if lptHole a then (s, false) else (s.recordFault o a true 6, true)

/-- REGISTER_WRITE. The MSI-X tables lie in each function's own BAR0 (R361): table entries of 16 octets, 64 vectors; the pending
bits are read only. Unmasking a vector with its bit pending sends its message (R327). -/
def State.registerWrite (s : State) (o : Origin) (a : Nat) (v : W32) : State :=
  let pf := if o == .pf1 then 1 else 0
  if (o == .pf0 || o == .pf1) && decide (0x3000000 ≤ a) && decide (a < 0x3000400) && decide (a % 4 = 0) then
    let w := (a - 0x3000000) / 4
    let t := { s with pci := { s.pci with table := s.pci.table.put msixDflt (pf * 2 ^ 16 + w) v } }
    let n := pf * 64 + w / 4
    if w % 4 = 3 && bits v 0 0 == 0 && t.pci.msix.getLsbD n then
      ({ t with pci := { t.pci with msix := t.pci.msix &&& ~~~(BitVec.ofNat 128 (2 ^ n)) } }).emit (.msix pf (w / 4))
    else t
  else if (o == .pf0 || o == .pf1) && decide (0x3001000 ≤ a) && decide (a < 0x3001008) then s
  else (s.busWrite o a v).1

end Sys2Proof.Machine
end

