-- ==== Sys2Proof/Machine/Fetch.lean ====
section
/-!
DEFINITION. Cold placed state (R148): the fetch of an SA's record from the cellar and the write-back of a demoted one.
-/

namespace Sys2Proof.Machine

/-- The frames that wait for SA k's fetch go on to stage 3. -/
def State.wakeFetch (s : State) (k : Nat) : State :=
  { s with frames := s.frames.map (fun f => if f.stage == .fetching && f.sa == some k then { f with stage := .dispatch } else f) }

/-- The fetched record serves: the SA is hot within the budget, its key loaded into every engine of its set (R147 rule 4, R148). -/
def State.fetchGood (s : State) (k : Nat) : State :=
  let s1 := if 16384 ≤ s.hotCount then s.demote 4 else s
  let s2 := (s1.setSa k { s1.sa k with hot := true }).warm k
  (s2.wakeFetch k).pumpAll

/-- The record is lost: the SA was retired and MKA told (R191); its waiting frames cannot be served and are dropped. -/
def State.fetchLost (s : State) (k : Nat) : State :=
  ((s.frames.filter (fun f => f.stage == .fetching && f.sa == some k)).foldl (fun t f => t.dropFrame f) s).pumpAll

/-- The fetch of SA k ends, its line as the stack reported it; a node that waits for its copy keeps the fetch open (R190). -/
def State.coldFetched (s : State) (k : Nat) (res : ReadRes) : State :=
  match s.frames.find? (fun f => f.stage == .fetching && f.sa == some k) with
  | none => s
  | some _ =>
    if (s.sa k).hot then s.fetchGood k
    else
      match placeOf s.cel.layout 1 k with
      | none => if res == .uncorrectable then ((s.retireSa k).notice (.saLost k)).fetchLost k else s.fetchGood k
      | some a =>
        match s.readData [⟨a, res, none⟩] a with
        | (t, .ok, _) => t.fetchGood k
        | (t, .waiting, _) => t
        | (t, .lost, _) =>
          let u := if (t.sa k).installed then (t.retireSa k).notice (.saLost k) else t
          u.fetchLost k

/-- The write-back of a demoted SA ends once its last frame has left stage 5 (R148). The spec gives the record no layout: its
line's content is a free value (log entry 10). -/
def State.demoted (s : State) (k : Nat) : State :=
  if !(s.sa k).demoting || s.boundTo k then s
  else
    let s1 := (s.setSa k { s.sa k with hot := false, demoting := false }).trimKeys (saSc k)
    match placeOf s1.cel.layout 1 k with
    | none => s1
    | some a =>
      let (w, s2) := s1.draw
      s2.celWrite a w

end Sys2Proof.Machine
end

