-- ==== Sys2Proof/Machine/Wire.lean ====
section
/-!
DEFINITION. The management paths: SMBus (R335), Iaholt's requests (R336, R337), and the unlocked debug instructions
(R346, R347).
-/

namespace Sys2Proof.Machine

/-! ## SMBus (R335) -/

def State.setSmb (s : State) (f : Smb → Smb) : State := { s with smb := f s.smb }

/-- A write without a valid PEC is NACKed. -/
def State.smbBad (s : State) : State := (s.setSmb (fun b => { b with pecErr := true })).emit .smbNack

/-- ADDR: the register offset. -/
def State.smbAddr (s : State) (pec : Bool) (a : Nat) : State :=
  if pec then s.setSmb (fun b => { b with off := a % 2 ^ 32 }) else s.smbBad

/-- The access just made by SMBus: its fault bit, and the offset moves on. -/
def State.smbNext (s : State) (fault : Bool) : State :=
  s.setSmb (fun b => { b with fault := fault, off := (b.off + 4) % 2 ^ 32 })

/-- READ: the register at the offset, least significant octet first. -/
def State.smbRead (s : State) : State :=
  let (t, v, f) := s.busRead .smbus s.smb.off
  (t.smbNext f).emit (.smbData (leOctets 4 v.toNat))

/-- WRITE: the register at the offset. -/
def State.smbWrite (s : State) (pec : Bool) (v : W32) : State :=
  if pec then
    let (t, f) := s.busWrite .smbus s.smb.off v
    t.smbNext f
  else s.smbBad

/-- STATUS: bit 0 the last access faulted, bit 2 a PEC error since the last STATUS, bit 3 safe hold; never busy (log entry 28). -/
def State.smbStatus (s : State) : State :=
  (s.setSmb (fun b => { b with pecErr := false })).emit
    (.smbData [BitVec.ofNat 8 (b2n s.smb.fault + 4 * b2n s.smb.pecErr + 8 * b2n s.start.safeHold)])

/-- ID: GLB_DEV_ID, then GLB_DEV_REV. -/
def State.smbId (s : State) : State :=
  s.emit (.smbData (leOctets 4 (s.regView .GLB_DEV_ID 0 1).toNat ++ leOctets 4 (s.regView .GLB_DEV_REV 0 1).toNat))

/-- SCL low for more than 30 ms resets the interface (R386). -/
def State.smbTimeout (s : State) : State := { s with smb := {} }

/-! ## Iaholt (R336, R337) -/

/-- The registers of a READ, in order: their words and which faulted. -/
def State.iahReads (s : State) (a n : Nat) : State × List (W32 × Bool) :=
  (List.range n).foldl (fun (x : State × List (W32 × Bool)) k =>
    let (t, v, f) := x.1.busRead .iaholt (a + 4 * k)
    (t, x.2 ++ [(v, f)])) (s, [])

/-- The pairs of a WRITE, in order: which faulted. -/
def State.iahWrites (s : State) (l : List (Nat × W32)) : State × List Bool :=
  l.foldl (fun (x : State × List Bool) e =>
    let (t, f) := x.1.busWrite .iaholt e.1 e.2
    (t, x.2 ++ [f])) (s, [])

/-- RESPONSE: whether a word faulted and the index of the first that did, then the data. -/
def State.iahAnswer (s : State) (seq : Nat) (faults : List Bool) (data : List W32) : State :=
  s.mgtSend (.iahResp seq (faults.contains true) (if faults.contains true then faults.findIdx (fun b => b) else 0) data)
    (s.mgtUdp (36 + 4 * data.length))

/-- READ of 1-64 registers; a body with another count makes no access and is answered as a fault of word 0 (log entry 29). -/
def State.iahRead (s : State) (h : IahHdr) (a n : Nat) : State :=
  s.iahTake h (fun t _ =>
    if n = 0 ∨ 64 < n then t.iahAnswer h.seq [true] []
    else
      let (u, l) := t.iahReads a n
      u.iahAnswer h.seq (l.map (·.2)) (l.map (·.1)))

/-- WRITE of 1-64 pairs. -/
def State.iahWrite (s : State) (h : IahHdr) (l : List (Nat × W32)) : State :=
  s.iahTake h (fun t _ =>
    if l = [] ∨ 64 < l.length then t.iahAnswer h.seq [true] []
    else
      let (u, fs) := t.iahWrites l
      u.iahAnswer h.seq fs [])

/-- CLOSE. -/
def State.iahClose (s : State) (h : IahHdr) : State := s.iahTake h (fun t k => t.sessClose k)

/-! ## Debug (R346, R347) -/

/-- A read of a halted core, checked by its ACU as privileged. -/
def State.dbgRead (s : State) (c a : Nat) : State :=
  if s.jtag.halted.contains (c % 16) then
    let (t, v, _) := s.busRead (.core (c % 16)) a
    t.emit (.tdo (leOctets 4 v.toNat))
  else s

/-- A write by a halted core. -/
def State.dbgWrite (s : State) (c a : Nat) (v : W32) : State :=
  if s.jtag.halted.contains (c % 16) then (s.busWrite (.core (c % 16)) a v).1 else s

/-- Halt or resume a core. -/
def State.dbgHalt (s : State) (c : Nat) (on : Bool) : State :=
  let l := s.jtag.halted.filter (fun k => k != c % 16)
  { s with jtag := { s.jtag with halted := if on then l ++ [c % 16] else l } }

end Sys2Proof.Machine
end

