-- ==== Sys2Proof/Machine/Settle.lean ====
section
/-!
DEFINITION. The end of a step: the alarms raised in it act together (R313), firmware takes the notices sent to it
(R82, R98, R129, R191, R231), the pair looks at shed stage S6 (R241), and the pad logic has the last word (R224, R226).
-/

namespace Sys2Proof

/-- The register of a port's side: h of a host port, l of a line port. -/
def PortId.reg (p : PortId) (h l : Machine.Reg) : Machine.Reg := if p.side = .host then h else l

/-- The register and the element of a SecY configuration command (R94). -/
def SecReg.reg (r : SecReg) : Machine.Reg :=
  match r with
  | .cfg _ => .SEC_SECY_CFG
  | .win _ => .SEC_SECY_WIN
  | .ctl => .SEC_CTL

def SecReg.index (r : SecReg) : Nat :=
  match r with
  | .cfg n => n % 2048
  | .win n => n % 2048
  | .ctl => 0

end Sys2Proof

namespace Sys2Proof.Machine

/-- A frame of the path, when there is one with this id. -/
def State.onFrame (s : State) (id : Nat) (f : State → Frame → State) : State :=
  match s.frame? id with
  | some x => f s x
  | none => s

/-- Octets arrive at a port that receives, while the datapath serves. -/
def State.arriveAt (s : State) (p : Nat) (o : List Byte) : State := if s.serving && s.receives p then s.arrive p o else s

/-- FEC codewords corrected and not correctable on a port with a link (R48, R49). -/
def State.codewords (s : State) (p corr unc : Nat) : State :=
  if !s.serving || !s.receives p then s
  else
    let s1 := (s.portCnt p 30 corr).portCnt p 31 unc
    if unc = 0 then s1 else s1.portInt p 5

/-- A pause or PFC frame, 64 octets long, is received without error (R49). -/
def State.rxCtl (s : State) (p : Nat) : State := (s.portCnt p 2).portCnt p 3 64

/-- An active member's MKA tasks go on after what they waited for. -/
def State.firmware (s : State) : State := if s.isActive then s.pollMka else s

/-- An adjustment that changed time is mirrored at once by an active member (R234). -/
def State.mirrorTime (s t : State) : State := if t.tim != s.tim && t.isActive then t.tellTime else t

/-- MKA_TIME0-3 (R119). -/
def mkaTimeReg (k : Nat) : Reg :=
  match k % 4 with
  | 0 => .MKA_TIME0
  | 1 => .MKA_TIME1
  | 2 => .MKA_TIME2
  | _ => .MKA_TIME3

/-- A read at an internal address, with the data that comes out. -/
def State.readOut (s : State) (o : Origin) (a : Nat) : State :=
  let (t, v, _) := s.busRead o a
  t.emit (.readData o a v)

/-- A read or a write of a register by origin o: the ACU's check, then the access (R340, R342). -/
def State.hostAccess (s : State) (o : Origin) (r : Reg) (i : Nat) (write : Bool) (f : State → State) : State :=
  let a := regAddr r i
  let k := s.acuKind o a write
  if k = 0 then f s else s.recordFault o a write k

/-- An epoch record of CA n (R234): the arming of the SA it names, by AN and key number. -/
def State.epochFor (s : State) (n an : Nat) (kn : W32) (e : Option Int) : State :=
  if e.isNone ∨ (s.par.mirSak.look (fun _ => {}) (n * 4 + an)).kn = kn then s.epochIn n e else s

/-- Firmware takes one notice. -/
def State.takeMail (s : State) (m : Mail) : State :=
  match m with
  | .rekey y => s.rekeySecy y
  | .saLost k => s.lostSa k
  | .cakSlot k =>
    let t := s.cakChanged k
    if k = 1023 ∧ t.pairing.st = .stored ∧ t.pairing.tether = true then
      let u := t.deriveTether
      if u.tetherKeyed then u.helloKeyed else u
    else t
  | .zeroized => (List.range 2048).foldl (fun t n => if (t.ca n).active then t.setCa n { t.ca n with active := false } else t) s

/-- The notices of the step, in order. -/
def State.readMail (s : State) : State := s.mail.foldl State.takeMail { s with mail := [] }

/-- Alarms and notices until none is left: an alarm's response may send notices, and a notice's effect may raise an alarm. -/
def State.settleGo (s : State) (n : Nat) : State :=
  match n with
  | 0 => s
  | k + 1 => if s.alarm.queue.isEmpty && s.mail.isEmpty then s else (s.takeAlarms.readMail).settleGo k

/-- The spine and the pads, whatever the core does: with an invalid lease BEAT_OUT stops and ACT_OUT is low (R226), and the gate
follows its conditions (R224). -/
def State.padLogic (s : State) : State :=
  if s.leaseValid then s.gateLook else ((s.setBeat false).setAct false).gateLook

/-- The end of a step. -/
def State.settle (s : State) : State := ((s.settleGo 4).s6Look.fenceLook.padLogic).driveLeds

/-- What a command given in state s leaves when its effect is t: the step's end, and the queue as it was (a command acts on
everything but the queue). -/
def State.done (s t : State) : State := { t.settle with pending := s.pending }

end Sys2Proof.Machine
end

