-- ==== Sys2Proof/Machine/ExecCel.lean ====
section
/-!
DEFINITION. The commands of the cellar (09): one meaning per command.
-/

namespace Sys2Proof.Machine

open Host

/-- A line read is issued (R184). -/
def execCellarLineRead (line : Nat) (s : State) : Outcome State Fault Refusal := .next (s.done (s.lineRead line))

/-- A line read returns (R184, R189, R190). -/
def execCellarReadComplete (line : Nat) (seen : List LineSeen) (s : State) : Outcome State Fault Refusal :=
  .next (s.done (s.readComplete line seen))

/-- A line write: full, or of the octets a mask names (R184, R187). -/
def execCellarLineWrite (line : Nat) (w : LineData) (s : State) : Outcome State Fault Refusal :=
  .next (s.done (s.maskWrite line w.data w.mask w.seen))

/-- A node is restored: a primary from its copy, an on-die line from the second array (R183, R190). -/
def execNodeRestored (node : NodeRef) (seen : List LineSeen) (s : State) : Outcome State Fault Refusal :=
  .next (s.done (s.nodeRestored node seen))

/-- The oldest dirty line is written back (R185). -/
def execMetadataWriteback (s : State) : Outcome State Fault Refusal := .next (s.done s.writeBack)

/-- The counters are flushed (R187). -/
def execCounterFlush (s : State) : Outcome State Fault Refusal := .next (s.done s.counterFlush)

/-- The patrol scrub reads a line (R192). -/
def execScrub (line : Nat) (seen : List LineSeen) (s : State) : Outcome State Fault Refusal :=
  .next (s.done (s.scrub line seen))

/-- A mover moves a page (R195). -/
def execPageMove (stack : Nat) (seen : List LineSeen) (s : State) : Outcome State Fault Refusal :=
  .next (s.done (s.pageMove (stack % 4) seen))

/-- A draining stack is empty (R194). -/
def execStackDrained (stack : Nat) (s : State) : Outcome State Fault Refusal :=
  .next (s.done (s.stackDrained (stack % 4)))

/-- A waking stack is ready, or lost (R194, R196). -/
def execStackWakeDone (stack : Nat) (pass : Bool) (s : State) : Outcome State Fault Refusal :=
  .next (s.done (s.stackWakeDone (stack % 4) pass))

/-- A stack meets a loss condition (R196). -/
def execStackLost (stack : Nat) (s : State) : Outcome State Fault Refusal := .next (s.done (s.loseStack (stack % 4)))

/-- A copy is complete (R185). -/
def execCopyRebuildDone (stack : Nat) (s : State) : Outcome State Fault Refusal :=
  .next (s.done (s.copyRebuilt (stack % 4)))

/-- An OVT reload ends (R191, R278). -/
def execOvtReloadDone (pass : Bool) (s : State) : Outcome State Fault Refusal := .next (s.done (s.ovtReload pass))

/-- The region window reads (R200). -/
def execRgwRead (o : Origin) (s : State) : Outcome State Fault Refusal :=
  .next (s.done (s.hostWrite o .CEL_RGW_CMD 0 (fun t => t.rgwRead o)))

/-- The DIAG window reads a line (R199). -/
def execDgwRead (o : Origin) (s : State) : Outcome State Fault Refusal :=
  .next (s.done (s.hostWrite o .CEL_DGW_CMD 0 (fun t => t.dgwRead o)))

/-- The DIAG window writes a line (R199). -/
def execDgwWrite (o : Origin) (s : State) : Outcome State Fault Refusal :=
  .next (s.done (s.hostWrite o .CEL_DGW_CMD 0 (fun t => t.dgwWrite o)))

end Sys2Proof.Machine
end

