-- ==== Sys2Proof/Machine/ExecCls.lean ====
section
/-!
DEFINITION. The commands of classification (03): one meaning per command.
-/

namespace Sys2Proof.Machine

open Host

/-- A write of CLS_BANK.SWITCH (R60). -/
def execBankSwitch (o : Origin) (s : State) : Outcome State Fault Refusal :=
  .next (s.done (s.hostWrite o .CLS_BANK 0 (fun t => t.bankSwitch o)))

/-- No lookup uses the old bank any more (R60). -/
def execBankDrained (s : State) : Outcome State Fault Refusal :=
  .next (s.done ({ s with cls := { s.cls with drained := true } }))

/-- An ageing sweep (R64). -/
def execAgeingSweep (s : State) : Outcome State Fault Refusal := .next (s.done (s.ageingSweep))

/-- A write of CLS_AGE (R64). -/
def execAgeWrite (o : Origin) (v : W32) (s : State) : Outcome State Fault Refusal :=
  .next (s.done (s.hostWrite o .CLS_AGE 0 (fun t => t.writeAge o v)))

/-- A table window read (R70). -/
def execTwRead (o : Origin) (slice table bank : Nat) (s : State) : Outcome State Fault Refusal :=
  .next (s.done (s.hostWrite o .CLS_TW_CMD 0 (fun t => t.twRead o slice table bank)))

/-- A table window write (R60, R70). -/
def execTwWrite (o : Origin) (slice table bank : Nat) (s : State) : Outcome State Fault Refusal :=
  .next (s.done (s.hostWrite o .CLS_TW_CMD 0 (fun t => t.twWrite o slice table bank)))

/-- A MAC insert by key (R70). -/
def execTwInsert (o : Origin) (slice : Nat) (s : State) : Outcome State Fault Refusal :=
  .next (s.done (s.hostWrite o .CLS_TW_CMD 0 (fun t => t.twKey o slice 3)))

/-- A MAC delete by key (R70). -/
def execTwDelete (o : Origin) (slice : Nat) (s : State) : Outcome State Fault Refusal :=
  .next (s.done (s.hostWrite o .CLS_TW_CMD 0 (fun t => t.twKey o slice 4)))

/-- A MAC flush of one line port (R65). -/
def execTwFlushLport (o : Origin) (slice : Nat) (s : State) : Outcome State Fault Refusal :=
  .next (s.done (s.hostWrite o .CLS_TW_CMD 0 (fun t => t.twKey o slice 5)))

/-- A MAC flush of one peer (R65). -/
def execTwFlushPeer (o : Origin) (slice : Nat) (s : State) : Outcome State Fault Refusal :=
  .next (s.done (s.hostWrite o .CLS_TW_CMD 0 (fun t => t.twKey o slice 6)))

/-- The flush that began first ends (R65). -/
def execFlushDone (s : State) : Outcome State Fault Refusal := .next (s.done s.flushDone)

/-- A write of CLS_LP_MODE (R70). -/
def execLpModeWrite (o : Origin) (port : Nat) (v : W32) (s : State) : Outcome State Fault Refusal :=
  .next (s.done (s.hostWrite o .CLS_LP_MODE (port % 64) (fun t => t.writeLpMode o (port % 64) v)))

end Sys2Proof.Machine
end

