-- ==== Sys2Proof/Machine/ExecEng.lean ====
section
/-!
DEFINITION. The commands of the engines and the yardmaster (07): one meaning per command.
-/

namespace Sys2Proof.Machine

open Host

/-- A pace window ends (R140). -/
def execPaceWindow (counts : List Nat) (s : State) : Outcome State Fault Refusal := .next (s.done (s.paceWindow counts))

/-- The margin period (R142). -/
def execMarginPeriod (s : State) : Outcome State Fault Refusal := .next (s.done (s.marginPeriod))

/-- A template is read (R156). -/
def execTplRead (o : Origin) (s : State) : Outcome State Fault Refusal :=
  .next (s.done (s.hostWrite o .ENG_TPL_CMD 0 (fun t => t.tplRead o)))

/-- A template write in service (R10, R144, R156). -/
def execTplWrite (o : Origin) (s : State) : Outcome State Fault Refusal :=
  .next (s.done (s.hostWrite o .ENG_TPL_CMD 0 (fun t => t.tplWrite o)))

/-- The 10 ms rebalance (R147). -/
def execRebalance (s : State) : Outcome State Fault Refusal := .next (s.done (s.rebalance))

/-- A set shrinks (R147). -/
def execSetShrink (rx : Bool) (sc : Nat) (s : State) : Outcome State Fault Refusal :=
  .next (s.done (s.setShrink (if rx then 2048 + sc % 16384 else sc % 2048)))

/-- The rotation's turn (R150). -/
def execEngineRotation (s : State) : Outcome State Fault Refusal := .next (s.done (s.rotate))

/-- A write of YRD_TEST.REQ (R150). -/
def execTestRequest (o : Origin) (op eng : Nat) (s : State) : Outcome State Fault Refusal :=
  .next (s.done (s.hostWrite o .YRD_TEST 0 (fun t => t.testRequest o op eng)))

/-- A deferred test is retried (R151). -/
def execTestRetry (s : State) : Outcome State Fault Refusal := .next (s.done (s.testRetry))

/-- tTEST_DEFER passes (R151). -/
def execTestDeferExpired (s : State) : Outcome State Fault Refusal := .next (s.done (s.testDeferExpired))

/-- A draining engine is empty (R152, R153). -/
def execEngineDrained (eng : Nat) (s : State) : Outcome State Fault Refusal :=
  .next (s.done (s.engineDrained (eng % 64)))

/-- The tests of an engine end (R152). -/
def execEngineTestDone (eng : Nat) (pass : Bool) (ratio tap : Nat) (s : State) : Outcome State Fault Refusal :=
  .next (s.done ((s.testDone (eng % 64) pass ratio tap).pumpAll))

/-- The kept engines are recomputed (R155). -/
def execShedEngineRecompute (s : State) : Outcome State Fault Refusal := .next (s.done (s.shedEngines))

/-- A shed engine is back (R153). -/
def execEngineWakeDone (eng pace : Nat) (s : State) : Outcome State Fault Refusal :=
  .next (s.done ((s.engineWake (eng % 64) pace).pumpAll))

/-- The set window reads (R156). -/
def execScwRead (o : Origin) (s : State) : Outcome State Fault Refusal :=
  .next (s.done (s.hostWrite o .YRD_SCW_CMD 0 (fun t => t.scwRead o)))

end Sys2Proof.Machine
end

