-- ==== Sys2Proof/Machine/ExecHost.lean ====
section
/-!
DEFINITION. The commands of the host interfaces, access control, JTAG and debug (16): one meaning per command.
-/

namespace Sys2Proof.Machine

open Host

/-- A register write (R8-R10, R340-R345, R361-R364). -/
def execRegisterWrite (o : Origin) (addr : Nat) (v : W32) (s : State) : Outcome State Fault Refusal :=
  .next (s.done ((s.registerWrite o addr v).firmware))

/-- A function-level reset of PF0 (R328). -/
def execPf0Flr (s : State) : Outcome State Fault Refusal := .next (s.done (s.flr0))

/-- A function-level reset of PF1 (R328). -/
def execPf1Flr (s : State) : Outcome State Fault Refusal := .next (s.done (s.flr1))

/-- A TX descriptor is fetched (R330, R331). -/
def execTxDescriptor (ring : Nat) (d : TxDesc) (s : State) : Outcome State Fault Refusal :=
  .next (s.done ((s.txFetch (ring % 8) d).pumpAll))

/-- A TX descriptor is written back (R331). -/
def execTxWriteback (ring : Nat) (s : State) : Outcome State Fault Refusal := .next (s.done (s.txBack (ring % 8)))

/-- A frame is written to a posted RX buffer (R333). -/
def execRxWriteback (ring : Nat) (addr : W64) (s : State) : Outcome State Fault Refusal :=
  .next (s.done (s.rxBack (ring % 8) addr))

/-- COAL_US after the last RX_DONE (R333). -/
def execRxCoalesce (ring : Nat) (s : State) : Outcome State Fault Refusal := .next (s.done (s.rxCoal (ring % 8)))

/-- A ring's EN is set (R334). -/
def execRingEnable (o : Origin) (tx : Bool) (ring : Nat) (s : State) : Outcome State Fault Refusal :=
  .next (s.done (s.hostWrite o (ringCtl tx) (ring % 8) (fun t => t.ringEnable o tx ring)))

/-- A ring's EN is cleared (R334). -/
def execRingDisable (o : Origin) (tx : Bool) (ring : Nat) (s : State) : Outcome State Fault Refusal :=
  .next (s.done (s.hostWrite o (ringCtl tx) (ring % 8) (fun t => t.ringDisable o tx ring)))

/-- A write of TAIL (R334). -/
def execTailWrite (o : Origin) (tx : Bool) (ring : Nat) (v : W32) (s : State) : Outcome State Fault Refusal :=
  .next (s.done (s.hostWrite o (ringTail tx) (ring % 8) (fun t => t.tailWrite o tx ring v)))

/-- SMBus ADDR (R335). -/
def execSmbAddr (pec : Bool) (addr : Nat) (s : State) : Outcome State Fault Refusal :=
  .next (s.done (s.smbAddr pec addr))

/-- SMBus READ (R335). -/
def execSmbRead (s : State) : Outcome State Fault Refusal := .next (s.done (s.smbRead))

/-- SMBus WRITE (R335). -/
def execSmbWrite (pec : Bool) (v : W32) (s : State) : Outcome State Fault Refusal :=
  .next (s.done ((s.smbWrite pec v).firmware))

/-- SMBus STATUS (R335). -/
def execSmbStatus (s : State) : Outcome State Fault Refusal := .next (s.done (s.smbStatus))

/-- SMBus ID (R335). -/
def execSmbId (s : State) : Outcome State Fault Refusal := .next (s.done (s.smbId))

/-- SCL held low (R386). -/
def execSmbusTimeout (s : State) : Outcome State Fault Refusal := .next (s.done (s.smbTimeout))

/-- Iaholt OPEN (R336). -/
def execIaholtOpen (nonce pub : List Byte) (s : State) : Outcome State Fault Refusal :=
  .next (s.done (s.iahOpen nonce pub))

/-- Iaholt READ (R336, R337). -/
def execIaholtRead (h : IahHdr) (start count : Nat) (s : State) : Outcome State Fault Refusal :=
  .next (s.done (s.iahRead h start count))

/-- Iaholt WRITE (R336, R337). -/
def execIaholtWrite (h : IahHdr) (pairs : List (Nat × W32)) (s : State) : Outcome State Fault Refusal :=
  .next (s.done ((s.iahWrite h pairs).firmware))

/-- Iaholt CLOSE (R336). -/
def execIaholtClose (h : IahHdr) (s : State) : Outcome State Fault Refusal := .next (s.done (s.iahClose h))

/-- IDLE_S of a session (R336). -/
def execIaholtIdleClose (slot : Nat) (s : State) : Outcome State Fault Refusal :=
  .next (s.done (s.sessClose (slot % 4)))

/-- A write of ACU_CTL.COMMIT (R343, R344). -/
def execAcuCommit (o : Origin) (acu : Nat) (s : State) : Outcome State Fault Refusal :=
  .next (s.done (s.hostWrite o .ACU_CTL (acu % 91) (fun t => t.acuCommit o (acu % 91))))

/-- Nothing checked under the old rules remains (R343). -/
def execAcuFenceDrained (acu : Nat) (s : State) : Outcome State Fault Refusal :=
  .next (s.done (s.acuDrained (acu % 91)))

/-- JTAG EXTEST (R346). -/
def execExtest (s : State) : Outcome State Fault Refusal := .next (s.done (s.extest 0x00))

/-- JTAG EXTEST_PULSE (R346). -/
def execExtestPulse (s : State) : Outcome State Fault Refusal := .next (s.done (s.extest 0x03))

/-- JTAG EXTEST_TRAIN (R346). -/
def execExtestTrain (s : State) : Outcome State Fault Refusal := .next (s.done (s.extest 0x04))

/-- JTAG CLAMP (R346). -/
def execClamp (s : State) : Outcome State Fault Refusal := .next (s.done (s.gatedIr 0x05 (fun t => t)))

/-- JTAG HIGHZ (R346). -/
def execHighz (s : State) : Outcome State Fault Refusal := .next (s.done (s.gatedIr 0x06 (fun t => t)))

/-- JTAG IDCODE (R346). -/
def execIdcode (s : State) : Outcome State Fault Refusal := .next (s.done (s.idcode))

/-- JTAG SAMPLE/PRELOAD (R346). -/
def execSamplePreload (s : State) : Outcome State Fault Refusal := .next (s.done (s.ir 0x02))

/-- JTAG BYPASS (R346). -/
def execBypass (s : State) : Outcome State Fault Refusal := .next (s.done (s.ir 0xFF))

/-- DBG_CHAL (R347). -/
def execDbgChal (s : State) : Outcome State Fault Refusal := .next (s.done (s.dbgChal))

/-- DBG_RESP (R347). -/
def execDbgResp (pub r sig : List Byte) (s : State) : Outcome State Fault Refusal :=
  .next (s.done (s.dbgResp pub r sig))

/-- An unlocked debug instruction (R346, R347); a step of a core and the internal scan have no effect in the spec. -/
def execDebugAccess (k : DbgKind) (s : State) : Outcome State Fault Refusal :=
  if !s.jtag.unlocked then .next (s.done (s.ir 0xFF))
  else
    match k with
    | .halt c => .next (s.done (s.dbgHalt c true))
    | .resume c => .next (s.done (s.dbgHalt c false))
    | .step _ => .refused .debugStep
    | .read c a => .next (s.done (s.dbgRead c a))
    | .write c a v => .next (s.done (s.dbgWrite c a v))
    | .scan => .refused .internalScan

/-- A PCIe fundamental reset (R247, R325). -/
def execPcieFundamentalReset (s : State) : Outcome State Fault Refusal := .next (s.done (s.pcieReset))

end Sys2Proof.Machine
end

