-- ==== Sys2Proof/Machine/ExecKey.lean ====
section
/-!
DEFINITION. The commands of the key store and the service cipher (06): one meaning per command.
-/

namespace Sys2Proof.Machine

open Host

/-- The background sweep (R123). -/
def execRemaskSweep (s : State) : Outcome State Fault Refusal := .next (s.done (s.remaskSweep))

/-- A slot's status (R136). -/
def execSlotwReadStatus (o : Origin) (s : State) : Outcome State Fault Refusal :=
  .next (s.done (s.hostWrite o .KEY_SLOTW_CMD 0 (fun t => t.slotwRead o)))

/-- Allocate a slot (R124). -/
def execSlotwAllocate (o : Origin) (s : State) : Outcome State Fault Refusal :=
  .next (s.done (s.hostWrite o .KEY_SLOTW_CMD 0 (fun t => t.slotwAllocate o)))

/-- Release a slot (R124). -/
def execSlotwRelease (o : Origin) (s : State) : Outcome State Fault Refusal :=
  .next (s.done (s.hostWrite o .KEY_SLOTW_CMD 0 (fun t => t.slotwRelease o)))

/-- GEN of 128 bits (R124). -/
def execSlotwGen128 (o : Origin) (s : State) : Outcome State Fault Refusal :=
  .next (s.done (s.hostWrite o .KEY_SLOTW_CMD 0 (fun t => t.slotwGen o 16)))

/-- GEN of 256 bits (R124). -/
def execSlotwGen256 (o : Origin) (s : State) : Outcome State Fault Refusal :=
  .next (s.done (s.hostWrite o .KEY_SLOTW_CMD 0 (fun t => t.slotwGen o 32)))

/-- A CAK slot's status and CKN (R136). -/
def execCakwRead (o : Origin) (s : State) : Outcome State Fault Refusal :=
  .next (s.done (s.hostWrite o .KEY_CAKW_CMD 0 (fun t => t.cakwRead o)))

/-- ERASE (R128). -/
def execCakwErase (o : Origin) (s : State) : Outcome State Fault Refusal :=
  .next (s.done (s.hostWrite o .KEY_CAKW_CMD 0 (fun t => t.cakwErase o)))

/-- BEGIN (R128). -/
def execProvBegin (o : Origin) (slot : Nat) (s : State) : Outcome State Fault Refusal :=
  .next (s.done (s.hostWrite o .KEY_PROV_CMD 0 (fun t => t.provBegin o slot)))

/-- COMMIT (R128). -/
def execProvCommit (o : Origin) (s : State) : Outcome State Fault Refusal :=
  .next (s.done (s.hostWrite o .KEY_PROV_CMD 0 (fun t => t.provCommit o)))

/-- ABORT (R128). -/
def execProvAbort (o : Origin) (s : State) : Outcome State Fault Refusal :=
  .next (s.done (s.hostWrite o .KEY_PROV_CMD 0 (fun t => t.provAbort o)))

/-- An access to KEY_PROV_DATA (R136). -/
def execProvDataAccess (o : Origin) (write : Bool) (v : W32) (s : State) : Outcome State Fault Refusal :=
  .next (s.done (s.hostAccess o .KEY_PROV_DATA 0 write (fun t => t.provData o write v)))

/-- A provisioning session's 60 s pass (R128). -/
def execProvSessionTimeout (s : State) : Outcome State Fault Refusal := .next (s.done (s.provTimeout))

/-- A write of KEY_ZERO (R129). -/
def execKeyZero (o : Origin) (v : W32) (s : State) : Outcome State Fault Refusal :=
  .next (s.done (s.hostWrite o .KEY_ZERO 0 (fun t => t.keyZero o v)))

/-- AES-ECB encryption (R130). -/
def execSvcEcbEncrypt (o : Origin) (ctx : Nat) (s : State) : Outcome State Fault Refusal :=
  .next (s.done (s.svcEcb o ctx true))

/-- AES-ECB decryption (R130). -/
def execSvcEcbDecrypt (o : Origin) (ctx : Nat) (s : State) : Outcome State Fault Refusal :=
  .next (s.done (s.svcEcb o ctx false))

/-- AES-CBC encryption (R130). -/
def execSvcCbcEncrypt (o : Origin) (ctx : Nat) (s : State) : Outcome State Fault Refusal :=
  .next (s.done (s.svcCbc o ctx true))

/-- AES-CBC decryption (R130). -/
def execSvcCbcDecrypt (o : Origin) (ctx : Nat) (s : State) : Outcome State Fault Refusal :=
  .next (s.done (s.svcCbc o ctx false))

/-- AES-CTR (R130). -/
def execSvcCtr (o : Origin) (ctx : Nat) (s : State) : Outcome State Fault Refusal := .next (s.done (s.svcCtrOp o ctx))

/-- AES-GCM encryption (R130, R132). -/
def execSvcGcmEncrypt (o : Origin) (ctx : Nat) (s : State) : Outcome State Fault Refusal :=
  .next (s.done (s.svcGcmEnc o ctx))

/-- AES-GCM decryption (R130). -/
def execSvcGcmDecrypt (o : Origin) (ctx : Nat) (s : State) : Outcome State Fault Refusal :=
  .next (s.done (s.svcGcmDec o ctx))

/-- AES-CMAC (R130). -/
def execSvcCmac (o : Origin) (ctx : Nat) (s : State) : Outcome State Fault Refusal := .next (s.done (s.svcCmacOp o ctx))

/-- Key wrap (R130, R131). -/
def execSvcKeyWrap (o : Origin) (ctx : Nat) (fromSlot : Bool) (s : State) : Outcome State Fault Refusal :=
  .next (s.done (s.svcWrap o ctx fromSlot))

/-- Key unwrap (R130, R131). -/
def execSvcKeyUnwrap (o : Origin) (ctx : Nat) (toSlot : Bool) (s : State) : Outcome State Fault Refusal :=
  .next (s.done (s.svcUnwrap o ctx toSlot))

/-- The 802.1X KDF (R130, R131). -/
def execSvcKdf (o : Origin) (ctx : Nat) (toSlot : Bool) (s : State) : Outcome State Fault Refusal :=
  .next (s.done (s.svcKdf o ctx toSlot))

/-- A context save (R133). -/
def execSvcContextSave (o : Origin) (ctx : Nat) (wrapped : Bool) (s : State) : Outcome State Fault Refusal :=
  .next (s.done (s.svcSave o ctx wrapped))

/-- A context restore (R133). -/
def execSvcContextRestore (o : Origin) (ctx : Nat) (wrapped : Bool) (s : State) : Outcome State Fault Refusal :=
  .next (s.done (s.svcRestore o ctx wrapped))

/-- DRBG output (R130). -/
def execSvcDrbgOutput (o : Origin) (ctx : Nat) (toSlot : Bool) (s : State) : Outcome State Fault Refusal :=
  .next (s.done (s.svcDrbg o ctx toSlot))

/-- A clear context key is loaded (R130, R131). -/
def execSvcLoadContextKey (o : Origin) (ctx : Nat) (s : State) : Outcome State Fault Refusal :=
  .next (s.done (s.svcLoad o ctx))

/-- An operation of the service cipher ends (R130). -/
def execSvcOperationDone (ctx : Nat) (s : State) : Outcome State Fault Refusal := .next (s.done (s.svcDone (ctx % 32)))

/-- A DRBG reseeds: DRBG-K, or DRBG-M (R134). -/
def execDrbgReseed (k : Bool) (s : State) : Outcome State Fault Refusal := .next (s.done (s.drbgReseed k))

/-- A continuous health test fails (R135). -/
def execEntropyTestFailure (s : State) : Outcome State Fault Refusal := .next (s.done s.entropyFail)

/-- The rerun of the start-up test ends (R135). -/
def execEntropyRetestDone (test : StartUp) (s : State) : Outcome State Fault Refusal :=
  .next (s.done (s.entropyRetest test))

end Sys2Proof.Machine
end

