-- ==== Sys2Proof/Machine/ExecMka.lean ====
section
/-!
DEFINITION. The commands of key agreement (05) and the presence press (R319): one meaning per command.
-/

namespace Sys2Proof.Machine

open Host

/-- An MKPDU is received (R99). -/
def execMkpduReceived (port : Nat) (m : Mkpdu) (s : State) : Outcome State Fault Refusal :=
  .next (s.done (if s.serving && s.receives (64 + port % 64) then s.mkpduIn (port % 64) m else s))

/-- A hello timer expires (R103). -/
def execMkaHelloTimer (ca : Nat) (s : State) : Outcome State Fault Refusal := .next (s.done (s.hello (ca % 2048)))

/-- A peer's tMKA_LIFE passes (R101). -/
def execPeerTimeout (ca : Nat) (mi : BitVec 96) (s : State) : Outcome State Fault Refusal :=
  .next (s.done (s.peerTimeout (ca % 2048) mi))

/-- tSAK_LIFE passes (R104). -/
def execSakLifetimeExpired (ca : Nat) (s : State) : Outcome State Fault Refusal :=
  .next (s.done (s.sakLife (ca % 2048)))

/-- The retry after NO_SLOT (R105). -/
def execSakSlotRetry (ca : Nat) (s : State) : Outcome State Fault Refusal := .next (s.done (s.slotRetry (ca % 2048)))

/-- tRX_RETAIN passes (R110). -/
def execRxRetainExpired (ca : Nat) (s : State) : Outcome State Fault Refusal :=
  .next (s.done (s.rxRetained (ca % 2048)))

/-- tMKA_LIFE after the last live peer's removal (R115). -/
def execCaSaRetire (ca : Nat) (s : State) : Outcome State Fault Refusal := .next (s.done (s.caSaRetire (ca % 2048)))

/-- A CA starts (R97, R98). -/
def execCaStart (ca : Nat) (s : State) : Outcome State Fault Refusal := .next (s.done (s.caStart (ca % 2048)))

/-- A CA window read (R120). -/
def execCawReadCa (o : Origin) (s : State) : Outcome State Fault Refusal :=
  .next (s.done (s.hostWrite o .MKA_CAW_CMD 0 (fun t => t.cawReadCa o)))

/-- A peer read (R120). -/
def execCawReadPeer (o : Origin) (s : State) : Outcome State Fault Refusal :=
  .next (s.done (s.hostWrite o .MKA_CAW_CMD 0 (fun t => t.cawReadPeer o)))

/-- REKEY (R104). -/
def execCawRekey (o : Origin) (s : State) : Outcome State Fault Refusal :=
  .next (s.done (s.hostWrite o .MKA_CAW_CMD 0 (fun t => t.cawRekey o)))

/-- RESTART (R98). -/
def execCawRestart (o : Origin) (s : State) : Outcome State Fault Refusal :=
  .next (s.done (s.hostWrite o .MKA_CAW_CMD 0 (fun t => t.cawRestart o)))

/-- A write of MKA_TIME0-3 (R119). -/
def execMkaTimeWrite (o : Origin) (k : Nat) (v : W32) (s : State) : Outcome State Fault Refusal :=
  .next (s.done (s.hostWrite o (mkaTimeReg k) 0 (fun t => t.writeMkaTime o k v)))

/-- A press of PRESENCE_N counts (R319, R116, R117). -/
def execPresencePress (s : State) : Outcome State Fault Refusal := .next (s.done (s.press))

/-- A pairing COMMIT (R117). -/
def execCommitReceived (ch : PairCh) (pid : W64) (commitment : List Byte) (s : State) : Outcome State Fault Refusal :=
  .next (s.done (s.pairCommit ch pid commitment))

/-- A pairing REVEAL (R117). -/
def execRevealReceived (ch : PairCh) (pid : W64) (nonce pub : List Byte) (s : State) : Outcome State Fault Refusal :=
  .next (s.done (s.pairReveal ch pid nonce pub))

/-- A pairing CONFIRM (R117). -/
def execConfirmReceived (ch : PairCh) (pid : W64) (tag : List Byte) (s : State) : Outcome State Fault Refusal :=
  .next (s.done (s.pairConfirm ch pid tag))

/-- tPAIR_TX of a session (R116). -/
def execPairingMessageTimer (s : State) : Outcome State Fault Refusal := .next (s.done (s.pairTimer))

/-- tPAIR_WIN ends (R117). -/
def execPairingWindowExpired (s : State) : Outcome State Fault Refusal := .next (s.done (s.pairWindowEnd))

/-- tPAIR_CONF ends (R117). -/
def execPairingConfirmExpired (s : State) : Outcome State Fault Refusal := .next (s.done (s.pairConfEnd))

/-- The next second of the STATUS display (R118). -/
def execCodeSymbolTimer (s : State) : Outcome State Fault Refusal := .next (s.done (s.pairSymbol))

end Sys2Proof.Machine
end

