-- ==== Sys2Proof/Machine/ExecObs.lean ====
section
/-!
DEFINITION. The commands of observation and the event log (17): one meaning per command.
-/

namespace Sys2Proof.Machine

open Host

/-- A wrapped counter is sampled (R354). -/
def execCounterWrapSample (u : ObsUnit) (cnt : Nat) (d1 d2 : W32) (s : State) : Outcome State Fault Refusal :=
  .next (s.done (s.wrapSample u cnt d1 d2))

/-- A write of OBS_SMPW_CMD.POP (R360). -/
def execSmpwPop (o : Origin) (s : State) : Outcome State Fault Refusal :=
  .next (s.done (s.hostWrite o .OBS_SMPW_CMD 0 (fun t => t.smpPop o)))

/-- A write of OBS_CTL.FREEZE (R355). -/
def execFreeze (o : Origin) (on : Bool) (s : State) : Outcome State Fault Refusal :=
  .next (s.done (s.hostWrite o .OBS_CTL 0 (fun t => t.freeze o on)))

/-- An event log entry is written, or a setting suppressed (R359). -/
def execEventLogEntry (s : State) : Outcome State Fault Refusal := .next (s.done (s.logEvent))

/-- The event log window reads (R360). -/
def execObsLogwRead (o : Origin) (s : State) : Outcome State Fault Refusal :=
  .next (s.done (s.hostWrite o .OBS_LOGW_CMD 0 (fun t => t.logRead o)))

end Sys2Proof.Machine
end

