-- ==== Sys2Proof/Machine/ExecPair.lean ====
section
/-!
DEFINITION. The commands of the pair (11): one meaning per command.
-/

namespace Sys2Proof.Machine

open Host

/-- ACT_IN rises (R224, R225). -/
def execActInRise (s : State) : Outcome State Fault Refusal := .next (s.done (s.actInRise))

/-- ACT_IN falls (R225, R241). -/
def execActInFall (s : State) : Outcome State Fault Refusal := .next (s.done (s.actInFall))

/-- ACT_IN has been low for tBOLT_SETTLE (R224, R225). -/
def execBoltSettled (s : State) : Outcome State Fault Refusal := .next (s.done (s.boltSettled))

/-- tBOLT_CONFLICT after a conflict (R225). -/
def execConflictTimeout (s : State) : Outcome State Fault Refusal := .next (s.done (s.conflictTimeout))

/-- FENCE_IN rises (R228). -/
def execFenceInHigh (s : State) : Outcome State Fault Refusal := .next (s.done (s.fenceHigh))

/-- FENCE_IN falls (R228). -/
def execFenceInLow (s : State) : Outcome State Fault Refusal := .next (s.done (s.fenceLow))

/-- tFENCE_PULSE ends (R228). -/
def execFencePulseEnd (s : State) : Outcome State Fault Refusal := .next (s.done (s.fencePulseEnd))

/-- An edge of BEAT_IN (R227). -/
def execBeatInEdge (s : State) : Outcome State Fault Refusal := .next (s.done (s.beatEdge))

/-- No edge of BEAT_IN for tLEASE (R228). -/
def execBeatLapse (s : State) : Outcome State Fault Refusal := .next (s.done (s.beatLapse))

/-- The pair task renews the lease (R226). -/
def execLeaseRenewal (s : State) : Outcome State Fault Refusal := .next (s.done (s.leaseRenew))

/-- The lease lapses (R226). -/
def execLeaseExpired (s : State) : Outcome State Fault Refusal := .next (s.done (s.leaseLapse))

/-- tBEAT_REC (R226, R234). -/
def execStatusRecordTimer (s : State) : Outcome State Fault Refusal := .next (s.done (s.statusTimer))

/-- tTETHER_LOST of silence (R228, R233). -/
def execTetherLost (s : State) : Outcome State Fault Refusal := .next (s.done (s.tetherLost))

/-- The 100 ms of a member in START (R231). -/
def execHelloTimer (s : State) : Outcome State Fault Refusal := .next (s.done (s.helloTimer))

/-- A HELLO record (R231, R241). -/
def execHelloReceived (seq : Nat) (tag : TTag) (serial : W64) (_slot : Nat) (st : PairState) (fmt : Nat)
    (digest : List Byte) (base : BitVec 48) (nonce : List Byte) (prefer actOut : Bool) (s : State) : Outcome State Fault Refusal :=
  .next (s.done (s.recvHello seq tag serial st fmt digest base nonce prefer actOut))

/-- A STATUS record (R234). -/
def execStatusReceived (seq : Nat) (tag : TTag) (st : PairState) (shed : Nat) (lease synced : Bool)
    (s : State) : Outcome State Fault Refusal :=
  .next (s.done (s.recvRec seq tag true (fun t => t.statusIn st shed lease synced)))

/-- An ACK record (R233). -/
def execAckReceived (seq : Nat) (tag : TTag) (upTo : Nat) (s : State) : Outcome State Fault Refusal :=
  .next (s.done (s.recvRec seq tag false (fun t => t.ackIn upTo)))

/-- A SAK record (R234). -/
def execSakRecord (seq : Nat) (tag : TTag) (ca : Nat) (wrap : List Byte) (klen : Nat) (kn : W32) (an : Nat)
    (sscis : List (W64 × W32)) (salt : BitVec 96) (s : State) : Outcome State Fault Refusal :=
  .next (s.done (s.mirrorRec seq tag (fun t => if wrap.length = klen + 8 then t.sakIn (ca % 2048) wrap kn (an % 4) sscis salt else t)))

/-- An SA command record (R234). -/
def execSaCommandRecord (seq : Nat) (tag : TTag) (op sa pn : Nat) (s : State) : Outcome State Fault Refusal :=
  .next (s.done (s.mirrorRec seq tag (fun t => t.saCmdIn op sa pn)))

/-- A PN lease record (R236). -/
def execPnLeaseRecord (seq : Nat) (tag : TTag) (sa lease : Nat) (s : State) : Outcome State Fault Refusal :=
  .next (s.done (s.mirrorRec seq tag (fun t => t.pnLeaseIn sa lease)))

/-- A receive replay record (R234). -/
def execReceiveReplayRecord (seq : Nat) (tag : TTag) (batch : List (Nat × Nat × Nat × W64))
    (s : State) : Outcome State Fault Refusal :=
  .next (s.done (s.mirrorRec seq tag (fun t => t.replayIn batch)))

/-- An MKA state record (R234). -/
def execMkaStateRecord (seq : Nat) (tag : TTag) (ca : Nat) (mi : BitVec 96) (isKs : Bool) (ksSci : W64) (kn : W32)
    (an oldAn : Nat) (s : State) : Outcome State Fault Refusal :=
  .next (s.done (s.mirrorRec seq tag (fun t => t.caIn (ca % 2048) mi isKs ksSci kn (an % 4) (oldAn % 4))))

/-- An MN lease record (R236). -/
def execMnLeaseRecord (seq : Nat) (tag : TTag) (ca lease : Nat) (s : State) : Outcome State Fault Refusal :=
  .next (s.done (s.mirrorRec seq tag (fun t => t.mnLeaseIn (ca % 2048) lease)))

/-- An MKA peer record (R234). -/
def execMkaPeerRecord (seq : Nat) (tag : TTag) (ca : Nat) (mi : BitVec 96) (mn : Nat) (sci : W64) (live : Bool)
    (s : State) : Outcome State Fault Refusal :=
  .next (s.done (s.mirrorRec seq tag (fun t => t.peerIn (ca % 2048) mi mn sci live)))

/-- A time record (R218, R234). -/
def execTimeRecord (seq : Nat) (tag : TTag) (rate : W32) (t : Int) (s : State) : Outcome State Fault Refusal :=
  .next (s.done (s.mirrorRec seq tag (fun u => u.followTime rate t)))

/-- An epoch record (R234). -/
def execEpochRecord (seq : Nat) (tag : TTag) (ca an : Nat) (kn : W32) (epoch : Option Int)
    (s : State) : Outcome State Fault Refusal :=
  .next (s.done (s.mirrorRec seq tag (fun t => t.epochFor (ca % 2048) (an % 4) kn epoch)))

/-- A CAK record (R126, R234). -/
def execCakRecord (seq : Nat) (tag : TTag) (slot : Nat) (ckn : List Byte) (klen : Nat) (wrap : List Byte)
    (s : State) : Outcome State Fault Refusal :=
  .next (s.done (s.mirrorRec seq tag (fun t => if wrap.length = klen + 8 then t.cakIn (slot % 1024) ckn wrap else t)))

/-- A handover record (R244). -/
def execHandoverRecord (seq : Nat) (tag : TTag) (leases mns : List (Nat × Nat)) (role : PairState)
    (s : State) : Outcome State Fault Refusal :=
  .next (s.done (s.mirrorRec seq tag (fun t => t.handoverIn leases mns role)))

/-- tTX_RETRY (R233). -/
def execRecordResend (s : State) : Outcome State Fault Refusal := .next (s.done (s.resend))

/-- tRX_MIRROR (R234). -/
def execRxMirrorTimer (s : State) : Outcome State Fault Refusal := .next (s.done (s.rxMirror))

/-- The 10 ms of time mirroring (R234). -/
def execTimeRecordTimer (s : State) : Outcome State Fault Refusal :=
  .next (s.done (if s.isActive then s.tellTime else s))

/-- tDISCOVER in START (R241). -/
def execDiscoveryTimeout (s : State) : Outcome State Fault Refusal := .next (s.done (s.discovered))

/-- The bound frames have left, or tHANDOVER has passed (R244). -/
def execHandoverDrainEnd (s : State) : Outcome State Fault Refusal := .next (s.done (s.drainEnd))

/-- The handover record is not confirmed in time (R241, R244). -/
def execHandoverTimeout (s : State) : Outcome State Fault Refusal := .next (s.done (s.handoverLate))

/-- PAR_CMD TEST (R241). -/
def execParTest (o : Origin) (s : State) : Outcome State Fault Refusal :=
  .next (s.done (s.hostWrite o .PAR_CMD 0 (fun t => t.parTest o)))

/-- PAR_CMD EXIT (R241). -/
def execParExit (o : Origin) (s : State) : Outcome State Fault Refusal :=
  .next (s.done (s.hostWrite o .PAR_CMD 0 (fun t => t.parExit o)))

/-- PAR_CMD SWITCH (R241). -/
def execParSwitch (o : Origin) (s : State) : Outcome State Fault Refusal :=
  .next (s.done (s.hostWrite o .PAR_CMD 0 (fun t => t.parSwitch o)))

/-- PAR_CMD ACCEPT_DIGEST (R238). -/
def execParAcceptDigest (o : Origin) (s : State) : Outcome State Fault Refusal :=
  .next (s.done (s.hostWrite o .PAR_CMD 0 (fun t => t.parAccept o)))

/-- tTEST_MAX (R241). -/
def execTestMaxExpired (s : State) : Outcome State Fault Refusal := .next (s.done (s.testMax))

/-- tRECOVER_HOLD (R241). -/
def execRecoverHoldExpired (s : State) : Outcome State Fault Refusal := .next (s.done (s.recoverHold))

/-- tRECOVER_MAX (R241). -/
def execRecoverMaxExpired (s : State) : Outcome State Fault Refusal := .next (s.done (s.recoverMax))

end Sys2Proof.Machine
end

