-- ==== Sys2Proof/Machine/ExecPath.lean ====
section
/-!
DEFINITION. The commands of the secured path and the ports (01, 02, and the engine faults of 07): one meaning per command.
-/

namespace Sys2Proof.Machine

open Host

/-- A frame arrives on a host port (R11, R16, R36, R52-R54), its FEC having corrected or failed on codewords (R49). -/
def execHostFrameReceived (port : Nat) (rx : RxFrame) (s : State) : Outcome State Fault Refusal :=
  .next (s.done ((s.codewords (port % 64) rx.corr rx.unc).arriveAt (port % 64) rx.octets))

/-- A frame arrives on a line port (R11, R36, R84-R89), its FEC having corrected or failed on codewords (R49). -/
def execLineFrameReceived (port : Nat) (rx : RxFrame) (s : State) : Outcome State Fault Refusal :=
  .next (s.done ((s.codewords (64 + port % 64) rx.corr rx.unc).arriveAt (64 + port % 64) rx.octets))

/-- A pause or PFC frame is sent again (R39). -/
def execPauseRefresh (port : Nat) (s : State) : Outcome State Fault Refusal :=
  .next (s.done (s.pauseRefresh (port % 64)))

/-- A bad replicated word is copied from the next slice (R67). -/
def execParityRepair (slice word : Nat) (s : State) : Outcome State Fault Refusal :=
  .next (s.done (s.parityRepair slice word))

/-- A frame takes its PN and is bound (R13, R14, R82, R83). -/
def execPnIssue (frame : Nat) (s : State) : Outcome State Fault Refusal :=
  .next (s.done ((s.onFrame frame State.issuePn).pumpAll))

/-- The oldest parked frame of a SecY is dropped (R83). -/
def execParkedFrameDrop (secy : Nat) (s : State) : Outcome State Fault Refusal :=
  .next (s.done (s.parkedDrop (secy % 2048)))

/-- A frame goes to an engine of its set, or its cold SA is fetched (R16, R23, R145, R147). -/
def execDispatch (frame : Nat) (s : State) : Outcome State Fault Refusal :=
  .next (s.done ((s.onFrame frame (fun t f => if f.stage == .dispatch then t.dispatch f else t)).pumpAll))

/-- The fetch of a cold SA ends (R148, R191). -/
def execColdSaFetchDone (sa : Nat) (res : ReadRes) (s : State) : Outcome State Fault Refusal :=
  .next (s.done (s.coldFetched sa res))

/-- The write-back of a demoted SA ends (R148). -/
def execDemotionWritebackDone (sa : Nat) (s : State) : Outcome State Fault Refusal := .next (s.done (s.demoted sa))

/-- An engine completes a segment (R138, R145, R352). -/
def execCipherComplete (frame seg : Nat) (s : State) : Outcome State Fault Refusal :=
  .next (s.done ((s.onFrame frame (fun t f => t.finishSeg f seg)).pumpAll))

/-- The reorder stage releases a frame (R24, R149). -/
def execReorderRelease (frame : Nat) (s : State) : Outcome State Fault Refusal :=
  .next (s.done ((s.onFrame frame State.release).pumpAll))

/-- The verdict of a frame becomes known (R18, R89). -/
def execVerdict (frame : Nat) (s : State) : Outcome State Fault Refusal :=
  .next (s.done ((s.onFrame frame (fun t f => if t.verdictDue f then t.verdictOf f else t)).pumpAll))

/-- A frame enters stage 8 (R17). -/
def execCommitPoint (frame : Nat) (s : State) : Outcome State Fault Refusal :=
  .next (s.done ((s.onFrame frame State.commit).pumpAll))

/-- A port's transmitter selects (R158, R159). -/
def execTransmitSelection (port : PortId) (s : State) : Outcome State Fault Refusal :=
  .next (s.done ((s.selectTx port.idx).pumpAll))

/-- An engine fault is detected (R154). -/
def execEngineFault (eng cause : Nat) (s : State) : Outcome State Fault Refusal :=
  .next (s.done ((s.engineFault (eng % 64) cause).pumpAll))

/-- A handshake has been outstanding for tENG_STALL (R154). -/
def execEngineStall (eng : Nat) (s : State) : Outcome State Fault Refusal :=
  .next (s.done ((s.engineStall (eng % 64)).pumpAll))

/-- A port's link comes up (R31, R32, R71, R76). -/
def execLinkUp (port : PortId) (form fec : Nat) (s : State) : Outcome State Fault Refusal :=
  .next (s.done (s.linkCame port.idx form fec))

/-- A port's link goes down (R33, R37). -/
def execLinkDown (port : PortId) (s : State) : Outcome State Fault Refusal := .next (s.done (s.linkDown port.idx))

/-- Auto-negotiation restarts after a failed training (R31). -/
def execTrainingRestart (port : PortId) (s : State) : Outcome State Fault Refusal :=
  .next (s.done (s.trainAgain port.idx))

/-- A forced form is probed (R32). -/
def execForcedFormProbe (port : PortId) (reached : Bool) (s : State) : Outcome State Fault Refusal :=
  .next (s.done (s.probed port.idx reached))

/-- A write of RECAL.REQ with QUEUE (R33). -/
def execRecalReq (o : Origin) (port : PortId) (queue : Bool) (s : State) : Outcome State Fault Refusal :=
  .next (s.done (s.hostWrite o (port.reg .HPT_RECAL .LPT_RECAL) (port.n % 64) (fun t => (t.setFld (if port.side == .host then F.HPT_RECAL_QUEUE else F.LPT_RECAL_QUEUE) (b2n queue) (port.n % 64)).recalReq port.idx queue)))

/-- A recalibration finishes, with the coefficients of each lane (R33, R258). -/
def execRecalDone (port : PortId) (coefs : List W32) (s : State) : Outcome State Fault Refusal :=
  .next (s.done (s.recalDone port.idx coefs))

/-- A write of HPT_MAX_FRAME (R22, R36). -/
def execMaxFrameWrite (o : Origin) (port : Nat) (v : W32) (s : State) : Outcome State Fault Refusal :=
  .next (s.done (s.hostWrite o .HPT_MAX_FRAME (port % 64) (fun t => t.writeMaxFrame o (port % 64) v)))

/-- A write of HPT_FC_THR (R40). -/
def execFcThrWrite (o : Origin) (port : Nat) (v : W32) (s : State) : Outcome State Fault Refusal :=
  .next (s.done (s.hostWrite o .HPT_FC_THR (port % 64) (fun t => t.writeFcThr o (port % 64) v)))

/-- A pause frame is received (R37). -/
def execPauseFrameReceived (port : PortId) (quanta : Nat) (s : State) : Outcome State Fault Refusal :=
  .next (s.done (if s.receives port.idx then (s.rxCtl port.idx).rxPause port.idx quanta else s))

/-- A PFC frame is received (R37). -/
def execPfcFrameReceived (port : PortId) (enable : BitVec 8) (times : List Nat) (s : State) : Outcome State Fault Refusal :=
  .next (s.done (if s.receives port.idx then (s.rxCtl port.idx).rxPfc port.idx enable times else s))

/-- A pause or PFC time runs out (R37). -/
def execPauseExpired (port : PortId) (pri : Option Nat) (s : State) : Outcome State Fault Refusal :=
  .next (s.done (s.pauseExpired port.idx pri))

/-- The pause-storm guard acts (R38). -/
def execPauseStorm (port : PortId) (s : State) : Outcome State Fault Refusal := .next (s.done (s.pauseStorm port.idx))

/-- 100 ms without a pause have passed (R38). -/
def execPauseStormQuiet (port : PortId) (s : State) : Outcome State Fault Refusal :=
  .next (s.done (s.stormQuiet port.idx))

/-- IDLE_S without a link has passed (R43). -/
def execPortDormant (port : PortId) (s : State) : Outcome State Fault Refusal :=
  .next (s.done (s.goDormant port.idx false))

/-- tBEACON of a dormant port (R44). -/
def execBeacon (port : PortId) (s : State) : Outcome State Fault Refusal := .next (s.done (s.beacon port.idx))

/-- A dormant port's detector has seen three valid DME pages (R44). -/
def execPortWake (port : PortId) (s : State) : Outcome State Fault Refusal := .next (s.done (s.wakeDormant port.idx))

/-- Signal energy has stayed for tWAKE_QUAL (R44). -/
def execWakeEnergyQualified (port : PortId) (s : State) : Outcome State Fault Refusal :=
  .next (s.done (s.wakeDormant port.idx))

/-- A write of DORMANT.WAKE (R44). -/
def execDormantWake (o : Origin) (port : PortId) (s : State) : Outcome State Fault Refusal :=
  .next (s.done (s.hostWrite o (port.reg .HPT_DORMANT .LPT_DORMANT) (port.n % 64) (fun t => t.wakeDormant port.idx)))

/-- A write of STAT_SNAP.TAKE (R47). -/
def execStatSnap (o : Origin) (port : PortId) (s : State) : Outcome State Fault Refusal :=
  .next (s.done (s.hostWrite o (port.reg .HPT_STAT_SNAP .LPT_STAT_SNAP) (port.n % 64) (fun t => t.statSnap port.idx)))

end Sys2Proof.Machine
end

