-- ==== Sys2Proof/Machine/ExecSec.lean ====
section
/-!
DEFINITION. The commands of SecY frame protection (04) and the register reads with side effects (R363, R364): one meaning per command.
-/

namespace Sys2Proof.Machine

open Host

/-- An SA window read (R95). -/
def execSawRead (o : Origin) (s : State) : Outcome State Fault Refusal :=
  .next (s.done (s.hostWrite o .SEC_SAW_CMD 0 (fun t => t.sawRead o)))

/-- An SA install (R91). -/
def execSawInstall (o : Origin) (s : State) : Outcome State Fault Refusal :=
  .next (s.done ((s.hostWrite o .SEC_SAW_CMD 0 (fun t => t.sawInstall o)).firmware))

/-- An SA retire (R92). -/
def execSawRetire (o : Origin) (s : State) : Outcome State Fault Refusal :=
  .next (s.done ((s.hostWrite o .SEC_SAW_CMD 0 (fun t => t.sawRetire o)).firmware))

/-- A PN or L raise (R91). -/
def execSawRaise (o : Origin) (s : State) : Outcome State Fault Refusal :=
  .next (s.done (s.hostWrite o .SEC_SAW_CMD 0 (fun t => t.sawRaise o)))

/-- A switch armed for an epoch (R81). -/
def execSawArm (o : Origin) (epoch : Int) (s : State) : Outcome State Fault Refusal :=
  .next (s.done (s.hostWrite o .SEC_SAW_CMD 0 (fun t => t.sawArm o epoch)))

/-- A switch disarmed (R91). -/
def execSawDisarm (o : Origin) (s : State) : Outcome State Fault Refusal :=
  .next (s.done (s.hostWrite o .SEC_SAW_CMD 0 (fun t => t.sawDisarm o)))

/-- A switch at once (R81). -/
def execSawSwitch (o : Origin) (s : State) : Outcome State Fault Refusal :=
  .next (s.done ((s.hostWrite o .SEC_SAW_CMD 0 (fun t => t.sawSwitch o)).firmware))

/-- A receive-SC window read (R95). -/
def execRscwRead (o : Origin) (s : State) : Outcome State Fault Refusal :=
  .next (s.done (s.hostWrite o .SEC_RSCW_CMD 0 (fun t => t.rscwRead o)))

/-- A receive-SC install (R72, R91). -/
def execRscwInstall (o : Origin) (s : State) : Outcome State Fault Refusal :=
  .next (s.done (s.hostWrite o .SEC_RSCW_CMD 0 (fun t => t.rscwInstall o)))

/-- A receive-SC removal (R92). -/
def execRscwRemove (o : Origin) (s : State) : Outcome State Fault Refusal :=
  .next (s.done (s.hostWrite o .SEC_RSCW_CMD 0 (fun t => t.rscwRemove o)))

/-- A retired SA has drained (R92, R106). -/
def execSaDrained (sa : Nat) (s : State) : Outcome State Fault Refusal := .next (s.done ((s.saDrained sa).firmware))

/-- An armed epoch is reached (R81, R110). -/
def execKeySwitchEpoch (secy : Nat) (s : State) : Outcome State Fault Refusal :=
  .next (s.done ((s.keySwitchEpoch (secy % 2048)).firmware))

/-- A write of SEC_SECY_CFG, SEC_SECY_WIN or SEC_CTL (R94). -/
def execSecyCfgWrite (o : Origin) (r : SecReg) (v : W32) (s : State) : Outcome State Fault Refusal :=
  .next (s.done (s.hostWrite o r.reg r.index (fun t => t.writeSecReg o r v)))

/-- A read of a counter LO register (R355, R363, R364). -/
def execLoRegisterCapture (o : Origin) (addr : Nat) (s : State) : Outcome State Fault Refusal :=
  .next (s.done (s.readOut o addr))

/-- A read of a minimum or maximum field (R364). -/
def execMinMaxRead (o : Origin) (addr : Nat) (s : State) : Outcome State Fault Refusal :=
  .next (s.done (s.readOut o addr))

end Sys2Proof.Machine
end

