-- ==== Sys2Proof/Machine/ExecStart.lean ====
section
/-!
DEFINITION. The commands of start and ledger (12) and of the rennet image (13): one meaning per command.
-/

namespace Sys2Proof.Machine

open Host

/-- A power-on reset (R247). -/
def execPowerOnReset (cause : PorCause) (s : State) : Outcome State Fault Refusal := .next (s.done (s.powerOn cause))

/-- A cold reset by RESET_N (R247). -/
def execColdReset (s : State) : Outcome State Fault Refusal := .next (s.done (s.resetTo 1 2))

/-- A warm reset by a firmware fatal error (R247). -/
def execWarmReset (s : State) : Outcome State Fault Refusal := .next (s.done (s.resetTo 2 7))

/-- The sequencer begins ST01 (R374, R248, R249). -/
def execStartBegin (s : State) : Outcome State Fault Refusal := .next (s.done (s.startBegin))

/-- ST01 ends (R248, R303, R317). -/
def execSt01Done (answers advances monitors : Bool) (s : State) : Outcome State Fault Refusal :=
  .next (s.done (s.st01 answers advances monitors))

/-- ST02 ends (R248). -/
def execSt02Done (fuseOk : Bool) (s : State) : Outcome State Fault Refusal := .next (s.done (s.st02 fuseOk))

/-- ST03 ends (R248, R125, R202, R223). -/
def execSt03Done (trips : Bool) (rings : Nat) (test : StartUp) (refPin refT : Bool) (s : State) : Outcome State Fault Refusal :=
  .next (s.done (s.st03 trips rings (startUpOk test) refPin refT))

/-- ST04 ends (R248, R260, R264). -/
def execSt04Done (readable : Bool) (s : State) : Outcome State Fault Refusal := .next (s.done (s.st04 readable))

/-- ST05 ends (R256, R269). -/
def execSt05Done (s : State) : Outcome State Fault Refusal := .next (s.done (s.st05))

/-- ST06 ends (R272-R276). -/
def execSt06Done (s : State) : Outcome State Fault Refusal := .next (s.done (s.st06))

/-- ST07 ends (R126, R127). -/
def execSt07Done (s : State) : Outcome State Fault Refusal := .next (s.done (s.st07))

/-- ST08 ends (R251). -/
def execSt08Done (failing : List Nat) (s : State) : Outcome State Fault Refusal := .next (s.done (s.st08 failing))

/-- ST09 ends (R193, R197). -/
def execSt09Done (test : StackTest) (s : State) : Outcome State Fault Refusal := .next (s.done (s.st09 test.absent test.lines))

/-- ST10 ends (R248, R251, R258). -/
def execSt10Done (coefs : List (Nat × W32)) (failing : List Nat) (s : State) : Outcome State Fault Refusal :=
  .next (s.done (s.st10 coefs failing))

/-- ST11 ends (R251). -/
def execSt11Done (failing : List Nat) (cal : List (Nat × Nat × Nat)) (s : State) : Outcome State Fault Refusal :=
  .next (s.done (s.st11 failing cal))

/-- ST12 ends (R248). -/
def execSt12Done (s : State) : Outcome State Fault Refusal := .next (s.done (s.st12))

/-- ST13 ends (R248). -/
def execSt13Done (s : State) : Outcome State Fault Refusal := .next (s.done (s.st13))

/-- ST14 ends (R248, R249, R256). -/
def execSt14Done (s : State) : Outcome State Fault Refusal := .next (s.done (s.st14))

/-- tST12_MAX (R248). -/
def execSt12MaxExpired (s : State) : Outcome State Fault Refusal := .next (s.done (s.st12Max))

/-- tTIME_WAIT (R248). -/
def execTimeWaitExpired (s : State) : Outcome State Fault Refusal := .next (s.done (s.timeWait))

/-- A step's watchdog (R248). -/
def execStepWatchdog (s : State) : Outcome State Fault Refusal := .next (s.done (s.stepDog))

/-- tRESTART (R226, R249). -/
def execRestartAfterFailure (s : State) : Outcome State Fault Refusal := .next (s.done (s.restartNow))

/-- STA_CMD RESET_WARM (R247, R263). -/
def execStaResetWarm (o : Origin) (s : State) : Outcome State Fault Refusal :=
  .next (s.done (s.hostWrite o .STA_CMD 0 (fun t => t.staWarm o)))

/-- STA_CMD RESET_COLD (R247, R263). -/
def execStaResetCold (o : Origin) (s : State) : Outcome State Fault Refusal :=
  .next (s.done (s.hostWrite o .STA_CMD 0 (fun t => t.staCold o)))

/-- STA_CMD CLEAR_HOLD (R254). -/
def execClearHold (o : Origin) (s : State) : Outcome State Fault Refusal :=
  .next (s.done (s.hostWrite o .STA_CMD 0 (fun t => t.clearHold o)))

/-- STA_CMD CLEAR_ALT (R263). -/
def execClearAlt (o : Origin) (s : State) : Outcome State Fault Refusal :=
  .next (s.done (s.hostWrite o .STA_CMD 0 (fun t => t.clearAlt o)))

/-- The start-log window reads (R263). -/
def execStaLogwRead (o : Origin) (s : State) : Outcome State Fault Refusal :=
  .next (s.done (s.hostWrite o .STA_LOGW_CMD 0 (fun t => t.staLogRead o)))

/-- The survival count is written (R257). -/
def execSurvivalCountWrite (s : State) : Outcome State Fault Refusal := .next (s.done (s.survWrite))

/-- A flash READ begins (R279, R281). -/
def execXspiRead (o : Origin) (len : Nat) (s : State) : Outcome State Fault Refusal :=
  .next (s.done (s.hostWrite o .STA_XSPI_CMD 0 (fun t => t.xspiRead o len)))

/-- A flash PROGRAM begins (R280, R281). -/
def execXspiProgram (o : Origin) (s : State) : Outcome State Fault Refusal :=
  .next (s.done (s.hostWrite o .STA_XSPI_CMD 0 (fun t => t.xspiWrite o 2 256)))

/-- A flash ERASE begins (R280, R281). -/
def execXspiErase (o : Origin) (s : State) : Outcome State Fault Refusal :=
  .next (s.done (s.hostWrite o .STA_XSPI_CMD 0 (fun t => t.xspiWrite o 3 65536)))

/-- A VERIFY begins (R279, R281). -/
def execXspiVerify (o : Origin) (s : State) : Outcome State Fault Refusal :=
  .next (s.done (s.hostWrite o .STA_XSPI_CMD 0 (fun t => t.xspiVerify o)))

/-- The running flash command completes (R279-R281). -/
def execXspiCommandDone (ok : Bool) (s : State) : Outcome State Fault Refusal := .next (s.done (s.xspiDone ok))

end Sys2Proof.Machine
end

