-- ==== Sys2Proof/Machine/ExecTack.lean ====
section
/-!
DEFINITION. The commands of supplies and shedding (14) and of the tack room and alarms (15): one meaning per command.
-/

namespace Sys2Proof.Machine

open Host

/-- A supply crosses a level (R284, R289, R303, R375); beyond its absolute maximum the part is not specified (R369). -/
def execSupplyCrossing (supply mv : Nat) (s : State) : Outcome State Fault Refusal :=
  if supMax (supply % 10) < mv then .fault .absoluteMaximum else .next (s.done (s.crossing (supply % 10) mv))

/-- VCORE has returned above a level (R289). -/
def execVcoreReturnHold (mv : Nat) (s : State) : Outcome State Fault Refusal := .next (s.done (s.vcoreReturn mv))

/-- The temperature sensors are read (R285, R290, R308). -/
def execTjSample (readings : List Int) (tack : Int) (s : State) : Outcome State Fault Refusal :=
  .next (s.done (s.tjSample readings tack))

/-- Tj has returned (R290). -/
def execTjReturnHold (s : State) : Outcome State Fault Refusal := .next (s.done (s.tjReturn))

/-- The judged margin has stayed low (R291). -/
def execPaceLow (s : State) : Outcome State Fault Refusal := .next (s.done (s.paceLow))

/-- The judged margin has returned (R291). -/
def execPaceReturnHold (s : State) : Outcome State Fault Refusal := .next (s.done (s.paceReturn))

/-- tSTEP_BACK (R292). -/
def execStepBack (s : State) : Outcome State Fault Refusal := .next (s.done (s.stepBack))

/-- A write of PWR_CTL.FORCE_STAGE (R288). -/
def execForceStageWrite (o : Origin) (stage : Nat) (s : State) : Outcome State Fault Refusal :=
  .next (s.done (s.hostWrite o .PWR_CTL 0 (fun t => t.forceStage o stage)))

/-- tSEAL_SAMP (R304, R305, R320). -/
def execSealSample (r10 : Nat) (tmp : BitVec 4) (strap : Bool) (s : State) : Outcome State Fault Refusal :=
  .next (s.done (s.sealSample r10 tmp strap))

/-- A clock monitor's window ends (R306). -/
def execClockMonitorWindow (ref : Nat) (res : ClkRes) (s : State) : Outcome State Fault Refusal :=
  .next (s.done (s.clockWindow ref res))

/-- A reference phase is too short (R306). -/
def execClockGlitch (ref : Nat) (s : State) : Outcome State Fault Refusal := .next (s.done (s.clockGlitch ref))

/-- The crystal is checked (R306). -/
def execCrystalCheck (inRange : Bool) (s : State) : Outcome State Fault Refusal := .next (s.done (s.crystal inRange))

/-- A short supply excursion (R307). -/
def execSupplyGlitch (supply : Nat) (s : State) : Outcome State Fault Refusal :=
  .next (s.done (s.supplyGlitch (supply % 10)))

/-- HOLD_S after a source was last raised (R312). -/
def execAlarmHoldExpired (src : Nat) (s : State) : Outcome State Fault Refusal :=
  .next (s.done (if src < 26 then (s.holdExpired src).shed else s))

/-- TCK_CMD ACK (R315). -/
def execAck (o : Origin) (s : State) : Outcome State Fault Refusal :=
  .next (s.done (s.hostWrite o .TCK_CMD 0 (fun t => t.ack o)))

/-- TCK_CMD CLOSE (R319). -/
def execClose (o : Origin) (s : State) : Outcome State Fault Refusal :=
  .next (s.done (s.hostWrite o .TCK_CMD 0 (fun t => t.tckClose o)))

/-- TCK_CMD STIM (R318). -/
def execStim (o : Origin) (src : Nat) (s : State) : Outcome State Fault Refusal :=
  .next (s.done (s.hostWrite o .TCK_CMD 0 (fun t => t.stim o src)))

/-- A stimulation ends (R318). -/
def execStimEnd (pass holds : Bool) (s : State) : Outcome State Fault Refusal := .next (s.done (s.stimEnd pass holds))

/-- STIM_ROT_S (R318). -/
def execStimRotation (s : State) : Outcome State Fault Refusal := .next (s.done (s.stimRotate))

/-- The presence window's time ends (R319). -/
def execPresenceWindowExpired (s : State) : Outcome State Fault Refusal := .next (s.done (s.windowClose))

/-- A write of TCK_FLAG (R323). -/
def execFlagClear (o : Origin) (v : W32) (s : State) : Outcome State Fault Refusal :=
  .next (s.done (s.hostWrite o .TCK_FLAG 0 (fun t => t.flagClear o v)))

/-- A write of a response record (R316). -/
def execResponseRecordWrite (o : Origin) (src : Nat) (win : Bool) (v : W32) (s : State) : Outcome State Fault Refusal :=
  .next (s.done (s.hostWrite o (if win then .TCK_RESP_WIN else .TCK_RESP) (src % 32) (fun t => t.respWrite o (src % 32) win v)))

/-- The tack room's log window reads (R323). -/
def execTckLogwRead (o : Origin) (s : State) : Outcome State Fault Refusal :=
  .next (s.done (s.hostWrite o .TCK_LOGW_CMD 0 (fun t => t.tckLogRead o)))

/-- PRESENCE_N is released (R319). -/
def execPresenceRelease (s : State) : Outcome State Fault Refusal := .next (s.done (s.pressRelease))

end Sys2Proof.Machine
end

