-- ==== Sys2Proof/Machine/ExecTime.lean ====
section
/-!
DEFINITION. The commands of the time unit (10): one meaning per command.
-/

namespace Sys2Proof.Machine

open Host

/-- TIME_REF_IN fails (R202). -/
def execReferenceSwitch (s : State) : Outcome State Fault Refusal := .next (s.done (s.refSwitch))

/-- A rate command (R204). -/
def execAdjRate (o : Origin) (s : State) : Outcome State Fault Refusal :=
  .next (s.done (s.mirrorTime (s.hostWrite o .TIM_ADJ_CMD 0 (fun t => t.adjRateCmd o))))

/-- A step command (R204). -/
def execAdjStep (o : Origin) (s : State) : Outcome State Fault Refusal :=
  .next (s.done (s.mirrorTime (s.hostWrite o .TIM_ADJ_CMD 0 (fun t => t.adjStepCmd o))))

/-- A rate and step command (R204). -/
def execAdjRateAndStep (o : Origin) (s : State) : Outcome State Fault Refusal :=
  .next (s.done (s.mirrorTime (s.hostWrite o .TIM_ADJ_CMD 0 (fun t => t.adjBothCmd o))))

/-- A set command (R204). -/
def execAdjSet (o : Origin) (s : State) : Outcome State Fault Refusal :=
  .next (s.done (s.mirrorTime (s.hostWrite o .TIM_ADJ_CMD 0 (fun t => t.adjSetCmd o))))

/-- A write of TIM_CTL.OWNER (R205, R207). -/
def execOwnerWrite (o : Origin) (owner : Nat) (s : State) : Outcome State Fault Refusal :=
  .next (s.done (s.hostWrite o .TIM_CTL 0 (fun t => t.writeOwner o owner)))

/-- A write of TIM_SNAP.TAKE (R206). -/
def execTimeSnapshot (o : Origin) (s : State) : Outcome State Fault Refusal :=
  .next (s.done (s.hostWrite o .TIM_SNAP 0 (fun t => t.timeSnap)))

/-- A Sync is received (R209, R210). -/
def execPtpSyncReceived (port : W64) (seq : Nat) (twoStep : Bool) (t1 corr : Int) (s : State) : Outcome State Fault Refusal :=
  .next (s.done (s.mirrorTime (s.ptpSync port seq twoStep t1 corr)))

/-- Another PTP message is received (R209). -/
def execPtpMessageReceived (m : PtpMsg) (s : State) : Outcome State Fault Refusal :=
  .next (s.done (s.mirrorTime (s.ptpMsg m)))

/-- A PTP message interval ends (R209). -/
def execPtpMessageTimer (k : PtpTimer) (s : State) : Outcome State Fault Refusal := .next (s.done (s.ptpTimer k))

/-- Announce receipt timeout (R207). -/
def execAnnounceTimeout (s : State) : Outcome State Fault Refusal := .next (s.done (s.announceTimeout))

/-- A write of TIM_HOST.HOST_LOCK (R207). -/
def execHostLockWrite (o : Origin) (lock : Bool) (s : State) : Outcome State Fault Refusal :=
  .next (s.done (s.hostWrite o .TIM_HOST 0 (fun t => t.hostLock o lock)))

/-- WDOG_S without a host adjustment (R207). -/
def execHostLockWatchdog (s : State) : Outcome State Fault Refusal := .next (s.done (s.hostWatchdog))

/-- The age reaches HOLD_S (R208). -/
def execHoldoverAgeExpired (s : State) : Outcome State Fault Refusal := .next (s.done (s.ageExpired))

/-- An edge on a capture input (R215). -/
def execCaptureEdge (pin : Nat) (s : State) : Outcome State Fault Refusal := .next (s.done (s.capEdge (pin % 5)))

/-- A write of TIM_CAP_CFG.POP (R215). -/
def execCapturePop (o : Origin) (pin : Nat) (s : State) : Outcome State Fault Refusal :=
  .next (s.done (s.hostWrite o .TIM_CAP_CFG (pin % 5) (fun t => t.capPop (pin % 5))))

/-- A scheduled output edge (R216). -/
def execOutputEdge (pin : Nat) (s : State) : Outcome State Fault Refusal := .next (s.done (s.outEdge (pin % 5)))

end Sys2Proof.Machine
end

