-- ==== Sys2Proof/Machine/ExecTm.lean ====
section
/-!
DEFINITION. The commands of the traffic manager (08): one meaning per command.
-/

namespace Sys2Proof.Machine

open Host

/-- tREFILL (R161, R163, R166). -/
def execBucketRefill (s : State) : Outcome State Fault Refusal := .next (s.done (s.refillAll))

/-- The shaper window reads (R174). -/
def execShwRead (o : Origin) (s : State) : Outcome State Fault Refusal :=
  .next (s.done (s.hostWrite o .TMG_SHW_CMD 0 (fun t => t.shwRead o)))

/-- The shaper window writes for the next refill (R163). -/
def execShwWrite (o : Origin) (s : State) : Outcome State Fault Refusal :=
  .next (s.done (s.hostWrite o .TMG_SHW_CMD 0 (fun t => t.shwWrite o false)))

/-- The shaper window writes for an epoch (R163). -/
def execShwWriteAtEpoch (o : Origin) (s : State) : Outcome State Fault Refusal :=
  .next (s.done (s.hostWrite o .TMG_SHW_CMD 0 (fun t => t.shwWrite o true)))

/-- The queue window reads (R174). -/
def execQwRead (o : Origin) (s : State) : Outcome State Fault Refusal :=
  .next (s.done (s.hostWrite o .TMG_QW_CMD 0 (fun t => t.qwRead o)))

/-- The queue window writes (R174). -/
def execQwWrite (o : Origin) (s : State) : Outcome State Fault Refusal :=
  .next (s.done (s.hostWrite o .TMG_QW_CMD 0 (fun t => t.qwWrite o)))

/-- The policer window reads (R174). -/
def execPolwRead (o : Origin) (s : State) : Outcome State Fault Refusal :=
  .next (s.done (s.hostWrite o .TMG_POLW_CMD 0 (fun t => t.polwRead o)))

/-- The policer window writes (R166, R174). -/
def execPolwWrite (o : Origin) (s : State) : Outcome State Fault Refusal :=
  .next (s.done (s.hostWrite o .TMG_POLW_CMD 0 (fun t => t.polwWrite o)))

/-- The gate window reads (R174). -/
def execGcwRead (o : Origin) (s : State) : Outcome State Fault Refusal :=
  .next (s.done (s.hostWrite o .TMG_GCW_CMD 0 (fun t => t.gcwRead o)))

/-- The gate window writes (R174). -/
def execGcwWrite (o : Origin) (s : State) : Outcome State Fault Refusal :=
  .next (s.done (s.hostWrite o .TMG_GCW_CMD 0 (fun t => t.gcwWrite o)))

/-- A write of TMG_PORT_CFG.CFG_CHANGE (R170). -/
def execConfigChange (o : Origin) (port : Nat) (s : State) : Outcome State Fault Refusal :=
  .next (s.done (s.hostWrite o .TMG_PORT_CFG (port % 128) (fun t => t.configChange o (port % 128))))

/-- A pending gate list's change time (R170). -/
def execGateListChange (port : Nat) (s : State) : Outcome State Fault Refusal :=
  .next (s.done (s.gateChange (port % 128)))

/-- The next gate entry (R170). -/
def execGateEntryAdvance (port : Nat) (s : State) : Outcome State Fault Refusal :=
  .next (s.done (s.gateAdvance (port % 128)))

/-- A host port's launch frame is due (R172). -/
def execLaunchDue (port k : Nat) (s : State) : Outcome State Fault Refusal :=
  .next (s.done ((s.launchDue (port % 64) (k % 2)).pumpAll))

/-- A line port's launch frame is released (R173). -/
def execLaunchRelease (port k : Nat) (s : State) : Outcome State Fault Refusal :=
  .next (s.done ((s.launchRelease (port % 64) (k % 2)).pumpAll))

/-- A launch frame is late (R172). -/
def execLaunchLate (port : PortId) (k : Nat) (s : State) : Outcome State Fault Refusal :=
  .next (s.done ((s.launchLate port.idx (k % 2)).pumpAll))

/-- A PTP event frame misses its departure (R212). -/
def execPtpDepartureMissed (frame : Nat) (s : State) : Outcome State Fault Refusal :=
  .next (s.done ((s.ptpMissed frame).pumpAll))

end Sys2Proof.Machine
end

