-- ==== Sys2Proof/Machine/Dispatch.lean ====
section
/-!
DEFINITION. exec: one arm per command, each one direct call of its meaning.
-/

namespace Sys2Proof.Machine

open Host

def exec (i : Instr) (s : State) : Host.Outcome State Fault Refusal :=
  match i with
  | .hostFrameReceived port rx => Sys2Proof.Machine.execHostFrameReceived port rx s
  | .lineFrameReceived port rx => Sys2Proof.Machine.execLineFrameReceived port rx s
  | .pauseRefresh port => Sys2Proof.Machine.execPauseRefresh port s
  | .parityRepair slice word => Sys2Proof.Machine.execParityRepair slice word s
  | .pnIssue frame => Sys2Proof.Machine.execPnIssue frame s
  | .parkedFrameDrop secy => Sys2Proof.Machine.execParkedFrameDrop secy s
  | .dispatch frame => Sys2Proof.Machine.execDispatch frame s
  | .coldSaFetchDone sa res => Sys2Proof.Machine.execColdSaFetchDone sa res s
  | .demotionWritebackDone sa => Sys2Proof.Machine.execDemotionWritebackDone sa s
  | .cipherComplete frame seg => Sys2Proof.Machine.execCipherComplete frame seg s
  | .reorderRelease frame => Sys2Proof.Machine.execReorderRelease frame s
  | .verdict frame => Sys2Proof.Machine.execVerdict frame s
  | .commitPoint frame => Sys2Proof.Machine.execCommitPoint frame s
  | .transmitSelection port => Sys2Proof.Machine.execTransmitSelection port s
  | .engineFault eng cause => Sys2Proof.Machine.execEngineFault eng cause s
  | .engineStall eng => Sys2Proof.Machine.execEngineStall eng s
  | .linkUp port form fec => Sys2Proof.Machine.execLinkUp port form fec s
  | .linkDown port => Sys2Proof.Machine.execLinkDown port s
  | .trainingRestart port => Sys2Proof.Machine.execTrainingRestart port s
  | .forcedFormProbe port reached => Sys2Proof.Machine.execForcedFormProbe port reached s
  | .recalReq o port queue => Sys2Proof.Machine.execRecalReq o port queue s
  | .recalDone port coefs => Sys2Proof.Machine.execRecalDone port coefs s
  | .maxFrameWrite o port v => Sys2Proof.Machine.execMaxFrameWrite o port v s
  | .fcThrWrite o port v => Sys2Proof.Machine.execFcThrWrite o port v s
  | .pauseFrameReceived port quanta => Sys2Proof.Machine.execPauseFrameReceived port quanta s
  | .pfcFrameReceived port enable times => Sys2Proof.Machine.execPfcFrameReceived port enable times s
  | .pauseExpired port pri => Sys2Proof.Machine.execPauseExpired port pri s
  | .pauseStorm port => Sys2Proof.Machine.execPauseStorm port s
  | .pauseStormQuiet port => Sys2Proof.Machine.execPauseStormQuiet port s
  | .portDormant port => Sys2Proof.Machine.execPortDormant port s
  | .beacon port => Sys2Proof.Machine.execBeacon port s
  | .portWake port => Sys2Proof.Machine.execPortWake port s
  | .wakeEnergyQualified port => Sys2Proof.Machine.execWakeEnergyQualified port s
  | .dormantWake o port => Sys2Proof.Machine.execDormantWake o port s
  | .statSnap o port => Sys2Proof.Machine.execStatSnap o port s
  | .bankSwitch o => Sys2Proof.Machine.execBankSwitch o s
  | .bankDrained => Sys2Proof.Machine.execBankDrained s
  | .ageingSweep => Sys2Proof.Machine.execAgeingSweep s
  | .ageWrite o v => Sys2Proof.Machine.execAgeWrite o v s
  | .twRead o slice table bank => Sys2Proof.Machine.execTwRead o slice table bank s
  | .twWrite o slice table bank => Sys2Proof.Machine.execTwWrite o slice table bank s
  | .twInsert o slice => Sys2Proof.Machine.execTwInsert o slice s
  | .twDelete o slice => Sys2Proof.Machine.execTwDelete o slice s
  | .twFlushLport o slice => Sys2Proof.Machine.execTwFlushLport o slice s
  | .twFlushPeer o slice => Sys2Proof.Machine.execTwFlushPeer o slice s
  | .flushDone => Sys2Proof.Machine.execFlushDone s
  | .lpModeWrite o port v => Sys2Proof.Machine.execLpModeWrite o port v s
  | .sawRead o => Sys2Proof.Machine.execSawRead o s
  | .sawInstall o => Sys2Proof.Machine.execSawInstall o s
  | .sawRetire o => Sys2Proof.Machine.execSawRetire o s
  | .sawRaise o => Sys2Proof.Machine.execSawRaise o s
  | .sawArm o epoch => Sys2Proof.Machine.execSawArm o epoch s
  | .sawDisarm o => Sys2Proof.Machine.execSawDisarm o s
  | .sawSwitch o => Sys2Proof.Machine.execSawSwitch o s
  | .rscwRead o => Sys2Proof.Machine.execRscwRead o s
  | .rscwInstall o => Sys2Proof.Machine.execRscwInstall o s
  | .rscwRemove o => Sys2Proof.Machine.execRscwRemove o s
  | .saDrained sa => Sys2Proof.Machine.execSaDrained sa s
  | .keySwitchEpoch secy => Sys2Proof.Machine.execKeySwitchEpoch secy s
  | .secyCfgWrite o r v => Sys2Proof.Machine.execSecyCfgWrite o r v s
  | .loRegisterCapture o addr => Sys2Proof.Machine.execLoRegisterCapture o addr s
  | .minMaxRead o addr => Sys2Proof.Machine.execMinMaxRead o addr s
  | .mkpduReceived port m => Sys2Proof.Machine.execMkpduReceived port m s
  | .mkaHelloTimer ca => Sys2Proof.Machine.execMkaHelloTimer ca s
  | .peerTimeout ca mi => Sys2Proof.Machine.execPeerTimeout ca mi s
  | .sakLifetimeExpired ca => Sys2Proof.Machine.execSakLifetimeExpired ca s
  | .sakSlotRetry ca => Sys2Proof.Machine.execSakSlotRetry ca s
  | .rxRetainExpired ca => Sys2Proof.Machine.execRxRetainExpired ca s
  | .caSaRetire ca => Sys2Proof.Machine.execCaSaRetire ca s
  | .caStart ca => Sys2Proof.Machine.execCaStart ca s
  | .cawReadCa o => Sys2Proof.Machine.execCawReadCa o s
  | .cawReadPeer o => Sys2Proof.Machine.execCawReadPeer o s
  | .cawRekey o => Sys2Proof.Machine.execCawRekey o s
  | .cawRestart o => Sys2Proof.Machine.execCawRestart o s
  | .mkaTimeWrite o k v => Sys2Proof.Machine.execMkaTimeWrite o k v s
  | .presencePress => Sys2Proof.Machine.execPresencePress s
  | .commitReceived ch pid commitment => Sys2Proof.Machine.execCommitReceived ch pid commitment s
  | .revealReceived ch pid nonce pub => Sys2Proof.Machine.execRevealReceived ch pid nonce pub s
  | .confirmReceived ch pid tag => Sys2Proof.Machine.execConfirmReceived ch pid tag s
  | .pairingMessageTimer => Sys2Proof.Machine.execPairingMessageTimer s
  | .pairingWindowExpired => Sys2Proof.Machine.execPairingWindowExpired s
  | .pairingConfirmExpired => Sys2Proof.Machine.execPairingConfirmExpired s
  | .codeSymbolTimer => Sys2Proof.Machine.execCodeSymbolTimer s
  | .remaskSweep => Sys2Proof.Machine.execRemaskSweep s
  | .slotwReadStatus o => Sys2Proof.Machine.execSlotwReadStatus o s
  | .slotwAllocate o => Sys2Proof.Machine.execSlotwAllocate o s
  | .slotwRelease o => Sys2Proof.Machine.execSlotwRelease o s
  | .slotwGen128 o => Sys2Proof.Machine.execSlotwGen128 o s
  | .slotwGen256 o => Sys2Proof.Machine.execSlotwGen256 o s
  | .cakwRead o => Sys2Proof.Machine.execCakwRead o s
  | .cakwErase o => Sys2Proof.Machine.execCakwErase o s
  | .provBegin o slot => Sys2Proof.Machine.execProvBegin o slot s
  | .provCommit o => Sys2Proof.Machine.execProvCommit o s
  | .provAbort o => Sys2Proof.Machine.execProvAbort o s
  | .provDataAccess o write v => Sys2Proof.Machine.execProvDataAccess o write v s
  | .provSessionTimeout => Sys2Proof.Machine.execProvSessionTimeout s
  | .keyZero o v => Sys2Proof.Machine.execKeyZero o v s
  | .svcEcbEncrypt o ctx => Sys2Proof.Machine.execSvcEcbEncrypt o ctx s
  | .svcEcbDecrypt o ctx => Sys2Proof.Machine.execSvcEcbDecrypt o ctx s
  | .svcCbcEncrypt o ctx => Sys2Proof.Machine.execSvcCbcEncrypt o ctx s
  | .svcCbcDecrypt o ctx => Sys2Proof.Machine.execSvcCbcDecrypt o ctx s
  | .svcCtr o ctx => Sys2Proof.Machine.execSvcCtr o ctx s
  | .svcGcmEncrypt o ctx => Sys2Proof.Machine.execSvcGcmEncrypt o ctx s
  | .svcGcmDecrypt o ctx => Sys2Proof.Machine.execSvcGcmDecrypt o ctx s
  | .svcCmac o ctx => Sys2Proof.Machine.execSvcCmac o ctx s
  | .svcKeyWrap o ctx fromSlot => Sys2Proof.Machine.execSvcKeyWrap o ctx fromSlot s
  | .svcKeyUnwrap o ctx toSlot => Sys2Proof.Machine.execSvcKeyUnwrap o ctx toSlot s
  | .svcKdf o ctx toSlot => Sys2Proof.Machine.execSvcKdf o ctx toSlot s
  | .svcContextSave o ctx wrapped => Sys2Proof.Machine.execSvcContextSave o ctx wrapped s
  | .svcContextRestore o ctx wrapped => Sys2Proof.Machine.execSvcContextRestore o ctx wrapped s
  | .svcDrbgOutput o ctx toSlot => Sys2Proof.Machine.execSvcDrbgOutput o ctx toSlot s
  | .svcLoadContextKey o ctx => Sys2Proof.Machine.execSvcLoadContextKey o ctx s
  | .svcOperationDone ctx => Sys2Proof.Machine.execSvcOperationDone ctx s
  | .drbgReseed k => Sys2Proof.Machine.execDrbgReseed k s
  | .entropyTestFailure => Sys2Proof.Machine.execEntropyTestFailure s
  | .entropyRetestDone test => Sys2Proof.Machine.execEntropyRetestDone test s
  | .paceWindow counts => Sys2Proof.Machine.execPaceWindow counts s
  | .marginPeriod => Sys2Proof.Machine.execMarginPeriod s
  | .tplRead o => Sys2Proof.Machine.execTplRead o s
  | .tplWrite o => Sys2Proof.Machine.execTplWrite o s
  | .rebalance => Sys2Proof.Machine.execRebalance s
  | .setShrink rx sc => Sys2Proof.Machine.execSetShrink rx sc s
  | .engineRotation => Sys2Proof.Machine.execEngineRotation s
  | .testRequest o op eng => Sys2Proof.Machine.execTestRequest o op eng s
  | .testRetry => Sys2Proof.Machine.execTestRetry s
  | .testDeferExpired => Sys2Proof.Machine.execTestDeferExpired s
  | .engineDrained eng => Sys2Proof.Machine.execEngineDrained eng s
  | .engineTestDone eng pass ratio tap => Sys2Proof.Machine.execEngineTestDone eng pass ratio tap s
  | .shedEngineRecompute => Sys2Proof.Machine.execShedEngineRecompute s
  | .engineWakeDone eng pace => Sys2Proof.Machine.execEngineWakeDone eng pace s
  | .scwRead o => Sys2Proof.Machine.execScwRead o s
  | .bucketRefill => Sys2Proof.Machine.execBucketRefill s
  | .shwRead o => Sys2Proof.Machine.execShwRead o s
  | .shwWrite o => Sys2Proof.Machine.execShwWrite o s
  | .shwWriteAtEpoch o => Sys2Proof.Machine.execShwWriteAtEpoch o s
  | .qwRead o => Sys2Proof.Machine.execQwRead o s
  | .qwWrite o => Sys2Proof.Machine.execQwWrite o s
  | .polwRead o => Sys2Proof.Machine.execPolwRead o s
  | .polwWrite o => Sys2Proof.Machine.execPolwWrite o s
  | .gcwRead o => Sys2Proof.Machine.execGcwRead o s
  | .gcwWrite o => Sys2Proof.Machine.execGcwWrite o s
  | .configChange o port => Sys2Proof.Machine.execConfigChange o port s
  | .gateListChange port => Sys2Proof.Machine.execGateListChange port s
  | .gateEntryAdvance port => Sys2Proof.Machine.execGateEntryAdvance port s
  | .launchDue port k => Sys2Proof.Machine.execLaunchDue port k s
  | .launchRelease port k => Sys2Proof.Machine.execLaunchRelease port k s
  | .launchLate port k => Sys2Proof.Machine.execLaunchLate port k s
  | .ptpDepartureMissed frame => Sys2Proof.Machine.execPtpDepartureMissed frame s
  | .cellarLineRead line => Sys2Proof.Machine.execCellarLineRead line s
  | .cellarReadComplete line seen => Sys2Proof.Machine.execCellarReadComplete line seen s
  | .cellarLineWrite line w => Sys2Proof.Machine.execCellarLineWrite line w s
  | .nodeRestored node seen => Sys2Proof.Machine.execNodeRestored node seen s
  | .metadataWriteback => Sys2Proof.Machine.execMetadataWriteback s
  | .counterFlush => Sys2Proof.Machine.execCounterFlush s
  | .scrub line seen => Sys2Proof.Machine.execScrub line seen s
  | .pageMove stack seen => Sys2Proof.Machine.execPageMove stack seen s
  | .stackDrained stack => Sys2Proof.Machine.execStackDrained stack s
  | .stackWakeDone stack pass => Sys2Proof.Machine.execStackWakeDone stack pass s
  | .stackLost stack => Sys2Proof.Machine.execStackLost stack s
  | .copyRebuildDone stack => Sys2Proof.Machine.execCopyRebuildDone stack s
  | .ovtReloadDone pass => Sys2Proof.Machine.execOvtReloadDone pass s
  | .rgwRead o => Sys2Proof.Machine.execRgwRead o s
  | .dgwRead o => Sys2Proof.Machine.execDgwRead o s
  | .dgwWrite o => Sys2Proof.Machine.execDgwWrite o s
  | .referenceSwitch => Sys2Proof.Machine.execReferenceSwitch s
  | .adjRate o => Sys2Proof.Machine.execAdjRate o s
  | .adjStep o => Sys2Proof.Machine.execAdjStep o s
  | .adjRateAndStep o => Sys2Proof.Machine.execAdjRateAndStep o s
  | .adjSet o => Sys2Proof.Machine.execAdjSet o s
  | .ownerWrite o owner => Sys2Proof.Machine.execOwnerWrite o owner s
  | .timeSnapshot o => Sys2Proof.Machine.execTimeSnapshot o s
  | .ptpSyncReceived port seq twoStep t1 corr => Sys2Proof.Machine.execPtpSyncReceived port seq twoStep t1 corr s
  | .ptpMessageReceived m => Sys2Proof.Machine.execPtpMessageReceived m s
  | .ptpMessageTimer k => Sys2Proof.Machine.execPtpMessageTimer k s
  | .announceTimeout => Sys2Proof.Machine.execAnnounceTimeout s
  | .hostLockWrite o lock => Sys2Proof.Machine.execHostLockWrite o lock s
  | .hostLockWatchdog => Sys2Proof.Machine.execHostLockWatchdog s
  | .holdoverAgeExpired => Sys2Proof.Machine.execHoldoverAgeExpired s
  | .captureEdge pin => Sys2Proof.Machine.execCaptureEdge pin s
  | .capturePop o pin => Sys2Proof.Machine.execCapturePop o pin s
  | .outputEdge pin => Sys2Proof.Machine.execOutputEdge pin s
  | .actInRise => Sys2Proof.Machine.execActInRise s
  | .actInFall => Sys2Proof.Machine.execActInFall s
  | .boltSettled => Sys2Proof.Machine.execBoltSettled s
  | .conflictTimeout => Sys2Proof.Machine.execConflictTimeout s
  | .fenceInHigh => Sys2Proof.Machine.execFenceInHigh s
  | .fenceInLow => Sys2Proof.Machine.execFenceInLow s
  | .fencePulseEnd => Sys2Proof.Machine.execFencePulseEnd s
  | .beatInEdge => Sys2Proof.Machine.execBeatInEdge s
  | .beatLapse => Sys2Proof.Machine.execBeatLapse s
  | .leaseRenewal => Sys2Proof.Machine.execLeaseRenewal s
  | .leaseExpired => Sys2Proof.Machine.execLeaseExpired s
  | .statusRecordTimer => Sys2Proof.Machine.execStatusRecordTimer s
  | .tetherLost => Sys2Proof.Machine.execTetherLost s
  | .helloTimer => Sys2Proof.Machine.execHelloTimer s
  | .helloReceived seq tag serial slot st fmt digest base nonce prefer actOut => Sys2Proof.Machine.execHelloReceived seq tag serial slot st fmt digest base nonce prefer actOut s
  | .statusReceived seq tag st shed lease synced => Sys2Proof.Machine.execStatusReceived seq tag st shed lease synced s
  | .ackReceived seq tag upTo => Sys2Proof.Machine.execAckReceived seq tag upTo s
  | .sakRecord seq tag ca wrap klen kn an sscis salt => Sys2Proof.Machine.execSakRecord seq tag ca wrap klen kn an sscis salt s
  | .saCommandRecord seq tag op sa pn => Sys2Proof.Machine.execSaCommandRecord seq tag op sa pn s
  | .pnLeaseRecord seq tag sa lease => Sys2Proof.Machine.execPnLeaseRecord seq tag sa lease s
  | .receiveReplayRecord seq tag batch => Sys2Proof.Machine.execReceiveReplayRecord seq tag batch s
  | .mkaStateRecord seq tag ca mi isKs ksSci kn an oldAn => Sys2Proof.Machine.execMkaStateRecord seq tag ca mi isKs ksSci kn an oldAn s
  | .mnLeaseRecord seq tag ca lease => Sys2Proof.Machine.execMnLeaseRecord seq tag ca lease s
  | .mkaPeerRecord seq tag ca mi mn sci live => Sys2Proof.Machine.execMkaPeerRecord seq tag ca mi mn sci live s
  | .timeRecord seq tag rate t => Sys2Proof.Machine.execTimeRecord seq tag rate t s
  | .epochRecord seq tag ca an kn epoch => Sys2Proof.Machine.execEpochRecord seq tag ca an kn epoch s
  | .cakRecord seq tag slot ckn klen wrap => Sys2Proof.Machine.execCakRecord seq tag slot ckn klen wrap s
  | .handoverRecord seq tag leases mns role => Sys2Proof.Machine.execHandoverRecord seq tag leases mns role s
  | .recordResend => Sys2Proof.Machine.execRecordResend s
  | .rxMirrorTimer => Sys2Proof.Machine.execRxMirrorTimer s
  | .timeRecordTimer => Sys2Proof.Machine.execTimeRecordTimer s
  | .discoveryTimeout => Sys2Proof.Machine.execDiscoveryTimeout s
  | .handoverDrainEnd => Sys2Proof.Machine.execHandoverDrainEnd s
  | .handoverTimeout => Sys2Proof.Machine.execHandoverTimeout s
  | .parTest o => Sys2Proof.Machine.execParTest o s
  | .parExit o => Sys2Proof.Machine.execParExit o s
  | .parSwitch o => Sys2Proof.Machine.execParSwitch o s
  | .parAcceptDigest o => Sys2Proof.Machine.execParAcceptDigest o s
  | .testMaxExpired => Sys2Proof.Machine.execTestMaxExpired s
  | .recoverHoldExpired => Sys2Proof.Machine.execRecoverHoldExpired s
  | .recoverMaxExpired => Sys2Proof.Machine.execRecoverMaxExpired s
  | .powerOnReset cause => Sys2Proof.Machine.execPowerOnReset cause s
  | .coldReset => Sys2Proof.Machine.execColdReset s
  | .warmReset => Sys2Proof.Machine.execWarmReset s
  | .startBegin => Sys2Proof.Machine.execStartBegin s
  | .st01Done answers advances monitors => Sys2Proof.Machine.execSt01Done answers advances monitors s
  | .st02Done fuseOk => Sys2Proof.Machine.execSt02Done fuseOk s
  | .st03Done trips rings test refPin refT => Sys2Proof.Machine.execSt03Done trips rings test refPin refT s
  | .st04Done readable => Sys2Proof.Machine.execSt04Done readable s
  | .st05Done => Sys2Proof.Machine.execSt05Done s
  | .st06Done => Sys2Proof.Machine.execSt06Done s
  | .st07Done => Sys2Proof.Machine.execSt07Done s
  | .st08Done failing => Sys2Proof.Machine.execSt08Done failing s
  | .st09Done test => Sys2Proof.Machine.execSt09Done test s
  | .st10Done coefs failing => Sys2Proof.Machine.execSt10Done coefs failing s
  | .st11Done failing cal => Sys2Proof.Machine.execSt11Done failing cal s
  | .st12Done => Sys2Proof.Machine.execSt12Done s
  | .st13Done => Sys2Proof.Machine.execSt13Done s
  | .st14Done => Sys2Proof.Machine.execSt14Done s
  | .st12MaxExpired => Sys2Proof.Machine.execSt12MaxExpired s
  | .timeWaitExpired => Sys2Proof.Machine.execTimeWaitExpired s
  | .stepWatchdog => Sys2Proof.Machine.execStepWatchdog s
  | .restartAfterFailure => Sys2Proof.Machine.execRestartAfterFailure s
  | .staResetWarm o => Sys2Proof.Machine.execStaResetWarm o s
  | .staResetCold o => Sys2Proof.Machine.execStaResetCold o s
  | .clearHold o => Sys2Proof.Machine.execClearHold o s
  | .clearAlt o => Sys2Proof.Machine.execClearAlt o s
  | .staLogwRead o => Sys2Proof.Machine.execStaLogwRead o s
  | .survivalCountWrite => Sys2Proof.Machine.execSurvivalCountWrite s
  | .xspiRead o len => Sys2Proof.Machine.execXspiRead o len s
  | .xspiProgram o => Sys2Proof.Machine.execXspiProgram o s
  | .xspiErase o => Sys2Proof.Machine.execXspiErase o s
  | .xspiVerify o => Sys2Proof.Machine.execXspiVerify o s
  | .xspiCommandDone ok => Sys2Proof.Machine.execXspiCommandDone ok s
  | .supplyCrossing supply mv => Sys2Proof.Machine.execSupplyCrossing supply mv s
  | .vcoreReturnHold mv => Sys2Proof.Machine.execVcoreReturnHold mv s
  | .tjSample readings tack => Sys2Proof.Machine.execTjSample readings tack s
  | .tjReturnHold => Sys2Proof.Machine.execTjReturnHold s
  | .paceLow => Sys2Proof.Machine.execPaceLow s
  | .paceReturnHold => Sys2Proof.Machine.execPaceReturnHold s
  | .stepBack => Sys2Proof.Machine.execStepBack s
  | .forceStageWrite o stage => Sys2Proof.Machine.execForceStageWrite o stage s
  | .sealSample r10 tmp strap => Sys2Proof.Machine.execSealSample r10 tmp strap s
  | .clockMonitorWindow ref res => Sys2Proof.Machine.execClockMonitorWindow ref res s
  | .clockGlitch ref => Sys2Proof.Machine.execClockGlitch ref s
  | .crystalCheck inRange => Sys2Proof.Machine.execCrystalCheck inRange s
  | .supplyGlitch supply => Sys2Proof.Machine.execSupplyGlitch supply s
  | .alarmHoldExpired src => Sys2Proof.Machine.execAlarmHoldExpired src s
  | .ack o => Sys2Proof.Machine.execAck o s
  | .close o => Sys2Proof.Machine.execClose o s
  | .stim o src => Sys2Proof.Machine.execStim o src s
  | .stimEnd pass holds => Sys2Proof.Machine.execStimEnd pass holds s
  | .stimRotation => Sys2Proof.Machine.execStimRotation s
  | .presenceWindowExpired => Sys2Proof.Machine.execPresenceWindowExpired s
  | .flagClear o v => Sys2Proof.Machine.execFlagClear o v s
  | .responseRecordWrite o src win v => Sys2Proof.Machine.execResponseRecordWrite o src win v s
  | .tckLogwRead o => Sys2Proof.Machine.execTckLogwRead o s
  | .registerWrite o addr v => Sys2Proof.Machine.execRegisterWrite o addr v s
  | .pf0Flr => Sys2Proof.Machine.execPf0Flr s
  | .pf1Flr => Sys2Proof.Machine.execPf1Flr s
  | .txDescriptor ring d => Sys2Proof.Machine.execTxDescriptor ring d s
  | .txWriteback ring => Sys2Proof.Machine.execTxWriteback ring s
  | .rxWriteback ring addr => Sys2Proof.Machine.execRxWriteback ring addr s
  | .rxCoalesce ring => Sys2Proof.Machine.execRxCoalesce ring s
  | .ringEnable o tx ring => Sys2Proof.Machine.execRingEnable o tx ring s
  | .ringDisable o tx ring => Sys2Proof.Machine.execRingDisable o tx ring s
  | .tailWrite o tx ring v => Sys2Proof.Machine.execTailWrite o tx ring v s
  | .smbAddr pec addr => Sys2Proof.Machine.execSmbAddr pec addr s
  | .smbRead => Sys2Proof.Machine.execSmbRead s
  | .smbWrite pec v => Sys2Proof.Machine.execSmbWrite pec v s
  | .smbStatus => Sys2Proof.Machine.execSmbStatus s
  | .smbId => Sys2Proof.Machine.execSmbId s
  | .smbusTimeout => Sys2Proof.Machine.execSmbusTimeout s
  | .iaholtOpen nonce pub => Sys2Proof.Machine.execIaholtOpen nonce pub s
  | .iaholtRead h start count => Sys2Proof.Machine.execIaholtRead h start count s
  | .iaholtWrite h pairs => Sys2Proof.Machine.execIaholtWrite h pairs s
  | .iaholtClose h => Sys2Proof.Machine.execIaholtClose h s
  | .iaholtIdleClose slot => Sys2Proof.Machine.execIaholtIdleClose slot s
  | .acuCommit o acu => Sys2Proof.Machine.execAcuCommit o acu s
  | .acuFenceDrained acu => Sys2Proof.Machine.execAcuFenceDrained acu s
  | .extest => Sys2Proof.Machine.execExtest s
  | .extestPulse => Sys2Proof.Machine.execExtestPulse s
  | .extestTrain => Sys2Proof.Machine.execExtestTrain s
  | .clamp => Sys2Proof.Machine.execClamp s
  | .highz => Sys2Proof.Machine.execHighz s
  | .idcode => Sys2Proof.Machine.execIdcode s
  | .samplePreload => Sys2Proof.Machine.execSamplePreload s
  | .bypass => Sys2Proof.Machine.execBypass s
  | .dbgChal => Sys2Proof.Machine.execDbgChal s
  | .dbgResp pub r sig => Sys2Proof.Machine.execDbgResp pub r sig s
  | .debugAccess k => Sys2Proof.Machine.execDebugAccess k s
  | .counterWrapSample u cnt d1 d2 => Sys2Proof.Machine.execCounterWrapSample u cnt d1 d2 s
  | .smpwPop o => Sys2Proof.Machine.execSmpwPop o s
  | .freeze o on => Sys2Proof.Machine.execFreeze o on s
  | .eventLogEntry => Sys2Proof.Machine.execEventLogEntry s
  | .obsLogwRead o => Sys2Proof.Machine.execObsLogwRead o s
  | .pcieFundamentalReset => Sys2Proof.Machine.execPcieFundamentalReset s
  | .presenceRelease => Sys2Proof.Machine.execPresenceRelease s

end Sys2Proof.Machine
end

