-- ==== Sys2Proof/Machine/Tick.lean ====
section
/-!
DEFINITION. One tick of the 1 GHz time clock (R201), which is what a step does on an empty queue (log entry 1): the time
counter and the tack room's clock go on, engines have their handshake cycles (R351, R352), level events are seen (R353), and MKPDUs due since less than 10 ms after the last leave (R103).
Everything that takes time and has a row of the table is left to its command (log entry 3).
-/

namespace Sys2Proof.Machine

/-- The handshake cycles of engine e in one tick: pace, in M blocks/s, is thousandths of a cycle in each nanosecond. A cycle
with no frame in the engine, or past the handshakes of those it holds, is FRONT_STARVED; one in which the reorder store takes
no output is BACK_STARVED; a handshake takes its class when its segment leaves (log entry 27). -/
def State.engTick (s : State) (e : Nat) : State :=
  let g := s.eng e
  if !s.obsRuns || !(g.mode == .inService || g.mode == .draining) then s
  else
    let n := (g.cycAcc + g.pace) / 1000
    let full := !g.slots.isEmpty && s.roFree == 0
    let b := if full then 0 else min n (s.owed e - g.busy)
    let s1 := s.setEng e { g with cycAcc := (g.cycAcc + g.pace) % 1000, cyc := g.cyc + BitVec.ofNat 64 n, busy := g.busy + b }
    (s1.obsEvent (.engine e) (if full then 4 else 3) (n - b)).obsTick (.engine e) n

/-- The counter advances by 1 ns, 2^16 units, with its 16 unread fraction bits (R201). -/
def State.clockTick (s : State) : State :=
  { s with
    tim := { s.tim with cnt := s.tim.cnt + BitVec.ofNat 112 (2 ^ 32) }
    tck := { s.tck with ns := s.tck.ns + 1 } }

/-- Every unit with level events sees one tick. -/
def State.obsUnitsTick (s : State) : State :=
  if !s.obsRuns then s
  else
    let s1 := (List.range 64).foldl State.engTick s
    let s2 := (List.range 128).foldl (fun t p => t.obsTick (.port p) 1) s1
    s2.obsTick .cellar 1

/-- One tick of the time clock. -/
def tick (s : State) : State := s.done s.obsUnitsTick.clockTick.sendReady

end Sys2Proof.Machine
end

