-- ==== Sys2Proof/WellFormed.lean ====
section
/-!
DEFINITION. The well-formed commands: every operand names something the part has (ports of R28, SecYs and SAs of R71 to R73, engines of R137,
stacks of R175, rings of R329, ACUs of R340 and so on). exec answers on the others too (log entry 2): an index that names nothing is taken
modulo the count, or the state is unchanged.
-/

namespace Sys2Proof

/-- The part has 64 host and 64 line ports (R28). -/
def PortId.wf (p : PortId) : Bool := decide (p.n < 64)

/-- The part has 16 service cores (R339) and 2,048 CAs (R96). -/
def Origin.wf (o : Origin) : Bool :=
  match o with
  | .core c => decide (c < 16)
  | .task c ca => decide (c < 16) && decide (ca < 2048)
  | .pf0 => true
  | .pf1 => true
  | .smbus => true
  | .iaholt => true

/-- 2,048 SecYs (R71). -/
def SecReg.wf (r : SecReg) : Bool :=
  match r with
  | .cfg n => decide (n < 2048)
  | .win n => decide (n < 2048)
  | .ctl => true

def PairCh.wf (c : PairCh) : Bool :=
  match c with
  | .line n => decide (n < 64)
  | .tether => true

/-- A read or write of a debug access lies in the 32-bit map (R346, R361). -/
def DbgKind.wf (k : DbgKind) : Bool :=
  match k with
  | .halt c => decide (c < 16)
  | .resume c => decide (c < 16)
  | .step c => decide (c < 16)
  | .read c a => decide (c < 16) && decide (a < 2 ^ 32)
  | .write c a _ => decide (c < 16) && decide (a < 2 ^ 32)
  | .scan => true

/-- How many programmable counters a unit has (R350). -/
def ObsUnit.counters (u : ObsUnit) : Nat :=
  match u with
  | .engine _ => 8
  | .port _ => 4
  | .core _ => 4
  | .cellar => 8

def ObsUnit.wf (u : ObsUnit) : Bool :=
  match u with
  | .engine e => decide (e < 64)
  | .port p => decide (p < 128)
  | .core c => decide (c < 16)
  | .cellar => true

/-- A datagram's sequence number is 64 bits (R336). -/
def IahHdr.wf (h : IahHdr) : Bool := decide (h.seq < 2 ^ 64)

/-- A command whose operands name what the part has. -/
def Instr.wf (i : Instr) : Bool :=
  match i with
  | .hostFrameReceived port _ => decide (port < 64)
  | .lineFrameReceived port _ => decide (port < 64)
  | .pauseRefresh port => decide (port < 64)
  | .parityRepair slice _ => decide (slice < 4)
  | .pnIssue _ => true
  | .parkedFrameDrop secy => decide (secy < 2048)
  | .dispatch _ => true
  | .coldSaFetchDone sa _ => decide (sa < 73728)
  | .demotionWritebackDone sa => decide (sa < 73728)
  | .cipherComplete _ _ => true
  | .reorderRelease _ => true
  | .verdict _ => true
  | .commitPoint _ => true
  | .transmitSelection port => port.wf
  | .engineFault eng _ => decide (eng < 64)
  | .engineStall eng => decide (eng < 64)
  | .linkUp port form fec => port.wf && decide (form < 12) && decide (fec < 4)
  | .linkDown port => port.wf
  | .trainingRestart port => port.wf
  | .forcedFormProbe port _ => port.wf
  | .recalReq o port _ => o.wf && port.wf
  | .recalDone port _ => port.wf
  | .maxFrameWrite o port _ => o.wf && decide (port < 64)
  | .fcThrWrite o port _ => o.wf && decide (port < 64)
  | .pauseFrameReceived port _ => port.wf
  | .pfcFrameReceived port _ _ => port.wf
  | .pauseExpired port _ => port.wf
  | .pauseStorm port => port.wf
  | .pauseStormQuiet port => port.wf
  | .portDormant port => port.wf
  | .beacon port => port.wf
  | .portWake port => port.wf
  | .wakeEnergyQualified port => port.wf
  | .dormantWake o port => o.wf && port.wf
  | .statSnap o port => o.wf && port.wf
  | .bankSwitch o => o.wf
  | .bankDrained => true
  | .ageingSweep => true
  | .ageWrite o _ => o.wf
  | .twRead o slice table bank => o.wf && decide (slice < 4) && decide (table < 11) && decide (bank < 2)
  | .twWrite o slice table bank => o.wf && decide (slice < 4) && decide (table < 11) && decide (bank < 2)
  | .twInsert o slice => o.wf && decide (slice < 4)
  | .twDelete o slice => o.wf && decide (slice < 4)
  | .twFlushLport o slice => o.wf && decide (slice < 4)
  | .twFlushPeer o slice => o.wf && decide (slice < 4)
  | .flushDone => true
  | .lpModeWrite o port _ => o.wf && decide (port < 64)
  | .sawRead o => o.wf
  | .sawInstall o => o.wf
  | .sawRetire o => o.wf
  | .sawRaise o => o.wf
  | .sawArm o _ => o.wf
  | .sawDisarm o => o.wf
  | .sawSwitch o => o.wf
  | .rscwRead o => o.wf
  | .rscwInstall o => o.wf
  | .rscwRemove o => o.wf
  | .saDrained sa => decide (sa < 73728)
  | .keySwitchEpoch secy => decide (secy < 2048)
  | .secyCfgWrite o r _ => o.wf && r.wf
  | .loRegisterCapture o addr => o.wf && decide (addr < 2 ^ 32)
  | .minMaxRead o addr => o.wf && decide (addr < 2 ^ 32)
  | .mkpduReceived port _ => decide (port < 64)
  | .mkaHelloTimer ca => decide (ca < 2048)
  | .peerTimeout ca _ => decide (ca < 2048)
  | .sakLifetimeExpired ca => decide (ca < 2048)
  | .sakSlotRetry ca => decide (ca < 2048)
  | .rxRetainExpired ca => decide (ca < 2048)
  | .caSaRetire ca => decide (ca < 2048)
  | .caStart ca => decide (ca < 2048)
  | .cawReadCa o => o.wf
  | .cawReadPeer o => o.wf
  | .cawRekey o => o.wf
  | .cawRestart o => o.wf
  | .mkaTimeWrite o k _ => o.wf && decide (k < 4)
  | .presencePress => true
  | .commitReceived ch _ _ => ch.wf
  | .revealReceived ch _ _ _ => ch.wf
  | .confirmReceived ch _ _ => ch.wf
  | .pairingMessageTimer => true
  | .pairingWindowExpired => true
  | .pairingConfirmExpired => true
  | .codeSymbolTimer => true
  | .remaskSweep => true
  | .slotwReadStatus o => o.wf
  | .slotwAllocate o => o.wf
  | .slotwRelease o => o.wf
  | .slotwGen128 o => o.wf
  | .slotwGen256 o => o.wf
  | .cakwRead o => o.wf
  | .cakwErase o => o.wf
  | .provBegin o slot => o.wf && decide (slot < 1024)
  | .provCommit o => o.wf
  | .provAbort o => o.wf
  | .provDataAccess o _ _ => o.wf
  | .provSessionTimeout => true
  | .keyZero o _ => o.wf
  | .svcEcbEncrypt o ctx => o.wf && decide (ctx < 32)
  | .svcEcbDecrypt o ctx => o.wf && decide (ctx < 32)
  | .svcCbcEncrypt o ctx => o.wf && decide (ctx < 32)
  | .svcCbcDecrypt o ctx => o.wf && decide (ctx < 32)
  | .svcCtr o ctx => o.wf && decide (ctx < 32)
  | .svcGcmEncrypt o ctx => o.wf && decide (ctx < 32)
  | .svcGcmDecrypt o ctx => o.wf && decide (ctx < 32)
  | .svcCmac o ctx => o.wf && decide (ctx < 32)
  | .svcKeyWrap o ctx _ => o.wf && decide (ctx < 32)
  | .svcKeyUnwrap o ctx _ => o.wf && decide (ctx < 32)
  | .svcKdf o ctx _ => o.wf && decide (ctx < 32)
  | .svcContextSave o ctx _ => o.wf && decide (ctx < 32)
  | .svcContextRestore o ctx _ => o.wf && decide (ctx < 32)
  | .svcDrbgOutput o ctx _ => o.wf && decide (ctx < 32)
  | .svcLoadContextKey o ctx => o.wf && decide (ctx < 32)
  | .svcOperationDone ctx => decide (ctx < 32)
  | .drbgReseed _ => true
  | .entropyTestFailure => true
  | .entropyRetestDone _ => true
  | .paceWindow _ => true
  | .marginPeriod => true
  | .tplRead o => o.wf
  | .tplWrite o => o.wf
  | .rebalance => true
  | .setShrink rx sc => decide (sc < if rx then 16384 else 2048)
  | .engineRotation => true
  | .testRequest o _ eng => o.wf && decide (eng < 64)
  | .testRetry => true
  | .testDeferExpired => true
  | .engineDrained eng => decide (eng < 64)
  | .engineTestDone eng _ _ _ => decide (eng < 64)
  | .shedEngineRecompute => true
  | .engineWakeDone eng _ => decide (eng < 64)
  | .scwRead o => o.wf
  | .bucketRefill => true
  | .shwRead o => o.wf
  | .shwWrite o => o.wf
  | .shwWriteAtEpoch o => o.wf
  | .qwRead o => o.wf
  | .qwWrite o => o.wf
  | .polwRead o => o.wf
  | .polwWrite o => o.wf
  | .gcwRead o => o.wf
  | .gcwWrite o => o.wf
  | .configChange o port => o.wf && decide (port < 128)
  | .gateListChange port => decide (port < 128)
  | .gateEntryAdvance port => decide (port < 128)
  | .launchDue port k => decide (port < 64) && decide (k < 2)
  | .launchRelease port k => decide (port < 64) && decide (k < 2)
  | .launchLate port k => port.wf && decide (k < 2)
  | .ptpDepartureMissed _ => true
  | .cellarLineRead _ => true
  | .cellarReadComplete _ _ => true
  | .cellarLineWrite _ _ => true
  | .nodeRestored _ _ => true
  | .metadataWriteback => true
  | .counterFlush => true
  | .scrub _ _ => true
  | .pageMove stack _ => decide (stack < 4)
  | .stackDrained stack => decide (stack < 4)
  | .stackWakeDone stack _ => decide (stack < 4)
  | .stackLost stack => decide (stack < 4)
  | .copyRebuildDone stack => decide (stack < 4)
  | .ovtReloadDone _ => true
  | .rgwRead o => o.wf
  | .dgwRead o => o.wf
  | .dgwWrite o => o.wf
  | .referenceSwitch => true
  | .adjRate o => o.wf
  | .adjStep o => o.wf
  | .adjRateAndStep o => o.wf
  | .adjSet o => o.wf
  | .ownerWrite o owner => o.wf && decide (owner < 3)
  | .timeSnapshot o => o.wf
  | .ptpSyncReceived _ _ _ _ _ => true
  | .ptpMessageReceived _ => true
  | .ptpMessageTimer _ => true
  | .announceTimeout => true
  | .hostLockWrite o _ => o.wf
  | .hostLockWatchdog => true
  | .holdoverAgeExpired => true
  | .captureEdge pin => decide (pin < 5)
  | .capturePop o pin => o.wf && decide (pin < 5)
  | .outputEdge pin => decide (pin < 5)
  | .actInRise => true
  | .actInFall => true
  | .boltSettled => true
  | .conflictTimeout => true
  | .fenceInHigh => true
  | .fenceInLow => true
  | .fencePulseEnd => true
  | .beatInEdge => true
  | .beatLapse => true
  | .leaseRenewal => true
  | .leaseExpired => true
  | .statusRecordTimer => true
  | .tetherLost => true
  | .helloTimer => true
  | .helloReceived _ _ _ slot _ _ _ _ _ _ _ => decide (slot < 2)
  | .statusReceived _ _ _ shed _ _ => decide (shed < 7)
  | .ackReceived _ _ _ => true
  | .sakRecord _ _ ca _ _ _ an _ _ => decide (ca < 2048) && decide (an < 4)
  | .saCommandRecord _ _ _ sa _ => decide (sa < 73728)
  | .pnLeaseRecord _ _ sa _ => decide (sa < 73728)
  | .receiveReplayRecord _ _ _ => true
  | .mkaStateRecord _ _ ca _ _ _ _ an oldAn => decide (ca < 2048) && decide (an < 4) && decide (oldAn < 4)
  | .mnLeaseRecord _ _ ca _ => decide (ca < 2048)
  | .mkaPeerRecord _ _ ca _ _ _ _ => decide (ca < 2048)
  | .timeRecord _ _ _ _ => true
  | .epochRecord _ _ ca an _ _ => decide (ca < 2048) && decide (an < 4)
  | .cakRecord _ _ slot _ _ _ => decide (slot < 1024)
  | .handoverRecord _ _ _ _ _ => true
  | .recordResend => true
  | .rxMirrorTimer => true
  | .timeRecordTimer => true
  | .discoveryTimeout => true
  | .handoverDrainEnd => true
  | .handoverTimeout => true
  | .parTest o => o.wf
  | .parExit o => o.wf
  | .parSwitch o => o.wf
  | .parAcceptDigest o => o.wf
  | .testMaxExpired => true
  | .recoverHoldExpired => true
  | .recoverMaxExpired => true
  | .powerOnReset _ => true
  | .coldReset => true
  | .warmReset => true
  | .startBegin => true
  | .st01Done _ _ _ => true
  | .st02Done _ => true
  | .st03Done _ _ _ _ _ => true
  | .st04Done _ => true
  | .st05Done => true
  | .st06Done => true
  | .st07Done => true
  | .st08Done _ => true
  | .st09Done _ => true
  | .st10Done _ _ => true
  | .st11Done _ _ => true
  | .st12Done => true
  | .st13Done => true
  | .st14Done => true
  | .st12MaxExpired => true
  | .timeWaitExpired => true
  | .stepWatchdog => true
  | .restartAfterFailure => true
  | .staResetWarm o => o.wf
  | .staResetCold o => o.wf
  | .clearHold o => o.wf
  | .clearAlt o => o.wf
  | .staLogwRead o => o.wf
  | .survivalCountWrite => true
  | .xspiRead o _ => o.wf
  | .xspiProgram o => o.wf
  | .xspiErase o => o.wf
  | .xspiVerify o => o.wf
  | .xspiCommandDone _ => true
  | .supplyCrossing supply _ => decide (supply < 10)
  | .vcoreReturnHold _ => true
  | .tjSample _ _ => true
  | .tjReturnHold => true
  | .paceLow => true
  | .paceReturnHold => true
  | .stepBack => true
  | .forceStageWrite o stage => o.wf && decide (stage < 8)
  | .sealSample _ _ _ => true
  | .clockMonitorWindow ref _ => decide (ref < 7)
  | .clockGlitch ref => decide (ref < 7)
  | .crystalCheck _ => true
  | .supplyGlitch supply => decide (supply < 10)
  | .alarmHoldExpired src => decide (src < 26)
  | .ack o => o.wf
  | .close o => o.wf
  | .stim o src => o.wf && decide (src < 26)
  | .stimEnd _ _ => true
  | .stimRotation => true
  | .presenceWindowExpired => true
  | .flagClear o _ => o.wf
  | .responseRecordWrite o src _ _ => o.wf && decide (src < 26)
  | .tckLogwRead o => o.wf
  | .registerWrite o addr _ => o.wf && decide (addr < 2 ^ 32)
  | .pf0Flr => true
  | .pf1Flr => true
  | .txDescriptor ring _ => decide (ring < 8)
  | .txWriteback ring => decide (ring < 8)
  | .rxWriteback ring _ => decide (ring < 8)
  | .rxCoalesce ring => decide (ring < 8)
  | .ringEnable o _ ring => o.wf && decide (ring < 8)
  | .ringDisable o _ ring => o.wf && decide (ring < 8)
  | .tailWrite o _ ring _ => o.wf && decide (ring < 8)
  | .smbAddr _ addr => decide (addr < 2 ^ 32)
  | .smbRead => true
  | .smbWrite _ _ => true
  | .smbStatus => true
  | .smbId => true
  | .smbusTimeout => true
  | .iaholtOpen _ _ => true
  | .iaholtRead h _ count => h.wf && decide (1 ≤ count) && decide (count ≤ 64)
  | .iaholtWrite h pairs => h.wf && decide (1 ≤ pairs.length) && decide (pairs.length ≤ 64)
  | .iaholtClose h => h.wf
  | .iaholtIdleClose slot => decide (slot < 4)
  | .acuCommit o acu => o.wf && decide (acu < 91)
  | .acuFenceDrained acu => decide (acu < 91)
  | .extest => true
  | .extestPulse => true
  | .extestTrain => true
  | .clamp => true
  | .highz => true
  | .idcode => true
  | .samplePreload => true
  | .bypass => true
  | .dbgChal => true
  | .dbgResp _ _ _ => true
  | .debugAccess k => k.wf
  | .counterWrapSample u cnt _ _ => u.wf && decide (cnt < u.counters)
  | .smpwPop o => o.wf
  | .freeze o _ => o.wf
  | .eventLogEntry => true
  | .obsLogwRead o => o.wf
  | .pcieFundamentalReset => true
  | .presenceRelease => true

end Sys2Proof
end

