-- ==== Sys2Proof/Safety.lean ====
section
/-!
DEFINITION. The words the statements use: an access its ACU grants, a legal register write, a frame a port accepts, the
pad conditions of the pair (R224, R226), a state in which nothing of a step is left to do.
-/

namespace Sys2Proof.Machine

/-- The ACU of origin o lets it write register r, element i (R340). -/
def State.grants (s : State) (o : Origin) (r : Reg) (i : Nat := 0) : Bool := s.acuKind o (regAddr r i) true == 0

/-- The ACU of origin o lets it read register r, element i (R340). -/
def State.readable (s : State) (o : Origin) (r : Reg) (i : Nat := 0) : Bool := s.acuKind o (regAddr r i) false == 0

/-- A write of v to register r, element i, by origin o that its block accepts, with no gate closed to it, no value out of
range and no refused field or reserved bit changed (R8, R10, R342). -/
def State.legal (s : State) (o : Origin) (r : Reg) (i : Nat) (v : W32) : Bool :=
  s.accepts o r i && (!presGated r i || s.presence) && !s.outOfRange (fieldsFor o r) v &&
    s.writeFault (fieldsFor o r) (ignored r) (s.regView r i (copyOf o r)) v == 0

/-- What a legal write leaves: the register's word and nothing else. -/
def State.written (s : State) (o : Origin) (r : Reg) (i : Nat) (v : W32) : State :=
  s.setWord r (s.wouldBe o r i (copyOf o r) v) i (copyOf o r)

/-- The register words of s but those of the registers l in copy g. -/
def State.regsOutside (s : State) (l : List Reg) (g : Nat) : Tab W32 :=
  s.regs.filter (fun e => !l.any (fun r => decide (e.1 / 2 ^ 20 = 4 * r.ctorIdx + g)))

/-- t is s but for words of the registers l in copy g: what a read through an indirect window changes (R363). -/
def State.onlyWords (s t : State) (l : List Reg) (g : Nat) : Bool :=
  decide (t = { s with regs := t.regs }) && decide (t.regsOutside l g = s.regsOutside l g)

/-- A whole frame with a good FCS that port p's MAC accepts and that is not a MAC control frame (R36, R37). -/
def State.goodFrame (s : State) (p : Nat) (o : List Byte) : Bool :=
  fcsOk o && decide (64 ≤ o.length) && decide (o.length ≤ s.maxFrame p) && beAt o 12 2 != 0x8808

/-- The pads follow their conditions: ACT_OUT and BEAT_OUT need a valid lease (R226), the transmit gate is open exactly under the
conditions of R224. -/
def State.padsOk (s : State) : Bool :=
  (!s.par.actOut || s.leaseValid) && (!s.par.beatOut || s.leaseValid) &&
    s.par.gate == (s.par.actOut && s.par.settled && !s.par.actIn && !s.par.fenceIn)

/-- Nothing of a step is left to do: no alarm and no notice waits, no shed of S6 is in force, no synced standby has lost its
partner's beat, the pads follow their conditions and STATUS shows what it should. -/
def State.calm (s : State) : Bool :=
  s.alarm.queue.isEmpty && s.mail.isEmpty && s.pwr.stage != 6 && !(s.par.st == .standby && s.par.synced && !s.par.beatOk) &&
    s.padsOk && s.leds == s.ledsNow

/-- The register write a command consists of: who writes, which register and which element of it. -/
def target (c : Instr) : Option (Origin × Reg × Nat) :=
  match c with
  | .rgwRead o => some (o, .CEL_RGW_CMD, 0)
  | .dgwRead o | .dgwWrite o => some (o, .CEL_DGW_CMD, 0)
  | .bankSwitch o => some (o, .CLS_BANK, 0)
  | .ageWrite o _ => some (o, .CLS_AGE, 0)
  | .twRead o _ _ _ | .twWrite o _ _ _ | .twInsert o _ | .twDelete o _ | .twFlushLport o _ | .twFlushPeer o _
    => some (o, .CLS_TW_CMD, 0)
  | .lpModeWrite o port _ => some (o, .CLS_LP_MODE, port % 64)
  | .tplRead o | .tplWrite o => some (o, .ENG_TPL_CMD, 0)
  | .testRequest o _ _ => some (o, .YRD_TEST, 0)
  | .scwRead o => some (o, .YRD_SCW_CMD, 0)
  | .ringEnable o tx ring | .ringDisable o tx ring => some (o, ringCtl tx, ring % 8)
  | .tailWrite o tx ring _ => some (o, ringTail tx, ring % 8)
  | .acuCommit o acu => some (o, .ACU_CTL, acu % 91)
  | .slotwReadStatus o | .slotwAllocate o | .slotwRelease o | .slotwGen128 o | .slotwGen256 o => some (o, .KEY_SLOTW_CMD, 0)
  | .cakwRead o | .cakwErase o => some (o, .KEY_CAKW_CMD, 0)
  | .provBegin o _ | .provCommit o | .provAbort o => some (o, .KEY_PROV_CMD, 0)
  | .keyZero o _ => some (o, .KEY_ZERO, 0)
  | .cawReadCa o | .cawReadPeer o | .cawRekey o | .cawRestart o => some (o, .MKA_CAW_CMD, 0)
  | .mkaTimeWrite o k _ => some (o, mkaTimeReg k, 0)
  | .smpwPop o => some (o, .OBS_SMPW_CMD, 0)
  | .freeze o _ => some (o, .OBS_CTL, 0)
  | .obsLogwRead o => some (o, .OBS_LOGW_CMD, 0)
  | .parTest o | .parExit o | .parSwitch o | .parAcceptDigest o => some (o, .PAR_CMD, 0)
  | .recalReq o port _ => some (o, port.reg .HPT_RECAL .LPT_RECAL, port.n % 64)
  | .maxFrameWrite o port _ => some (o, .HPT_MAX_FRAME, port % 64)
  | .fcThrWrite o port _ => some (o, .HPT_FC_THR, port % 64)
  | .dormantWake o port => some (o, port.reg .HPT_DORMANT .LPT_DORMANT, port.n % 64)
  | .statSnap o port => some (o, port.reg .HPT_STAT_SNAP .LPT_STAT_SNAP, port.n % 64)
  | .sawRead o | .sawRaise o | .sawArm o _ | .sawDisarm o => some (o, .SEC_SAW_CMD, 0)
  | .rscwRead o | .rscwInstall o | .rscwRemove o => some (o, .SEC_RSCW_CMD, 0)
  | .secyCfgWrite o r _ => some (o, r.reg, r.index)
  | .staResetWarm o | .staResetCold o | .clearHold o | .clearAlt o => some (o, .STA_CMD, 0)
  | .staLogwRead o => some (o, .STA_LOGW_CMD, 0)
  | .xspiRead o _ | .xspiProgram o | .xspiErase o | .xspiVerify o => some (o, .STA_XSPI_CMD, 0)
  | .forceStageWrite o _ => some (o, .PWR_CTL, 0)
  | .ack o | .close o | .stim o _ => some (o, .TCK_CMD, 0)
  | .flagClear o _ => some (o, .TCK_FLAG, 0)
  | .responseRecordWrite o src win _ => some (o, (if win then .TCK_RESP_WIN else .TCK_RESP), src % 32)
  | .tckLogwRead o => some (o, .TCK_LOGW_CMD, 0)
  | .adjRate o | .adjStep o | .adjRateAndStep o | .adjSet o => some (o, .TIM_ADJ_CMD, 0)
  | .ownerWrite o _ => some (o, .TIM_CTL, 0)
  | .timeSnapshot o => some (o, .TIM_SNAP, 0)
  | .hostLockWrite o _ => some (o, .TIM_HOST, 0)
  | .capturePop o pin => some (o, .TIM_CAP_CFG, pin % 5)
  | .shwRead o | .shwWrite o | .shwWriteAtEpoch o => some (o, .TMG_SHW_CMD, 0)
  | .qwRead o | .qwWrite o => some (o, .TMG_QW_CMD, 0)
  | .polwRead o | .polwWrite o => some (o, .TMG_POLW_CMD, 0)
  | .gcwRead o | .gcwWrite o => some (o, .TMG_GCW_CMD, 0)
  | .configChange o port => some (o, .TMG_PORT_CFG, port % 128)
  | _ => none

/-- The commands that stop: a supply past its absolute maximum (R369), a step of a service core and the internal scan with debug
unlocked (R346). -/
def stops (c : Instr) (s : State) : Prop :=
  match c with
  | .supplyCrossing supply mv => supMax (supply % 10) < mv
  | .debugAccess (.step _) | .debugAccess .scan => s.jtag.unlocked = true
  | _ => False

/-- Every command waiting is well-formed. -/
def State.queueWf (s : State) : Bool := s.pending.all Instr.wf

end Sys2Proof.Machine
end

