-- ==== Sys2Proof/Certificates/Slice0/Obligations.lean ====
section
/-!
DEFINITION. The statements for the provers: one Prop each. The completion statements name the rules they rest on; a clause of
one says where exec answers a next state and which one, or where it stops by name.
-/

open Host Sys2Proof Sys2Proof.Machine

/-- A step runs the command at the front of the queue. Rests on 01_the_secured_path.md, 95_what_each_step_holds.md. -/
def Obligations.StepRunsFrontCommand : Prop :=
  ∀ (c : Instr) (rest : List Instr) (s : State), s.pending = c :: rest → step s = exec c { s with pending := rest }

/-- On an empty queue a step is one tick of 1 ns, in which clocks and observation counters advance and MKPDUs that are due
leave. Rests on R201, R103. -/
def Obligations.IdleStepCountsTime : Prop :=
  ∀ s : State, s.pending = [] → ∃ u : State, step s = .next (s.done u.sendReady) ∧
    u.tim.cnt = s.tim.cnt + BitVec.ofNat 112 (65536 * 65536) ∧
    u.tck.ns = s.tck.ns + 1 ∧ u.tim.ofs = s.tim.ofs ∧ u.tim.rate = s.tim.rate ∧ u.regs = s.regs ∧ u.ports = s.ports ∧
    u.frames = s.frames ∧ u.sas = s.sas ∧ u.cas = s.cas ∧ u.mem = s.mem ∧ u.par = s.par ∧ u.pending = []

/-- No command touches the queue, and a step keeps every waiting command well-formed. Rests on 95_what_each_step_holds.md. -/
def Obligations.ExecKeepsQueue : Prop :=
  (∀ (c : Instr) (s t : State), exec c s = .next t → t.pending = s.pending) ∧
    (∀ s t : State, s.queueWf = true → step s = .next t → t.queueWf = true)

/-- After every step ACT_OUT and BEAT_OUT need a valid lease and the transmit gate is open exactly under its conditions.
Rests on R224, R226. -/
def Obligations.PadsFollowTheirConditions : Prop :=
  ∀ s t : State, s.padsOk = true → step s = .next t → t.padsOk = true

/-- The register at a register's own offset is that register and that element, for every element of every register. Rests
on R361, R362, 18_register_map.md. -/
def Obligations.RegisterAddressesRoundTrip : Prop :=
  ∀ (x : RegInfo) (i : Nat), x ∈ allRegs → i < x.count * max x.ocount 1 →
    regAddr x.reg i % 4 = 0 ∧ regAddr x.reg i < 2 ^ 26 ∧ findReg (regAddr x.reg i) = some (x, i)

/-- A register write changes each field by its access code and is faulted exactly for refused bits that differ. Rests on
R8, R9, R10, R342. -/
def Obligations.RegisterWriteFollowsAccessCodes : Prop :=
  ∀ (s : State) (o : Origin) (r : Reg) (i : Nat) (v : W32), s.accepts o r i = true →
    (presGated r i = false ∨ s.presence = true) →
    s.outOfRange (fieldsFor o r) v = false →
    ∃ (w : W32) (k : Nat),
      s.putRegPlain o r i v = (if k = 0 then s.setWord r w i (copyOf o r)
        else (s.setWord r w i (copyOf o r)).recordFault o (regAddr r i) true k) ∧
      (∀ f ∈ fieldsFor o r,
        let gone := f.acc = .ro ∨ f.acc = .rwi ∨ (f.acc = .rwp ∧ s.presence = false)
        (gone → bits w f.hi f.lo = bits (s.word r i (copyOf o r)) f.hi f.lo) ∧
        (¬gone → f.acc = .rw ∨ f.acc = .rwp → bits w f.hi f.lo = bits v f.hi f.lo) ∧
        (f.acc = .w1c → ∀ b, f.lo ≤ b → b ≤ f.hi → w.getLsbD b = (!v.getLsbD b && (s.word r i (copyOf o r)).getLsbD b))) ∧
      (k = 5 ↔ ∃ f ∈ fieldsFor o r, f.acc = .rwp ∧ s.presence = false ∧
        bits v f.hi f.lo ≠ bits (s.regView r i (copyOf o r)) f.hi f.lo) ∧
      (k ≠ 0 ∧ k ≠ 5 → k = 4) ∧
      (k = 4 → (∃ f ∈ fieldsFor o r, (f.acc = .ro ∨ f.acc = .rwi) ∧
          bits v f.hi f.lo ≠ bits (s.regView r i (copyOf o r)) f.hi f.lo) ∨
        (∃ b, b < 32 ∧ v.getLsbD b = true ∧ (ignored r).getLsbD b = false ∧ ∀ f ∈ fieldsFor o r, ¬(f.lo ≤ b ∧ b ≤ f.hi)))

/-- A write of FC_THR is stored in the order of its thresholds, and else leaves it unchanged and sets CFG_REJ. Stated: R40. -/
def Obligations.ThresholdOrderIsKept : Prop :=
  ∀ (s : State) (o : Origin) (port : Nat) (v : W32),
    let p := port % 64
    s.grants o .HPT_FC_THR p = true →
    (bits v 8 0 < bits v 17 9 ∧ bits v 17 9 ≤ bits v 26 18 → ∃ t : State,
      exec (.fcThrWrite o port v) s = .next (s.done t) ∧
      bits (t.word .HPT_FC_THR p) 26 0 = bits v 26 0 ∧ t.word .HPT_INT_STAT p = s.word .HPT_INT_STAT p) ∧
    (¬(bits v 8 0 < bits v 17 9 ∧ bits v 17 9 ≤ bits v 26 18) → ∃ t : State,
      exec (.fcThrWrite o port v) s = .next (s.done t) ∧ t.word .HPT_FC_THR p = s.word .HPT_FC_THR p ∧
      bits (t.word .HPT_INT_STAT p) 3 3 = 1 ∧ t.ports = s.ports ∧ t.frames = s.frames ∧ t.cnts = s.cnts ∧ t.mem = s.mem)

/-- The VCORE demand is S2, S4 or S5 once VW1, VW2 or VW3 has been crossed and falls 15 mV above a level. Stated: R289. -/
def Obligations.VcoreDemandFollowsItsLevels : Prop :=
  ∀ (s : State) (mv : Nat),
    (mv ≤ 900 → ∃ u : State, exec (.supplyCrossing 0 mv) s = .next (s.done u) ∧
      (mv < 640 → u.pwr.dVcore = max s.pwr.dVcore 5) ∧ (640 < mv → mv < 670 → u.pwr.dVcore = max s.pwr.dVcore 4) ∧
      (670 < mv → mv < 700 → u.pwr.dVcore = max s.pwr.dVcore 2) ∧ (700 < mv → u.pwr.dVcore = s.pwr.dVcore)) ∧
    (∃ u : State, exec (.vcoreReturnHold mv) s = .next (s.done u) ∧
      (715 ≤ mv → u.pwr.dVcore = 0) ∧ (685 ≤ mv → mv < 715 → u.pwr.dVcore = min s.pwr.dVcore 2) ∧
      (655 ≤ mv → mv < 685 → u.pwr.dVcore = min s.pwr.dVcore 4))

/-- The Tj demand is S2, S4, S5 or S6 at or above its thresholds and falls TJ_HYST below the present one. Stated: R290. -/
def Obligations.TjDemandFollowsItsThresholds : Prop :=
  ∀ (s : State),
    (∀ (readings : List Int) (tack : Int), ∃ u : State, exec (.tjSample readings tack) s = .next (s.done u) ∧
      (s.pwr.tjLeft = [] → readings ≠ [] → (∀ x ∈ readings, ∀ y ∈ readings, (x - y).natAbs ≤ 100) →
        (∃ x ∈ readings, u.pwr.tj = x) ∧ (∀ x ∈ readings, x ≤ u.pwr.tj) ∧
        (560 ≤ u.pwr.tj → u.pwr.dTj = max s.pwr.dTj 6) ∧
        (528 ≤ u.pwr.tj → u.pwr.tj < 560 → u.pwr.dTj = max s.pwr.dTj 5) ∧
        (500 ≤ u.pwr.tj → u.pwr.tj < 528 → u.pwr.dTj = max s.pwr.dTj 4) ∧
        (460 ≤ u.pwr.tj → u.pwr.tj < 500 → u.pwr.dTj = max s.pwr.dTj 2) ∧
        (u.pwr.tj < 460 → u.pwr.dTj = s.pwr.dTj))) ∧
    (∃ u : State, exec .tjReturnHold s = .next (s.done u) ∧
      (s.pwr.dTj = 6 → s.pwr.tj ≤ 560 - 4 * (s.fld F.PWR_CTL_TJ_HYST : Int) → u.pwr.dTj = 5) ∧
      (s.pwr.dTj = 5 → s.pwr.tj ≤ 528 - 4 * (s.fld F.PWR_CTL_TJ_HYST : Int) → u.pwr.dTj = 4) ∧
      (s.pwr.dTj = 4 → s.pwr.tj ≤ 500 - 4 * (s.fld F.PWR_CTL_TJ_HYST : Int) → u.pwr.dTj = 2) ∧
      (s.pwr.dTj = 2 → s.pwr.tj ≤ 460 - 4 * (s.fld F.PWR_CTL_TJ_HYST : Int) → u.pwr.dTj = 0))

/-- Core memory reads back what was written, keeps every other octet and keeps its canonical form. Rests on R339. -/
def Obligations.WrittenMemoryReadsBack : Prop :=
  ∀ (s : State) (a : Nat) (l : List Byte),
    (s.wrMem a l).rdMem a l.length = l ∧
    (∀ b, b < a ∨ a + l.length ≤ b → Memory.read (s.wrMem a l).mem b = Memory.read s.mem b) ∧
    (Memory.wf s.mem = true → Memory.wf (s.wrMem a l).mem = true)

/-- The recovered PN has the field's low 32 bits and is the first such PN from the lowest acceptable one. Rests on R87. -/
def Obligations.RecoveredPnIsInWindow : Prop :=
  (∀ l p : Nat, l < 2 ^ 64 → p < 2 ^ 32 →
      recoverPn true l p % 2 ^ 32 = p ∧ recoverPn true l p = (l + (p + 2 ^ 32 - l % 2 ^ 32) % 2 ^ 32) % 2 ^ 64 ∧
      (l + 2 ^ 32 ≤ 2 ^ 64 → l ≤ recoverPn true l p ∧ recoverPn true l p < l + 2 ^ 32)) ∧
  (∀ l p : Nat, recoverPn false l p = p)

/-- The shed controller brings the stage in force up to the highest demand and never lowers it. Rests on R288, R292. -/
def Obligations.ShedReachesTheHighestDemand : Prop :=
  ∀ s : State, (s.pwr.started = true → s.pwr.stage < s.topDemand → s.shed.pwr.stage = s.topDemand) ∧
    (s.pwr.started = false ∨ s.topDemand ≤ s.pwr.stage → s.shed = s)

/-- A function-level reset resets its function's registers and touches no other block. Rests on R328. -/
def Obligations.FunctionResetTouchesOnlyItsFunction : Prop :=
  ∀ s : State,
    (∃ u : State, exec .pf0Flr s = .next (s.done u) ∧ u.rings = [] ∧ (∀ f ∈ u.frames, f.ringDsc = none) ∧
      u.frames.map (fun f => f.id) = s.frames.map (fun f => f.id) ∧
      (∀ r i g, i < 2 ^ 20 → g < 4 → r ≠ .PCI_IVEC → r.within .HFR_TX_BASE_LO .HFR_RING_EN = false →
        u.word r i g = s.word r i g) ∧
      (∀ r i, i < 2 ^ 20 → r.within .HFR_TX_BASE_LO .HFR_RING_EN = true → u.word r i = r.rst i) ∧
      (∀ n, n < 33 → s.fld F.PCI_IVEC_PF n ≠ 0 → u.word .PCI_IVEC n = s.word .PCI_IVEC n) ∧
      (∀ n, n < 33 → s.fld F.PCI_IVEC_PF n = 0 → u.word .PCI_IVEC n = Reg.PCI_IVEC.rst n) ∧
      u.acus = s.acus ∧ u.cas = s.cas ∧ u.sas = s.sas ∧ u.secys = s.secys ∧ u.ports = s.ports ∧ u.cnts = s.cnts ∧
        u.tmg = s.tmg ∧
      u.cel = s.cel ∧ u.tim = s.tim ∧ u.par = s.par ∧ u.engs = s.engs ∧ u.saSlots = s.saSlots ∧
        u.cakSlots = s.cakSlots ∧ u.mem = s.mem) ∧
    (∃ u : State, exec .pf1Flr s = .next (s.done u) ∧ u.rings = s.rings ∧ u.frames = s.frames ∧
      (∀ r i g, i < 2 ^ 20 → g < 4 → r ≠ .PCI_IVEC → u.word r i g = s.word r i g) ∧
      (∀ n, n < 33 → s.fld F.PCI_IVEC_PF n ≠ 1 → u.word .PCI_IVEC n = s.word .PCI_IVEC n) ∧
      (∀ n, n < 33 → s.fld F.PCI_IVEC_PF n = 1 → u.word .PCI_IVEC n = Reg.PCI_IVEC.rst n) ∧
      u.acus = s.acus ∧ u.cas = s.cas ∧ u.sas = s.sas ∧ u.secys = s.secys ∧ u.ports = s.ports ∧ u.cnts = s.cnts ∧
        u.tmg = s.tmg ∧
      u.cel = s.cel ∧ u.tim = s.tim ∧ u.par = s.par ∧ u.engs = s.engs ∧ u.saSlots = s.saSlots ∧
        u.cakSlots = s.cakSlots ∧ u.mem = s.mem)

/-- A descriptor timestamp gives its time back to within a nanosecond, with nanoseconds below a second. Rests on R214,
R330, R333. -/
def Obligations.StampGivesTimeBack : Prop :=
  ∀ t : Int, 0 ≤ t → t < 2 ^ 34 * unitsPerSec → unstamp (stamp t) ≤ t ∧ t < unstamp (stamp t) + 65536 ∧
    (stamp t).toNat % 2 ^ 30 < 1000000000

/-- STAT_SNAP copies every counter of its port at one instant and changes nothing else. Rests on R47. -/
def Obligations.SnapshotCopiesEveryCounter : Prop :=
  ∀ (s : State) (o : Origin) (port : PortId),
    s.grants o (port.reg .HPT_STAT_SNAP .LPT_STAT_SNAP) (port.n % 64) = true →
    ∃ u : State, exec (.statSnap o port) s = .next (s.done u) ∧
      (∀ k, k < 35 → u.snaps.look (fun _ => 0#64) (port.idx * 64 + k) =
        if port.idx < 64 then s.cnt .hpt 0 port.idx k else s.cnt .lpt 0 (port.idx - 64) k) ∧
      (∀ j, (∀ k, k < 35 → j ≠ port.idx * 64 + k) → u.snaps.look (fun _ => 0#64) j = s.snaps.look (fun _ => 0#64) j) ∧
      u.cnts = s.cnts ∧ u.regs = s.regs ∧ u.frames = s.frames ∧ u.ports = s.ports

/-- The re-masking sweep changes no key. Rests on R121, R123, R135. -/
def Obligations.RemaskingKeepsEveryKey : Prop :=
  ∀ s : State, ∃ u : State, exec .remaskSweep s = .next (s.done u) ∧
    (∀ k, (u.saSlot k).sh0 ^^^ (u.saSlot k).sh1 = (s.saSlot k).sh0 ^^^ (s.saSlot k).sh1 ∧
      (u.saSlot k).klen = (s.saSlot k).klen ∧
      (u.saSlot k).st = (s.saSlot k).st ∧ (u.saSlot k).owner = (s.saSlot k).owner) ∧
    (∀ k, u.cakKey k = s.cakKey k ∧ (u.cakSlot k).ckn = (s.cakSlot k).ckn ∧
      (u.cakSlot k).ick0 ^^^ (u.cakSlot k).ick1 = (s.cakSlot k).ick0 ^^^ (s.cakSlot k).ick1 ∧
      (u.cakSlot k).kek0 ^^^ (u.cakSlot k).kek1 = (s.cakSlot k).kek0 ^^^ (s.cakSlot k).kek1) ∧
    u.tetherKey.sh0 ^^^ u.tetherKey.sh1 = s.tetherKey.sh0 ^^^ s.tetherKey.sh1 ∧ u.tetherKey.present = s.tetherKey.present ∧
    u.ctxKey.sh0 ^^^ u.ctxKey.sh1 = s.ctxKey.sh0 ^^^ s.ctxKey.sh1 ∧ u.ctxKey.present = s.ctxKey.present ∧
    u.tck.kek.sh0 ^^^ u.tck.kek.sh1 = s.tck.kek.sh0 ^^^ s.tck.kek.sh1 ∧ u.tck.kek.present = s.tck.kek.present ∧
    (s.maskStopped = true → u = s) ∧
    u.regs = s.regs ∧ u.sas = s.sas ∧ u.cas = s.cas ∧ u.frames = s.frames ∧ u.mem = s.mem

/-- An access inside a region faults exactly by its attributes, and outside every region by the master's default map. Rests
on R340, R344. -/
def Obligations.AcuChecksEachAccess : Prop :=
  ∀ (s : State) (o : Origin) (a : Nat) (wr : Bool),
    (∀ q : Nat × Nat × BitVec 5, (s.acu o.acu).region? a = some q →
      (s.acuKind o a wr = 0 ∨ s.acuKind o a wr = 2) ∧
      (s.acuKind o a wr = 2 ↔ (o.user = true ∧ q.2.2.getLsbD 1 = false) ∨ (wr = false ∧ q.2.2.getLsbD 4 = false) ∨
        (wr = true ∧ (q.2.2.getLsbD 3 = false ∨ (q.2.2.getLsbD 0 = true ∧ s.presence = false))))) ∧
    ((s.acu o.acu).region? a = none →
      (o.user = true → s.acuKind o a wr = 1) ∧
      (o.user = false → (s.acuKind o a wr = 0 ∨ s.acuKind o a wr = 3) ∧ (a < 2 ^ 26 → s.acuKind o a wr = 0)))

/-- A refused COMMIT leaves the rules in force and names its error. Rests on R343. -/
def Obligations.CommitIsRefusedWhileOldRulesDrain : Prop :=
  ∀ (s : State) (o : Origin) (acu : Nat),
    let u := acu % 91
    s.grants o .ACU_CTL u = true → acuMaster o u = true → (u ≠ 80 ∧ u ≠ 81) ∨ s.presence = true →
    ((s.acu u).drained = false ∨ rulesOk (s.acuShadow u) = false) →
    ∃ t : State, exec (.acuCommit o acu) s = .next (s.done t) ∧ (t.acu u).rules = (s.acu u).rules ∧
      (t.acu u).drained = (s.acu u).drained ∧
      (t.acu u).err = (if (s.acu u).drained = false then 3 else 2) ∧ bits (t.word .ACU_INT_STAT) 1 1 = 1

/-- An interrupt source sends one message when it becomes set and none while it stays set. Rests on R327. -/
def Obligations.OneMessagePerSource : Prop :=
  ∀ (s : State) (n : Nat), n < 33 →
    (s.irq n).pci.srcs.getLsbD n = s.srcSet n ∧
    (∀ k, k < 33 → k ≠ n → (s.irq n).pci.srcs.getLsbD k = s.pci.srcs.getLsbD k) ∧
    (s.pci.srcs.getLsbD n = s.srcSet n → s.irq n = s) ∧
    (s.pci.srcs.getLsbD n = false → s.srcSet n = true → s.flag F.PCI_IVEC_EN n = true →
      bits (s.pci.table.look msixDflt (s.fld F.PCI_IVEC_PF n * 65536 + s.fld F.PCI_IVEC_VECTOR n * 4 + 3)) 0 0 = 0 →
      (s.irq n).out = .msix (s.fld F.PCI_IVEC_PF n) (s.fld F.PCI_IVEC_VECTOR n) :: s.out) ∧
    (s.srcSet n = false ∨ s.flag F.PCI_IVEC_EN n = false → (s.irq n).out = s.out)

/-- What ends every step does nothing to a state in which nothing waits. Rests on R313, R224, R226, R228, R241, R382. -/
def Obligations.CalmStepsEndWhereTheyStand : Prop :=
  ∀ s t : State, t.calm = true → s.done t = { t with pending := s.pending }

/-- What the reset state holds: an empty queue, time 0, the member in START with its gate closed, the device identity and
frame sizes. Rests on R36, R201, R241, R247, R366, R367. -/
def Obligations.ResetState : Prop :=
  State.reset.pending = [] ∧ State.reset.padsOk = true ∧ State.reset.queueWf = true ∧
    State.reset.alarm.queue = [] ∧ State.reset.mail = [] ∧
    Memory.wf State.reset.mem = true ∧ State.reset.tim.cnt = 0#112 ∧ State.reset.par.st = .start ∧
      State.reset.par.gate = false ∧
    State.reset.regView .GLB_DEV_ID 0 0 = 0x64085F1A#32 ∧
    (∀ p, p < 64 → State.reset.regView .HPT_MAX_FRAME p 0 = 9216#32 ∧ State.reset.regView .LPT_MAX_FRAME p 0 = 9252#32) ∧
    (∀ u, u < 91 → (State.reset.acu u).drained = true)

/-- Every command ends in a next state but a supply past its absolute maximum, a step of a core and the internal scan.
Rests on 95_what_each_step_holds.md, R346, R369. -/
def Obligations.EveryCommandCompletes : Prop :=
  (∀ (c : Instr) (s : State), ¬stops c s → ∃ t : State, exec c s = .next (s.done t)) ∧
  (∀ (supply mv : Nat) (s : State), supMax (supply % 10) < mv →
    exec (.supplyCrossing supply mv) s = .fault .absoluteMaximum) ∧
  (∀ (c : Nat) (s : State), s.jtag.unlocked = true →
    exec (.debugAccess (.step c)) s = .refused .debugStep ∧ exec (.debugAccess .scan) s = .refused .internalScan)

/-- A command whose register write the ACU denies records its access fault and has none of its effect. Rests on R340, R342,
R344. -/
def Obligations.DeniedWriteRecordsItsFault : Prop :=
  (∀ (c : Instr) (s : State) (o : Origin) (r : Reg) (i : Nat), target c = some (o, r, i) → s.grants o r i = false →
    exec c s = .next (s.done (s.recordFault o (regAddr r i) true (s.acuKind o (regAddr r i) true)))) ∧
  (∀ (c : Instr) (s : State) (o : Origin), c = .sawInstall o ∨ c = .sawRetire o ∨ c = .sawSwitch o →
    s.grants o .SEC_SAW_CMD = false →
    exec c s = .next (s.done (s.recordFault o (regAddr .SEC_SAW_CMD 0) true (s.acuKind o (regAddr .SEC_SAW_CMD 0) true)).firmware))

/-- Where frame arrivals and pause frames complete: counters, the FIFO entry, the pause state. Rests on R11, R36, R37, R38,
R39, R84. -/
def Obligations.FramesArriveOnPorts : Prop :=
  (∀ (s : State) (port : Nat) (rx : RxFrame),
    (s.codewords (port % 64) rx.corr rx.unc).serving = true →
    (s.codewords (port % 64) rx.corr rx.unc).receives (port % 64) = true →
    (s.codewords (port % 64) rx.corr rx.unc).goodFrame (port % 64) rx.octets = true →
    (s.codewords (port % 64) rx.corr rx.unc).par.st ≠ .standby →
    (s.codewords (port % 64) rx.corr rx.unc).fifoFill (port % 64) + rx.octets.length ≤ 131072 →
    exec (.hostFrameReceived port rx) s = .next (s.done (((({ (((s.codewords (port % 64) rx.corr rx.unc).portCnt (port % 64) 2).portCnt (port % 64) 3 rx.octets.length) with nextId := (((s.codewords (port % 64) rx.corr rx.unc).portCnt (port % 64) 2).portCnt (port % 64) 3 rx.octets.length).nextId + 1, frames := (((s.codewords (port % 64) rx.corr rx.unc).portCnt (port % 64) 2).portCnt (port % 64) 3 rx.octets.length).frames ++ [({ id := (((s.codewords (port % 64) rx.corr rx.unc).portCnt (port % 64) 2).portCnt (port % 64) 3 rx.octets.length).nextId, enc := true, src := .hostPort (port % 64), octets := rx.octets, stage := .fifo, lport := ((s.codewords (port % 64) rx.corr rx.unc).lineOf (port % 64)).getD 0, hport := some (port % 64), arrived := (((s.codewords (port % 64) rx.corr rx.unc).portCnt (port % 64) 2).portCnt (port % 64) 3 rx.octets.length).counter, inTime := (((s.codewords (port % 64) rx.corr rx.unc).portCnt (port % 64) 2).portCnt (port % 64) 3 rx.octets.length).rxStamp (port % 64) } : Frame)] } : State).noteFill (port % 64)).pumpAll).costWaiting (((s.codewords (port % 64) rx.corr rx.unc).portCnt (port % 64) 2).portCnt (port % 64) 3 rx.octets.length).nextId))) ∧
  (∀ (s : State) (port : Nat) (rx : RxFrame),
    (s.codewords (64 + port % 64) rx.corr rx.unc).serving = true →
    (s.codewords (64 + port % 64) rx.corr rx.unc).receives (64 + port % 64) = true →
    (s.codewords (64 + port % 64) rx.corr rx.unc).goodFrame (64 + port % 64) rx.octets = true →
    (s.codewords (64 + port % 64) rx.corr rx.unc).fifoFill (64 + port % 64) + rx.octets.length ≤ 131072 →
    exec (.lineFrameReceived port rx) s = .next (s.done (((({ (((s.codewords (64 + port % 64) rx.corr rx.unc).portCnt (64 + port % 64) 2).portCnt (64 + port % 64) 3 rx.octets.length) with nextId := (((s.codewords (64 + port % 64) rx.corr rx.unc).portCnt (64 + port % 64) 2).portCnt (64 + port % 64) 3 rx.octets.length).nextId + 1, frames := (((s.codewords (64 + port % 64) rx.corr rx.unc).portCnt (64 + port % 64) 2).portCnt (64 + port % 64) 3 rx.octets.length).frames ++ [({ id := (((s.codewords (64 + port % 64) rx.corr rx.unc).portCnt (64 + port % 64) 2).portCnt (64 + port % 64) 3 rx.octets.length).nextId, enc := false, src := .linePort (port % 64), octets := rx.octets, stage := .fifo, lport := port % 64, hport := none, arrived := (((s.codewords (64 + port % 64) rx.corr rx.unc).portCnt (64 + port % 64) 2).portCnt (64 + port % 64) 3 rx.octets.length).counter, inTime := (((s.codewords (64 + port % 64) rx.corr rx.unc).portCnt (64 + port % 64) 2).portCnt (64 + port % 64) 3 rx.octets.length).rxStamp (64 + port % 64) } : Frame)] } : State).noteFill (64 + port % 64)).pumpAll).costWaiting (((s.codewords (64 + port % 64) rx.corr rx.unc).portCnt (64 + port % 64) 2).portCnt (64 + port % 64) 3 rx.octets.length).nextId))) ∧
  (∀ (s : State) (port : Nat),
    s.fld F.HPT_FC_MODE (port % 64) = 1 →
    (s.port (port % 64)).pauseSent = true →
    s.fld F.HPT_FC_THR_XOFF_HIGH (port % 64) * 256 ≤ s.fifoFill (port % 64) →
    exec (.pauseRefresh port) s = .next (s.done (s.sendPause (port % 64)))) ∧
  (∀ (s : State) (port : Nat),
    s.fld F.HPT_FC_MODE (port % 64) = 2 →
    (s.port (port % 64)).pfcSent ≠ 0#8 →
    exec (.pauseRefresh port) s = .next (s.done (if s.fld F.HPT_FC_THR_XOFF_HIGH (port % 64) * 256 ≤ (s.fifoFill (port % 64)) then ((if s.fld F.HPT_FC_THR_XOFF_LOW (port % 64) * 256 ≤ (s.fifoFill (port % 64)) then s.sendPfc (port % 64) (s.fld F.HPT_FC_PFC_LOW (port % 64)) else s)).sendPfc (port % 64) (s.fld F.HPT_FC_PFC_EN (port % 64)) else ((if s.fld F.HPT_FC_THR_XOFF_LOW (port % 64) * 256 ≤ (s.fifoFill (port % 64)) then s.sendPfc (port % 64) (s.fld F.HPT_FC_PFC_LOW (port % 64)) else s))))) ∧
  (∀ (s : State) (port : PortId) (quanta : Nat),
    s.receives port.idx = true →
    (if port.idx < 64 then s.flag F.HPT_FC_RX_OBEY port.idx else s.flag F.LPT_FC_RX_OBEY (port.idx - 64)) = true →
    (s.port port.idx).storm = false →
    exec (.pauseFrameReceived port quanta) s = .next (s.done ((((s.portCnt port.idx 2).portCnt port.idx 3 64).portCnt port.idx 8).setPort port.idx { s.port port.idx with paused := quanta != 0 }))) ∧
  (∀ (s : State) (port : PortId) (enable : BitVec 8) (times : List Nat),
    s.receives port.idx = true →
    (if port.idx < 64 then s.flag F.HPT_FC_RX_OBEY port.idx else s.flag F.LPT_FC_RX_OBEY (port.idx - 64)) = true →
    (s.port port.idx).storm = false →
    ∃ t, exec (.pfcFrameReceived port enable times) s = .next (s.done t) ∧ (∀ k, k < 8 →
      (t.port port.idx).pfcPaused.getLsbD k = (if enable.getLsbD k then times.getD k 0 != 0 else (s.port port.idx).pfcPaused.getLsbD k)) ∧
      t = ((List.range 8).foldl (fun (u : State) k => if enable.getLsbD k then u.portCnt port.idx (10 + k) else u) ((s.portCnt port.idx 2).portCnt port.idx 3 64)).setPort port.idx { s.port port.idx with pfcPaused := (t.port port.idx).pfcPaused }) ∧
  (∀ (s : State) (port : PortId) (pri : Option Nat),
    ∃ t, exec (.pauseExpired port pri) s = .next (s.done t) ∧ (pri = none →
      t = s.setPort port.idx { s.port port.idx with paused := false }) ∧ (∀ k, pri = some k →
      t = s.setPort port.idx { s.port port.idx with pfcPaused := (s.port port.idx).pfcPaused &&& ~~~(BitVec.ofNat 8 (2 ^ (k % 8))) })) ∧
  (∀ (s : State) (port : PortId),
    s.stormMs port.idx ≠ 0 →
    s.stormPaused port.idx = true →
    (s.port port.idx).storm = false →
    exec (.pauseStorm port) s = .next (s.done (((s.setPort port.idx { s.port port.idx with storm := true, paused := false, pfcPaused := 0#8 }).portInt port.idx 2).raise 20))) ∧
  (∀ (s : State) (port : PortId),
    exec (.pauseStormQuiet port) s = .next (s.done (s.setPort port.idx { s.port port.idx with storm := false })))

/-- Where the stages of the secured path complete: PN issue, dispatch, cipher, release, verdict, commit, selection. Rests
on R13, R14, R16, R17, R18, R24, R83, R145, R147, R148, R149, R158. -/
def Obligations.FramesCrossThePath : Prop :=
  (∀ (s : State) (frame : Nat) (f : Frame) (k : Nat),
    s.frame? frame = some f →
    f.stage = .waitPn →
    s.nextForPn f = true →
    s.par.draining = false →
    s.curSa f.secy = some k →
    (s.sa k).stopped = false →
    s.poisoned f = false →
    (s.sa k).pn ≤ (s.sa k).lease →
    s.xpn f.secy = true →
    exec (.pnIssue frame) s = .next (s.done (((((((s.giveBack f.pages).setSa k { s.sa k with pn := (s.sa k).pn + 1, stopped := false }).setSecy f.secy { s.secy f.secy with seqNext := (s.secy f.secy).seqNext + 1 }).setFrame ({ f with stage := .dispatch, sa := some k, slot := (s.sa k).slot, pn := BitVec.ofNat 64 (s.sa k).pn, seqNo := (s.secy f.secy).seqNext, pages := [] })).addDemand ({ f with stage := .dispatch, sa := some k, slot := (s.sa k).slot, pn := BitVec.ofNat 64 (s.sa k).pn, seqNo := (s.secy f.secy).seqNext, pages := [] })).leaseCheck k).pumpAll))) ∧
  (∀ (s : State) (frame : Nat) (f : Frame) (a : Nat),
    s.frame? frame = some f →
    f.stage = .dispatch →
    f.sa = some a →
    s.yrd.restricted = false →
    (s.sa a).hot = false →
    exec (.dispatch frame) s = .next (s.done (((s.setFrame { f with stage := .fetching }).count .yrd 0 0 0).pumpAll))) ∧
  (∀ (s : State) (frame : Nat) (f : Frame) (a e : Nat) (f2 : Frame),
    s.frame? frame = some f →
    f.stage = .dispatch →
    f.sa = some a →
    f.segs = [] →
    f.refetch = false →
    s.yrd.restricted = false →
    (s.sa a).hot = true →
    segCount (((((((({ s with yrd := { s.yrd with useNo := s.yrd.useNo + 1 } } : State).setSa a { s.sa a with lastUse := s.yrd.useNo + 1, demoting := false }).fitSet f.sc)).scSet f.sc).engs.foldl (fun (t : State) e => t.loadKeys e [f.slot]) (((({ s with yrd := { s.yrd with useNo := s.yrd.useNo + 1 } } : State).setSa a { s.sa a with lastUse := s.yrd.useNo + 1, demoting := false }).fitSet f.sc)))).ctLen f) ((((({ s with yrd := { s.yrd with useNo := s.yrd.useNo + 1 } } : State).setSa a { s.sa a with lastUse := s.yrd.useNo + 1, demoting := false }).fitSet f.sc)).scSet f.sc).engs.length = 1 →
    (((((((({ s with yrd := { s.yrd with useNo := s.yrd.useNo + 1 } } : State).setSa a { s.sa a with lastUse := s.yrd.useNo + 1, demoting := false }).fitSet f.sc)).scSet f.sc).engs.foldl (fun (t : State) e => t.loadKeys e [f.slot]) (((({ s with yrd := { s.yrd with useNo := s.yrd.useNo + 1 } } : State).setSa a { s.sa a with lastUse := s.yrd.useNo + 1, demoting := false }).fitSet f.sc)))).setFrame f).mostFree ((((({ s with yrd := { s.yrd with useNo := s.yrd.useNo + 1 } } : State).setSa a { s.sa a with lastUse := s.yrd.useNo + 1, demoting := false }).fitSet f.sc)).scSet f.sc).engs = some e →
    (((((((((({ s with yrd := { s.yrd with useNo := s.yrd.useNo + 1 } } : State).setSa a { s.sa a with lastUse := s.yrd.useNo + 1, demoting := false }).fitSet f.sc)).scSet f.sc).engs.foldl (fun (t : State) e => t.loadKeys e [f.slot]) (((({ s with yrd := { s.yrd with useNo := s.yrd.useNo + 1 } } : State).setSa a { s.sa a with lastUse := s.yrd.useNo + 1, demoting := false }).fitSet f.sc)))).setFrame f).placeSeg f.id 0 e)).frame? f.id = some f2 →
    (f2.missing 1).isEmpty = true →
    exec (.dispatch frame) s = .next (s.done (((((((((((({ s with yrd := { s.yrd with useNo := s.yrd.useNo + 1 } } : State).setSa a { s.sa a with lastUse := s.yrd.useNo + 1, demoting := false }).fitSet f.sc)).scSet f.sc).engs.foldl (fun (t : State) e => t.loadKeys e [f.slot]) (((({ s with yrd := { s.yrd with useNo := s.yrd.useNo + 1 } } : State).setSa a { s.sa a with lastUse := s.yrd.useNo + 1, demoting := false }).fitSet f.sc)))).setFrame f).placeSeg f.id 0 e)).setFrame { ((((((((((({ s with yrd := { s.yrd with useNo := s.yrd.useNo + 1 } } : State).setSa a { s.sa a with lastUse := s.yrd.useNo + 1, demoting := false }).fitSet f.sc)).scSet f.sc).engs.foldl (fun (t : State) e => t.loadKeys e [f.slot]) (((({ s with yrd := { s.yrd with useNo := s.yrd.useNo + 1 } } : State).setSa a { s.sa a with lastUse := s.yrd.useNo + 1, demoting := false }).fitSet f.sc)))).setFrame f).placeSeg f.id 0 e)).render f2).1 with stage := .cipher }).pumpAll))) ∧
  (∀ (s : State) (sa : Nat) (res : ReadRes) (f : Frame) (a : Nat),
    s.frames.find? (fun f => f.stage == .fetching && f.sa == some sa) = some f →
    (s.sa sa).hot = false →
    placeOf s.cel.layout 1 sa = some a →
    (s.readData [⟨a, res, none⟩] a).2.1 = .ok →
    exec (.coldSaFetchDone sa res) s = .next (s.done ((s.readData [⟨a, res, none⟩] a).1.fetchGood sa))) ∧
  (∀ (s : State) (sa a : Nat),
    (s.sa sa).demoting = true →
    s.boundTo sa = false →
    placeOf s.cel.layout 1 sa = some a →
    exec (.demotionWritebackDone sa) s = .next (s.done ((s.setSa sa { s.sa sa with hot := false, demoting := false }).draw.2.celWrite a (s.setSa sa { s.sa sa with hot := false, demoting := false }).draw.1))) ∧
  (∀ (s : State) (frame seg : Nat) (f : Frame) (g : Seg),
    s.frame? frame = some f →
    f.segs.find? (fun g => g.j == seg && !g.done) = some g →
    s.hwAccess (16 + g.eng) 2 (0x40000000 + (32768 - s.roFree) % 32768 * 256) true true = (s, true) →
    (s.eng g.eng).offPend = false →
    ({ f with segs := f.segs.map (fun (q : Seg) => if q.j == seg then { q with done := true } else q) }).inEngine = true →
    exec (.cipherComplete frame seg) s = .next (s.done ((((s.setEng g.eng { s.eng g.eng with slots := (s.eng g.eng).slots.filter (fun q => q != (f.id, seg)) }).credit g.eng (segCost (s.ctLen f) seg f.segs.length) 1).setFrame ({ f with segs := f.segs.map (fun (q : Seg) => if q.j == seg then { q with done := true } else q) })).pumpAll))) ∧
  (∀ (s : State) (frame : Nat) (f : Frame),
    s.frame? frame = some f →
    s.firstInLine f = true →
    f.stage = .reorder →
    exec (.reorderRelease frame) s = .next (s.done ((s.stage7 f).noteRo.pumpAll.pumpAll))) ∧
  (∀ (s : State) (frame : Nat) (f : Frame),
    s.frame? frame = some f →
    s.verdictDue f = true →
    f.enc = true →
    f.rx = .none →
    f.cutErr = false →
    fcsOk f.octets = true →
    f.stage ≠ .committed →
    exec (.verdict frame) s = .next (s.done ((s.setFrame { f with verdict := .good }).pumpAll))) ∧
  (∀ (s : State) (frame : Nat) (f : Frame),
    s.frame? frame = some f →
    f.stage = .held →
    s.keptBack f = false →
    s.tooSlow f = false →
    exec (.commitPoint frame) s = .next (s.done ((if f.verdict = Verdict.unknown ∨ f.inEngine = true then ((if f.cut then (s.debitFor f.egress f.queue f.peer f.outOct.length).count .tmg 0 f.queue 2 else (s.debitFor f.egress f.queue f.peer f.outOct.length))).setFrame ({ f with stage := .committed }) else (((if f.cut then (s.debitFor f.egress f.queue f.peer f.outOct.length).count .tmg 0 f.queue 2 else (s.debitFor f.egress f.queue f.peer f.outOct.length))).setFrame ({ f with stage := .committed })).sendFrame ({ f with stage := .committed })).pumpAll))) ∧
  (∀ (s : State) (port : PortId) (o : List Byte) (r : List (List Byte)),
    s.portUp port.idx = true →
    s.gateOpen = true →
    s.pwr.stage ≠ 6 →
    s.frames.any (fun g => g.egress == port.idx && g.stage == .committed) = false →
    (s.port port.idx).macCtl = o :: r →
    exec (.transmitSelection port) s = .next (s.done (((s.setPort port.idx { s.port port.idx with macCtl := r }).sendCtl port.idx o).pumpAll))) ∧
  (∀ (s : State) (secy : Nat) (f : Frame),
    s.frames.find? (fun f => f.enc && f.secy == secy % 2048 && f.stage == .parked) = some f →
    exec (.parkedFrameDrop secy) s = .next (s.done (((s.dropFrame f).secCnt 1 (secy % 2048) 5).setInt .SEC_INT_STAT 2)))

/-- Where link commands complete, a bad table word is mended and a failed engine leaves service. Rests on R31, R32, R33,
R67, R154. -/
def Obligations.PortsAndLinksRun : Prop :=
  (∀ (s : State) (slice word : Nat),
    s.cls.repairs.contains (slice % 4, word) = true →
    evenW (s.cls.mem.look clsDflt ((slice % 4 + 1) % 4 * 2 ^ 27 + word % 2 ^ 27)) = true →
    exec (.parityRepair slice word) s = .next (s.done { s with cls := { s.cls with mem := s.cls.mem.put clsDflt (slice % 4 * 2 ^ 27 + word % 2 ^ 27) (s.cls.mem.look clsDflt ((slice % 4 + 1) % 4 * 2 ^ 27 + word % 2 ^ 27)), repairs := s.cls.repairs.filter (fun x => x != (slice % 4, word)) } })) ∧
  (∀ (s : State) (eng cause : Nat),
    (s.eng (eng % 64)).mode = .inService →
    cause = 1 ∨ cause = 2 ∨ (cause = 4 ∧ (s.eng (eng % 64)).slow s.nowNs s.medianPace = true) →
    exec (.engineFault eng cause) s = .next (s.done ((s.failEngine (eng % 64) cause).pumpAll))) ∧
  (∀ (s : State) (eng : Nat),
    (s.eng (eng % 64)).slots ≠ [] →
    (s.eng (eng % 64)).mode = .inService →
    exec (.engineStall eng) s = .next (s.done ((s.failEngine (eng % 64) 2).pumpAll))) ∧
  (∀ (s : State) (port : PortId) (form fec : Nat),
    port.side = .host →
    s.linksRun = true →
    s.portLive port.idx = true →
    (s.port port.idx).link = false →
    (s.port port.idx).recal ≠ .running →
    s.mayCome port.idx ((if s.portCfgForm port.idx = 0 then form else s.portCfgForm port.idx)) = true →
    exec (.linkUp port form fec) s = .next (s.done (((s.setPort port.idx { s.port port.idx with link := true, phase := .off, present := s.portCfgForm port.idx == 0, formAct := BitVec.ofNat 4 ((if s.portCfgForm port.idx = 0 then form else s.portCfgForm port.idx)), fecAct := BitVec.ofNat 2 (linkFec ((if s.portCfgForm port.idx = 0 then form else s.portCfgForm port.idx)) (s.portCfgFec port.idx) fec) }).displace port.idx).portInt port.idx 0))) ∧
  (∀ (s : State) (port : PortId) (form fec : Nat),
    s.linksRun = true →
    s.portLive port.idx = true →
    (s.port port.idx).link = false →
    (s.port port.idx).recal ≠ .running →
    s.mayCome port.idx ((if s.portCfgForm port.idx = 0 then form else s.portCfgForm port.idx)) = true →
    ∃ t, exec (.linkUp port form fec) s = .next (s.done t) ∧ (t.port port.idx).link = true ∧
      (t.port port.idx).phase = .off ∧
      (t.port port.idx).formAct = BitVec.ofNat 4 ((if s.portCfgForm port.idx = 0 then form else s.portCfgForm port.idx)) ∧
      (t.port port.idx).fecAct = BitVec.ofNat 2 (linkFec ((if s.portCfgForm port.idx = 0 then form else s.portCfgForm port.idx)) (s.portCfgFec port.idx) fec)) ∧
  (∀ (s : State) (port : PortId),
    (s.port port.idx).link = true →
    exec (.linkDown port) s = .next (s.done (if ((((s.setPort port.idx { s.port port.idx with link := false, txBusy := false, recal := if (s.port port.idx).recal = RecalSt.queued then .running else (s.port port.idx).recal }).portInt port.idx 0).portCnt port.idx 32).discardDown port.idx).portLive port.idx then ((((s.setPort port.idx { s.port port.idx with link := false, txBusy := false, recal := if (s.port port.idx).recal = RecalSt.queued then .running else (s.port port.idx).recal }).portInt port.idx 0).portCnt port.idx 32).discardDown port.idx).bringUp port.idx else ((((s.setPort port.idx { s.port port.idx with link := false, txBusy := false, recal := if (s.port port.idx).recal = RecalSt.queued then .running else (s.port port.idx).recal }).portInt port.idx 0).portCnt port.idx 32).discardDown port.idx)))) ∧
  (∀ (s : State) (port : PortId),
    s.linksRun = true →
    (s.port port.idx).link = false →
    s.portLive port.idx = true →
    s.ltEn port.idx = true →
    exec (.trainingRestart port) s = .next (s.done (s.bringUp port.idx))) ∧
  (∀ (s : State) (port : PortId)  (reached : Bool),
    reached = false →
    s.linksRun = true →
    s.image = false →
    s.portCfgForm port.idx = 0 →
    (s.port port.idx).link = false →
    s.portLive port.idx = true →
    s.itsTurn port.idx = true →
    exec (.forcedFormProbe port reached) s = .next (s.done (s.setPort port.idx { s.port port.idx with probe := s.nextProbe port.idx (s.nextProbe port.idx (s.port port.idx).probe + 1) }))) ∧
  (∀ (s : State) (port : PortId)  (reached : Bool),
    reached = true →
    s.linksRun = true →
    s.image = false →
    s.portCfgForm port.idx = 0 →
    (s.port port.idx).link = false →
    (s.port port.idx).recal ≠ .running →
    s.portLive port.idx = true →
    s.itsTurn port.idx = true →
    s.mayCome port.idx ((probeForms.getD (s.nextProbe port.idx (s.port port.idx).probe) (1, 1))).1 = true →
    ∃ t, exec (.forcedFormProbe port reached) s = .next (s.done t) ∧ (t.port port.idx).link = true ∧
      (t.port port.idx).formAct = BitVec.ofNat 4 ((probeForms.getD (s.nextProbe port.idx (s.port port.idx).probe) (1, 1))).1)

/-- Where recalibration, dormancy, snapshots and the checked writes of a port complete. Rests on R8, R10, R33, R36, R40,
R43, R44, R47. -/
def Obligations.LanesSleepAndWake : Prop :=
  (∀ (s : State) (o : Origin) (port : PortId) (queue : Bool),
    s.grants o (port.reg .HPT_RECAL .LPT_RECAL) (port.n % 64) = true →
    (s.port port.idx).recal ≠ .running →
    exec (.recalReq o port queue) s = .next (s.done (if (s.port port.idx).link = false then (s.setFld (if port.side = Side.host then F.HPT_RECAL_QUEUE else F.LPT_RECAL_QUEUE) (b2n queue) (port.n % 64)).setPort port.idx { s.port port.idx with recal := .running } else if queue then (s.setFld (if port.side = Side.host then F.HPT_RECAL_QUEUE else F.LPT_RECAL_QUEUE) (b2n queue) (port.n % 64)).setPort port.idx { s.port port.idx with recal := .queued } else ((s.setFld (if port.side = Side.host then F.HPT_RECAL_QUEUE else F.LPT_RECAL_QUEUE) (b2n queue) (port.n % 64)).setPort port.idx { s.port port.idx with recal := .rejected }).portInt port.idx 4))) ∧
  (∀ (s : State) (port : PortId) (coefs : List W32),
    (s.port port.idx).recal = .running →
    ∃ t, exec (.recalDone port coefs) s = .next (s.done t) ∧ (t.port port.idx).recal = .idle ∧
      (∀ k, k < (s.lanesOf port.idx).length → (t.port (port.idx + k)).coef = coefs.getD k (s.port (port.idx + k)).coef) ∧
      t.tmg = s.tmg ∧ t.sas = s.sas ∧ t.frames = s.frames ∧ t.mem = s.mem) ∧
  (∀ (s : State) (port : PortId),
    (s.port port.idx).link = false →
    (s.port port.idx).dormant = false →
    s.portEn port.idx = true →
    s.par.st ≠ .standby →
    (if port.idx < 64 then s.flag F.HPT_CFG_DORMANT_EN port.idx else s.flag F.LPT_CFG_DORMANT_EN (port.idx - 64)) = true →
    exec (.portDormant port) s = .next (s.done (s.setPort port.idx { s.port port.idx with dormant := true, dormByS3 := false, phase := .off }))) ∧
  (∀ (s : State) (port : PortId),
    (s.port port.idx).dormant = true →
    exec (.beacon port) s = .next (s.done (s.emit (.beacon (portAt port.idx) (s.anEn port.idx) ((s.formOf port.idx).getD 0))))) ∧
  (∀ (s : State) (port : PortId),
    (s.port port.idx).dormant = true →
    s.portEn port.idx = true →
    s.kept port.idx = true →
    exec (.portWake port) s = .next (s.done ((((s.setPort port.idx { s.port port.idx with dormant := false, dormByS3 := false }).portInt port.idx 1).portCnt port.idx 33).bringUp port.idx))) ∧
  (∀ (s : State) (port : PortId),
    (s.port port.idx).dormant = true →
    s.portEn port.idx = true →
    s.kept port.idx = true →
    exec (.wakeEnergyQualified port) s = .next (s.done ((((s.setPort port.idx { s.port port.idx with dormant := false, dormByS3 := false }).portInt port.idx 1).portCnt port.idx 33).bringUp port.idx))) ∧
  (∀ (s : State) (o : Origin) (port : PortId),
    s.grants o (port.reg .HPT_DORMANT .LPT_DORMANT) (port.n % 64) = true →
    (s.port port.idx).dormant = true →
    s.portEn port.idx = true →
    s.kept port.idx = true →
    exec (.dormantWake o port) s = .next (s.done ((((s.setPort port.idx { s.port port.idx with dormant := false, dormByS3 := false }).portInt port.idx 1).portCnt port.idx 33).bringUp port.idx))) ∧
  (∀ (s : State) (o : Origin) (port : PortId),
    s.grants o (port.reg .HPT_STAT_SNAP .LPT_STAT_SNAP) (port.n % 64) = true →
    ∃ t, exec (.statSnap o port) s = .next (s.done t) ∧ ∀ k, k < 35 →
      t.snaps.look (fun _ => 0#64) (port.idx * 64 + k) = (if port.idx < 64 then s.cnt .hpt 0 port.idx k else s.cnt .lpt 0 (port.idx - 64) k)) ∧
  (∀ (s : State) (o : Origin) (port : Nat) (v : W32),
    s.grants o .HPT_MAX_FRAME (port % 64) = true →
    s.legal o .HPT_MAX_FRAME (port % 64) v = true →
    s.maxFrameOk (port % 64) (bits (s.wouldBe o .HPT_MAX_FRAME (port % 64) (copyOf o .HPT_MAX_FRAME) v) 13 0) = true →
    exec (.maxFrameWrite o port v) s = .next (s.done (s.written o .HPT_MAX_FRAME (port % 64) v))) ∧
  (∀ (s : State) (o : Origin) (port : Nat) (v : W32),
    s.grants o .HPT_FC_THR (port % 64) = true →
    s.legal o .HPT_FC_THR (port % 64) v = true →
    bits (s.wouldBe o .HPT_FC_THR (port % 64) (copyOf o .HPT_FC_THR) v) 8 0 < bits (s.wouldBe o .HPT_FC_THR (port % 64) (copyOf o .HPT_FC_THR) v) 17 9 →
    bits (s.wouldBe o .HPT_FC_THR (port % 64) (copyOf o .HPT_FC_THR) v) 17 9 ≤ bits (s.wouldBe o .HPT_FC_THR (port % 64) (copyOf o .HPT_FC_THR) v) 26 18 →
    exec (.fcThrWrite o port v) s = .next (s.done (s.written o .HPT_FC_THR (port % 64) v)))

/-- Where the commands of the classifier complete. Rests on R10, R51, R53, R61, R64, R65, R66, R69. -/
def Obligations.ClassifierCommandsComplete : Prop :=
  (∀ (s : State) (o : Origin),
    s.grants o .CLS_BANK = true →
    s.presence = true →
    s.cls.drained = true →
    exec (.bankSwitch o) s = .next (s.done (({ s with cls := { s.cls with active := !s.cls.active, drained := false } } : State).repin s))) ∧
  (∀ (s : State),
    exec .bankDrained s = .next (s.done { s with cls := { s.cls with drained := true } })) ∧
  (∀ (s : State) (n : Nat),
    s.cls.sweepAt = some n →
    n ≤ s.nowNs →
    exec .ageingSweep s = .next (s.done { s.sweep with cls := { s.sweep.cls with sweepAt := some (n + s.sweep.sweepPeriod) } })) ∧
  (∀ (s : State) (o : Origin) (v : W32),
    s.grants o .CLS_AGE = true →
    s.legal o .CLS_AGE 0 v = true →
    (bits (s.wouldBe o .CLS_AGE 0 (copyOf o .CLS_AGE) v) 15 0) = 0 ∨ 30 ≤ (bits (s.wouldBe o .CLS_AGE 0 (copyOf o .CLS_AGE) v) 15 0) →
    exec (.ageWrite o v) s = .next (s.done ((s.written o .CLS_AGE 0 v).schedule))) ∧
  (∀ (s : State) (o : Origin) (slice table bank : Nat),
    s.grants o .CLS_TW_CMD = true →
    s.twBusy o.grp = false →
    (s.fld F.CLS_TW_ADDR_ADDR 0 o.grp) < tableSize table →
    table ≠ 10 →
    exec (.twRead o slice table bank) s = .next (s.done ((s.twBegin o.grp slice table bank).setWord .CLS_TW_DATA ((s.twBegin o.grp slice table bank).clsWord (slice % 4) table (if banked table then bank % 2 else 0) (s.fld F.CLS_TW_ADDR_ADDR 0 o.grp)) 0 o.grp))) ∧
  (∀ (s : State) (o : Origin) (slice table bank : Nat),
    s.grants o .CLS_TW_CMD = true →
    s.twBusy o.grp = false →
    (s.fld F.CLS_TW_ADDR_ADDR 0 o.grp) < tableSize 10 →
    table = 10 →
    s.flushing (slice % 4) = false →
    exec (.twRead o slice table bank) s = .next (s.done (((s.twBegin o.grp slice table bank).twHold o.grp false).setWords .CLS_TW_DATA [wordOf ((s.macEnt (slice % 4) (s.fld F.CLS_TW_ADDR_ADDR 0 o.grp)).toNat) 0, wordOf ((s.macEnt (slice % 4) (s.fld F.CLS_TW_ADDR_ADDR 0 o.grp)).toNat) 1, wordOf ((s.macEnt (slice % 4) (s.fld F.CLS_TW_ADDR_ADDR 0 o.grp)).toNat) 2] o.grp))) ∧
  (∀ (s : State) (o : Origin) (slice table bank : Nat),
    s.grants o .CLS_TW_CMD = true →
    s.twBusy o.grp = false →
    s.presence = true →
    table < 9 →
    banked table = true →
    (s.fld F.CLS_TW_ADDR_ADDR 0 o.grp) < tableSize table →
    bank % 2 ≠ s.bank →
    s.cls.drained = true →
    table = 7 → s.qbaseOk (bank % 2) (s.fld F.CLS_TW_ADDR_ADDR 0 o.grp) (s.word .CLS_TW_DATA 0 o.grp).toNat = true →
    exec (.twWrite o slice table bank) s = .next (s.done ((s.twBegin o.grp slice table bank).setClsAll table (bank % 2) (s.fld F.CLS_TW_ADDR_ADDR 0 o.grp) (withP (s.word .CLS_TW_DATA 0 o.grp).toNat)))) ∧
  (∀ (s : State) (o : Origin) (slice table bank : Nat),
    s.grants o .CLS_TW_CMD = true →
    s.twBusy o.grp = false →
    s.presence = true →
    table < 9 →
    banked table = false →
    (s.fld F.CLS_TW_ADDR_ADDR 0 o.grp) < tableSize table →
    s.cls.drained = true ∨ s.reaches table (s.fld F.CLS_TW_ADDR_ADDR 0 o.grp) = false →
    exec (.twWrite o slice table bank) s = .next (s.done ((s.twBegin o.grp slice table bank).setClsAll table 0 (s.fld F.CLS_TW_ADDR_ADDR 0 o.grp) (withP (s.word .CLS_TW_DATA 0 o.grp).toNat)))) ∧
  (∀ (s : State) (o : Origin) (slice table bank : Nat),
    s.grants o .CLS_TW_CMD = true →
    s.twBusy o.grp = false →
    o.main = true →
    table = 10 →
    (s.fld F.CLS_TW_ADDR_ADDR 0 o.grp) < tableSize 10 →
    s.flushing (slice % 4) = false →
    exec (.twWrite o slice table bank) s = .next (s.done (((s.twBegin o.grp slice table bank).twHold o.grp false).setMacEnt (slice % 4) (s.fld F.CLS_TW_ADDR_ADDR 0 o.grp) (storedMac (s.twEntry o.grp))))) ∧
  (∀ (s : State) (o : Origin) (slice : Nat),
    s.grants o .CLS_TW_CMD = true →
    s.twBusy o.grp = false →
    o.main = true →
    s.flushing (slice % 4) = false →
    (((s.twBegin o.grp slice (s.fld F.CLS_TW_CMD_TABLE 0 o.grp) (s.fld F.CLS_TW_CMD_BANK 0 o.grp)).twHold o.grp false).macInsert (slice % 4) (storedMac (mkMac (meMac (s.twEntry o.grp)) (meLport (s.twEntry o.grp)) (mePeer (s.twEntry o.grp)) (meAge (s.twEntry o.grp)) (meStatic (s.twEntry o.grp))))).2 = true →
    exec (.twInsert o slice) s = .next (s.done ((((s.twBegin o.grp slice (s.fld F.CLS_TW_CMD_TABLE 0 o.grp) (s.fld F.CLS_TW_CMD_BANK 0 o.grp)).twHold o.grp false).macInsert (slice % 4) (storedMac (mkMac (meMac (s.twEntry o.grp)) (meLport (s.twEntry o.grp)) (mePeer (s.twEntry o.grp)) (meAge (s.twEntry o.grp)) (meStatic (s.twEntry o.grp))))).1))) ∧
  (∀ (s : State) (o : Origin) (slice i : Nat),
    s.grants o .CLS_TW_CMD = true →
    s.twBusy o.grp = false →
    o.main = true →
    s.flushing (slice % 4) = false →
    ((s.twBegin o.grp slice (s.fld F.CLS_TW_CMD_TABLE 0 o.grp) (s.fld F.CLS_TW_CMD_BANK 0 o.grp)).twHold o.grp false).macFind (slice % 4) (meLport (s.twEntry o.grp)) (meMac (s.twEntry o.grp)) = some i →
    exec (.twDelete o slice) s = .next (s.done (((s.twBegin o.grp slice (s.fld F.CLS_TW_CMD_TABLE 0 o.grp) (s.fld F.CLS_TW_CMD_BANK 0 o.grp)).twHold o.grp false).dropMac (slice % 4) i))) ∧
  (∀ (s : State) (o : Origin) (slice : Nat),
    s.grants o .CLS_TW_CMD = true →
    s.twBusy o.grp = false →
    o.main = true →
    s.flushing (slice % 4) = false →
    exec (.twFlushLport o slice) s = .next (s.done { (((s.twBegin o.grp slice (s.fld F.CLS_TW_CMD_TABLE 0 o.grp) (s.fld F.CLS_TW_CMD_BANK 0 o.grp)).twHold o.grp false)).twHold o.grp true with cls := { (((s.twBegin o.grp slice (s.fld F.CLS_TW_CMD_TABLE 0 o.grp) (s.fld F.CLS_TW_CMD_BANK 0 o.grp)).twHold o.grp false)).cls with flushes := (((s.twBegin o.grp slice (s.fld F.CLS_TW_CMD_TABLE 0 o.grp) (s.fld F.CLS_TW_CMD_BANK 0 o.grp)).twHold o.grp false)).cls.flushes ++ [({ slice := slice % 4, byPeer := false, value := meLport (s.twEntry o.grp), window := o.grp } : Flush)] } })) ∧
  (∀ (s : State) (o : Origin) (slice : Nat),
    s.grants o .CLS_TW_CMD = true →
    s.twBusy o.grp = false →
    o.main = true →
    s.flushing (slice % 4) = false →
    exec (.twFlushPeer o slice) s = .next (s.done { (((s.twBegin o.grp slice (s.fld F.CLS_TW_CMD_TABLE 0 o.grp) (s.fld F.CLS_TW_CMD_BANK 0 o.grp)).twHold o.grp false)).twHold o.grp true with cls := { (((s.twBegin o.grp slice (s.fld F.CLS_TW_CMD_TABLE 0 o.grp) (s.fld F.CLS_TW_CMD_BANK 0 o.grp)).twHold o.grp false)).cls with flushes := (((s.twBegin o.grp slice (s.fld F.CLS_TW_CMD_TABLE 0 o.grp) (s.fld F.CLS_TW_CMD_BANK 0 o.grp)).twHold o.grp false)).cls.flushes ++ [({ slice := slice % 4, byPeer := true, value := mePeer (s.twEntry o.grp), window := o.grp } : Flush)] } })) ∧
  (∀ (s : State) (f : Flush) (rest : List Flush),
    s.cls.flushes = f :: rest →
    exec .flushDone s = .next (s.done ((({ ((s.flushWalk f).twHold f.window false) with cls := { ((s.flushWalk f).twHold f.window false).cls with flushes := rest } } : State)).twDrain f.slice (({ ((s.flushWalk f).twHold f.window false) with cls := { ((s.flushWalk f).twHold f.window false).cls with flushes := rest } } : State)).cls.waiting))) ∧
  (∀ (s : State) (o : Origin) (port : Nat) (v : W32),
    s.grants o .CLS_LP_MODE (port % 64) = true →
    s.legal o .CLS_LP_MODE (port % 64) v = true →
    bits (s.wouldBe o .CLS_LP_MODE (port % 64) (copyOf o .CLS_LP_MODE) v) 31 30 ≠ 3 →
    exec (.lpModeWrite o port v) s = .next (s.done (s.written o .CLS_LP_MODE (port % 64) v)))

/-- Where the commands on SAs, receive SCs and SecYs complete. Rests on R72, R76, R78, R81, R83, R88, R91, R92, R94, R95,
R363, R364. -/
def Obligations.SecureAssociationCommandsComplete : Prop :=
  (∀ (s : State) (o : Origin),
    s.grants o .SEC_SAW_CMD = true →
    (s.fld F.SEC_SAW_IDX_IDX 0 o.grp) < 73728 →
    ∃ t, exec (.sawRead o) s = .next (s.done t) ∧
      t.word .SEC_SAW_DATA0 0 o.grp = BitVec.ofNat 32 (fw 31 31 (b2n (s.sa (s.fld F.SEC_SAW_IDX_IDX 0 o.grp)).installed) + fw 30 30 (b2n (s.sa (s.fld F.SEC_SAW_IDX_IDX 0 o.grp)).drained) + fw 29 29 (b2n (decide ((s.fld F.SEC_SAW_IDX_IDX 0 o.grp) < 8192) && s.curSa ((s.fld F.SEC_SAW_IDX_IDX 0 o.grp) / 4) == some (s.fld F.SEC_SAW_IDX_IDX 0 o.grp))) + fw 28 28 (b2n (decide ((s.fld F.SEC_SAW_IDX_IDX 0 o.grp) < 8192) && (s.sa (s.fld F.SEC_SAW_IDX_IDX 0 o.grp)).stopped)) + fw 27 27 (b2n (s.sa (s.fld F.SEC_SAW_IDX_IDX 0 o.grp)).hot) + fw 15 0 (s.sa (s.fld F.SEC_SAW_IDX_IDX 0 o.grp)).slot) ∧
      t.word .SEC_SAW_DATA1 0 o.grp = wordOf (s.sa (s.fld F.SEC_SAW_IDX_IDX 0 o.grp)).pn 0 ∧
      t.word .SEC_SAW_DATA2 0 o.grp = wordOf (s.sa (s.fld F.SEC_SAW_IDX_IDX 0 o.grp)).pn 1 ∧
      t.word .SEC_SAW_DATA3 0 o.grp = wordOf ((if (s.fld F.SEC_SAW_IDX_IDX 0 o.grp) < 8192 then (s.sa (s.fld F.SEC_SAW_IDX_IDX 0 o.grp)).lease else (s.sa (s.fld F.SEC_SAW_IDX_IDX 0 o.grp)).h)) 0 ∧
      t.word .SEC_SAW_DATA4 0 o.grp = wordOf ((if (s.fld F.SEC_SAW_IDX_IDX 0 o.grp) < 8192 then (s.sa (s.fld F.SEC_SAW_IDX_IDX 0 o.grp)).lease else (s.sa (s.fld F.SEC_SAW_IDX_IDX 0 o.grp)).h)) 1 ∧
      t.word .SEC_SAW_DATA5 0 o.grp = (s.sa (s.fld F.SEC_SAW_IDX_IDX 0 o.grp)).ssci ∧ (∀ j, j < 3 →
      t.word .SEC_SAW_DATA6 j o.grp = wordOf (s.sa (s.fld F.SEC_SAW_IDX_IDX 0 o.grp)).salt.toNat j) ∧ t.sas = s.sas ∧
      s.onlyWords t [.SEC_SAW_CMD, .SEC_SAW_DATA0, .SEC_SAW_DATA1, .SEC_SAW_DATA2, .SEC_SAW_DATA3, .SEC_SAW_DATA4, .SEC_SAW_DATA5, .SEC_SAW_DATA6] o.grp = true) ∧
  (∀ (s : State) (o : Origin),
    s.grants o .SEC_SAW_CMD = true →
    o.isCore = true →
    (s.fld F.SEC_SAW_IDX_IDX 0 o.grp) < 73728 →
    (s.sa (s.fld F.SEC_SAW_IDX_IDX 0 o.grp)).installed = false →
    (s.sa (s.fld F.SEC_SAW_IDX_IDX 0 o.grp)).retired = false →
    (s.fld F.SEC_SAW_IDX_IDX 0 o.grp) < 8192 ∨ (s.rsc (((s.fld F.SEC_SAW_IDX_IDX 0 o.grp) - 8192) / 4)).valid = true →
    s.secyValid (s.saSecy (s.fld F.SEC_SAW_IDX_IDX 0 o.grp)) = true →
    s.sawPn o.grp ≠ 0 →
    s.pnWide (s.fld F.SEC_SAW_IDX_IDX 0 o.grp) (s.sawPn o.grp) = false →
    (s.saSlot (s.fld F.SEC_SAW_DATA0_KEY_SLOT 0 o.grp)).st = .held →
    (s.saSlot (s.fld F.SEC_SAW_DATA0_KEY_SLOT 0 o.grp)).klen = s.suiteKey (s.saSecy (s.fld F.SEC_SAW_IDX_IDX 0 o.grp)) →
    s.ownsSlot o (s.fld F.SEC_SAW_DATA0_KEY_SLOT 0 o.grp) = true →
    exec (.sawInstall o) s = .next (s.done (((s.cmdErr .SEC_SAW_CMD o.grp 0).installSa (s.fld F.SEC_SAW_IDX_IDX 0 o.grp) (s.fld F.SEC_SAW_DATA0_KEY_SLOT 0 o.grp) (s.sawPn o.grp) (s.word .SEC_SAW_DATA5 0 o.grp) (BitVec.ofNat 96 ((((s.words .SEC_SAW_DATA6 3 o.grp)).getD 0 0#32).toNat + (((s.words .SEC_SAW_DATA6 3 o.grp)).getD 1 0#32).toNat * 2 ^ 32 + (((s.words .SEC_SAW_DATA6 3 o.grp)).getD 2 0#32).toNat * 2 ^ 64))).firmware))) ∧
  (∀ (s : State) (o : Origin),
    s.grants o .SEC_SAW_CMD = true →
    o.isCore = true →
    s.fld F.SEC_SAW_IDX_IDX 0 o.grp < 73728 →
    exec (.sawRetire o) s = .next (s.done (((s.cmdErr .SEC_SAW_CMD o.grp 0).retireSa (s.fld F.SEC_SAW_IDX_IDX 0 o.grp)).firmware))) ∧
  (∀ (s : State) (o : Origin),
    s.grants o .SEC_SAW_CMD = true →
    o.isCore = true →
    (s.fld F.SEC_SAW_IDX_IDX 0 o.grp) < 73728 →
    (s.sa (s.fld F.SEC_SAW_IDX_IDX 0 o.grp)).installed = true →
    s.pnWide (s.fld F.SEC_SAW_IDX_IDX 0 o.grp) (s.sawPn o.grp) = false →
    (s.sa (s.fld F.SEC_SAW_IDX_IDX 0 o.grp)).pn ≤ s.sawPn o.grp →
    exec (.sawRaise o) s = .next (s.done ((s.cmdErr .SEC_SAW_CMD o.grp 0).raiseSa (s.fld F.SEC_SAW_IDX_IDX 0 o.grp) (s.sawPn o.grp)))) ∧
  (∀ (s : State) (o : Origin) (epoch : Int),
    s.grants o .SEC_SAW_CMD = true →
    o.isCore = true →
    (s.fld F.SEC_SAW_IDX_IDX 0 o.grp) < 8192 →
    exec (.sawArm o epoch) s = .next (s.done (((s.cmdErr .SEC_SAW_CMD o.grp 0).setSecy ((s.fld F.SEC_SAW_IDX_IDX 0 o.grp) / 4) { s.secy ((s.fld F.SEC_SAW_IDX_IDX 0 o.grp) / 4) with pendValid := true, pendAn := (s.fld F.SEC_SAW_IDX_IDX 0 o.grp) % 4, pendAt := epoch }).tellSa 5 (s.fld F.SEC_SAW_IDX_IDX 0 o.grp)))) ∧
  (∀ (s : State) (o : Origin),
    s.grants o .SEC_SAW_CMD = true →
    o.isCore = true →
    (s.fld F.SEC_SAW_IDX_IDX 0 o.grp) < 8192 →
    exec (.sawDisarm o) s = .next (s.done (((s.cmdErr .SEC_SAW_CMD o.grp 0).setSecy ((s.fld F.SEC_SAW_IDX_IDX 0 o.grp) / 4) { s.secy ((s.fld F.SEC_SAW_IDX_IDX 0 o.grp) / 4) with pendValid := false }).tellSa 6 (s.fld F.SEC_SAW_IDX_IDX 0 o.grp)))) ∧
  (∀ (s : State) (o : Origin),
    s.grants o .SEC_SAW_CMD = true →
    o.isCore = true →
    (s.fld F.SEC_SAW_IDX_IDX 0 o.grp) < 8192 →
    (s.sa (s.fld F.SEC_SAW_IDX_IDX 0 o.grp)).installed = true →
    exec (.sawSwitch o) s = .next (s.done ((((s.cmdErr .SEC_SAW_CMD o.grp 0).switchTo ((s.fld F.SEC_SAW_IDX_IDX 0 o.grp) / 4) ((s.fld F.SEC_SAW_IDX_IDX 0 o.grp) % 4)).tellSa 7 (s.fld F.SEC_SAW_IDX_IDX 0 o.grp)).firmware))) ∧
  (∀ (s : State) (o : Origin),
    s.grants o .SEC_RSCW_CMD = true →
    exec (.rscwRead o) s = .next (s.done (((s.cmdErr .SEC_RSCW_CMD o.grp 0).setWord .SEC_RSCW_DATA0 (BitVec.ofNat 32 (fw 31 31 (b2n (s.rsc (s.fld F.SEC_RSCW_IDX_IDX 0 o.grp)).valid) + fw 30 30 (b2n (s.rsc (s.fld F.SEC_RSCW_IDX_IDX 0 o.grp)).implicit) + fw 10 0 (s.rsc (s.fld F.SEC_RSCW_IDX_IDX 0 o.grp)).secy)) 0 o.grp).setWords .SEC_RSCW_DATA1 [wordOf (s.rsc (s.fld F.SEC_RSCW_IDX_IDX 0 o.grp)).sci.toNat 0, wordOf (s.rsc (s.fld F.SEC_RSCW_IDX_IDX 0 o.grp)).sci.toNat 1] o.grp))) ∧
  (∀ (s : State) (o : Origin),
    s.grants o .SEC_RSCW_CMD = true →
    o.isCore = true →
    (s.rsc (s.fld F.SEC_RSCW_IDX_IDX 0 o.grp)).valid = false →
    s.rscOk (bits (s.word .SEC_RSCW_DATA0 0 o.grp) 10 0) (BitVec.ofNat 64 ((((s.words .SEC_RSCW_DATA1 2 o.grp)).getD 0 0#32).toNat + (((s.words .SEC_RSCW_DATA1 2 o.grp)).getD 1 0#32).toNat * 2 ^ 32)) (bits (s.word .SEC_RSCW_DATA0 0 o.grp) 30 30 == 1) = true →
    exec (.rscwInstall o) s = .next (s.done ((((s.cmdErr .SEC_RSCW_CMD o.grp 0)).setClsAll 9 0 (s.fld F.SEC_RSCW_IDX_IDX 0 o.grp) (withP (2 ^ 30 + ((s.cmdErr .SEC_RSCW_CMD o.grp 0)).mapClass (bits (s.word .SEC_RSCW_DATA0 0 o.grp) 10 0) * 2 ^ 27 + ((s.cmdErr .SEC_RSCW_CMD o.grp 0)).mapPeer (((s.cmdErr .SEC_RSCW_CMD o.grp 0)).secyLine (bits (s.word .SEC_RSCW_DATA0 0 o.grp) 10 0)) (s.fld F.SEC_RSCW_IDX_IDX 0 o.grp)))).setRsc (s.fld F.SEC_RSCW_IDX_IDX 0 o.grp) { valid := true, implicit := bits (s.word .SEC_RSCW_DATA0 0 o.grp) 30 30 == 1, secy := (bits (s.word .SEC_RSCW_DATA0 0 o.grp) 10 0), sci := (BitVec.ofNat 64 ((((s.words .SEC_RSCW_DATA1 2 o.grp)).getD 0 0#32).toNat + (((s.words .SEC_RSCW_DATA1 2 o.grp)).getD 1 0#32).toNat * 2 ^ 32)) }))) ∧
  (∀ (s : State) (o : Origin),
    s.grants o .SEC_RSCW_CMD = true →
    o.isCore = true →
    s.rscBusy (s.fld F.SEC_RSCW_IDX_IDX 0 o.grp) = false →
    exec (.rscwRemove o) s = .next (s.done (((s.cmdErr .SEC_RSCW_CMD o.grp 0).setRsc (s.fld F.SEC_RSCW_IDX_IDX 0 o.grp) {}).setClsAll 9 0 (s.fld F.SEC_RSCW_IDX_IDX 0 o.grp) 0#32))) ∧
  (∀ (s : State) (sa : Nat),
    (s.sa sa).retired = true →
    s.boundTo sa = false →
    exec (.saDrained sa) s = .next (s.done ((if 8192 ≤ sa ∧
      (((s.setSa sa { s.sa sa with retired := false, drained := true }).freeSa sa).rsc ((sa - 8192) / 4)).valid = true ∧
      ((((s.setSa sa { s.sa sa with retired := false, drained := true }).freeSa sa).rsc ((sa - 8192) / 4)).leaving = true ∨ ((s.setSa sa { s.sa sa with retired := false, drained := true }).freeSa sa).secyValid (((s.setSa sa { s.sa sa with retired := false, drained := true }).freeSa sa).rsc ((sa - 8192) / 4)).secy = false) ∧
      ((s.setSa sa { s.sa sa with retired := false, drained := true }).freeSa sa).rscBusy ((sa - 8192) / 4) = false then ((s.setSa sa { s.sa sa with retired := false, drained := true }).freeSa sa).removeRsc ((sa - 8192) / 4) else ((s.setSa sa { s.sa sa with retired := false, drained := true }).freeSa sa)).firmware))) ∧
  (∀ (s : State) (secy : Nat),
    (s.secy (secy % 2048)).pendValid = true →
    (s.sa ((secy % 2048) * 4 + (s.secy (secy % 2048)).pendAn)).installed = true →
    exec (.keySwitchEpoch secy) s = .next (s.done (((s.setSecy (secy % 2048) { (s.secy (secy % 2048)) with pendValid := false }).switchTo (secy % 2048) (s.secy (secy % 2048)).pendAn).firmware))) ∧
  (∀ (s : State) (o : Origin) (r : SecReg) (v : W32),
    s.grants o r.reg r.index = true →
    s.legal o r.reg r.index v = true →
    r.reg = .SEC_SECY_CFG → bits (s.wouldBe o r.reg r.index (copyOf o r.reg) v) 23 22 ≠ 3 →
    r.reg = .SEC_SECY_WIN → bits (s.wouldBe o r.reg r.index (copyOf o r.reg) v) 30 0 ≤ 2 ^ 30 →
    r.reg = .SEC_CTL → bits (s.wouldBe o r.reg r.index (copyOf o r.reg) v) 7 0 ≤ 250 →
    exec (.secyCfgWrite o r v) s = .next (s.done (s.written o r.reg r.index v))) ∧
  (∀ (s : State) (o : Origin) (addr i : Nat) (x : RegInfo) (c : W64),
    s.acuKind o addr false = 0 →
    coreMem addr = false →
    findReg addr = some (x, i) →
    pd109 x.reg = false ∨ s.obs.on = true →
    x.reg.within .SVC_CTL .SVC_TAG3 = false →
    x.reg ≠ .KEY_PROV_DATA →
    s.loCounter x.reg i o.grp = some c →
    ∃ t, exec (.loRegisterCapture o addr) s = .next (s.done t) ∧
      t.caps.look (fun _ => 0#64) (regKey x.reg i o.grp) = c ∧
      t.out = .readData o addr (readable x.reg (s.regView x.reg i o.grp)) :: s.out ∧ t.cnts = s.cnts ∧ t.obs = s.obs ∧
      t.engs = s.engs) ∧
  (∀ (s : State) (o : Origin) (addr i : Nat) (x : RegInfo),
    s.acuKind o addr false = 0 →
    coreMem addr = false →
    findReg addr = some (x, i) →
    x.reg = .PWR_VCORE ∨ x.reg = .PWR_TJ ∨ x.reg = .TMG_BUF_MIN ∨ x.reg = .YRD_RO_STAT →
    ∃ t, exec (.minMaxRead o addr) s = .next (s.done t) ∧
      t.out = .readData o addr (readable x.reg (s.regView x.reg i o.grp)) :: s.out ∧ t.regs = s.regs ∧ (x.reg = .PWR_VCORE →
      t.pwr.minVcore = s.pwr.minVcore.drop o.grp) ∧ (x.reg = .PWR_TJ → t.pwr.maxTj = s.pwr.maxTj.drop o.grp) ∧
      (x.reg = .TMG_BUF_MIN → t.pwr.minBuf = s.pwr.minBuf.drop o.grp) ∧ (x.reg = .YRD_RO_STAT →
      t.pwr.minRo = s.pwr.minRo.drop o.grp))

/-- Where the commands of key agreement complete. Rests on R98, R99, R101, R103, R104, R105, R110, R111, R115, R119. -/
def Obligations.KeyAgreementCommandsComplete : Prop :=
  (∀ (s : State) (port : Nat) (m : Mkpdu) (n : Nat),
    s.serving = true →
    s.receives (64 + port % 64) = true →
    ((List.range 2048).filter (fun n => s.caValid n && s.caLine n == port % 64)).find? (fun n => (s.ca n).active && (s.cakSlot (s.caCak n)).ckn == m.ckn) = some n →
    m.wellFormed = true →
    s.maskStopped = false →
    m.icvOk = true →
    ((s.busCak (s.caCak n) 1).ca n).peers.any (fun p => p.mi == m.mi && decide (m.mn ≤ p.mn)) = false →
    m.mi ≠ ((s.busCak (s.caCak n) 1).ca n).mi →
    exec (.mkpduReceived port m) s = .next (s.done (if ((if m.ignored then ((s.busCak (s.caCak n) 1).mkaCnt n 1).mkaCnt n 5 else (s.busCak (s.caCak n) 1).mkaCnt n 1)).isActive then ((if m.ignored then ((s.busCak (s.caCak n) 1).mkaCnt n 1).mkaCnt n 5 else (s.busCak (s.caCak n) 1).mkaCnt n 1)).takeMkpdu n m else ((if m.ignored then ((s.busCak (s.caCak n) 1).mkaCnt n 1).mkaCnt n 5 else (s.busCak (s.caCak n) 1).mkaCnt n 1)).setCa n { ((if m.ignored then ((s.busCak (s.caCak n) 1).mkaCnt n 1).mkaCnt n 5 else (s.busCak (s.caCak n) 1).mkaCnt n 1)).ca n with peers := (((if m.ignored then ((s.busCak (s.caCak n) 1).mkaCnt n 1).mkaCnt n 5 else (s.busCak (s.caCak n) 1).mkaCnt n 1)).ca n).peers.map (fun (p : Peer) => if p.mi == m.mi then { p with mn := m.mn } else p) }))) ∧
  (∀ (s : State) (ca : Nat),
    (s.ca (ca % 2048)).active = true →
    ((((s.ca (ca % 2048)).peers.foldl (fun (t : State) p => t.tellPeer (ca % 2048) p) (s.takeTimes (ca % 2048)))).ca (ca % 2048)).active = true →
    (((s.ca (ca % 2048)).peers.foldl (fun (t : State) p => t.tellPeer (ca % 2048) p) (s.takeTimes (ca % 2048)))).caValid (ca % 2048) = true →
    (((s.ca (ca % 2048)).peers.foldl (fun (t : State) p => t.tellPeer (ca % 2048) p) (s.takeTimes (ca % 2048)))).isActive = true →
    ((((s.ca (ca % 2048)).peers.foldl (fun (t : State) p => t.tellPeer (ca % 2048) p) (s.takeTimes (ca % 2048)))).ca (ca % 2048)).mn < 0xFFFFFFFF →
    (((s.ca (ca % 2048)).peers.foldl (fun (t : State) p => t.tellPeer (ca % 2048) p) (s.takeTimes (ca % 2048)))).mkpduReady (ca % 2048) = true →
    exec (.mkaHelloTimer ca) s = .next (s.done (((((((s.ca (ca % 2048)).peers.foldl (fun (t : State) p => t.tellPeer (ca % 2048) p) (s.takeTimes (ca % 2048)))).busCak ((((s.ca (ca % 2048)).peers.foldl (fun (t : State) p => t.tellPeer (ca % 2048) p) (s.takeTimes (ca % 2048)))).caCak (ca % 2048)) 1).setCa (ca % 2048) { ((((s.ca (ca % 2048)).peers.foldl (fun (t : State) p => t.tellPeer (ca % 2048) p) (s.takeTimes (ca % 2048)))).ca (ca % 2048)) with mn := ((((s.ca (ca % 2048)).peers.foldl (fun (t : State) p => t.tellPeer (ca % 2048) p) (s.takeTimes (ca % 2048)))).ca (ca % 2048)).mn + 1, sendDue := false, mnLog := (((((s.ca (ca % 2048)).peers.foldl (fun (t : State) p => t.tellPeer (ca % 2048) p) (s.takeTimes (ca % 2048)))).ca (ca % 2048)).mnLog.filter (fun (e : Nat × Nat) => decide ((((s.ca (ca % 2048)).peers.foldl (fun (t : State) p => t.tellPeer (ca % 2048) p) (s.takeTimes (ca % 2048)))).counter < e.2 + msUnits 30000))) ++ [(((((s.ca (ca % 2048)).peers.foldl (fun (t : State) p => t.tellPeer (ca % 2048) p) (s.takeTimes (ca % 2048)))).ca (ca % 2048)).mn + 1, (((s.ca (ca % 2048)).peers.foldl (fun (t : State) p => t.tellPeer (ca % 2048) p) (s.takeTimes (ca % 2048)))).counter)], lastTx := some (((s.ca (ca % 2048)).peers.foldl (fun (t : State) p => t.tellPeer (ca % 2048) p) (s.takeTimes (ca % 2048)))).counter }).pushCtl ((((s.ca (ca % 2048)).peers.foldl (fun (t : State) p => t.tellPeer (ca % 2048) p) (s.takeTimes (ca % 2048)))).caLine (ca % 2048)) (.mka (ca % 2048)) ((beOctets 6 ((((s.ca (ca % 2048)).peers.foldl (fun (t : State) p => t.tellPeer (ca % 2048) p) (s.takeTimes (ca % 2048)))).caDest (ca % 2048)).toNat ++ beOctets 6 ((((s.ca (ca % 2048)).peers.foldl (fun (t : State) p => t.tellPeer (ca % 2048) p) (s.takeTimes (ca % 2048)))).portMac (64 + (((s.ca (ca % 2048)).peers.foldl (fun (t : State) p => t.tellPeer (ca % 2048) p) (s.takeTimes (ca % 2048)))).caLine (ca % 2048))) ++ [0x88#8, 0x8E#8]) ++ zeros (mkpduLen ((((s.ca (ca % 2048)).peers.foldl (fun (t : State) p => t.tellPeer (ca % 2048) p) (s.takeTimes (ca % 2048)))).mkpduOf (ca % 2048)) - 14)) (some ((ca % 2048), ((((s.ca (ca % 2048)).peers.foldl (fun (t : State) p => t.tellPeer (ca % 2048) p) (s.takeTimes (ca % 2048)))).mkpduOf (ca % 2048))))).mnLeaseCheck (ca % 2048)))) ∧
  (∀ (s : State) (ca : Nat) (mi : BitVec 96) (p : Peer),
    s.isActive = true →
    (s.ca (ca % 2048)).peers.find? (fun p => p.mi == mi) = some p →
    exec (.peerTimeout ca mi) s = .next (s.done ((s.dropPeer (ca % 2048) p).pollCa (ca % 2048)))) ∧
  (∀ (s : State) (ca : Nat),
    (s.timesOf (ca % 2048)).sakLife ≠ 0 →
    (s.ca (ca % 2048)).hasSak = true →
    exec (.sakLifetimeExpired ca) s = .next (s.done ((s.trigger (ca % 2048)).pollCa (ca % 2048)))) ∧
  (∀ (s : State) (ca : Nat),
    (s.ca (ca % 2048)).wantSak = true →
    (s.ca (ca % 2048)).isKs = true →
    (s.ca (ca % 2048)).live ≠ [] →
    s.isActive = true →
    exec (.sakSlotRetry ca) s = .next (s.done ((s.startDist (ca % 2048)).pollCa (ca % 2048)))) ∧
  (∀ (s : State) (ca : Nat) (o : OldSak),
    (s.ca (ca % 2048)).olds.find? (fun o => !o.done) = some o →
    exec (.rxRetainExpired ca) s = .next (s.done ((s.setCa (ca % 2048) { s.ca (ca % 2048) with olds := (s.ca (ca % 2048)).olds.map (fun x => if x == o then { o with done := true } else x) }).retireOld (ca % 2048)))) ∧
  (∀ (s : State) (ca : Nat),
    (s.ca (ca % 2048)).lastPeerLost = true →
    (s.ca (ca % 2048)).live = [] →
    ∃ t, exec (.caSaRetire ca) s = .next (s.done t) ∧ (t.ca (ca % 2048)).hasSak = false ∧
      (t.ca (ca % 2048)).slot = none ∧ (t.ca (ca % 2048)).oldSlot = none ∧ (t.ca (ca % 2048)).pend = none ∧
      (t.ca (ca % 2048)).dist = false ∧ (t.ca (ca % 2048)).wantSak = false ∧ (t.ca (ca % 2048)).olds = [] ∧
      (t.ca (ca % 2048)).lastPeerLost = false ∧
      ((([0, 1, 2, 3] : List Nat).map (fun a => s.sasOf (s.caSecy (ca % 2048)) a)).flatten).all (fun k => !(t.sa k).installed) = true) ∧
  (∀ (s : State) (ca : Nat),
    s.caValid (ca % 2048) = true →
    (s.cakSlot (s.caCak (ca % 2048))).klen ≠ 0 →
    (s.ca (ca % 2048)).active = false →
    s.isActive = true →
    exec (.caStart ca) s = .next (s.done (((s.beginCa (ca % 2048)).due (ca % 2048)).sendIfDue (ca % 2048)))) ∧
  (∀ (s : State) (o : Origin),
    s.grants o .MKA_CAW_CMD = true →
    s.caValid (s.fld F.MKA_CAW_IDX_CA 0 o.grp) = true →
    ∃ t, exec (.cawReadCa o) s = .next (s.done t) ∧
      t.word .MKA_CAW_DATA 1 o.grp = (s.ca (s.fld F.MKA_CAW_IDX_CA 0 o.grp)).kn ∧
      (t.word .MKA_CAW_DATA 5 o.grp).toNat = (s.ca (s.fld F.MKA_CAW_IDX_CA 0 o.grp)).mn % 2 ^ 32 ∧
      bits (t.word .MKA_CAW_DATA 0 o.grp) 31 31 = b2n (s.ca (s.fld F.MKA_CAW_IDX_CA 0 o.grp)).active ∧
      bits (t.word .MKA_CAW_DATA 0 o.grp) 30 30 = b2n (s.ca (s.fld F.MKA_CAW_IDX_CA 0 o.grp)).isKs ∧
      bits (t.word .MKA_CAW_DATA 0 o.grp) 7 6 = (s.ca (s.fld F.MKA_CAW_IDX_CA 0 o.grp)).latestAn % 4 ∧ (∀ j, j < 3 →
      t.word .MKA_CAW_DATA (2 + j) o.grp = wordOf (s.ca (s.fld F.MKA_CAW_IDX_CA 0 o.grp)).mi.toNat j) ∧ t.cas = s.cas ∧
      s.onlyWords t [.MKA_CAW_CMD, .MKA_CAW_DATA] o.grp = true) ∧
  (∀ (s : State) (o : Origin) (p : Peer),
    s.grants o .MKA_CAW_CMD = true →
    s.caValid (s.fld F.MKA_CAW_IDX_CA 0 o.grp) = true →
    (s.ca (s.fld F.MKA_CAW_IDX_CA 0 o.grp)).peers[s.fld F.MKA_CAW_IDX_PEER 0 o.grp]? = some p →
    ∃ t, exec (.cawReadPeer o) s = .next (s.done t) ∧ (t.word .MKA_CAW_DATA 5 o.grp).toNat = p.mn % 2 ^ 32 ∧
      (∀ j, j < 3 → t.word .MKA_CAW_DATA (2 + j) o.grp = wordOf p.mi.toNat j) ∧ (∀ j, j < 2 →
      t.word .MKA_CAW_DATA (7 + j) o.grp = wordOf p.sci.toNat j) ∧ bits (t.word .MKA_CAW_DATA 0 o.grp) 31 31 = b2n p.live ∧
      t.cas = s.cas ∧ s.onlyWords t [.MKA_CAW_CMD, .MKA_CAW_DATA] o.grp = true) ∧
  (∀ (s : State) (o : Origin),
    s.grants o .MKA_CAW_CMD = true →
    o.main = true →
    s.caValid (s.fld F.MKA_CAW_IDX_CA 0 o.grp) = true →
    exec (.cawRekey o) s = .next (s.done (((s.cmdErr .MKA_CAW_CMD o.grp 0).trigger (s.fld F.MKA_CAW_IDX_CA 0 o.grp)).pollCa (s.fld F.MKA_CAW_IDX_CA 0 o.grp)))) ∧
  (∀ (s : State) (o : Origin),
    s.grants o .MKA_CAW_CMD = true →
    s.presence = true →
    s.caValid (s.fld F.MKA_CAW_IDX_CA 0 o.grp) = true →
    exec (.cawRestart o) s = .next (s.done ((s.cmdErr .MKA_CAW_CMD o.grp 0).restartCa (s.fld F.MKA_CAW_IDX_CA 0 o.grp)))) ∧
  (∀ (s : State) (o : Origin) (k : Nat) (v : W32),
    s.grants o (mkaTimeReg k) = true →
    s.legal o (mkaTimeReg k) 0 v = true →
    k % 4 = 0 →
      3 * bits (s.wouldBe o (mkaTimeReg k) 0 (copyOf o (mkaTimeReg k)) v) 15 0 ≤ bits (s.wouldBe o (mkaTimeReg k) 0 (copyOf o (mkaTimeReg k)) v) 31 16 →
    exec (.mkaTimeWrite o k v) s = .next (s.done (s.written o (mkaTimeReg k) 0 v)))

/-- Where presence pairing completes: press, COMMIT, REVEAL, CONFIRM, repeats, deadlines, symbols. Rests on R116, R117,
R118, R319. -/
def Obligations.PresencePairingCompletes : Prop :=
  (∀ (s : State),
    s.tck.pressed = false →
    s.tck.sealBad = false →
    s.tck.raised.getLsbD 0 = false →
    exec .presencePress s = .next (s.done (((({ s with tck := { s.tck with pressed := true, pressWin := some (s.tck.ts + s.fld F.TCK_CTL_WIN_MIN * 60 * 32768) } } : State)).presLook s.presence).pairPress))) ∧
  (∀ (s : State) (ch : PairCh) (pid : W64) (commitment : List Byte),
    PairCh.isTether ch = s.pairing.tether →
    pid ≠ s.pairing.pid →
    s.pairing.st = .committing →
    s.pairing.peerId = none →
    exec (.commitReceived ch pid commitment) s = .next (s.done (({ s with pairing := { s.pairing with peerId := some pid, commit := commitment, reveal := true } } : State).pairSend 3))) ∧
  (∀ (s : State) (ch : PairCh) (pid : W64) (nonce pub z : List Byte),
    PairCh.isTether ch = s.pairing.tether →
    s.pairing.st = .committing →
    s.pairing.peerId = some pid →
    sha384 (pub ++ nonce) = s.pairing.commit →
    ecdh s.pairing.priv pub = some z →
    exec (.revealReceived ch pid nonce pub) s = .next (s.done { s with pairing := s.pairing.derive pid nonce pub z })) ∧
  (∀ (s : State) (ch : PairCh) (pid : W64) (tag : List Byte),
    PairCh.isTether ch = s.pairing.tether →
    s.pairing.derived = true →
    s.pairing.peerId = some pid →
    s.pairing.st = .showing ∨ s.pairing.st = .confirmed →
    tag = cmac s.pairing.kconf (s.pairing.t ++ beOctets 8 pid.toNat) →
    exec (.confirmReceived ch pid tag) s = .next (s.done (if s.pairing.press2 then ({ s with pairing := { s.pairing with held := true } } : State).pairStore else { s with pairing := { s.pairing with held := true } }))) ∧
  (∀ (s : State),
    s.pairing.st = .committing ∨ s.pairing.st = .showing ∨ s.pairing.st = .confirmed →
    exec .pairingMessageTimer s = .next (s.done (if s.pairing.st = PairSt.committing then (if s.pairing.reveal then ((s.pairSend 2)).pairSend 3 else ((s.pairSend 2))) else if s.pairing.st = PairSt.showing then ((s.pairSend 2)).pairSend 3 else (((s.pairSend 2)).pairSend 3).pairSend 4))) ∧
  (∀ (s : State),
    s.pairing.st = .committing →
    exec .pairingWindowExpired s = .next (s.done ((({ s with pairing := { st := .failed, tether := s.pairing.tether, code := s.pairing.code, codeVal := s.pairing.codeVal } } : State).mkaInt 6 0)))) ∧
  (∀ (s : State),
    s.pairing.st = .showing ∨ s.pairing.st = .confirmed →
    exec .pairingConfirmExpired s = .next (s.done ((({ s with pairing := { st := .failed, tether := s.pairing.tether, code := s.pairing.code, codeVal := s.pairing.codeVal } } : State).mkaInt 6 0)))) ∧
  (∀ (s : State),
    s.pairing.st = .showing ∨ s.pairing.st = .confirmed →
    exec .codeSymbolTimer s = .next (s.done { s with pairing := { s.pairing with sym := (s.pairing.sym + 1) % 8 } })) ∧
  (∀ (s : State),
    s.pairing.st = .stored ∨ s.pairing.st = .failed →
    exec .codeSymbolTimer s = .next (s.done { s with pairing := if 5 ≤ s.pairing.sym + 1 then { s.pairing with st := .idle, sym := 0 } else { s.pairing with sym := (s.pairing.sym + 1) % 8 } }))

/-- Where the commands of the key store's SA slots and CAK slots complete. Rests on R121, R123, R124, R127, R128. -/
def Obligations.KeyStoreCommandsComplete : Prop :=
  (∀ (s : State),
    s.maskStopped = false →
    ∃ t, exec .remaskSweep s = .next (s.done t) ∧
      t.saSlots = (((s.saSlots.filter (fun e => e.2.klen != 0)).map (·.1)).foldl State.remaskSa s).saSlots ∧
      t.cakSlots = ((((((s.saSlots.filter (fun e => e.2.klen != 0)).map (·.1)).foldl State.remaskSa s).cakSlots.filter (fun e => e.2.klen != 0)).map (·.1)).foldl (fun (t : State) k => ([0, 1, 2] : List Nat).foldl (fun (u : State) n => u.remaskPart k n) t) (((s.saSlots.filter (fun e => e.2.klen != 0)).map (·.1)).foldl State.remaskSa s)).cakSlots ∧
      (t.tetherKey.sh0 ^^^ t.tetherKey.sh1) = (((((((s.saSlots.filter (fun e => e.2.klen != 0)).map (·.1)).foldl State.remaskSa s).cakSlots.filter (fun e => e.2.klen != 0)).map (·.1)).foldl (fun (t : State) k => ([0, 1, 2] : List Nat).foldl (fun (u : State) n => u.remaskPart k n) t) (((s.saSlots.filter (fun e => e.2.klen != 0)).map (·.1)).foldl State.remaskSa s)).tetherKey.sh0 ^^^ ((((((s.saSlots.filter (fun e => e.2.klen != 0)).map (·.1)).foldl State.remaskSa s).cakSlots.filter (fun e => e.2.klen != 0)).map (·.1)).foldl (fun (t : State) k => ([0, 1, 2] : List Nat).foldl (fun (u : State) n => u.remaskPart k n) t) (((s.saSlots.filter (fun e => e.2.klen != 0)).map (·.1)).foldl State.remaskSa s)).tetherKey.sh1) ∧
      (t.tck.kek.sh0 ^^^ t.tck.kek.sh1) = (s.tck.kek.sh0 ^^^ s.tck.kek.sh1) ∧
      (t.ctxKey.sh0 ^^^ t.ctxKey.sh1) = (s.ctxKey.sh0 ^^^ s.ctxKey.sh1)) ∧
  (∀ (s : State) (o : Origin),
    s.grants o .KEY_SLOTW_CMD = true →
    ∃ t, exec (.slotwReadStatus o) s = .next (s.done t) ∧
      bits (t.word .KEY_SLOTW_DATA0 0 o.grp) 31 30 = (match (s.saSlot (s.fld F.KEY_SLOTW_IDX_SLOT 0 o.grp)).st with | .free => 0 | .held => 1 | .releasing => 2) ∧
      bits (t.word .KEY_SLOTW_DATA0 0 o.grp) 29 28 = (s.saSlot (s.fld F.KEY_SLOTW_IDX_SLOT 0 o.grp)).klen / 16 % 4 ∧
      t.saSlots = s.saSlots ∧ s.onlyWords t [.KEY_SLOTW_CMD, .KEY_SLOTW_DATA0] o.grp = true) ∧
  (∀ (s : State) (o : Origin) (k : Nat),
    s.grants o .KEY_SLOTW_CMD = true →
    o.isCore = true →
    s.freeSlot = some k →
    exec (.slotwAllocate o) s = .next (s.done (((s.setSaSlot k { s.saSlot k with st := .held, klen := 0, owner := (match o with | .task _ ca => ca % 2048 | _ => s.fld F.KEY_SLOTW_IDX_CA 0 o.grp) }).cmdErr .KEY_SLOTW_CMD o.grp 0).setFld F.KEY_SLOTW_IDX_SLOT k 0 o.grp))) ∧
  (∀ (s : State) (o : Origin),
    s.grants o .KEY_SLOTW_CMD = true →
    o.isCore = true →
    (s.saSlot (s.fld F.KEY_SLOTW_IDX_SLOT 0 o.grp)).st = .held →
    s.ownsSlot o (s.fld F.KEY_SLOTW_IDX_SLOT 0 o.grp) = true →
    exec (.slotwRelease o) s = .next (s.done ((s.cmdErr .KEY_SLOTW_CMD o.grp 0).releaseSlot (s.fld F.KEY_SLOTW_IDX_SLOT 0 o.grp)))) ∧
  (∀ (s : State) (o : Origin),
    s.grants o .KEY_SLOTW_CMD = true →
    o.isCore = true →
    (s.saSlot (s.fld F.KEY_SLOTW_IDX_SLOT 0 o.grp)).st = .held →
    s.ownsSlot o (s.fld F.KEY_SLOTW_IDX_SLOT 0 o.grp) = true →
    s.zeroized = false →
    (s.saSlot (s.fld F.KEY_SLOTW_IDX_SLOT 0 o.grp)).klen = 0 →
    s.drbgKOk = true →
    exec (.slotwGen128 o) s = .next (s.done ((s.cmdErr .KEY_SLOTW_CMD o.grp 0).genSlot (s.fld F.KEY_SLOTW_IDX_SLOT 0 o.grp) 16))) ∧
  (∀ (s : State) (o : Origin),
    s.grants o .KEY_SLOTW_CMD = true →
    o.isCore = true →
    (s.saSlot (s.fld F.KEY_SLOTW_IDX_SLOT 0 o.grp)).st = .held →
    s.ownsSlot o (s.fld F.KEY_SLOTW_IDX_SLOT 0 o.grp) = true →
    s.zeroized = false →
    (s.saSlot (s.fld F.KEY_SLOTW_IDX_SLOT 0 o.grp)).klen = 0 →
    s.drbgKOk = true →
    exec (.slotwGen256 o) s = .next (s.done ((s.cmdErr .KEY_SLOTW_CMD o.grp 0).genSlot (s.fld F.KEY_SLOTW_IDX_SLOT 0 o.grp) 32))) ∧
  (∀ (s : State) (o : Origin),
    s.grants o .KEY_CAKW_CMD = true →
    ∃ t, exec (.cakwRead o) s = .next (s.done t) ∧
      bits (t.word .KEY_CAKW_DATA0 0 o.grp) 31 31 = b2n ((s.cakSlot (s.fld F.KEY_CAKW_IDX_SLOT 0 o.grp)).klen != 0) ∧
      bits (t.word .KEY_CAKW_DATA0 0 o.grp) 30 30 = b2n (s.cakSlot (s.fld F.KEY_CAKW_IDX_SLOT 0 o.grp)).ledger ∧
      t.cakSlots = s.cakSlots ∧ s.onlyWords t [.KEY_CAKW_CMD, .KEY_CAKW_DATA0, .KEY_CAKW_DATA1] o.grp = true) ∧
  (∀ (s : State) (o : Origin),
    s.grants o .KEY_CAKW_CMD = true →
    o.pfIa = true →
    s.presence = true →
    s.ledger.caks.any (fun r => r.1 == (s.fld F.KEY_CAKW_IDX_SLOT 0 o.grp)) = true →
    (((s.cmdErr .KEY_CAKW_CMD o.grp 0).eraseCak (s.fld F.KEY_CAKW_IDX_SLOT 0 o.grp)).cakSlot (s.fld F.KEY_CAKW_IDX_SLOT 0 o.grp)).image = false →
    exec (.cakwErase o) s = .next (s.done ((((s.cmdErr .KEY_CAKW_CMD o.grp 0).eraseCak (s.fld F.KEY_CAKW_IDX_SLOT 0 o.grp)).emptyCak (s.fld F.KEY_CAKW_IDX_SLOT 0 o.grp)).notice (.cakSlot (s.fld F.KEY_CAKW_IDX_SLOT 0 o.grp)))))

/-- Where provisioning, zeroization and the entropy source's commands complete. Rests on R128, R129, R134, R135. -/
def Obligations.ProvisioningAndEntropyComplete : Prop :=
  (∀ (s : State) (o : Origin) (slot : Nat),
    s.grants o .KEY_PROV_CMD = true →
    o.pfIa = true →
    s.presence = true →
    s.drbgKOk = true →
    exec (.provBegin o slot) s = .next (s.done ((({ s.drbgReq.draw.2 with prov := { active := true, slot := slot % 1024, window := o.grp, priv := (privOf s.drbgReq.draw.1), pub := ecPub (privOf s.drbgReq.draw.1) } } : State).setFld F.KEY_PROV_CMD_SLOT (slot % 1024) 0 o.grp).provErr 0 o.grp))) ∧
  (∀ (s : State) (o : Origin) (key ckn : List Byte),
    s.grants o .KEY_PROV_CMD = true →
    o.pfIa = true →
    s.presence = true →
    s.prov.active = true →
    s.zeroized = false →
    s.prov.check = some (key, ckn) →
    (s.storeCak s.prov.slot key ckn).2 = true →
    exec (.provCommit o) s = .next (s.done (((({ (s.storeCak s.prov.slot key ckn).1 with prov := { result := (s.storeCak s.prov.slot key ckn).1.serialOct ++ ((s.storeCak s.prov.slot key ckn).1.wrapCak s.prov.slot key ckn).getD [] } } : State).provErr 0 o.grp).notice (.cakSlot s.prov.slot)).setInt .KEY_INT_STAT 4))) ∧
  (∀ (s : State) (o : Origin),
    s.grants o .KEY_PROV_CMD = true →
    o.pfIa = true →
    s.presence = true →
    s.prov.active = true →
    exec (.provAbort o) s = .next (s.done ((({ s with prov := {} } : State).provErr 0 s.prov.window).count .key 0 0 7))) ∧
  (∀ (s : State) (o : Origin) (write : Bool) (v : W32),
    s.grants o .KEY_PROV_DATA = true →
    write = true →
    s.presence = true →
    o.pfIa = true →
    s.prov.active = true →
    exec (.provDataAccess o write v) s = .next (s.done { s with prov := { s.prov with inp := s.prov.inp ++ beOctets 4 v.toNat } })) ∧
  (∀ (s : State) (o : Origin) (write : Bool) (v : W32),
    s.readable o .KEY_PROV_DATA = true →
    write = false →
    exec (.provDataAccess o write v) s = .next (s.done (({ s with prov := { s.prov with rdPos := s.prov.rdPos + 4 } } : State).emit (.readData o (regAddr .KEY_PROV_DATA 0) (BitVec.ofNat 32 (beNat (((((if s.prov.result = [] then s.prov.pub else s.prov.result)) ++ zeros (s.prov.rdPos + 4)).drop s.prov.rdPos).take 4))))))) ∧
  (∀ (s : State),
    s.prov.active = true →
    exec .provSessionTimeout s = .next (s.done ((({ s with prov := {} } : State).provErr 4 s.prov.window).count .key 0 0 7))) ∧
  (∀ (s : State) (o : Origin) (v : W32),
    s.grants o .KEY_ZERO = true →
    s.presence = true →
    v = 0x5A3C#32 →
    exec (.keyZero o v) s = .next (s.done s.zeroize)) ∧
  (∀ (s : State) (k : Bool),
    s.rng.esFail = false →
    exec (.drbgReseed k) s = .next (s.done { s with rng := if k then { s.rng with k := {} } else { s.rng with m := {} } })) ∧
  (∀ (s : State),
    s.rng.esFail = false →
    s.rng.lastFail = none →
    exec .entropyTestFailure s = .next (s.done { s with rng := { s.rng with retest := true, lastFail := some s.counter } })) ∧
  (∀ (s : State) (t : Nat),
    s.rng.esFail = false →
    s.rng.lastFail = some t →
    exec .entropyTestFailure s = .next (s.done (if s.counter < t + 65536000000000 then ({ s with rng := { s.rng with esFail := true, esOk := false, retest := false } } : State).raise 15 else { s with rng := { s.rng with retest := true, lastFail := some s.counter } }))) ∧
  (∀ (s : State) (test : StartUp),
    s.rng.retest = true →
    exec (.entropyRetestDone test) s = .next (s.done (if startUpOk test then (({ s with rng := { s.rng with retest := false } } : State).count .key 0 0 4).setInt .KEY_INT_STAT 2 else ({ s with rng := { s.rng with esFail := true, esOk := false, retest := false } } : State).raise 15)))

/-- Where the block modes, CMAC and key wraps of the service cipher start: the result held until it is done. Rests on R130,
R131, R132, R133, R136. -/
def Obligations.ServiceCipherStarts : Prop :=
  (∀ (s : State) (o : Origin) (ctx : Nat) (k : List Byte),
    s.grants o .SVC_CTL (ctx % 32) = true →
    o.ownsCtx (ctx % 32) = true →
    (s.svcCtx (ctx % 32)).busy = false →
    s.maskStopped = false →
    (s.svcKey o (s.svcCtx (ctx % 32)) (s.svcKeyWord ctx)).toOption = some k →
    s.svcDeny o ((s.word .SVC_SRC (ctx % 32)).toNat) (s.svcLen ctx) false = none →
    s.svcDeny o ((s.word .SVC_DST (ctx % 32)).toNat) (((blocks16 ((s.rdMem ((s.word .SVC_SRC (ctx % 32)).toNat) (s.svcLen ctx)).take ((s.rdMem ((s.word .SVC_SRC (ctx % 32)).toNat) (s.svcLen ctx)).length / 16 * 16))).map (aesEnc k)).flatten).length true = none →
    exec (.svcEcbEncrypt o ctx) s = .next (s.done (((((s.drbgM ((s.svcLen ctx) / 16 + 1)).svcBus (s.svcKeyWord ctx)).setSvc (ctx % 32) { ((s.svcCtx (ctx % 32)).under (ctxKeyId (s.svcKeyWord ctx) k)) with mode := 1, busy := true, resErr := 0, resMem := some (((s.word .SVC_DST (ctx % 32)).toNat), (((blocks16 ((s.rdMem ((s.word .SVC_SRC (ctx % 32)).toNat) (s.svcLen ctx)).take ((s.rdMem ((s.word .SVC_SRC (ctx % 32)).toNat) (s.svcLen ctx)).length / 16 * 16))).map (aesEnc k)).flatten)), resTag := none, resIv := none, resSlot := none }).setWord .SVC_STATUS (depo (((s.drbgM ((s.svcLen ctx) / 16 + 1)).svcBus (s.svcKeyWord ctx)).word .SVC_STATUS (ctx % 32)) 30 28 0) (ctx % 32)).obsEvent (.core o.acu) 4))) ∧
  (∀ (s : State) (o : Origin) (ctx : Nat) (k : List Byte),
    s.grants o .SVC_CTL (ctx % 32) = true →
    o.ownsCtx (ctx % 32) = true →
    (s.svcCtx (ctx % 32)).busy = false →
    s.maskStopped = false →
    (s.svcKey o (s.svcCtx (ctx % 32)) (s.svcKeyWord ctx)).toOption = some k →
    s.svcDeny o ((s.word .SVC_SRC (ctx % 32)).toNat) (s.svcLen ctx) false = none →
    s.svcDeny o ((s.word .SVC_DST (ctx % 32)).toNat) (((blocks16 ((s.rdMem ((s.word .SVC_SRC (ctx % 32)).toNat) (s.svcLen ctx)).take ((s.rdMem ((s.word .SVC_SRC (ctx % 32)).toNat) (s.svcLen ctx)).length / 16 * 16))).map (aesDec k)).flatten).length true = none →
    exec (.svcEcbDecrypt o ctx) s = .next (s.done (((((s.drbgM ((s.svcLen ctx) / 16 + 1)).svcBus (s.svcKeyWord ctx)).setSvc (ctx % 32) { ((s.svcCtx (ctx % 32)).under (ctxKeyId (s.svcKeyWord ctx) k)) with mode := 2, busy := true, resErr := 0, resMem := some (((s.word .SVC_DST (ctx % 32)).toNat), (((blocks16 ((s.rdMem ((s.word .SVC_SRC (ctx % 32)).toNat) (s.svcLen ctx)).take ((s.rdMem ((s.word .SVC_SRC (ctx % 32)).toNat) (s.svcLen ctx)).length / 16 * 16))).map (aesDec k)).flatten)), resTag := none, resIv := none, resSlot := none }).setWord .SVC_STATUS (depo (((s.drbgM ((s.svcLen ctx) / 16 + 1)).svcBus (s.svcKeyWord ctx)).word .SVC_STATUS (ctx % 32)) 30 28 0) (ctx % 32)).obsEvent (.core o.acu) 4))) ∧
  (∀ (s : State) (o : Origin) (ctx : Nat) (k : List Byte),
    s.grants o .SVC_CTL (ctx % 32) = true →
    o.ownsCtx (ctx % 32) = true →
    (s.svcCtx (ctx % 32)).busy = false →
    s.maskStopped = false →
    (s.svcKey o (s.svcCtx (ctx % 32)) (s.svcKeyWord ctx)).toOption = some k →
    s.svcDeny o ((s.word .SVC_SRC (ctx % 32)).toNat) (s.svcLen ctx) false = none →
    s.svcDeny o ((s.word .SVC_DST (ctx % 32)).toNat) (cbcEnc k (((s.drbgM ((s.svcLen ctx) / 16 + 1)).svcBus (s.svcKeyWord ctx)).svcIv ctx ++ zeros 4) (blocks16 ((s.rdMem ((s.word .SVC_SRC (ctx % 32)).toNat) (s.svcLen ctx)).take ((s.rdMem ((s.word .SVC_SRC (ctx % 32)).toNat) (s.svcLen ctx)).length / 16 * 16)))).1.length true = none →
    exec (.svcCbcEncrypt o ctx) s = .next (s.done (((((s.drbgM ((s.svcLen ctx) / 16 + 1)).svcBus (s.svcKeyWord ctx)).setSvc (ctx % 32) { ((s.svcCtx (ctx % 32)).under (ctxKeyId (s.svcKeyWord ctx) k)) with chain := blkBits (cbcEnc k (((s.drbgM ((s.svcLen ctx) / 16 + 1)).svcBus (s.svcKeyWord ctx)).svcIv ctx ++ zeros 4) (blocks16 ((s.rdMem ((s.word .SVC_SRC (ctx % 32)).toNat) (s.svcLen ctx)).take ((s.rdMem ((s.word .SVC_SRC (ctx % 32)).toNat) (s.svcLen ctx)).length / 16 * 16)))).2, mode := 3, busy := true, resErr := 0, resMem := some (((s.word .SVC_DST (ctx % 32)).toNat), (cbcEnc k (((s.drbgM ((s.svcLen ctx) / 16 + 1)).svcBus (s.svcKeyWord ctx)).svcIv ctx ++ zeros 4) (blocks16 ((s.rdMem ((s.word .SVC_SRC (ctx % 32)).toNat) (s.svcLen ctx)).take ((s.rdMem ((s.word .SVC_SRC (ctx % 32)).toNat) (s.svcLen ctx)).length / 16 * 16)))).1), resTag := none, resIv := none, resSlot := none }).setWord .SVC_STATUS (depo (((s.drbgM ((s.svcLen ctx) / 16 + 1)).svcBus (s.svcKeyWord ctx)).word .SVC_STATUS (ctx % 32)) 30 28 0) (ctx % 32)).obsEvent (.core o.acu) 4))) ∧
  (∀ (s : State) (o : Origin) (ctx : Nat) (k : List Byte),
    s.grants o .SVC_CTL (ctx % 32) = true →
    o.ownsCtx (ctx % 32) = true →
    (s.svcCtx (ctx % 32)).busy = false →
    s.maskStopped = false →
    (s.svcKey o (s.svcCtx (ctx % 32)) (s.svcKeyWord ctx)).toOption = some k →
    s.svcDeny o ((s.word .SVC_SRC (ctx % 32)).toNat) (s.svcLen ctx) false = none →
    s.svcDeny o ((s.word .SVC_DST (ctx % 32)).toNat) (cbcDec k (((s.drbgM ((s.svcLen ctx) / 16 + 1)).svcBus (s.svcKeyWord ctx)).svcIv ctx ++ zeros 4) (blocks16 ((s.rdMem ((s.word .SVC_SRC (ctx % 32)).toNat) (s.svcLen ctx)).take ((s.rdMem ((s.word .SVC_SRC (ctx % 32)).toNat) (s.svcLen ctx)).length / 16 * 16)))).1.length true = none →
    exec (.svcCbcDecrypt o ctx) s = .next (s.done (((((s.drbgM ((s.svcLen ctx) / 16 + 1)).svcBus (s.svcKeyWord ctx)).setSvc (ctx % 32) { ((s.svcCtx (ctx % 32)).under (ctxKeyId (s.svcKeyWord ctx) k)) with chain := blkBits (cbcDec k (((s.drbgM ((s.svcLen ctx) / 16 + 1)).svcBus (s.svcKeyWord ctx)).svcIv ctx ++ zeros 4) (blocks16 ((s.rdMem ((s.word .SVC_SRC (ctx % 32)).toNat) (s.svcLen ctx)).take ((s.rdMem ((s.word .SVC_SRC (ctx % 32)).toNat) (s.svcLen ctx)).length / 16 * 16)))).2, mode := 4, busy := true, resErr := 0, resMem := some (((s.word .SVC_DST (ctx % 32)).toNat), (cbcDec k (((s.drbgM ((s.svcLen ctx) / 16 + 1)).svcBus (s.svcKeyWord ctx)).svcIv ctx ++ zeros 4) (blocks16 ((s.rdMem ((s.word .SVC_SRC (ctx % 32)).toNat) (s.svcLen ctx)).take ((s.rdMem ((s.word .SVC_SRC (ctx % 32)).toNat) (s.svcLen ctx)).length / 16 * 16)))).1), resTag := none, resIv := none, resSlot := none }).setWord .SVC_STATUS (depo (((s.drbgM ((s.svcLen ctx) / 16 + 1)).svcBus (s.svcKeyWord ctx)).word .SVC_STATUS (ctx % 32)) 30 28 0) (ctx % 32)).obsEvent (.core o.acu) 4))) ∧
  (∀ (s : State) (o : Origin) (ctx : Nat) (k : List Byte),
    s.grants o .SVC_CTL (ctx % 32) = true →
    o.ownsCtx (ctx % 32) = true →
    (s.svcCtx (ctx % 32)).busy = false →
    s.maskStopped = false →
    (s.svcKey o (s.svcCtx (ctx % 32)) (s.svcKeyWord ctx)).toOption = some k →
    s.svcDeny o ((s.word .SVC_SRC (ctx % 32)).toNat) (s.svcLen ctx) false = none →
    s.svcDeny o ((s.word .SVC_DST (ctx % 32)).toNat) (ctrMode k (blkBits (((s.drbgM ((s.svcLen ctx) / 16 + 1)).svcBus (s.svcKeyWord ctx)).svcIv ctx ++ [0#8, 0#8, 0#8, 1#8])) (blocks16 ((s.rdMem ((s.word .SVC_SRC (ctx % 32)).toNat) (s.svcLen ctx))))).length true = none →
    exec (.svcCtr o ctx) s = .next (s.done (((((s.drbgM ((s.svcLen ctx) / 16 + 1)).svcBus (s.svcKeyWord ctx)).setSvc (ctx % 32) { ((s.svcCtx (ctx % 32)).under (ctxKeyId (s.svcKeyWord ctx) k)) with chain := (blkBits (((s.drbgM ((s.svcLen ctx) / 16 + 1)).svcBus (s.svcKeyWord ctx)).svcIv ctx ++ [0#8, 0#8, 0#8, 1#8])) + BitVec.ofNat 128 ((((s.rdMem ((s.word .SVC_SRC (ctx % 32)).toNat) (s.svcLen ctx))).length + 15) / 16), mode := 5, busy := true, resErr := 0, resMem := some (((s.word .SVC_DST (ctx % 32)).toNat), (ctrMode k (blkBits (((s.drbgM ((s.svcLen ctx) / 16 + 1)).svcBus (s.svcKeyWord ctx)).svcIv ctx ++ [0#8, 0#8, 0#8, 1#8])) (blocks16 ((s.rdMem ((s.word .SVC_SRC (ctx % 32)).toNat) (s.svcLen ctx)))))), resTag := none, resIv := none, resSlot := none }).setWord .SVC_STATUS (depo (((s.drbgM ((s.svcLen ctx) / 16 + 1)).svcBus (s.svcKeyWord ctx)).word .SVC_STATUS (ctx % 32)) 30 28 0) (ctx % 32)).obsEvent (.core o.acu) 4))) ∧
  (∀ (s : State) (o : Origin) (ctx : Nat) (k : List Byte),
    s.grants o .SVC_CTL (ctx % 32) = true →
    o.ownsCtx (ctx % 32) = true →
    (s.svcCtx (ctx % 32)).busy = false →
    s.maskStopped = false →
    (s.svcKey o (s.svcCtx (ctx % 32)) (s.svcKeyWord ctx)).toOption = some k →
    s.svcDeny o ((s.word .SVC_SRC (ctx % 32)).toNat) (s.svcAad ctx + s.svcLen ctx) false = none →
    s.svcDeny o ((s.word .SVC_DST (ctx % 32)).toNat) (gcmEnc k (beOctets 12 (BitVec.toNat (((s.svcCtx (ctx % 32)).under (ctxKeyId (s.svcKeyWord ctx) k)).ivFix ++ ((s.svcCtx (ctx % 32)).under (ctxKeyId (s.svcKeyWord ctx) k)).ivCnt))) ((s.rdMem ((s.word .SVC_SRC (ctx % 32)).toNat) (s.svcAad ctx + s.svcLen ctx)).take (s.svcAad ctx)) ((s.rdMem ((s.word .SVC_SRC (ctx % 32)).toNat) (s.svcAad ctx + s.svcLen ctx)).drop (s.svcAad ctx))).1.length true = none →
    ((s.svcCtx (ctx % 32)).under (ctxKeyId (s.svcKeyWord ctx) k)).ivCnt ≠ 0#64 →
    exec (.svcGcmEncrypt o ctx) s = .next (s.done (((((s.drbgM ((s.svcAad ctx + s.svcLen ctx) / 16 + 1)).svcBus (s.svcKeyWord ctx)).setSvc (ctx % 32) { ((s.svcCtx (ctx % 32)).under (ctxKeyId (s.svcKeyWord ctx) k)) with ivCnt := ((s.svcCtx (ctx % 32)).under (ctxKeyId (s.svcKeyWord ctx) k)).ivCnt + 1, ghash := ghashState k (beOctets 12 (BitVec.toNat (((s.svcCtx (ctx % 32)).under (ctxKeyId (s.svcKeyWord ctx) k)).ivFix ++ ((s.svcCtx (ctx % 32)).under (ctxKeyId (s.svcKeyWord ctx) k)).ivCnt))) (gcmEnc k (beOctets 12 (BitVec.toNat (((s.svcCtx (ctx % 32)).under (ctxKeyId (s.svcKeyWord ctx) k)).ivFix ++ ((s.svcCtx (ctx % 32)).under (ctxKeyId (s.svcKeyWord ctx) k)).ivCnt))) ((s.rdMem ((s.word .SVC_SRC (ctx % 32)).toNat) (s.svcAad ctx + s.svcLen ctx)).take (s.svcAad ctx)) ((s.rdMem ((s.word .SVC_SRC (ctx % 32)).toNat) (s.svcAad ctx + s.svcLen ctx)).drop (s.svcAad ctx))).2, mode := 6, busy := true, resErr := 0, resMem := some (((s.word .SVC_DST (ctx % 32)).toNat), (gcmEnc k (beOctets 12 (BitVec.toNat (((s.svcCtx (ctx % 32)).under (ctxKeyId (s.svcKeyWord ctx) k)).ivFix ++ ((s.svcCtx (ctx % 32)).under (ctxKeyId (s.svcKeyWord ctx) k)).ivCnt))) ((s.rdMem ((s.word .SVC_SRC (ctx % 32)).toNat) (s.svcAad ctx + s.svcLen ctx)).take (s.svcAad ctx)) ((s.rdMem ((s.word .SVC_SRC (ctx % 32)).toNat) (s.svcAad ctx + s.svcLen ctx)).drop (s.svcAad ctx))).1), resTag := some (blkBits (gcmEnc k (beOctets 12 (BitVec.toNat (((s.svcCtx (ctx % 32)).under (ctxKeyId (s.svcKeyWord ctx) k)).ivFix ++ ((s.svcCtx (ctx % 32)).under (ctxKeyId (s.svcKeyWord ctx) k)).ivCnt))) ((s.rdMem ((s.word .SVC_SRC (ctx % 32)).toNat) (s.svcAad ctx + s.svcLen ctx)).take (s.svcAad ctx)) ((s.rdMem ((s.word .SVC_SRC (ctx % 32)).toNat) (s.svcAad ctx + s.svcLen ctx)).drop (s.svcAad ctx))).2), resIv := some (((s.svcCtx (ctx % 32)).under (ctxKeyId (s.svcKeyWord ctx) k)).ivFix ++ ((s.svcCtx (ctx % 32)).under (ctxKeyId (s.svcKeyWord ctx) k)).ivCnt), resSlot := none }).setWord .SVC_STATUS (depo (((s.drbgM ((s.svcAad ctx + s.svcLen ctx) / 16 + 1)).svcBus (s.svcKeyWord ctx)).word .SVC_STATUS (ctx % 32)) 30 28 0) (ctx % 32)).obsEvent (.core o.acu) 4))) ∧
  (∀ (s : State) (o : Origin) (ctx : Nat) (k : List Byte),
    s.grants o .SVC_CTL (ctx % 32) = true →
    o.ownsCtx (ctx % 32) = true →
    (s.svcCtx (ctx % 32)).busy = false →
    s.maskStopped = false →
    (s.svcKey o (s.svcCtx (ctx % 32)) (s.svcKeyWord ctx)).toOption = some k →
    s.svcDeny o ((s.word .SVC_SRC (ctx % 32)).toNat) (s.svcAad ctx + s.svcLen ctx) false = none →
    s.svcDeny o ((s.word .SVC_DST (ctx % 32)).toNat) (gcmEnc k (beOctets 12 (BitVec.toNat (((((((s.drbgM ((s.svcAad ctx + s.svcLen ctx) / 16 + 1)).svcBus (s.svcKeyWord ctx)).drbgReq.draw).1.setWidth 32 : W32)) ++ 1#64 : BitVec 96)))) ((s.rdMem ((s.word .SVC_SRC (ctx % 32)).toNat) (s.svcAad ctx + s.svcLen ctx)).take (s.svcAad ctx)) ((s.rdMem ((s.word .SVC_SRC (ctx % 32)).toNat) (s.svcAad ctx + s.svcLen ctx)).drop (s.svcAad ctx))).1.length true = none →
    ((s.svcCtx (ctx % 32)).under (ctxKeyId (s.svcKeyWord ctx) k)).ivCnt = 0#64 →
    ((s.drbgM ((s.svcAad ctx + s.svcLen ctx) / 16 + 1)).svcBus (s.svcKeyWord ctx)).drbgKOk = true →
    exec (.svcGcmEncrypt o ctx) s = .next (s.done ((((((s.drbgM ((s.svcAad ctx + s.svcLen ctx) / 16 + 1)).svcBus (s.svcKeyWord ctx)).drbgReq.draw).2.setSvc (ctx % 32) { ((s.svcCtx (ctx % 32)).under (ctxKeyId (s.svcKeyWord ctx) k)) with ivFix := (((((s.drbgM ((s.svcAad ctx + s.svcLen ctx) / 16 + 1)).svcBus (s.svcKeyWord ctx)).drbgReq.draw).1.setWidth 32 : W32)), ivCnt := 2#64, ghash := ghashState k (beOctets 12 (BitVec.toNat (((((((s.drbgM ((s.svcAad ctx + s.svcLen ctx) / 16 + 1)).svcBus (s.svcKeyWord ctx)).drbgReq.draw).1.setWidth 32 : W32)) ++ 1#64 : BitVec 96)))) (gcmEnc k (beOctets 12 (BitVec.toNat (((((((s.drbgM ((s.svcAad ctx + s.svcLen ctx) / 16 + 1)).svcBus (s.svcKeyWord ctx)).drbgReq.draw).1.setWidth 32 : W32)) ++ 1#64 : BitVec 96)))) ((s.rdMem ((s.word .SVC_SRC (ctx % 32)).toNat) (s.svcAad ctx + s.svcLen ctx)).take (s.svcAad ctx)) ((s.rdMem ((s.word .SVC_SRC (ctx % 32)).toNat) (s.svcAad ctx + s.svcLen ctx)).drop (s.svcAad ctx))).2, mode := 6, busy := true, resErr := 0, resMem := some (((s.word .SVC_DST (ctx % 32)).toNat), (gcmEnc k (beOctets 12 (BitVec.toNat (((((((s.drbgM ((s.svcAad ctx + s.svcLen ctx) / 16 + 1)).svcBus (s.svcKeyWord ctx)).drbgReq.draw).1.setWidth 32 : W32)) ++ 1#64 : BitVec 96)))) ((s.rdMem ((s.word .SVC_SRC (ctx % 32)).toNat) (s.svcAad ctx + s.svcLen ctx)).take (s.svcAad ctx)) ((s.rdMem ((s.word .SVC_SRC (ctx % 32)).toNat) (s.svcAad ctx + s.svcLen ctx)).drop (s.svcAad ctx))).1), resTag := some (blkBits (gcmEnc k (beOctets 12 (BitVec.toNat (((((((s.drbgM ((s.svcAad ctx + s.svcLen ctx) / 16 + 1)).svcBus (s.svcKeyWord ctx)).drbgReq.draw).1.setWidth 32 : W32)) ++ 1#64 : BitVec 96)))) ((s.rdMem ((s.word .SVC_SRC (ctx % 32)).toNat) (s.svcAad ctx + s.svcLen ctx)).take (s.svcAad ctx)) ((s.rdMem ((s.word .SVC_SRC (ctx % 32)).toNat) (s.svcAad ctx + s.svcLen ctx)).drop (s.svcAad ctx))).2), resIv := some (((((((s.drbgM ((s.svcAad ctx + s.svcLen ctx) / 16 + 1)).svcBus (s.svcKeyWord ctx)).drbgReq.draw).1.setWidth 32 : W32)) ++ 1#64 : BitVec 96)), resSlot := none }).setWord .SVC_STATUS (depo ((((s.drbgM ((s.svcAad ctx + s.svcLen ctx) / 16 + 1)).svcBus (s.svcKeyWord ctx)).drbgReq.draw).2.word .SVC_STATUS (ctx % 32)) 30 28 0) (ctx % 32)).obsEvent (.core o.acu) 4))) ∧
  (∀ (s : State) (o : Origin) (ctx : Nat) (k : List Byte),
    s.grants o .SVC_CTL (ctx % 32) = true →
    o.ownsCtx (ctx % 32) = true →
    (s.svcCtx (ctx % 32)).busy = false →
    s.maskStopped = false →
    (s.svcKey o (s.svcCtx (ctx % 32)) (s.svcKeyWord ctx)).toOption = some k →
    s.svcDeny o ((s.word .SVC_SRC (ctx % 32)).toNat) (s.svcAad ctx + s.svcLen ctx) false = none →
    s.svcDeny o ((s.word .SVC_DST (ctx % 32)).toNat) (gcmDec k (((s.drbgM ((s.svcAad ctx + s.svcLen ctx) / 16 + 1)).svcBus (s.svcKeyWord ctx)).svcIv ctx) ((s.rdMem ((s.word .SVC_SRC (ctx % 32)).toNat) (s.svcAad ctx + s.svcLen ctx)).take (s.svcAad ctx)) ((s.rdMem ((s.word .SVC_SRC (ctx % 32)).toNat) (s.svcAad ctx + s.svcLen ctx)).drop (s.svcAad ctx)) (((s.drbgM ((s.svcAad ctx + s.svcLen ctx) / 16 + 1)).svcBus (s.svcKeyWord ctx)).svcTag ctx)).1.length true = none →
    exec (.svcGcmDecrypt o ctx) s = .next (s.done (((((s.drbgM ((s.svcAad ctx + s.svcLen ctx) / 16 + 1)).svcBus (s.svcKeyWord ctx)).setSvc (ctx % 32) { ((s.svcCtx (ctx % 32)).under (ctxKeyId (s.svcKeyWord ctx) k)) with ghash := ghashState k (((s.drbgM ((s.svcAad ctx + s.svcLen ctx) / 16 + 1)).svcBus (s.svcKeyWord ctx)).svcIv ctx) (gcmTag k (((s.drbgM ((s.svcAad ctx + s.svcLen ctx) / 16 + 1)).svcBus (s.svcKeyWord ctx)).svcIv ctx) ((s.rdMem ((s.word .SVC_SRC (ctx % 32)).toNat) (s.svcAad ctx + s.svcLen ctx)).take (s.svcAad ctx)) ((s.rdMem ((s.word .SVC_SRC (ctx % 32)).toNat) (s.svcAad ctx + s.svcLen ctx)).drop (s.svcAad ctx))), mode := 7, busy := true, resErr := if (gcmDec k (((s.drbgM ((s.svcAad ctx + s.svcLen ctx) / 16 + 1)).svcBus (s.svcKeyWord ctx)).svcIv ctx) ((s.rdMem ((s.word .SVC_SRC (ctx % 32)).toNat) (s.svcAad ctx + s.svcLen ctx)).take (s.svcAad ctx)) ((s.rdMem ((s.word .SVC_SRC (ctx % 32)).toNat) (s.svcAad ctx + s.svcLen ctx)).drop (s.svcAad ctx)) (((s.drbgM ((s.svcAad ctx + s.svcLen ctx) / 16 + 1)).svcBus (s.svcKeyWord ctx)).svcTag ctx)).2 then 0 else 4, resMem := if (gcmDec k (((s.drbgM ((s.svcAad ctx + s.svcLen ctx) / 16 + 1)).svcBus (s.svcKeyWord ctx)).svcIv ctx) ((s.rdMem ((s.word .SVC_SRC (ctx % 32)).toNat) (s.svcAad ctx + s.svcLen ctx)).take (s.svcAad ctx)) ((s.rdMem ((s.word .SVC_SRC (ctx % 32)).toNat) (s.svcAad ctx + s.svcLen ctx)).drop (s.svcAad ctx)) (((s.drbgM ((s.svcAad ctx + s.svcLen ctx) / 16 + 1)).svcBus (s.svcKeyWord ctx)).svcTag ctx)).2 then some (((s.word .SVC_DST (ctx % 32)).toNat), (gcmDec k (((s.drbgM ((s.svcAad ctx + s.svcLen ctx) / 16 + 1)).svcBus (s.svcKeyWord ctx)).svcIv ctx) ((s.rdMem ((s.word .SVC_SRC (ctx % 32)).toNat) (s.svcAad ctx + s.svcLen ctx)).take (s.svcAad ctx)) ((s.rdMem ((s.word .SVC_SRC (ctx % 32)).toNat) (s.svcAad ctx + s.svcLen ctx)).drop (s.svcAad ctx)) (((s.drbgM ((s.svcAad ctx + s.svcLen ctx) / 16 + 1)).svcBus (s.svcKeyWord ctx)).svcTag ctx)).1) else none, resTag := none, resIv := none, resSlot := none }).setWord .SVC_STATUS (depo (((s.drbgM ((s.svcAad ctx + s.svcLen ctx) / 16 + 1)).svcBus (s.svcKeyWord ctx)).word .SVC_STATUS (ctx % 32)) 30 28 0) (ctx % 32)).obsEvent (.core o.acu) 4))) ∧
  (∀ (s : State) (o : Origin) (ctx : Nat) (k : List Byte),
    s.grants o .SVC_CTL (ctx % 32) = true →
    o.ownsCtx (ctx % 32) = true →
    (s.svcCtx (ctx % 32)).busy = false →
    s.maskStopped = false →
    (s.svcKey o (s.svcCtx (ctx % 32)) (s.svcKeyWord ctx)).toOption = some k →
    s.svcDeny o ((s.word .SVC_SRC (ctx % 32)).toNat) (s.svcLen ctx) false = none →
    exec (.svcCmac o ctx) s = .next (s.done (((((s.drbgM ((s.svcLen ctx) / 16 + 1)).svcBus (s.svcKeyWord ctx)).setSvc (ctx % 32) { ((s.svcCtx (ctx % 32)).under (ctxKeyId (s.svcKeyWord ctx) k)) with ghash := (blkBits (cmac k (s.rdMem ((s.word .SVC_SRC (ctx % 32)).toNat) (s.svcLen ctx)))), mode := 8, busy := true, resErr := 0, resMem := none, resTag := some (blkBits (cmac k (s.rdMem ((s.word .SVC_SRC (ctx % 32)).toNat) (s.svcLen ctx)))), resIv := none, resSlot := none }).setWord .SVC_STATUS (depo (((s.drbgM ((s.svcLen ctx) / 16 + 1)).svcBus (s.svcKeyWord ctx)).word .SVC_STATUS (ctx % 32)) 30 28 0) (ctx % 32)).obsEvent (.core o.acu) 4))) ∧
  (∀ (s : State) (o : Origin) (ctx : Nat) (fromSlot : Bool) (k : List Byte),
    fromSlot = false →
    s.grants o .SVC_CTL (ctx % 32) = true →
    o.ownsCtx (ctx % 32) = true →
    (s.svcCtx (ctx % 32)).busy = false →
    s.maskStopped = false →
    (s.svcKey o (s.svcCtx (ctx % 32)) (s.svcKeyWord ctx)).toOption = some k →
    s.svcDeny o ((s.word .SVC_SRC (ctx % 32)).toNat) (s.svcLen ctx / 8 * 8) false = none →
    s.svcDeny o ((s.word .SVC_DST (ctx % 32)).toNat) (keyWrap k (s.rdMem ((s.word .SVC_SRC (ctx % 32)).toNat) (s.svcLen ctx / 8 * 8))).length true = none →
    exec (.svcKeyWrap o ctx fromSlot) s = .next (s.done (((((s.drbgM ((s.svcLen ctx / 8 * 8) / 16 + 1)).svcBus (s.svcKeyWord ctx)).setSvc (ctx % 32) { ((s.svcCtx (ctx % 32)).under (ctxKeyId (s.svcKeyWord ctx) k)) with mode := 9, busy := true, resErr := 0, resMem := some (((s.word .SVC_DST (ctx % 32)).toNat), (keyWrap k (s.rdMem ((s.word .SVC_SRC (ctx % 32)).toNat) (s.svcLen ctx / 8 * 8)))), resTag := none, resIv := none, resSlot := none }).setWord .SVC_STATUS (depo (((s.drbgM ((s.svcLen ctx / 8 * 8) / 16 + 1)).svcBus (s.svcKeyWord ctx)).word .SVC_STATUS (ctx % 32)) 30 28 0) (ctx % 32)).obsEvent (.core o.acu) 4))) ∧
  (∀ (s : State) (o : Origin) (ctx : Nat) (fromSlot : Bool) (k d : List Byte),
    fromSlot = true →
    bits (s.svcKeyWord ctx) 31 29 ≠ 0 →
    s.grants o .SVC_CTL (ctx % 32) = true →
    o.ownsCtx (ctx % 32) = true →
    (s.svcCtx (ctx % 32)).busy = false →
    s.maskStopped = false →
    (s.svcKey o (s.svcCtx (ctx % 32)) (s.svcKeyWord ctx)).toOption = some k →
    (((s.drbgM ((0) / 16 + 1)).svcBus (s.svcKeyWord ctx)).svcKey o ((s.svcCtx (ctx % 32)).under (ctxKeyId (s.svcKeyWord ctx) k)) ((if bits (((s.drbgM ((0) / 16 + 1)).svcBus (s.svcKeyWord ctx)).word .SVC_SRC (ctx % 32)) 31 29 = 0 then depo (((s.drbgM ((0) / 16 + 1)).svcBus (s.svcKeyWord ctx)).word .SVC_SRC (ctx % 32)) 31 29 1 else ((s.drbgM ((0) / 16 + 1)).svcBus (s.svcKeyWord ctx)).word .SVC_SRC (ctx % 32)))).toOption = some d →
    s.svcDeny o ((s.word .SVC_DST (ctx % 32)).toNat) (keyWrap k d).length true = none →
    exec (.svcKeyWrap o ctx fromSlot) s = .next (s.done ((((((s.drbgM ((0) / 16 + 1)).svcBus (s.svcKeyWord ctx)).svcBus ((if bits (((s.drbgM ((0) / 16 + 1)).svcBus (s.svcKeyWord ctx)).word .SVC_SRC (ctx % 32)) 31 29 = 0 then depo (((s.drbgM ((0) / 16 + 1)).svcBus (s.svcKeyWord ctx)).word .SVC_SRC (ctx % 32)) 31 29 1 else ((s.drbgM ((0) / 16 + 1)).svcBus (s.svcKeyWord ctx)).word .SVC_SRC (ctx % 32)))).setSvc (ctx % 32) { ((s.svcCtx (ctx % 32)).under (ctxKeyId (s.svcKeyWord ctx) k)) with mode := 9, busy := true, resErr := 0, resMem := some (((s.word .SVC_DST (ctx % 32)).toNat), (keyWrap k d)), resTag := none, resIv := none, resSlot := none }).setWord .SVC_STATUS (depo ((((s.drbgM ((0) / 16 + 1)).svcBus (s.svcKeyWord ctx)).svcBus ((if bits (((s.drbgM ((0) / 16 + 1)).svcBus (s.svcKeyWord ctx)).word .SVC_SRC (ctx % 32)) 31 29 = 0 then depo (((s.drbgM ((0) / 16 + 1)).svcBus (s.svcKeyWord ctx)).word .SVC_SRC (ctx % 32)) 31 29 1 else ((s.drbgM ((0) / 16 + 1)).svcBus (s.svcKeyWord ctx)).word .SVC_SRC (ctx % 32)))).word .SVC_STATUS (ctx % 32)) 30 28 0) (ctx % 32)).obsEvent (.core o.acu) 4))) ∧
  (∀ (s : State) (o : Origin) (ctx : Nat) (toSlot : Bool) (k d : List Byte),
    toSlot = false →
    bits (s.svcKeyWord ctx) 31 29 = 0 →
    s.grants o .SVC_CTL (ctx % 32) = true →
    o.ownsCtx (ctx % 32) = true →
    (s.svcCtx (ctx % 32)).busy = false →
    s.maskStopped = false →
    (s.svcKey o (s.svcCtx (ctx % 32)) (s.svcKeyWord ctx)).toOption = some k →
    s.svcDeny o ((s.word .SVC_SRC (ctx % 32)).toNat) (s.svcLen ctx) false = none →
    s.svcDeny o ((s.word .SVC_DST (ctx % 32)).toNat) d.length true = none →
    keyUnwrap k (s.rdMem ((s.word .SVC_SRC (ctx % 32)).toNat) (s.svcLen ctx)) = some d →
    exec (.svcKeyUnwrap o ctx toSlot) s = .next (s.done (((((s.drbgM ((s.svcLen ctx) / 16 + 1)).svcBus (s.svcKeyWord ctx)).setSvc (ctx % 32) { ((s.svcCtx (ctx % 32)).under (ctxKeyId (s.svcKeyWord ctx) k)) with mode := 10, busy := true, resErr := 0, resMem := some (((s.word .SVC_DST (ctx % 32)).toNat), d), resTag := none, resIv := none, resSlot := none }).setWord .SVC_STATUS (depo (((s.drbgM ((s.svcLen ctx) / 16 + 1)).svcBus (s.svcKeyWord ctx)).word .SVC_STATUS (ctx % 32)) 30 28 0) (ctx % 32)).obsEvent (.core o.acu) 4))) ∧
  (∀ (s : State) (o : Origin) (ctx : Nat) (toSlot : Bool) (k d : List Byte),
    toSlot = true →
    ((s.drbgM ((s.svcLen ctx) / 16 + 1)).svcBus (s.svcKeyWord ctx)).svcDst o ctx = 0 →
    d.length = 16 ∨ d.length = 32 →
    s.grants o .SVC_CTL (ctx % 32) = true →
    o.ownsCtx (ctx % 32) = true →
    (s.svcCtx (ctx % 32)).busy = false →
    s.maskStopped = false →
    (s.svcKey o (s.svcCtx (ctx % 32)) (s.svcKeyWord ctx)).toOption = some k →
    s.svcDeny o ((s.word .SVC_SRC (ctx % 32)).toNat) (s.svcLen ctx) false = none →
    keyUnwrap k (s.rdMem ((s.word .SVC_SRC (ctx % 32)).toNat) (s.svcLen ctx)) = some d →
    exec (.svcKeyUnwrap o ctx toSlot) s = .next (s.done (((((s.drbgM ((s.svcLen ctx) / 16 + 1)).svcBus (s.svcKeyWord ctx)).setSvc (ctx % 32) { ((s.svcCtx (ctx % 32)).under (ctxKeyId (s.svcKeyWord ctx) k)) with mode := 10, busy := true, resErr := 0, resMem := none, resTag := none, resIv := none, resSlot := some (((s.word .SVC_DST (ctx % 32)).toNat) % 65536, d) }).setWord .SVC_STATUS (depo (((s.drbgM ((s.svcLen ctx) / 16 + 1)).svcBus (s.svcKeyWord ctx)).word .SVC_STATUS (ctx % 32)) 30 28 0) (ctx % 32)).obsEvent (.core o.acu) 4)))

/-- Where key derivation, context records, DRBG output, key loads and the end of an operation complete. Rests on R130,
R131, R132, R133, R134, R136. -/
def Obligations.ServiceCipherDerivesAndKeeps : Prop :=
  (∀ (s : State) (o : Origin) (ctx : Nat) (toSlot : Bool) (k : List Byte),
    toSlot = false →
    bits (s.svcKeyWord ctx) 31 29 = 0 →
    s.grants o .SVC_CTL (ctx % 32) = true →
    o.ownsCtx (ctx % 32) = true →
    (s.svcCtx (ctx % 32)).busy = false →
    s.maskStopped = false →
    (s.svcKey o (s.svcCtx (ctx % 32)) (s.svcKeyWord ctx)).toOption = some k →
    s.svcDeny o ((s.word .SVC_SRC (ctx % 32)).toNat) (s.svcAad ctx + s.svcLen ctx) false = none →
    s.svcDeny o ((s.word .SVC_DST (ctx % 32)).toNat) (kdfOct k ((s.rdMem ((s.word .SVC_SRC (ctx % 32)).toNat) (s.svcAad ctx + s.svcLen ctx)).drop (s.svcAad ctx)) ((s.rdMem ((s.word .SVC_SRC (ctx % 32)).toNat) (s.svcAad ctx + s.svcLen ctx)).take (s.svcAad ctx)) k.length).length true = none →
    exec (.svcKdf o ctx toSlot) s = .next (s.done (((((s.drbgM ((s.svcAad ctx + s.svcLen ctx) / 16 + 1)).svcBus (s.svcKeyWord ctx)).setSvc (ctx % 32) { ((s.svcCtx (ctx % 32)).under (ctxKeyId (s.svcKeyWord ctx) k)) with mode := 11, busy := true, resErr := 0, resMem := some (((s.word .SVC_DST (ctx % 32)).toNat), (kdfOct k ((s.rdMem ((s.word .SVC_SRC (ctx % 32)).toNat) (s.svcAad ctx + s.svcLen ctx)).drop (s.svcAad ctx)) ((s.rdMem ((s.word .SVC_SRC (ctx % 32)).toNat) (s.svcAad ctx + s.svcLen ctx)).take (s.svcAad ctx)) k.length)), resTag := none, resIv := none, resSlot := none }).setWord .SVC_STATUS (depo (((s.drbgM ((s.svcAad ctx + s.svcLen ctx) / 16 + 1)).svcBus (s.svcKeyWord ctx)).word .SVC_STATUS (ctx % 32)) 30 28 0) (ctx % 32)).obsEvent (.core o.acu) 4))) ∧
  (∀ (s : State) (o : Origin) (ctx : Nat) (toSlot : Bool) (k : List Byte),
    toSlot = true →
    ((s.drbgM ((s.svcAad ctx + s.svcLen ctx) / 16 + 1)).svcBus (s.svcKeyWord ctx)).svcDst o ctx = 0 →
    (kdfOct k ((s.rdMem ((s.word .SVC_SRC (ctx % 32)).toNat) (s.svcAad ctx + s.svcLen ctx)).drop (s.svcAad ctx)) ((s.rdMem ((s.word .SVC_SRC (ctx % 32)).toNat) (s.svcAad ctx + s.svcLen ctx)).take (s.svcAad ctx)) k.length).length = 16 ∨ (kdfOct k ((s.rdMem ((s.word .SVC_SRC (ctx % 32)).toNat) (s.svcAad ctx + s.svcLen ctx)).drop (s.svcAad ctx)) ((s.rdMem ((s.word .SVC_SRC (ctx % 32)).toNat) (s.svcAad ctx + s.svcLen ctx)).take (s.svcAad ctx)) k.length).length = 32 →
    s.grants o .SVC_CTL (ctx % 32) = true →
    o.ownsCtx (ctx % 32) = true →
    (s.svcCtx (ctx % 32)).busy = false →
    s.maskStopped = false →
    (s.svcKey o (s.svcCtx (ctx % 32)) (s.svcKeyWord ctx)).toOption = some k →
    s.svcDeny o ((s.word .SVC_SRC (ctx % 32)).toNat) (s.svcAad ctx + s.svcLen ctx) false = none →
    exec (.svcKdf o ctx toSlot) s = .next (s.done (((((s.drbgM ((s.svcAad ctx + s.svcLen ctx) / 16 + 1)).svcBus (s.svcKeyWord ctx)).setSvc (ctx % 32) { ((s.svcCtx (ctx % 32)).under (ctxKeyId (s.svcKeyWord ctx) k)) with mode := 11, busy := true, resErr := 0, resMem := none, resTag := none, resIv := none, resSlot := some (((s.word .SVC_DST (ctx % 32)).toNat) % 65536, (kdfOct k ((s.rdMem ((s.word .SVC_SRC (ctx % 32)).toNat) (s.svcAad ctx + s.svcLen ctx)).drop (s.svcAad ctx)) ((s.rdMem ((s.word .SVC_SRC (ctx % 32)).toNat) (s.svcAad ctx + s.svcLen ctx)).take (s.svcAad ctx)) k.length)) }).setWord .SVC_STATUS (depo (((s.drbgM ((s.svcAad ctx + s.svcLen ctx) / 16 + 1)).svcBus (s.svcKeyWord ctx)).word .SVC_STATUS (ctx % 32)) 30 28 0) (ctx % 32)).obsEvent (.core o.acu) 4))) ∧
  (∀ (s : State) (o : Origin) (ctx : Nat) (wrapped : Bool),
    wrapped = false → bits (s.svcKeyWord ctx) 31 29 = 0 →
    wrapped = true → s.ctxKey.present = true →
    s.grants o .SVC_CTL (ctx % 32) = true →
    o.ownsCtx (ctx % 32) = true →
    (s.svcCtx (ctx % 32)).busy = false →
    s.maskStopped = false →
    s.svcDeny o ((s.word .SVC_DST (ctx % 32)).toNat) ((if wrapped then keyWrap (s.drbgM (0 / 16 + 1)).ctxKeyOct ((s.svcCtx (ctx % 32)).save (s.svcKeyWord ctx)) else (s.svcCtx (ctx % 32)).save (s.svcKeyWord ctx))).length true = none →
    exec (.svcContextSave o ctx wrapped) s = .next (s.done ((((s.drbgM (0 / 16 + 1)).setSvc (ctx % 32) { (s.svcCtx (ctx % 32)) with busy := true, resErr := 0, resMem := some (((s.word .SVC_DST (ctx % 32)).toNat), ((if wrapped then keyWrap (s.drbgM (0 / 16 + 1)).ctxKeyOct ((s.svcCtx (ctx % 32)).save (s.svcKeyWord ctx)) else (s.svcCtx (ctx % 32)).save (s.svcKeyWord ctx)))), resTag := none, resIv := none, resSlot := none }).setWord .SVC_STATUS (depo ((s.drbgM (0 / 16 + 1)).word .SVC_STATUS (ctx % 32)) 30 28 0) (ctx % 32)).obsEvent (.core o.acu) 4))) ∧
  (∀ (s : State) (o : Origin) (ctx : Nat) (wrapped : Bool) (l : List Byte),
    wrapped = false → bits (s.svcKeyWord ctx) 31 29 = 0 →
    wrapped = true → s.ctxKey.present = true →
    (if wrapped then keyUnwrap (s.drbgM (((if wrapped then 104 else 96)) / 16 + 1)).ctxKeyOct (s.rdMem ((s.word .SVC_SRC (ctx % 32)).toNat) ((if wrapped then 104 else 96))) else some (s.rdMem ((s.word .SVC_SRC (ctx % 32)).toNat) ((if wrapped then 104 else 96)))) = some l →
    beAt l 1 4 = (s.svcKeyWord ctx).toNat →
    s.grants o .SVC_CTL (ctx % 32) = true →
    o.ownsCtx (ctx % 32) = true →
    (s.svcCtx (ctx % 32)).busy = false →
    s.maskStopped = false →
    s.svcDeny o ((s.word .SVC_SRC (ctx % 32)).toNat) ((if wrapped then 104 else 96)) false = none →
    exec (.svcContextRestore o ctx wrapped) s = .next (s.done ((((s.drbgM (((if wrapped then 104 else 96)) / 16 + 1)).setSvc (ctx % 32) { (s.svcCtx (ctx % 32)).restore l with busy := true, resErr := 0, resMem := none, resTag := none, resIv := none, resSlot := none }).setWord .SVC_STATUS (depo ((s.drbgM (((if wrapped then 104 else 96)) / 16 + 1)).word .SVC_STATUS (ctx % 32)) 30 28 0) (ctx % 32)).obsEvent (.core o.acu) 4))) ∧
  (∀ (s : State) (o : Origin) (ctx : Nat) (toSlot : Bool),
    toSlot = false →
    ((s.drbgM (0 / 16 + 1)).drbgTake (((s.drbgM (0 / 16 + 1)).svcLen ctx) / 512 + 1) ((s.drbgM (0 / 16 + 1)).svcLen ctx)).isSome = true →
    s.grants o .SVC_CTL (ctx % 32) = true →
    o.ownsCtx (ctx % 32) = true →
    (s.svcCtx (ctx % 32)).busy = false →
    s.maskStopped = false →
    s.svcDeny o ((s.word .SVC_DST (ctx % 32)).toNat) ((((s.drbgM (0 / 16 + 1)).drbgTake (((s.drbgM (0 / 16 + 1)).svcLen ctx) / 512 + 1) ((s.drbgM (0 / 16 + 1)).svcLen ctx)).getD ([], s))).1.length true = none →
    exec (.svcDrbgOutput o ctx toSlot) s = .next (s.done (((((((s.drbgM (0 / 16 + 1)).drbgTake (((s.drbgM (0 / 16 + 1)).svcLen ctx) / 512 + 1) ((s.drbgM (0 / 16 + 1)).svcLen ctx)).getD ([], s))).2.setSvc (ctx % 32) { (s.svcCtx (ctx % 32)) with mode := 14, busy := true, resErr := 0, resMem := some (((s.word .SVC_DST (ctx % 32)).toNat), ((((s.drbgM (0 / 16 + 1)).drbgTake (((s.drbgM (0 / 16 + 1)).svcLen ctx) / 512 + 1) ((s.drbgM (0 / 16 + 1)).svcLen ctx)).getD ([], s))).1), resTag := none, resIv := none, resSlot := none }).setWord .SVC_STATUS (depo (((((s.drbgM (0 / 16 + 1)).drbgTake (((s.drbgM (0 / 16 + 1)).svcLen ctx) / 512 + 1) ((s.drbgM (0 / 16 + 1)).svcLen ctx)).getD ([], s))).2.word .SVC_STATUS (ctx % 32)) 30 28 0) (ctx % 32)).obsEvent (.core o.acu) 4))) ∧
  (∀ (s : State) (o : Origin) (ctx : Nat) (toSlot : Bool),
    toSlot = true →
    ((s.drbgM (0 / 16 + 1)).drbgTake (((if (s.drbgM (0 / 16 + 1)).svcLen ctx = 16 then 16 else 32)) / 512 + 1) ((if (s.drbgM (0 / 16 + 1)).svcLen ctx = 16 then 16 else 32))).isSome = true →
    ((((s.drbgM (0 / 16 + 1)).drbgTake (((if (s.drbgM (0 / 16 + 1)).svcLen ctx = 16 then 16 else 32)) / 512 + 1) ((if (s.drbgM (0 / 16 + 1)).svcLen ctx = 16 then 16 else 32))).getD ([], s))).2.svcDst o ctx = 0 →
    ((((s.drbgM (0 / 16 + 1)).drbgTake (((if (s.drbgM (0 / 16 + 1)).svcLen ctx = 16 then 16 else 32)) / 512 + 1) ((if (s.drbgM (0 / 16 + 1)).svcLen ctx = 16 then 16 else 32))).getD ([], s))).1.length = 16 ∨ ((((s.drbgM (0 / 16 + 1)).drbgTake (((if (s.drbgM (0 / 16 + 1)).svcLen ctx = 16 then 16 else 32)) / 512 + 1) ((if (s.drbgM (0 / 16 + 1)).svcLen ctx = 16 then 16 else 32))).getD ([], s))).1.length = 32 →
    s.grants o .SVC_CTL (ctx % 32) = true →
    o.ownsCtx (ctx % 32) = true →
    (s.svcCtx (ctx % 32)).busy = false →
    s.maskStopped = false →
    exec (.svcDrbgOutput o ctx toSlot) s = .next (s.done (((((((s.drbgM (0 / 16 + 1)).drbgTake (((if (s.drbgM (0 / 16 + 1)).svcLen ctx = 16 then 16 else 32)) / 512 + 1) ((if (s.drbgM (0 / 16 + 1)).svcLen ctx = 16 then 16 else 32))).getD ([], s))).2.setSvc (ctx % 32) { (s.svcCtx (ctx % 32)) with mode := 14, busy := true, resErr := 0, resMem := none, resTag := none, resIv := none, resSlot := some (((s.word .SVC_DST (ctx % 32)).toNat) % 65536, ((((s.drbgM (0 / 16 + 1)).drbgTake (((if (s.drbgM (0 / 16 + 1)).svcLen ctx = 16 then 16 else 32)) / 512 + 1) ((if (s.drbgM (0 / 16 + 1)).svcLen ctx = 16 then 16 else 32))).getD ([], s))).1) }).setWord .SVC_STATUS (depo (((((s.drbgM (0 / 16 + 1)).drbgTake (((if (s.drbgM (0 / 16 + 1)).svcLen ctx = 16 then 16 else 32)) / 512 + 1) ((if (s.drbgM (0 / 16 + 1)).svcLen ctx = 16 then 16 else 32))).getD ([], s))).2.word .SVC_STATUS (ctx % 32)) 30 28 0) (ctx % 32)).obsEvent (.core o.acu) 4))) ∧
  (∀ (s : State) (o : Origin) (ctx : Nat),
    s.grants o .SVC_CTL (ctx % 32) = true →
    o.ownsCtx (ctx % 32) = true →
    (s.svcCtx (ctx % 32)).busy = false →
    s.maskStopped = false →
    s.svcDeny o ((s.word .SVC_SRC (ctx % 32)).toNat) ((if s.svcLen ctx = 16 then 16 else 32)) false = none →
    exec (.svcLoadContextKey o ctx) s = .next (s.done ((((s.drbgM (((if s.svcLen ctx = 16 then 16 else 32)) / 16 + 1)).setSvc (ctx % 32) { (s.svcCtx (ctx % 32)) with key := some (s.rdMem ((s.word .SVC_SRC (ctx % 32)).toNat) ((if s.svcLen ctx = 16 then 16 else 32))), ivCnt := 0#64, mode := 15, busy := true, resErr := 0, resMem := none, resTag := none, resIv := none, resSlot := none }).setWord .SVC_STATUS (depo ((s.drbgM (((if s.svcLen ctx = 16 then 16 else 32)) / 16 + 1)).word .SVC_STATUS (ctx % 32)) 30 28 0) (ctx % 32)).obsEvent (.core o.acu) 4))) ∧
  (∀ (s : State) (ctx : Nat),
    (s.svcCtx (ctx % 32)).busy = true →
    (s.svcCtx (ctx % 32)).resErr = 0 →
    (s.svcCtx (ctx % 32)).resSlot = none →
    exec (.svcOperationDone ctx) s = .next (s.done (((match (s.svcCtx (ctx % 32)).resIv with | some t => ([0, 1, 2] : List Nat).foldl (fun (u : State) n => u.setWord (svcIvReg n) (wordOf t.toNat n) (ctx % 32)) ((match (s.svcCtx (ctx % 32)).resTag with | some t => ([0, 1, 2, 3] : List Nat).foldl (fun (u : State) n => u.setWord (svcTagReg n) (wordOf t.toNat n) (ctx % 32)) ((match (s.svcCtx (ctx % 32)).resMem with | some m => (s.setSvc (ctx % 32) { (s.svcCtx (ctx % 32)) with busy := false, resErr := 0, resMem := none, resTag := none, resIv := none, resSlot := none }).wrMem m.1 m.2 | none => (s.setSvc (ctx % 32) { (s.svcCtx (ctx % 32)) with busy := false, resErr := 0, resMem := none, resTag := none, resIv := none, resSlot := none }))) | none => ((match (s.svcCtx (ctx % 32)).resMem with | some m => (s.setSvc (ctx % 32) { (s.svcCtx (ctx % 32)) with busy := false, resErr := 0, resMem := none, resTag := none, resIv := none, resSlot := none }).wrMem m.1 m.2 | none => (s.setSvc (ctx % 32) { (s.svcCtx (ctx % 32)) with busy := false, resErr := 0, resMem := none, resTag := none, resIv := none, resSlot := none }))))) | none => ((match (s.svcCtx (ctx % 32)).resTag with | some t => ([0, 1, 2, 3] : List Nat).foldl (fun (u : State) n => u.setWord (svcTagReg n) (wordOf t.toNat n) (ctx % 32)) ((match (s.svcCtx (ctx % 32)).resMem with | some m => (s.setSvc (ctx % 32) { (s.svcCtx (ctx % 32)) with busy := false, resErr := 0, resMem := none, resTag := none, resIv := none, resSlot := none }).wrMem m.1 m.2 | none => (s.setSvc (ctx % 32) { (s.svcCtx (ctx % 32)) with busy := false, resErr := 0, resMem := none, resTag := none, resIv := none, resSlot := none }))) | none => ((match (s.svcCtx (ctx % 32)).resMem with | some m => (s.setSvc (ctx % 32) { (s.svcCtx (ctx % 32)) with busy := false, resErr := 0, resMem := none, resTag := none, resIv := none, resSlot := none }).wrMem m.1 m.2 | none => (s.setSvc (ctx % 32) { (s.svcCtx (ctx % 32)) with busy := false, resErr := 0, resMem := none, resTag := none, resIv := none, resSlot := none }))))))).setWord .SVC_STATUS (depo (((match (s.svcCtx (ctx % 32)).resIv with | some t => ([0, 1, 2] : List Nat).foldl (fun (u : State) n => u.setWord (svcIvReg n) (wordOf t.toNat n) (ctx % 32)) ((match (s.svcCtx (ctx % 32)).resTag with | some t => ([0, 1, 2, 3] : List Nat).foldl (fun (u : State) n => u.setWord (svcTagReg n) (wordOf t.toNat n) (ctx % 32)) ((match (s.svcCtx (ctx % 32)).resMem with | some m => (s.setSvc (ctx % 32) { (s.svcCtx (ctx % 32)) with busy := false, resErr := 0, resMem := none, resTag := none, resIv := none, resSlot := none }).wrMem m.1 m.2 | none => (s.setSvc (ctx % 32) { (s.svcCtx (ctx % 32)) with busy := false, resErr := 0, resMem := none, resTag := none, resIv := none, resSlot := none }))) | none => ((match (s.svcCtx (ctx % 32)).resMem with | some m => (s.setSvc (ctx % 32) { (s.svcCtx (ctx % 32)) with busy := false, resErr := 0, resMem := none, resTag := none, resIv := none, resSlot := none }).wrMem m.1 m.2 | none => (s.setSvc (ctx % 32) { (s.svcCtx (ctx % 32)) with busy := false, resErr := 0, resMem := none, resTag := none, resIv := none, resSlot := none }))))) | none => ((match (s.svcCtx (ctx % 32)).resTag with | some t => ([0, 1, 2, 3] : List Nat).foldl (fun (u : State) n => u.setWord (svcTagReg n) (wordOf t.toNat n) (ctx % 32)) ((match (s.svcCtx (ctx % 32)).resMem with | some m => (s.setSvc (ctx % 32) { (s.svcCtx (ctx % 32)) with busy := false, resErr := 0, resMem := none, resTag := none, resIv := none, resSlot := none }).wrMem m.1 m.2 | none => (s.setSvc (ctx % 32) { (s.svcCtx (ctx % 32)) with busy := false, resErr := 0, resMem := none, resTag := none, resIv := none, resSlot := none }))) | none => ((match (s.svcCtx (ctx % 32)).resMem with | some m => (s.setSvc (ctx % 32) { (s.svcCtx (ctx % 32)) with busy := false, resErr := 0, resMem := none, resTag := none, resIv := none, resSlot := none }).wrMem m.1 m.2 | none => (s.setSvc (ctx % 32) { (s.svcCtx (ctx % 32)) with busy := false, resErr := 0, resMem := none, resTag := none, resIv := none, resSlot := none }))))))).word .SVC_STATUS (ctx % 32)) 30 28 0) (ctx % 32)))) ∧
  (∀ (s : State) (ctx k : Nat) (key : List Byte),
    (s.svcCtx (ctx % 32)).busy = true →
    (s.svcCtx (ctx % 32)).resErr = 0 →
    (s.svcCtx (ctx % 32)).resMem = none →
    (s.svcCtx (ctx % 32)).resTag = none →
    (s.svcCtx (ctx % 32)).resIv = none →
    (s.svcCtx (ctx % 32)).resSlot = some (k, key) →
    s.zeroized = false →
    (s.saSlot k).st = .held →
    (s.saSlot k).klen = 0 →
    exec (.svcOperationDone ctx) s = .next (s.done (((s.setSvc (ctx % 32) { (s.svcCtx (ctx % 32)) with busy := false, resErr := 0, resMem := none, resTag := none, resIv := none, resSlot := none }).fillSlot k key).setWord .SVC_STATUS (depo (((s.setSvc (ctx % 32) { (s.svcCtx (ctx % 32)) with busy := false, resErr := 0, resMem := none, resTag := none, resIv := none, resSlot := none }).fillSlot k key).word .SVC_STATUS (ctx % 32)) 30 28 0) (ctx % 32))))

/-- Where the commands of the engines and the yardmaster complete. Rests on R137, R140, R141, R147, R150, R151, R152, R153,
R155. -/
def Obligations.EngineCommandsComplete : Prop :=
  (∀ (s : State) (counts : List Nat),
    exec (.paceWindow counts) s = .next (s.done (((List.range 64).filter (fun e => ((((List.range 64).foldl (fun (t : State) k => if (t.eng k).powered then t.setEng k (((t.eng k).setPace s.nowNs ((min 65535 (counts.getD k 0 * (t.eng k).ratio * 1000 / (256 * 8192))))).watch s.nowNs ((min 65535 (counts.getD k 0 * (t.eng k).ratio * 1000 / (256 * 8192))))) else t) s)).eng e).slow (((List.range 64).foldl (fun (t : State) k => if (t.eng k).powered then t.setEng k (((t.eng k).setPace s.nowNs ((min 65535 (counts.getD k 0 * (t.eng k).ratio * 1000 / (256 * 8192))))).watch s.nowNs ((min 65535 (counts.getD k 0 * (t.eng k).ratio * 1000 / (256 * 8192))))) else t) s)).nowNs (((List.range 64).foldl (fun (t : State) k => if (t.eng k).powered then t.setEng k (((t.eng k).setPace s.nowNs ((min 65535 (counts.getD k 0 * (t.eng k).ratio * 1000 / (256 * 8192))))).watch s.nowNs ((min 65535 (counts.getD k 0 * (t.eng k).ratio * 1000 / (256 * 8192))))) else t) s)).medianPace)).foldl (fun (t : State) e => t.engineFault e 4) (((List.range 64).foldl (fun (t : State) k => if (t.eng k).powered then t.setEng k (((t.eng k).setPace s.nowNs ((min 65535 (counts.getD k 0 * (t.eng k).ratio * 1000 / (256 * 8192))))).watch s.nowNs ((min 65535 (counts.getD k 0 * (t.eng k).ratio * 1000 / (256 * 8192))))) else t) s))))) ∧
  (∀ (s : State),
    ∃ t, exec .marginPeriod s = .next (s.done t) ∧ t.yrd.cap = s.capacity / 10 ∧ t.yrd.dem = s.yrd.demAcc / 1000 ∧
      (s.capacity ≠ 0 →
      t.yrd.margin = (((s.capacity * 1000000 : Nat) : Int) - ((s.yrd.demAcc * 10000 : Nat) : Int)) * 10000 / ((s.capacity * 1000000 : Nat) : Int)) ∧
      t.yrd.demAcc = 0 ∧ t.pwr.dem67 = 0 ∧ t.engs = s.engs ∧ t.frames = s.frames ∧ t.ports = s.ports ∧ t.sas = s.sas ∧
      t.regs = s.regs) ∧
  (∀ (s : State) (o : Origin),
    s.grants o .ENG_TPL_CMD = true →
    exec (.tplRead o) s = .next (s.done ((s.cmdErr .ENG_TPL_CMD o.grp 0).setWords .ENG_TPL_DATA ((List.range 8).map (fun k => (s.template (s.fld F.ENG_TPL_IDX_TPL 0 o.grp)).getD k 0#32)) o.grp))) ∧
  (∀ (s : State) (o : Origin),
    s.grants o .ENG_TPL_CMD = true →
    exec (.tplWrite o) s = .next (s.done (((s.cmdErr .ENG_TPL_CMD o.grp 1).setInt .ENG_INT_STAT 3).fault4 o .ENG_TPL_CMD 0))) ∧
  (∀ (s : State),
    exec .rebalance s = .next (s.done (s.measureLoads.refit.moves (s.measureLoads.refit.inService.filter (fun e => decide (85 < (s.measureLoads.refit.eng e).load))) 8))) ∧
  (∀ (s : State) (rx : Bool) (sc : Nat),
    (s.scSet (if rx then 2048 + sc % 16384 else sc % 2048)).want ≠ 0 →
    (s.scSet (if rx then 2048 + sc % 16384 else sc % 2048)).want < (s.scSet (if rx then 2048 + sc % 16384 else sc % 2048)).engs.length →
    exec (.setShrink rx sc) s = .next (s.done ((((s.scSet (if rx then 2048 + sc % 16384 else sc % 2048)).engs.drop (s.scSet (if rx then 2048 + sc % 16384 else sc % 2048)).want).foldl (fun (t : State) e => t.leaveSet (if rx then 2048 + sc % 16384 else sc % 2048) e) s).setScSet (if rx then 2048 + sc % 16384 else sc % 2048) { (((s.scSet (if rx then 2048 + sc % 16384 else sc % 2048)).engs.drop (s.scSet (if rx then 2048 + sc % 16384 else sc % 2048)).want).foldl (fun (t : State) e => t.leaveSet (if rx then 2048 + sc % 16384 else sc % 2048) e) s).scSet (if rx then 2048 + sc % 16384 else sc % 2048) with want := 0 }))) ∧
  (∀ (s : State) (e : Nat),
    s.testBusy = false →
    s.fld F.YRD_CTL_ROT_S ≠ 0 →
    ((List.range 64).map (fun k => (s.yrd.lastRot + 1 + k) % 64)).find? (fun e => (s.eng e).mode == .inService) = some e →
    exec .engineRotation s = .next (s.done (s.selectTest e 3 false))) ∧
  (∀ (s : State) (o : Origin) (op eng : Nat),
    s.grants o .YRD_TEST = true →
    o.main = true →
    s.testBusy = false →
    op % 4 ≠ 0 →
    (s.eng (eng % 64)).mode = .inService →
    exec (.testRequest o op eng) s = .next (s.done (((s.setFld F.YRD_TEST_OP op).setFld F.YRD_TEST_ENGINE eng).selectTest (eng % 64) (op % 4) true))) ∧
  (∀ (s : State) (e : Nat),
    s.yrd.testSt = .deferred →
    s.yrd.testEng = some e →
    (s.eng e).mode = .inService →
    s.testOk e = true →
    exec .testRetry s = .next (s.done (s.startTest e))) ∧
  (∀ (s : State),
    s.yrd.testSt = .deferred →
    s.yrd.testReq = true →
    exec .testDeferExpired s = .next (s.done (({ s with yrd := { s.yrd with testSt := .rejected, testEng := none } } : State).setInt .YRD_INT_STAT 1))) ∧
  (∀ (s : State),
    s.yrd.testSt = .deferred →
    s.yrd.testReq = false →
    exec .testDeferExpired s = .next (s.done { s with yrd := { s.yrd with testSt := .idle, testEng := none, lastRot := s.yrd.testEng.getD s.yrd.lastRot } })) ∧
  (∀ (s : State) (eng : Nat),
    (s.eng (eng % 64)).mode = .draining →
    (s.eng (eng % 64)).slots = [] →
    exec (.engineDrained eng) s = .next (s.done { s.setEng (eng % 64) { s.eng (eng % 64) with mode := .test } with yrd := { s.yrd with testSt := .running } })) ∧
  (∀ (s : State) (eng : Nat) (pass : Bool) (ratio tap : Nat),
    pass = true ∨ nbit s.yrd.testOp 0 = false →
    s.yrd.testSt = .running →
    s.yrd.testEng = some (eng % 64) →
    (s.eng (eng % 64)).mode = .test →
    exec (.engineTestDone eng pass ratio tap) s = .next (s.done (((((((s.setEng (eng % 64) ({ s.eng (eng % 64) with tested := true, passed := true, testAt := s.nowNs })).count .yrd 0 0 3).setEng (eng % 64) { ((if nbit s.yrd.testOp 1 then { ({ s.eng (eng % 64) with tested := true, passed := true, testAt := s.nowNs }) with ratio := ratio % 65536, tap := tap % 256 } else ({ s.eng (eng % 64) with tested := true, passed := true, testAt := s.nowNs }))) with mode := .inService }).endTest .passed).refit)).pumpAll))) ∧
  (∀ (s : State) (eng : Nat) (pass : Bool) (ratio tap : Nat),
    pass = false →
    nbit s.yrd.testOp 0 = true →
    s.yrd.testSt = .running →
    s.yrd.testEng = some (eng % 64) →
    (s.eng (eng % 64)).mode = .test →
    exec (.engineTestDone eng pass ratio tap) s = .next (s.done (((((((s.setEng (eng % 64) { s.eng (eng % 64) with tested := true, passed := false, testAt := s.nowNs }).count .yrd 0 0 3).setInt .ENG_INT_STAT 1).failEngine (eng % 64) 3).endTest .failed)).pumpAll))) ∧
  (∀ (s : State) (n : Nat),
    s.enginesKept = some n →
    exec .shedEngineRecompute s = .next (s.done ((s.inService.filter (fun e => decide (n ≤ (s.inService.filter (fun x => s.betterEng x e)).length))).foldl State.shedEngine s))) ∧
  (∀ (s : State) (eng pace : Nat),
    (s.eng (eng % 64)).mode = .shedOff →
    s.engineWanted = true →
    500 ≤ pace →
    s.medianPace ≤ 4 * pace →
    exec (.engineWakeDone eng pace) s = .next (s.done (((s.setEng (eng % 64) ({ s.eng (eng % 64) with mode := .inService, offPend := false }.setPace s.nowNs pace)).refit).pumpAll))) ∧
  (∀ (s : State) (o : Origin),
    s.grants o .YRD_SCW_CMD = true →
    ∃ t, exec (.scwRead o) s = .next (s.done t) ∧
      bits (t.word .YRD_SCW_DATA 0 o.grp) 31 31 = b2n (!((s.scSet (if s.flag F.YRD_SCW_IDX_RX 0 o.grp then 2048 + (s.fld F.YRD_SCW_IDX_SC 0 o.grp) else (s.fld F.YRD_SCW_IDX_SC 0 o.grp))).engs).isEmpty) ∧
      bits (t.word .YRD_SCW_DATA 0 o.grp) 30 28 = ((s.scSet (if s.flag F.YRD_SCW_IDX_RX 0 o.grp then 2048 + (s.fld F.YRD_SCW_IDX_SC 0 o.grp) else (s.fld F.YRD_SCW_IDX_SC 0 o.grp))).engs).length % 8 ∧
      t.yrd = s.yrd ∧ s.onlyWords t [.YRD_SCW_CMD, .YRD_SCW_DATA] o.grp = true)

/-- Where the commands of the traffic manager complete. Rests on R159, R161, R163, R165, R166, R168, R170, R171, R172,
R173, R174, R212. -/
def Obligations.TrafficManagerCommandsComplete : Prop :=
  (∀ (s : State),
    exec .bucketRefill s = .next (s.done (((((s.tmg.buckets.idxs ++ (if 2 ≤ s.pwr.stage then s.lowQueues.filter (fun q => !s.tmg.buckets.idxs.contains q) else []))).foldl State.refillOne s).tmg.policers.idxs.foldl (fun (a : State) k => a.setPolicer k { a.policer k with tc := min ((a.policer k).tc + (a.policer k).cir) (((a.policer k).cbs * 2048 : Nat) : Int), tp := min ((a.policer k).tp + (a.policer k).pir) (((a.policer k).pbs * 2048 : Nat) : Int) }) (((s.tmg.buckets.idxs ++ (if 2 ≤ s.pwr.stage then s.lowQueues.filter (fun q => !s.tmg.buckets.idxs.contains q) else []))).foldl State.refillOne s)).mgtServe))) ∧
  (∀ (s : State) (o : Origin),
    s.grants o .TMG_SHW_CMD = true →
    s.shwIdx o.grp < shwSize (s.shwLvl o.grp) →
    ∃ t, exec (.shwRead o) s = .next (s.done t) ∧
      t.word .TMG_SHW_DATA3 0 o.grp = BitVec.ofInt 32 ((s.bucket (s.shwLvl o.grp) (s.shwIdx o.grp)).tokens / 8) ∧
      bits (t.word .TMG_SHW_DATA0 0 o.grp) 19 0 = (s.bucket (s.shwLvl o.grp) (s.shwIdx o.grp)).cfg.1 % 2 ^ 20 ∧
      bits (t.word .TMG_SHW_DATA2 0 o.grp) 15 0 = (s.bucket (s.shwLvl o.grp) (s.shwIdx o.grp)).cfg.2.1 % 2 ^ 16 ∧
      t.tmg = s.tmg ∧
      s.onlyWords t [.TMG_SHW_CMD, .TMG_SHW_DATA0, .TMG_SHW_DATA1, .TMG_SHW_DATA2, .TMG_SHW_DATA3, .TMG_SHW_DATA4, .TMG_SHW_DATA5, .TMG_SHW_DATA6] o.grp = true) ∧
  (∀ (s : State) (o : Origin),
    s.grants o .TMG_SHW_CMD = true →
    o.main = true →
    s.shwIdx o.grp < shwSize (s.shwLvl o.grp) →
    shwOk (s.shwLvl o.grp) (s.word .TMG_SHW_DATA0 0 o.grp) (s.word .TMG_SHW_DATA1 0 o.grp) (s.word .TMG_SHW_DATA2 0 o.grp) = true →
    exec (.shwWrite o) s = .next (s.done ((s.cmdErr .TMG_SHW_CMD o.grp 0).holdBucket (s.shwLvl o.grp) (s.shwIdx o.grp) (s.word .TMG_SHW_DATA0 0 o.grp) (s.word .TMG_SHW_DATA1 0 o.grp) (s.word .TMG_SHW_DATA2 0 o.grp) none))) ∧
  (∀ (s : State) (o : Origin),
    s.grants o .TMG_SHW_CMD = true →
    o.main = true →
    s.shwIdx o.grp < shwSize (s.shwLvl o.grp) →
    shwOk (s.shwLvl o.grp) (s.word .TMG_SHW_DATA0 0 o.grp) (s.word .TMG_SHW_DATA1 0 o.grp) (s.word .TMG_SHW_DATA2 0 o.grp) = true →
    s.fld F.TMG_SHW_DATA6_EPOCH_NS 0 o.grp < 1000000000 →
    s.timeT < (timeSNs (s.fld F.TMG_SHW_DATA5_EPOCH_S 0 o.grp * 2 ^ 32 + (s.word .TMG_SHW_DATA4 0 o.grp).toNat) (s.fld F.TMG_SHW_DATA6_EPOCH_NS 0 o.grp)) →
    exec (.shwWriteAtEpoch o) s = .next (s.done ((s.cmdErr .TMG_SHW_CMD o.grp 0).holdBucket (s.shwLvl o.grp) (s.shwIdx o.grp) (s.word .TMG_SHW_DATA0 0 o.grp) (s.word .TMG_SHW_DATA1 0 o.grp) (s.word .TMG_SHW_DATA2 0 o.grp) (some (timeSNs (s.fld F.TMG_SHW_DATA5_EPOCH_S 0 o.grp * 2 ^ 32 + (s.word .TMG_SHW_DATA4 0 o.grp).toNat) (s.fld F.TMG_SHW_DATA6_EPOCH_NS 0 o.grp)))))) ∧
  (∀ (s : State) (o : Origin),
    s.grants o .TMG_QW_CMD = true →
    ∃ t, exec (.qwRead o) s = .next (s.done t) ∧
      bits (t.word .TMG_QW_DATA0 0 o.grp) 31 16 = (s.queue (s.fld F.TMG_QW_IDX_QUEUE 0 o.grp)).qlimit % 2 ^ 16 ∧
      bits (t.word .TMG_QW_DATA0 0 o.grp) 15 0 = (s.queue (s.fld F.TMG_QW_IDX_QUEUE 0 o.grp)).ylimit % 2 ^ 16 ∧
      t.word .TMG_QW_DATA1 0 o.grp = BitVec.ofNat 32 (s.fill (s.fld F.TMG_QW_IDX_QUEUE 0 o.grp) / 1024 % 2 ^ 28) ∧
      (t.word .TMG_QW_DATA2 0 o.grp).toNat = (s.queue (s.fld F.TMG_QW_IDX_QUEUE 0 o.grp)).frames.length % 2 ^ 32 ∧
      t.tmg = s.tmg ∧ s.onlyWords t [.TMG_QW_CMD, .TMG_QW_DATA0, .TMG_QW_DATA1, .TMG_QW_DATA2] o.grp = true) ∧
  (∀ (s : State) (o : Origin),
    s.grants o .TMG_QW_CMD = true →
    o.main = true →
    exec (.qwWrite o) s = .next (s.done ((s.cmdErr .TMG_QW_CMD o.grp 0).setQueue (s.fld F.TMG_QW_IDX_QUEUE 0 o.grp) { s.queue (s.fld F.TMG_QW_IDX_QUEUE 0 o.grp) with qlimit := s.fld F.TMG_QW_DATA0_QLIMIT 0 o.grp, ylimit := s.fld F.TMG_QW_DATA0_YLIMIT 0 o.grp }))) ∧
  (∀ (s : State) (o : Origin),
    s.grants o .TMG_POLW_CMD = true →
    ∃ t, exec (.polwRead o) s = .next (s.done t) ∧
      bits (t.word .TMG_POLW_DATA0 0 o.grp) 31 31 = b2n (s.policer (s.fld F.TMG_POLW_IDX_POLICER 0 o.grp)).en ∧
      bits (t.word .TMG_POLW_DATA0 0 o.grp) 19 0 = (s.policer (s.fld F.TMG_POLW_IDX_POLICER 0 o.grp)).cir % 2 ^ 20 ∧
      t.word .TMG_POLW_DATA1 0 o.grp = BitVec.ofNat 32 (s.policer (s.fld F.TMG_POLW_IDX_POLICER 0 o.grp)).pir ∧
      t.tmg = s.tmg ∧ s.onlyWords t [.TMG_POLW_CMD, .TMG_POLW_DATA0, .TMG_POLW_DATA1, .TMG_POLW_DATA2] o.grp = true) ∧
  (∀ (s : State) (o : Origin),
    s.grants o .TMG_POLW_CMD = true →
    o.main = true →
    polOk (s.word .TMG_POLW_DATA0 0 o.grp) (s.word .TMG_POLW_DATA1 0 o.grp) (s.word .TMG_POLW_DATA2 0 o.grp) = true →
    exec (.polwWrite o) s = .next (s.done ((s.cmdErr .TMG_POLW_CMD o.grp 0).setPolicer (s.fld F.TMG_POLW_IDX_POLICER 0 o.grp) ((s.policer (s.fld F.TMG_POLW_IDX_POLICER 0 o.grp)).load (s.word .TMG_POLW_DATA0 0 o.grp) (s.word .TMG_POLW_DATA1 0 o.grp) (s.word .TMG_POLW_DATA2 0 o.grp))))) ∧
  (∀ (s : State) (o : Origin),
    s.grants o .TMG_GCW_CMD = true →
    exec (.gcwRead o) s = .next (s.done (((s.cmdErr .TMG_GCW_CMD o.grp 0).setWord .TMG_GCW_DATA0 ((s.admEntry (s.fld F.TMG_GCW_IDX_PORT 0 o.grp) (s.fld F.TMG_GCW_IDX_ENTRY 0 o.grp)).1.setWidth 32) 0 o.grp).setWord .TMG_GCW_DATA1 (BitVec.ofNat 32 (s.admEntry (s.fld F.TMG_GCW_IDX_PORT 0 o.grp) (s.fld F.TMG_GCW_IDX_ENTRY 0 o.grp)).2) 0 o.grp))) ∧
  (∀ (s : State) (o : Origin),
    s.grants o .TMG_GCW_CMD = true →
    s.presence = true →
    256 ≤ (s.fld F.TMG_GCW_DATA1_INTERVAL_NS 0 o.grp) →
    (s.fld F.TMG_GCW_DATA1_INTERVAL_NS 0 o.grp) ≤ 1000000000 →
    exec (.gcwWrite o) s = .next (s.done ((s.cmdErr .TMG_GCW_CMD o.grp 0).setAdm (s.fld F.TMG_GCW_IDX_PORT 0 o.grp) (s.fld F.TMG_GCW_IDX_ENTRY 0 o.grp) (BitVec.ofNat 8 (s.fld F.TMG_GCW_DATA0_GATES 0 o.grp), (s.fld F.TMG_GCW_DATA1_INTERVAL_NS 0 o.grp))))) ∧
  (∀ (s : State) (o : Origin) (port : Nat),
    s.grants o .TMG_PORT_CFG (port % 128) = true →
    s.presence = true →
    exec (.configChange o port) s = .next (s.done (s.gateConfig (port % 128)))) ∧
  (∀ (s : State) (port : Nat) (l : GateList) (t : Int),
    (s.gatePort (port % 128)).pend = some (l, t) →
    t ≤ s.timeT →
    exec (.gateListChange port) s = .next (s.done ((s.setGatePort (port % 128) { s.gatePort (port % 128) with oper := some l, pend := none, entry := (GatePort.now ({ s.gatePort (port % 128) with oper := some l, pend := none }) s.timeT).1, gates := (GatePort.now ({ s.gatePort (port % 128) with oper := some l, pend := none }) s.timeT).2 }).setInt .TMG_INT_STAT 3))) ∧
  (∀ (s : State) (port : Nat),
    exec (.gateEntryAdvance port) s = .next (s.done (s.setGatePort (port % 128) { s.gatePort (port % 128) with entry := ((s.gatePort (port % 128)).now s.timeT).1, gates := ((s.gatePort (port % 128)).now s.timeT).2 }))) ∧
  (∀ (s : State) (port k : Nat) (f : Frame),
    s.pqHead (port % 64) (k % 2) = some f →
    f.launch.all (fun t => decide (t - launchLead ≤ s.timeT)) = true →
    exec (.launchDue port k) s = .next (s.done ((s.selectTx (port % 64)).pumpAll))) ∧
  (∀ (s : State) (port k : Nat) (f : Frame),
    s.pqHead ((64 + port % 64)) (k % 2) = some f →
    f.launch.all (fun t => decide (t - lineLead ≤ s.timeT)) = true →
    s.poisoned f = false →
    (f.launch.any (fun t => decide (t - lineLead + s.lateNs ((64 + port % 64)) < s.timeT))) = false ∨ s.flag F.TMG_PORT_CFG_LATE_DROP ((64 + port % 64)) = false →
    exec (.launchRelease port k) s = .next (s.done ((match (((((if (f.launch.any (fun t => decide (t - lineLead + s.lateNs ((64 + port % 64)) < s.timeT))) && !f.lateCnt then s.noteLate ((64 + port % 64)) else s)).unqueue (privQueue ((64 + port % 64)) (k % 2)) f).setFrame ({ f with stage := .fifo, pages := [], lateCnt := f.lateCnt || (f.launch.any (fun t => decide (t - lineLead + s.lateNs ((64 + port % 64)) < s.timeT))) })).classifyEnc ({ f with stage := .fifo, pages := [], lateCnt := f.lateCnt || (f.launch.any (fun t => decide (t - lineLead + s.lateNs ((64 + port % 64)) < s.timeT))) })).frame? f.id with | some g => (if g.launch.isSome && !g.lateCnt && ((match (((((if (f.launch.any (fun t => decide (t - lineLead + s.lateNs ((64 + port % 64)) < s.timeT))) && !f.lateCnt then s.noteLate ((64 + port % 64)) else s)).unqueue (privQueue ((64 + port % 64)) (k % 2)) f).setFrame ({ f with stage := .fifo, pages := [], lateCnt := f.lateCnt || (f.launch.any (fun t => decide (t - lineLead + s.lateNs ((64 + port % 64)) < s.timeT))) })).classifyEnc ({ f with stage := .fifo, pages := [], lateCnt := f.lateCnt || (f.launch.any (fun t => decide (t - lineLead + s.lateNs ((64 + port % 64)) < s.timeT))) })).curSa g.secy with | some a => !((((((if (f.launch.any (fun t => decide (t - lineLead + s.lateNs ((64 + port % 64)) < s.timeT))) && !f.lateCnt then s.noteLate ((64 + port % 64)) else s)).unqueue (privQueue ((64 + port % 64)) (k % 2)) f).setFrame ({ f with stage := .fifo, pages := [], lateCnt := f.lateCnt || (f.launch.any (fun t => decide (t - lineLead + s.lateNs ((64 + port % 64)) < s.timeT))) })).classifyEnc ({ f with stage := .fifo, pages := [], lateCnt := f.lateCnt || (f.launch.any (fun t => decide (t - lineLead + s.lateNs ((64 + port % 64)) < s.timeT))) })).sa a).hot | none => true) || !((((((if (f.launch.any (fun t => decide (t - lineLead + s.lateNs ((64 + port % 64)) < s.timeT))) && !f.lateCnt then s.noteLate ((64 + port % 64)) else s)).unqueue (privQueue ((64 + port % 64)) (k % 2)) f).setFrame ({ f with stage := .fifo, pages := [], lateCnt := f.lateCnt || (f.launch.any (fun t => decide (t - lineLead + s.lateNs ((64 + port % 64)) < s.timeT))) })).classifyEnc ({ f with stage := .fifo, pages := [], lateCnt := f.lateCnt || (f.launch.any (fun t => decide (t - lineLead + s.lateNs ((64 + port % 64)) < s.timeT))) })).queue g.queue).frames.isEmpty) then ((((((if (f.launch.any (fun t => decide (t - lineLead + s.lateNs ((64 + port % 64)) < s.timeT))) && !f.lateCnt then s.noteLate ((64 + port % 64)) else s)).unqueue (privQueue ((64 + port % 64)) (k % 2)) f).setFrame ({ f with stage := .fifo, pages := [], lateCnt := f.lateCnt || (f.launch.any (fun t => decide (t - lineLead + s.lateNs ((64 + port % 64)) < s.timeT))) })).classifyEnc ({ f with stage := .fifo, pages := [], lateCnt := f.lateCnt || (f.launch.any (fun t => decide (t - lineLead + s.lateNs ((64 + port % 64)) < s.timeT))) })).setFrame { g with lateCnt := true }).noteLate ((64 + port % 64)) else (((((if (f.launch.any (fun t => decide (t - lineLead + s.lateNs ((64 + port % 64)) < s.timeT))) && !f.lateCnt then s.noteLate ((64 + port % 64)) else s)).unqueue (privQueue ((64 + port % 64)) (k % 2)) f).setFrame ({ f with stage := .fifo, pages := [], lateCnt := f.lateCnt || (f.launch.any (fun t => decide (t - lineLead + s.lateNs ((64 + port % 64)) < s.timeT))) })).classifyEnc ({ f with stage := .fifo, pages := [], lateCnt := f.lateCnt || (f.launch.any (fun t => decide (t - lineLead + s.lateNs ((64 + port % 64)) < s.timeT))) }))) | none => (((((if (f.launch.any (fun t => decide (t - lineLead + s.lateNs ((64 + port % 64)) < s.timeT))) && !f.lateCnt then s.noteLate ((64 + port % 64)) else s)).unqueue (privQueue ((64 + port % 64)) (k % 2)) f).setFrame ({ f with stage := .fifo, pages := [], lateCnt := f.lateCnt || (f.launch.any (fun t => decide (t - lineLead + s.lateNs ((64 + port % 64)) < s.timeT))) })).classifyEnc ({ f with stage := .fifo, pages := [], lateCnt := f.lateCnt || (f.launch.any (fun t => decide (t - lineLead + s.lateNs ((64 + port % 64)) < s.timeT))) }))).pumpAll))) ∧
  (∀ (s : State) (port k : Nat) (f : Frame),
    s.pqHead ((64 + port % 64)) (k % 2) = some f →
    f.launch.any (fun t => decide (t - lineLead + s.lateNs ((64 + port % 64)) < s.timeT)) = true →
    f.launch.all (fun t => decide (t - lineLead ≤ s.timeT)) = true →
    s.poisoned f = false →
    s.flag F.TMG_PORT_CFG_LATE_DROP ((64 + port % 64)) = true →
    exec (.launchRelease port k) s = .next (s.done (((((if f.lateCnt then s else s.noteLate ((64 + port % 64))).dropFrame f 2).count .tmg 2 ((64 + port % 64)) 2)).pumpAll))) ∧
  (∀ (s : State) (port : PortId) (k : Nat) (f : Frame) (t : Int),
    s.pqHead port.idx (k % 2) = some f →
    f.launch = some t →
    (if port.idx < 64 then t else t - lineLead) + s.lateNs port.idx < s.timeT →
    f.lateCnt = false →
    exec (.launchLate port k) s = .next (s.done ((if s.flag F.TMG_PORT_CFG_LATE_DROP port.idx then ((s.dropFrame f 2).count .tmg 2 port.idx 2).noteLate port.idx else (s.setFrame { f with lateCnt := true }).noteLate port.idx).pumpAll))) ∧
  (∀ (s : State) (frame : Nat) (f : Frame) (d : Int),
    s.frame? frame = some f →
    f.launch = some d →
    d + 131072 < s.timeT + launchLead →
    f.ptpDep = true →
    f.stage ≠ .committed →
    exec (.ptpDepartureMissed frame) s = .next (s.done ((((s.dropFrame f 2).count .tim 0 0 2).setInt .TIM_INT_STAT 6).pumpAll)))

/-- Where the commands of the cellar complete. Rests on R178, R179, R180, R184, R186, R187, R189, R190, R191, R195, R197,
R199. -/
def Obligations.CellarCommandsComplete : Prop :=
  (∀ (s : State) (line : Nat) (r : Region),
    s.region? line = some r →
    s.cel.keys.isNone = false →
    s.stkUp (lineStk line) = true →
    let A : State := { s with cel := { s.cel with reads := s.cel.reads ++ [line] } }
    exec (.cellarLineRead line) s = .next (s.done (if s.prot r.kind = 0 then [1, 2, 3, 4, 5, 6].foldl (fun (t : State) h => t.celHit (hAddr (lineStk line) h (lineIdx line / 8 ^ h))) (A.celHit (tagAddr (lineStk line) (lineIdx line))) else A))) ∧
  (∀ (s : State) (line : Nat),
    s.region? line = none ∨ s.cel.keys.isNone = true ∨ s.stkUp (lineStk line) = false →
    exec (.cellarLineRead line) s = .next (s.done s)) ∧
  (∀ (s : State) (line : Nat) (seen : List LineSeen),
    s.cel.reads.contains line = true →
    let D : State × PathRes × Option (BitVec 512) := s.readData seen line
    exec (.cellarReadComplete line seen) s = .next (s.done (if D.2.1 = PathRes.waiting then D.1.celTidy else ({ D.1 with cel := { D.1.cel with reads := D.1.cel.reads.erase line, result := D.2.2 } } : State).celTidy))) ∧
  (∀ (s : State) (line : Nat) (seen : List LineSeen),
    s.cel.reads.contains line = false →
    exec (.cellarReadComplete line seen) s = .next (s.done s)) ∧
  (∀ (s : State) (line : Nat) (w : LineData) (r : Region),
    w.mask = BitVec.allOnes 64 →
    s.region? line = some r →
    s.cel.keys.isNone = false →
    s.stkUp (lineStk line) = true →
    s.prot r.kind = 0 →
    (((((s.obsEvent .cellar 4 1 (lineStk line)).celHit (tagAddr (lineStk line) (lineIdx line))).celHit (hAddr (lineStk line) 1 (lineIdx line / 8))).fetchPath w.seen (lineStk line) (lineIdx line) 6 6)).2 ≠ .waiting →
    ((((((s.obsEvent .cellar 4 1 (lineStk line)).celHit (tagAddr (lineStk line) (lineIdx line))).celHit (hAddr (lineStk line) 1 (lineIdx line / 8))).fetchPath w.seen (lineStk line) (lineIdx line) 6 6)).1.stk (lineStk line)).mode ≠ .lost →
    let V : Nat × State := (((((((s.obsEvent .cellar 4 1 (lineStk line)).celHit (tagAddr (lineStk line) (lineIdx line))).celHit (hAddr (lineStk line) 1 (lineIdx line / 8))).fetchPath w.seen (lineStk line) (lineIdx line) 6 6)).1.readTag w.seen (lineStk line) (lineIdx line)).1.unpoison line 1).newVer (lineStk line)
    let X : BitVec 512 := if s.ksMode r.kind then V.2.keystream line V.1 w.data else V.2.native true line V.1 w.data
    let T : State := V.2.storeLine line X
    exec (.cellarLineWrite line w) s = .next (s.done (((T.dirty64 (tagAddr (lineStk line) (lineIdx line)) (setSlot (T.metaLine (tagAddr (lineStk line) (lineIdx line))) (lineIdx line % 8) (T.lineTag line V.1 0 X))).setVer (lineStk line) 0 (lineIdx line) V.1).celTidy))) ∧
  (∀ (s : State) (line : Nat) (w : LineData) (r : Region),
    w.mask = BitVec.allOnes 64 →
    s.region? line = some r →
    s.cel.keys.isNone = false →
    s.stkUp (lineStk line) = true →
    s.prot r.kind = 1 →
    exec (.cellarLineWrite line w) s = .next (s.done ((((s.obsEvent .cellar 4 1 (lineStk line)).unpoison line 1).storeLine line ((s.obsEvent .cellar 4 1 (lineStk line)).native true line 0 w.data)).celTidy))) ∧
  (∀ (s : State) (line : Nat) (w : LineData) (r : Region),
    w.mask = BitVec.allOnes 64 →
    s.region? line = some r →
    s.cel.keys.isNone = false →
    s.stkUp (lineStk line) = true →
    2 ≤ s.prot r.kind →
    exec (.cellarLineWrite line w) s = .next (s.done ((((s.obsEvent .cellar 4 1 (lineStk line)).unpoison line 1).storeLine line w.data).celTidy))) ∧
  (∀ (s : State) (line : Nat) (w : LineData),
    w.mask ≠ BitVec.allOnes 64 →
    let D : State × PathRes × Option (BitVec 512) := (s.count .cel 0 (lineStk line) 2).readData w.seen line
    exec (.cellarLineWrite line w) s = .next (s.done (match D.2.2 with | some old => D.1.celWrite line (mergeOct old w.data w.mask) w.seen | none => D.1.celTidy))) ∧
  (∀ (s : State) (line : Nat) (seen : List LineSeen) (h n c : Nat) (w : BitVec 512),
    lineKind (lineIdx line) = .node h n →
    s.cel.restore.contains line = true →
    s.copyAddr (lineStk line) (lineIdx line) = some c →
    (s.readData seen c).2 = (.ok, some w) →
    (s.readData seen c).1.lineTag line ((s.readData seen c).1.verOf (lineStk line) h n) 1 w = ((s.readData seen c).1.cel.check.look (s.readData seen c).1.checkDef line).toNat →
    exec (.nodeRestored (.line line) seen) s = .next (s.done (((((({ ((((s.readData seen c).1.storeLine line w ((s.readData seen c).1.cel.check.look (s.readData seen c).1.checkDef line)).fill64 line w)) with cel := { ((((s.readData seen c).1.storeLine line w ((s.readData seen c).1.cel.check.look (s.readData seen c).1.checkDef line)).fill64 line w)).cel with restore := ((((s.readData seen c).1.storeLine line w ((s.readData seen c).1.cel.check.look (s.readData seen c).1.checkDef line)).fill64 line w)).cel.restore.filter (fun x => x != line), badOnce := ((((s.readData seen c).1.storeLine line w ((s.readData seen c).1.cel.check.look (s.readData seen c).1.checkDef line)).fill64 line w)).cel.badOnce.filter (fun x => x != line) } } : State).count .cel 0 (lineStk line) 7).celEvt 2 (h - 1) line).retryHeld).celTidy)))) ∧
  (∀ (s : State) (stack level i : Nat) (seen : List LineSeen),
    6 ≤ level →
    level ≤ 9 →
    exec (.nodeRestored (.die stack level i) seen) s = .next (s.done (s.setStk (stack % 4) { s.stk (stack % 4) with nodes := (List.range 8).foldl (fun (t : Tab Nat) j => t.put (fun _ => 0) (dieKey level (8 * i + j)) ((s.stk (stack % 4)).nodes2.look (fun _ => 0) (dieKey level (8 * i + j)))) (s.stk (stack % 4)).nodes }))) ∧
  (∀ (s : State) (a : Nat) (t : List Nat),
    s.cel.dirty = a :: t →
    exec .metadataWriteback s = .next (s.done ((s.writeLine [] a).celTidy))) ∧
  (∀ (s : State),
    s.cel.dirty = [] →
    exec .metadataWriteback s = .next (s.done s)) ∧
  (∀ (s : State),
    let W : List (Nat × W64) := s.cnts.filter (fun (e : Nat × W64) => (cntLine e.1).isSome && s.flushed e.1 != e.2)
    let H : List (Nat × W64) := W.filter (fun (e : Nat × W64) => decide (Config.accHalf < (e.2 - s.flushed e.1).toNat))
    let L : List Nat := (((if H.isEmpty then W else H).map (fun (e : Nat × W64) => e.1)).filterMap cntLine).eraseDups
    exec .counterFlush s = .next (s.done (L.foldl (fun (t : State) l => (match placeOf t.cel.layout 2 l with | none => t | some a => (match t.putData [] a ((t.cnts.filter (fun (e : Nat × W64) => cntLine e.1 == some l)).foldl (fun w (e : Nat × W64) => setSlot w (e.1 % 8) e.2.toNat) (0 : BitVec 512)) with | (t1, true) => ((t.cnts.filter (fun (e : Nat × W64) => cntLine e.1 == some l)).foldl (fun (u : State) (e : Nat × W64) => { u with cel := { u.cel with cntFlushed := u.cel.cntFlushed.put (fun _ => 0#64) e.1 e.2 } }) t1).celTidy | (t1, false) => t1.celTidy))) s))) ∧
  (∀ (s : State) (line : Nat) (seen : List LineSeen) (d : Nat) (r : Region),
    s.cel.keys.isNone = false →
    s.stkUp (lineStk line) = true →
    lineKind (lineIdx line) = .data d →
    s.region? line = some r →
    exec (.scrub line seen) s = .next (s.done (if 4 ≤ r.kind ∧ r.kind < 8 then (s.readData seen line).1.celTidy else s))) ∧
  (∀ (s : State) (line : Nat) (seen : List LineSeen) (t : Nat),
    s.cel.keys.isNone = false →
    s.stkUp (lineStk line) = true →
    lineKind (lineIdx line) = .tag t →
    s.cel.dirty.contains line = false →
    exec (.scrub line seen) s = .next (s.done ((({ s with cel := { s.cel with used := s.cel.used.filter (fun x => x != line) } } : State).readTag seen (lineStk line) (t * 8)).1.celTidy))) ∧
  (∀ (s : State) (line : Nat) (seen : List LineSeen) (h n : Nat),
    s.cel.keys.isNone = false →
    s.stkUp (lineStk line) = true →
    lineKind (lineIdx line) = .node h n →
    s.cel.dirty.contains line = false →
    let P : State × PathRes := ({ s with cel := { s.cel with used := s.cel.used.filter (fun x => x != line) } } : State).readPath seen (lineStk line) (n * 8 ^ h) (6 - h)
    let Q : State := if P.2 = PathRes.ok then (P.1.readNode seen (lineStk line) h n).1 else P.1
    exec (.scrub line seen) s = .next (s.done ((if lineIdx line = spareBase - 1 then Q.count .cel 0 (lineStk line) 17 else Q).celTidy))) ∧
  (∀ (s : State) (line : Nat) (seen : List LineSeen),
    s.cel.keys.isNone = true ∨ s.stkUp (lineStk line) = false ∨ lineKind (lineIdx line) = .spare →
    exec (.scrub line seen) s = .next (s.done s)) ∧
  (∀ (s : State) (stack : Nat) (seen : List LineSeen) (f : Frame) (g : Nat) (p : Nat × State),
    (s.stk (stack % 4)).mode = .draining →
    s.frames.find? (fun f => f.pages.any (fun g => g / 2 ^ 30 == (stack % 4))) = some f →
    f.pages.find? (fun g => g / 2 ^ 30 == (stack % 4)) = some g →
    s.takePage 4 s.tmg.nextStk = some p →
    (p.2.moverRead seen (82 + g % 8) ((List.range 16).map (pageLine [g]))).2.1 = false →
    let T : State := (p.2.moverRead seen (82 + g % 8) ((List.range 16).map (pageLine [g]))).1.moverWrite (82 + g % 8) (((List.range 16).map (pageLine [p.1])).zip (p.2.moverRead seen (82 + g % 8) ((List.range 16).map (pageLine [g]))).2.2)
    exec (.pageMove stack seen) s = .next (s.done ((((({ T with frames := T.frames.map (fun (x : Frame) => if x.id == f.id then ({ x with pages := x.pages.map (fun y => if y == g then p.1 else y) } : Frame) else x) } : State).giveBack [g]).count .cel 0 (stack % 4) 16).notePages).celTidy))) ∧
  (∀ (s : State) (stack : Nat) (seen : List LineSeen) (f : Frame),
    (s.stk (stack % 4)).mode = .draining →
    s.frames.find? (fun f => f.pages.any (fun g => g / 2 ^ 30 == (stack % 4))) = some f →
    (s.takePage 4 s.tmg.nextStk).isNone = true →
    exec (.pageMove stack seen) s = .next (s.done s.shedOldest.celTidy)) ∧
  (∀ (s : State) (stack : Nat) (seen : List LineSeen) (r : Region) (n : Nat),
    (s.stk (stack % 4)).mode = .draining →
    s.frames.all (fun f => f.pages.all (fun g => g / 2 ^ 30 != (stack % 4))) = true →
    s.movePiece (stack % 4) = some (r, n) →
    let L : List Nat := (s.cel.lines.filter (fun (e : Nat × BitVec 512) => decide ((((stack % 4) * 2 ^ 38 + r.first)) ≤ e.1) && decide (e.1 < (((stack % 4) * 2 ^ 38 + r.first)) + n))).map (fun (e : Nat × BitVec 512) => e.1)
    let M : State × Bool × List (Option (BitVec 512)) := s.moverRead seen 82 L
    let N : State := M.1.replace1 r n
    exec (.pageMove stack seen) s = .next (s.done ((if M.2.1 = true ∨ (M.1.stk (stack % 4)).mode ≠ StkMode.draining then M.1 else (N.moverWrite 82 ((L.map (fun a => (placeOf N.cel.layout r.kind (s.pieceBase r + (a - (((stack % 4) * 2 ^ 38 + r.first))))).getD 0)).zip M.2.2)).count .cel 0 (stack % 4) 16).celTidy))) ∧
  (∀ (s : State) (stack : Nat),
    (s.stk (stack % 4)).mode = .draining →
    s.frames.all (fun f => f.pages.all (fun g => g / 2 ^ 30 != (stack % 4))) = true →
    (s.movePiece (stack % 4)).isNone = true →
    let D : List (Nat × BitVec 512) := ((s.cel.layout.filter (fun (r : Region) => r.kind == 8 && r.stack == (stack % 4))).map (fun (r : Region) => (s.cel.lines.filter (fun (e : Nat × BitVec 512) => decide ((stack % 4) * 2 ^ 38 + r.first ≤ e.1) && decide (e.1 < (stack % 4) * 2 ^ 38 + r.first + r.lines))).map (fun (e : Nat × BitVec 512) => (e.1 - ((stack % 4) * 2 ^ 38 + r.first), s.plainOf e.1 e.2)))).flatten
    let A : State := s.setStk (stack % 4) { s.stk (stack % 4) with mode := .off, partner := none, copyValid := false, moves := false }
    exec (.stackDrained stack) s = .next (s.done (((D.foldl (fun (t : State) (e : Nat × BitVec 512) => (match placeOf t.cel.layout 8 e.1 with | some a => (t.putData [] a e.2).1 | none => t)) ((A.rehome false).replaceDiag (stack % 4))).celEvt 7 0 ((stack % 4) * 2 ^ 38)).celTidy))) ∧
  (∀ (s : State) (stack : Nat),
    (s.stk (stack % 4)).mode ≠ .draining ∨ (s.movePiece (stack % 4)).isNone = false →
    exec (.stackDrained stack) s = .next (s.done s)) ∧
  (∀ (s : State) (stack : Nat) (pass : Bool),
    (s.stk (stack % 4)).mode = .waking →
    pass = true →
    let A : State := s.setStk (stack % 4) { s.stk (stack % 4) with mode := .on, nodes := [], nodes2 := [] }
    exec (.stackWakeDone stack pass) s = .next (s.done (({ A with cel := { A.cel with lines := s.cel.lines.filter (fun e => lineStk e.1 != (stack % 4)), check := s.cel.check.filter (fun e => lineStk e.1 != (stack % 4)), cache := s.cel.cache.filter (fun e => !(lineStk e.1 == (stack % 4) && decide (tagBase ≤ lineIdx e.1))), used := s.cel.used.filter (fun a => !(lineStk a == (stack % 4) && decide (tagBase ≤ lineIdx a))), dirty := s.cel.dirty.filter (fun a => !(lineStk a == (stack % 4) && decide (tagBase ≤ lineIdx a))), poison := cutRange ((stack % 4) * 2 ^ 38) (2 ^ 38) s.cel.poison } } : State).rehome false))) ∧
  (∀ (s : State) (stack : Nat) (pass : Bool),
    (s.stk (stack % 4)).mode = .waking →
    pass = false →
    exec (.stackWakeDone stack pass) s = .next (s.done (s.loseStack (stack % 4)))) ∧
  (∀ (s : State) (stack : Nat),
    (s.stk (stack % 4)).mode = .on ∨ (s.stk (stack % 4)).mode = .draining ∨ (s.stk (stack % 4)).mode = .waking →
    ∃ t, exec (.stackLost stack) s = .next (s.done (State.celTidy t)) ∧ (t.stk (stack % 4)).mode = .lost ∧
      (t.stk (stack % 4)).free = 0 ∧ (t.stk (stack % 4)).share = 0 ∧ (t.word .CEL_INT_STAT).getLsbD 5 = true) ∧
  (∀ (s : State) (stack : Nat),
    (s.stk (stack % 4)).mode = .lost ∨ (s.stk (stack % 4)).mode = .off ∨ (s.stk (stack % 4)).mode = .absent →
    exec (.stackLost stack) s = .next (s.done s.celTidy)) ∧
  (∀ (s : State) (stack : Nat),
    (s.stk (stack % 4)).partner.isSome = true →
    (s.stk (stack % 4)).copyValid = false →
    s.cel.keys.isSome = true →
    let T : State := s.copyNodes (stack % 4) (hBase 2) copyLines
    exec (.copyRebuildDone stack) s = .next (s.done (((T.setStk (stack % 4) { T.stk (stack % 4) with copyValid := true }).celEvt 7 0 ((stack % 4) * 2 ^ 38)).celTidy))) ∧
  (∀ (s : State) (pass : Bool),
    pass = false ∨ s.flash.src = 0 →
    ∃ t, exec (.ovtReloadDone pass) s = .next (s.done t) ∧ t.cel.ovtBad = [] ∧
      t.flash.reloadFails = s.flash.reloadFails + s.cel.ovtBad.length ∧ (s.cel.ovtBad ≠ [] →
      (t.word .STA_INT_STAT).getLsbD 7 = true) ∧ t.cel.lines = s.cel.lines) ∧
  (∀ (s : State) (pass : Bool) (r : Nat × Nat),
    s.cel.ovtBad = [r] →
    pass = true →
    s.flash.src ≠ 0 →
    (List.range (r.2 / 1024 + 2)).all (fun b => decide (r.1 + r.2 ≤ (r.1 / 1024 + b) * 1024) || s.flash.blockOk s.flash.digests s.flash.src (r.1 / 1024 + b)) = true →
    exec (.ovtReloadDone pass) s = .next (s.done ((({ s with cel := { s.cel with ovtBad := [] } } : State).ovtWrite s.flash.src r.1 r.2).count .cel 0 (((placeOf s.cel.layout 3 r.1).map lineStk).getD 0) 15 r.2))) ∧
  (∀ (s : State) (o : Origin) (r : Region) (rest : List Region),
    s.grants o .CEL_RGW_CMD = true →
    (s.fld F.CEL_RGW_IDX_REGION 0 o.grp) ≤ 8 →
    s.cel.layout.filter (fun r => r.kind == (s.fld F.CEL_RGW_IDX_REGION 0 o.grp)) = r :: rest →
    ∃ t, exec (.rgwRead o) s = .next (s.done t) ∧ bits (t.word .CEL_RGW_DATA 0 o.grp) 31 31 = 1 ∧
      bits (t.word .CEL_RGW_DATA 0 o.grp) 30 27 = (s.fld F.CEL_RGW_IDX_REGION 0 o.grp) ∧
      (t.word .CEL_RGW_DATA 2 o.grp).toNat = r.first % 2 ^ 30 ∧ t.cel = s.cel ∧
      s.onlyWords t [.CEL_RGW_CMD, .CEL_RGW_DATA] o.grp = true) ∧
  (∀ (s : State) (o : Origin) (a : Nat),
    s.grants o .CEL_DGW_CMD = true →
    o.main = true →
    (s.fld F.CEL_DGW_OFF_LINE 0 o.grp) < s.diagLines →
    placeOf s.cel.layout 8 (s.fld F.CEL_DGW_OFF_LINE 0 o.grp) = some a →
    s.cel.keys.isNone = false →
    let D : State × PathRes × Option (BitVec 512) := (s.cmdErr .CEL_DGW_CMD o.grp 0).readData [] a
    exec (.dgwRead o) s = .next (s.done (match D.2.2 with | some w => D.1.celTidy.setWords .CEL_DGW_DATA ((List.range 16).map (fun j => wordOf w.toNat j)) o.grp | none => (D.1.celTidy.cmdErr .CEL_DGW_CMD o.grp 3).celEvt 8 0 0))) ∧
  (∀ (s : State) (o : Origin),
    s.grants o .CEL_DGW_CMD = true →
    o.main = true →
    s.diagLines ≤ s.fld F.CEL_DGW_OFF_LINE 0 o.grp →
    exec (.dgwRead o) s = .next (s.done ((s.cmdErr .CEL_DGW_CMD o.grp 2).celEvt 8 0 0))) ∧
  (∀ (s : State) (o : Origin) (a : Nat),
    s.grants o .CEL_DGW_CMD = true →
    o.main = true →
    (s.fld F.CEL_DGW_OFF_LINE 0 o.grp) < s.diagLines →
    placeOf s.cel.layout 8 (s.fld F.CEL_DGW_OFF_LINE 0 o.grp) = some a →
    s.cel.keys.isNone = false →
    exec (.dgwWrite o) s = .next (s.done ((s.cmdErr .CEL_DGW_CMD o.grp 0).celWrite a (BitVec.ofNat 512 (((s.words .CEL_DGW_DATA 16 o.grp).zipIdx.map (fun (e : W32 × Nat) => e.1.toNat * 2 ^ (32 * e.2))).sum)))))

/-- Where the reference switch, the adjustments of time, its owner and its snapshot complete. Rests on R201, R203, R204,
R205, R206, R207. -/
def Obligations.TimeAdjustmentsComplete : Prop :=
  (∀ (s : State),
    s.tim.refInt = false →
    let A : State := ((({ s.draw.2 with tim := { s.tim with refInt := true, cnt := s.tim.cnt + BitVec.ofNat 112 (s.draw.1.toNat % 65537 * 65536) } } : State).count .tim 0 0 8).setInt .TIM_INT_STAT 3)
    exec .referenceSwitch s = .next (s.done (if (s.tim.mode = TimeMode.locked ∨ s.tim.mode = TimeMode.acquiring) ∧
      s.tim.ptp.master.isSome = true then (A.timeTo .acquiring).setPtp (fun _ => { A.tim.ptp with good := 0 }) else A))) ∧
  (∀ (s : State),
    s.tim.refInt = true →
    exec .referenceSwitch s = .next (s.done s)) ∧
  (∀ (s : State) (o : Origin),
    s.grants o .TIM_ADJ_CMD = true →
    let T : Tim := s.tim.setRate s.counter (s.word .TIM_ADJ_RATE 0 o.grp)
    let E : Nat := (if s.par.st = PairState.standby then 4 else if s.ownsTime o = false then 1 else if 219902325 < (s.word .TIM_ADJ_RATE 0 o.grp).toInt.natAbs then 2 else if T.timeOf s.counter < 0 then 3 else 0)
    exec (.adjRate o) s = .next (s.done (s.mirrorTime (if E = 0 then (({ s with tim := T } : State).cmdErr .TIM_ADJ_CMD o.grp 0) else ((s.cmdErr .TIM_ADJ_CMD o.grp E).count .tim 0 0 4).setInt .TIM_INT_STAT 7)))) ∧
  (∀ (s : State) (o : Origin),
    s.grants o .TIM_ADJ_CMD = true →
    let T : Tim := s.tim.move (s.adjStepOf o.grp)
    let E : Nat := (if s.par.st = PairState.standby then 4 else if s.ownsTime o = false then 1 else if T.timeOf s.counter < 0 then 3 else 0)
    exec (.adjStep o) s = .next (s.done (s.mirrorTime (if E = 0 then (({ s with tim := T } : State).cmdErr .TIM_ADJ_CMD o.grp 0).stepped else ((s.cmdErr .TIM_ADJ_CMD o.grp E).count .tim 0 0 4).setInt .TIM_INT_STAT 7)))) ∧
  (∀ (s : State) (o : Origin),
    s.grants o .TIM_ADJ_CMD = true →
    let T : Tim := (s.tim.setRate s.counter (s.word .TIM_ADJ_RATE 0 o.grp)).move (s.adjStepOf o.grp)
    let E : Nat := (if s.par.st = PairState.standby then 4 else if s.ownsTime o = false then 1 else if 219902325 < (s.word .TIM_ADJ_RATE 0 o.grp).toInt.natAbs then 2 else if T.timeOf s.counter < 0 then 3 else 0)
    exec (.adjRateAndStep o) s = .next (s.done (s.mirrorTime (if E = 0 then (({ s with tim := T } : State).cmdErr .TIM_ADJ_CMD o.grp 0).stepped else ((s.cmdErr .TIM_ADJ_CMD o.grp E).count .tim 0 0 4).setInt .TIM_INT_STAT 7)))) ∧
  (∀ (s : State) (o : Origin),
    s.grants o .TIM_ADJ_CMD = true →
    let T : Tim := s.tim.setT s.counter (s.adjSetOf o.grp)
    let E : Nat := (if s.par.st = PairState.standby then 4 else if s.ownsTime o = false then 1 else if T.timeOf s.counter < 0 then 3 else 0)
    exec (.adjSet o) s = .next (s.done (s.mirrorTime (if E = 0 then (({ s with tim := T } : State).cmdErr .TIM_ADJ_CMD o.grp 0).stepped else ((s.cmdErr .TIM_ADJ_CMD o.grp E).count .tim 0 0 4).setInt .TIM_INT_STAT 7)))) ∧
  (∀ (s : State) (o : Origin) (owner : Nat),
    s.grants o .TIM_CTL = true →
    s.presence = true →
    owner % 4 ≠ s.fld F.TIM_CTL_OWNER →
    owner % 4 ≠ 3 →
    let A : State := s.setFld F.TIM_CTL_OWNER (owner % 4)
    exec (.ownerWrite o owner) s = .next (s.done (if s.tim.mode = TimeMode.following then A else A.timeTo (if owner % 4 = 2 then .freeRun else .holdover)))) ∧
  (∀ (s : State) (o : Origin) (owner : Nat),
    s.grants o .TIM_CTL = true →
    owner % 4 = s.fld F.TIM_CTL_OWNER ∨ s.presence = false ∨ owner % 4 = 3 →
    exec (.ownerWrite o owner) s = .next (s.done (if owner % 4 = s.fld F.TIM_CTL_OWNER then s else if s.presence = false then s.fault5 o .TIM_CTL 0 else s.cfgRej .TIM_CTL 0))) ∧
  (∀ (s : State) (o : Origin),
    s.grants o .TIM_SNAP = true →
    ∃ t, exec (.timeSnapshot o) s = .next (s.done t) ∧ t.word .TIM_CNT 0 = wordOf s.counter 0 ∧
      t.word .TIM_CNT 1 = wordOf s.counter 1 ∧ t.word .TIM_CNT 2 = wordOf s.counter 2 ∧ t.word .TIM_RATE = s.tim.rate ∧
      (t.word .TIM_DT_NS).toNat = (s.timeT % unitsPerSec).toNat / 65536 ∧ t.tim = s.tim ∧
      s.onlyWords t [.TIM_CNT, .TIM_DT_FRAC, .TIM_DT_NS, .TIM_DT_S_LO, .TIM_DT_S_HI, .TIM_OFS, .TIM_RATE, .TIM_ANCHOR] 0 = true)

/-- Where PTP, the host's lock, the holdover age and the time pins complete. Rests on R207, R209, R211, R215, R216, R217,
R219, R220. -/
def Obligations.TimeSourcesAndPinsComplete : Prop :=
  (∀ (s : State) (port : W64) (seq : Nat) (twoStep : Bool) (t1 corr : Int),
    s.ptpOn = true →
    let A : State := s.count .tim 0 0 6
    exec (.ptpSyncReceived port seq twoStep t1 corr) s = .next (s.done (s.mirrorTime (if s.tim.ptp.master ≠ some port then A else if twoStep then A.setPtp (fun p => { p with pendT1 := some (seq, s.timeT - corr) }) else A.syncMeasured t1 (s.timeT - corr))))) ∧
  (∀ (s : State) (port : W64) (seq : Nat) (twoStep : Bool) (t1 corr : Int),
    s.ptpOn = false →
    exec (.ptpSyncReceived port seq twoStep t1 corr) s = .next (s.done s)) ∧
  (∀ (s : State) (port gm : W64) (p1 c a v p2 st : Nat),
    s.ptpOn = true →
    exec (.ptpMessageReceived (.announce port p1 c a v p2 gm st)) s = .next (s.done (s.mirrorTime (s.setPtp (fun q => { q with foreign := q.foreign.filter (fun (e : W64 × List Nat) => e.1 != port) ++ [(port, [p1, c, a, v, p2, gm.toNat, st, port.toNat])] })).bmca))) ∧
  (∀ (s : State) (port : W64) (q : Nat) (t1 t2 : Int),
    s.ptpOn = true →
    s.tim.ptp.pendT1 = some (q, t2) →
    s.tim.ptp.master = some port →
    exec (.ptpMessageReceived (.followUp port q t1)) s = .next (s.done (s.mirrorTime (s.syncMeasured t1 t2)))) ∧
  (∀ (s : State) (port : W64) (q : Nat),
    s.ptpOn = true →
    exec (.ptpMessageReceived (.delayReq port q)) s = .next (s.done (if s.ptpMaster = true ∧
      s.flag F.TIM_CTL_PROFILE = false then s.ptpOut 9 q else s))) ∧
  (∀ (s : State) (port : W64) (q : Nat) (t1 t2 t3 t4 : Int),
    s.ptpOn = true →
    s.flag F.TIM_CTL_PROFILE = false →
    s.tim.ptp.master = some port →
    s.tim.ptp.reqT3 = some (q, t3) →
    s.tim.ptp.t12 = some (t1, t2) →
    exec (.ptpMessageReceived (.delayResp port q t4)) s = .next (s.done (s.mirrorTime (s.setPtp (fun x => { x with delay := ((t2 - t1) + (t4 - t3)) / 2, reqT3 := none }))))) ∧
  (∀ (s : State) (port : W64) (q : Nat),
    s.ptpOn = true →
    exec (.ptpMessageReceived (.pdelayReq port q)) s = .next (s.done (s.mirrorTime (if s.flag F.TIM_CTL_PROFILE = true then (s.ptpOut 3 q).ptpOut 10 q else s)))) ∧
  (∀ (s : State) (port : W64) (q : Nat) (t1 t2 t3 : Int),
    s.ptpOn = true →
    s.flag F.TIM_CTL_PROFILE = true →
    s.tim.ptp.reqT3 = some (q, t1) →
    exec (.ptpMessageReceived (.pdelayResp port q t2 t3)) s = .next (s.done (s.mirrorTime (s.setPtp (fun x => { x with delay := ((s.timeT - t1) - (t3 - t2)) / 2, reqT3 := none }))))) ∧
  (∀ (s : State) (m : PtpMsg),
    s.ptpOn = false →
    exec (.ptpMessageReceived m) s = .next (s.done s)) ∧
  (∀ (s : State) (k : PtpTimer),
    s.ptpMaster = true →
    k ≠ PtpTimer.delayReq →
    exec (.ptpMessageTimer k) s = .next (s.done (if k = PtpTimer.sync then (s.ptpOut 8 s.tim.ptp.seq).ptpSend 0 else s.ptpSend 11))) ∧
  (∀ (s : State) (k : PtpTimer),
    s.ptpOn = true →
    s.tim.ptp.master.isSome = true ∨ s.flag F.TIM_CTL_PROFILE = true →
    k = PtpTimer.delayReq →
    exec (.ptpMessageTimer k) s = .next (s.done ((s.setPtp (fun p => { p with reqT3 := some (p.seq, s.timeT) })).ptpSend (if s.flag F.TIM_CTL_PROFILE = true then 2 else 1)))) ∧
  (∀ (s : State) (k : PtpTimer),
    s.ptpOn = false →
    exec (.ptpMessageTimer k) s = .next (s.done s)) ∧
  (∀ (s : State) (m : W64),
    s.tim.ptp.master = some m →
    let A : State := (s.setPtp (fun p => { p with foreign := p.foreign.filter (fun (e : W64 × List Nat) => e.1 != m), master := none, good := 0 })).count .tim 0 0 7
    exec .announceTimeout s = .next (s.done (if s.tim.mode = TimeMode.locked ∨ s.tim.mode = TimeMode.acquiring then A.timeTo .holdover else A))) ∧
  (∀ (s : State),
    s.tim.ptp.master = none →
    exec .announceTimeout s = .next (s.done s)) ∧
  (∀ (s : State) (o : Origin) (lock : Bool),
    s.grants o .TIM_HOST = true →
    let A : State := s.setFld F.TIM_HOST_HOST_LOCK (b2n lock)
    exec (.hostLockWrite o lock) s = .next (s.done (if A.fld F.TIM_CTL_OWNER ≠ 1 ∨ o.pfIa = false then A else if lock = true ∧
      (s.tim.mode = TimeMode.freeRun ∨ s.tim.mode = TimeMode.holdover) then A.timeTo .locked else if lock = false ∧
      s.tim.mode = TimeMode.locked then A.timeTo .holdover else A))) ∧
  (∀ (s : State),
    exec .hostLockWatchdog s = .next (s.done (if s.fld F.TIM_CTL_OWNER = 1 ∧
      s.tim.mode = TimeMode.locked then s.timeTo .holdover else s))) ∧
  (∀ (s : State),
    s.tim.mode ≠ .locked →
    s.tim.mode ≠ .freeRun →
    exec .holdoverAgeExpired s = .next (s.done (({ s with tim := { s.tim with age0 := min s.tim.age0 ((s.counter : Int) - ((s.fld F.TIM_HOST_HOLD_S : Nat) : Int) * unitsPerSec) } } : State).relock))) ∧
  (∀ (s : State),
    s.tim.mode = .locked ∨ s.tim.mode = .freeRun →
    exec .holdoverAgeExpired s = .next (s.done s)) ∧
  (∀ (s : State) (pin : Nat),
    s.flag F.TIM_CAP_CFG_EN (pin % 5) = true →
    (pin % 5) = 0 ∨ s.flag F.TIM_CAP_CFG_OUT (pin % 5) = false →
    exec (.captureEdge pin) s = .next (s.done (if 16 ≤ (s.cap (pin % 5)).fifo.length then (s.count .tim 0 0 5).setInt .TIM_INT_STAT 5 else (s.setCap (pin % 5) { fifo := (s.cap (pin % 5)).fifo ++ [(s.timeT, s.counter)] }).setInt .TIM_INT_STAT 4))) ∧
  (∀ (s : State) (pin : Nat),
    s.flag F.TIM_CAP_CFG_EN (pin % 5) = false →
    exec (.captureEdge pin) s = .next (s.done s)) ∧
  (∀ (s : State) (o : Origin) (pin : Nat) (t : Int) (c : Nat) (l : List (Int × Nat)),
    s.grants o .TIM_CAP_CFG (pin % 5) = true →
    (s.cap (pin % 5)).fifo = (t, c) :: l →
    ∃ u, exec (.capturePop o pin) s = .next (s.done u) ∧ (u.cap (pin % 5)).fifo = l ∧
      (u.word .TIM_CAP_NS (pin % 5)).toNat = (t % unitsPerSec).toNat / 65536 ∧
      u.word .TIM_CAP_S_LO (pin % 5) = wordOf (lowBits 48 (t / unitsPerSec)) 0 ∧ u.tim.cnt = s.tim.cnt ∧
      u.frames = s.frames ∧ u.cnts = s.cnts) ∧
  (∀ (s : State) (o : Origin) (pin : Nat),
    s.grants o .TIM_CAP_CFG (pin % 5) = true →
    (s.cap (pin % 5)).fifo = [] →
    exec (.capturePop o pin) s = .next (s.done s)) ∧
  (∀ (s : State) (pin : Nat) (t : Int),
    s.outOn (pin % 5) = true →
    (s.outPin (pin % 5)).next = some t →
    (s.outPin (pin % 5)).high = false →
    exec (.outputEdge pin) s = .next (s.done (if s.timeT < t then s else (s.setOut (pin % 5) { s.outPin (pin % 5) with high := true }).emit (.pin (pin % 5) (true != s.flag F.TIM_OUT_CFG_LOW (pin % 5)))))) ∧
  (∀ (s : State) (pin : Nat) (t : Int),
    s.outOn (pin % 5) = true →
    (s.outPin (pin % 5)).next = some t →
    (s.outPin (pin % 5)).high = true →
    t + ((s.fld F.TIM_OUT_WIDTH_NS (pin % 5) * 65536 : Nat) : Int) ≤ s.timeT →
    exec (.outputEdge pin) s = .next (s.done ((s.setOut (pin % 5) { s.outPin (pin % 5) with high := false, done := s.outPeriod (pin % 5) == 0, next := if s.outPeriod (pin % 5) = 0 then none else some (t + ((s.outPeriod (pin % 5) : Nat) : Int)) }).emit (.pin (pin % 5) (false != s.flag F.TIM_OUT_CFG_LOW (pin % 5)))))) ∧
  (∀ (s : State) (pin : Nat),
    (s.outPin (pin % 5)).next = none →
    exec (.outputEdge pin) s = .next (s.done s))

/-- Where the edges of the pair's pads, the settling time, a conflict's end and a lease renewal complete. Rests on R224,
R225, R226, R227, R228, R241. -/
def Obligations.PairPadEdgesComplete : Prop :=
  (∀ (s : State),
    let A : State := ({ s with par := { s.par with actIn := true, settled := false } } : State).gateLook
    let B : State := (A.count .par 0 0 9).parInt 3
    exec .actInRise s = .next (s.done (if s.par.actOut = false then A else if s.par.gate = true ∨ B.slotNo = 0 then { B with par := { B.par with conflict := true, keepClaim := true } } else B.endAct))) ∧
  (∀ (s : State),
    let A : State := { s with par := { s.par with actIn := false, conflict := false, keepClaim := false } }
    exec .actInFall s = .next (s.done (if s.par.st = PairState.standby ∧
      s.par.synced = true then A.claim (s.par.handRec.getD .recovery) else A))) ∧
  (∀ (s : State),
    exec .boltSettled s = .next (s.done (if s.par.actIn = true then s else ({ s with par := { s.par with settled := true } } : State).gateOpened))) ∧
  (∀ (s : State),
    s.par.conflict = true →
    s.par.keepClaim = true →
    s.par.actIn = true →
    s.leaseValid = true →
    exec .conflictTimeout s = .next (s.done (({ s with par := { s.par with conflict := false } } : State).fencePartner))) ∧
  (∀ (s : State),
    s.par.conflict = false ∨ s.par.keepClaim = false ∨ s.par.actIn = false ∨ s.leaseValid = false →
    exec .conflictTimeout s = .next (s.done s)) ∧
  (∀ (s : State),
    exec .fenceInHigh s = .next (s.done { (((((({ s with par := { s.par with fenceIn := true } } : State).setAct false).gateLook).endBound).parTo .fenced).resetTo 2 4) with par := { (((((({ s with par := { s.par with fenceIn := true } } : State).setAct false).gateLook).endBound).parTo .fenced).resetTo 2 4).par with st := .fenced } })) ∧
  (∀ (s : State),
    exec .fenceInLow s = .next (s.done (if s.par.st = PairState.fenced then { s with par := { s.par with fenceIn := false, st := .start } } else { s with par := { s.par with fenceIn := false } }))) ∧
  (∀ (s : State),
    exec .fencePulseEnd s = .next (s.done (if s.par.fenceOut = true then ({ s with par := { s.par with fenceOut := false } } : State).emit (.pin 11 false) else s))) ∧
  (∀ (s : State),
    let A : State := ({ s with par := { s.par with beatOk := true } } : State).level 21 false
    exec .beatInEdge s = .next (s.done (if A.par.synced = true ∧
      msUnits (A.fld F.PAR_TIME0_LEASE_MS + 1) ≤ A.quiet then A.syncLost else A))) ∧
  (∀ (s : State),
    let A : State := { s with par := { s.par with beatOk := false } }
    exec .beatLapse s = .next (s.done (if s.par.st = PairState.standby ∧
      s.par.synced = true then (if msUnits (s.fld F.PAR_TIME0_LEASE_MS) ≤ s.quiet then (if A.leaseValid = true then A.fencePartner.claim .recovery else A) else (A.parInt 8).level 21 true) else A))) ∧
  (∀ (s : State),
    s.pairRuns = true →
    exec .leaseRenewal s = .next (s.done (((({ s with par := { s.par with leaseRun := true } } : State).leaseLook).soloTry).startClaim))) ∧
  (∀ (s : State),
    s.pairRuns = false →
    exec .leaseRenewal s = .next (s.done s))

/-- Where the lease's end and the timers of the tether, discovery and hand-over complete. Rests on R226, R229, R230, R231,
R232, R233, R234, R236, R239, R241, R243, R244. -/
def Obligations.PairTimersComplete : Prop :=
  (∀ (s : State),
    exec .leaseExpired s = .next (s.done (if s.par.leaseRun = true then ({ s with par := { s.par with leaseRun := false }, start := { s.start with fwDead := s.start.fwDead || !s.alarm.isolated } } : State).leaseLook else s))) ∧
  (∀ (s : State),
    exec .statusRecordTimer s = .next (s.done (if s.leaseValid = true ∧ s.onTether = true then s.sendStatus else s))) ∧
  (∀ (s : State),
    s.isActive = true →
    s.hasStandby = true →
    s.leaseValid = true →
    let A : State := s.fencePartner.ownConfirm
    exec .tetherLost s = .next (s.done (if A.par.st = PairState.solo then A else A.parTo .solo))) ∧
  (∀ (s : State),
    s.isActive = true →
    s.hasStandby = false →
    s.par.resync = true →
    exec .tetherLost s = .next (s.done (({ s with par := { s.par with ptSt := .start } } : State).ownConfirm.parInt 4))) ∧
  (∀ (s : State),
    s.isActive = false →
    exec .tetherLost s = .next (s.done s)) ∧
  (∀ (s : State),
    s.onTether = true →
    s.soloRuns = false →
    s.par.st = .start →
    s.par.keyedRx = false →
    s.drbgKOk = true →
    exec .helloTimer s = .next (s.done (if s.tetherKeyed = true then s.helloKeyed else s.helloPlain))) ∧
  (∀ (s : State),
    s.par.st ≠ .start ∨ s.par.keyedRx = true ∨ s.soloRuns = true →
    exec .helloTimer s = .next (s.done s)) ∧
  (∀ (s : State),
    s.mayTether = true →
    exec .recordResend s = .next (s.done (s.par.unacked.foldl (fun (t : State) (r : TxRec) => (t.count .par 0 0 2).emit (.tether r.seq r.body true)) s))) ∧
  (∀ (s : State),
    s.mayTether = false →
    exec .recordResend s = .next (s.done s)) ∧
  (∀ (s : State),
    let A : State := { s with par := { s.par with rxDirty := [] } }
    exec .rxMirrorTimer s = .next (s.done (if s.par.rxDirty = [] then s else A.tell 0x13 (.rxReplay (A.replayOf s.par.rxDirty))))) ∧
  (∀ (s : State),
    exec .timeRecordTimer s = .next (s.done (if s.isActive = true then s.tell 0x30 (.time s.tim.rate s.timeT) else s))) ∧
  (∀ (s : State),
    s.par.st = .start →
    s.pairRuns = true →
    s.soloRuns = false →
    s.par.keyedRx = false ∨ s.par.ptSt.isAct = false →
    exec .discoveryTimeout s = .next (s.done (if s.par.actIn = true then { s with par := { s.par with noTether := true } } else s.claimSolo))) ∧
  (∀ (s : State),
    s.par.st ≠ .start ∨ s.soloRuns = true →
    exec .discoveryTimeout s = .next (s.done s)) ∧
  (∀ (s : State) (role : PairState),
    s.par.handing = some (role, 0) →
    exec .handoverDrainEnd s = .next (s.done { (s.sendRec 0x50 (.handover ((s.sas.filter (fun (e : Nat × Sa) => decide (e.1 < 8192) && e.2.installed)).map (fun (e : Nat × Sa) => (e.1, e.2.pn - 1))) ((s.cas.filter (fun (e : Nat × Ca) => e.2.active)).map (fun (e : Nat × Ca) => (e.1, e.2.mn))) role)) with par := { (s.sendRec 0x50 (.handover ((s.sas.filter (fun (e : Nat × Sa) => decide (e.1 < 8192) && e.2.installed)).map (fun (e : Nat × Sa) => (e.1, e.2.pn - 1))) ((s.cas.filter (fun (e : Nat × Ca) => e.2.active)).map (fun (e : Nat × Ca) => (e.1, e.2.mn))) role)).par with handing := some (role, (s.sendRec 0x50 (.handover ((s.sas.filter (fun (e : Nat × Sa) => decide (e.1 < 8192) && e.2.installed)).map (fun (e : Nat × Sa) => (e.1, e.2.pn - 1))) ((s.cas.filter (fun (e : Nat × Ca) => e.2.active)).map (fun (e : Nat × Ca) => (e.1, e.2.mn))) role)).par.txSeq) } })) ∧
  (∀ (s : State),
    s.par.handing = none →
    exec .handoverDrainEnd s = .next (s.done s)) ∧
  (∀ (s : State),
    exec .handoverTimeout s = .next (s.done (if s.par.handing.isSome = true then (s.actDown.parTo .start).ownConfirm else s)))

/-- Where PAR_CMD and the times of TEST and RECOVERY complete. Rests on R238, R241, R242, R244, R246. -/
def Obligations.PairCommandsComplete : Prop :=
  (∀ (s : State) (o : Origin),
    s.grants o .PAR_CMD = true →
    let E : Nat := if o ≠ Origin.pf0 ∧
      o ≠ Origin.iaholt then 1 else if s.presence = false then 3 else if s.par.st ≠ PairState.active then 2 else if s.hasStandby = false then 4 else 0
    let A : State := s.cmdErr .PAR_CMD o.grp E
    exec (.parTest o) s = .next (s.done (if E = 0 then A.parTo .test else if E = 3 then (A.parInt 9).fault5 o .PAR_CMD 0 else A.parInt 9))) ∧
  (∀ (s : State) (o : Origin),
    s.grants o .PAR_CMD = true →
    let E : Nat := if o ≠ Origin.pf0 ∧ o ≠ Origin.iaholt then 1 else if s.par.st ≠ PairState.test then 2 else 0
    let A : State := s.cmdErr .PAR_CMD o.grp E
    exec (.parExit o) s = .next (s.done (if E = 0 then A.parTo .active else if E = 3 then (A.parInt 9).fault5 o .PAR_CMD 0 else A.parInt 9))) ∧
  (∀ (s : State) (o : Origin),
    s.grants o .PAR_CMD = true →
    let E : Nat := if o ≠ Origin.pf0 ∧
      o ≠ Origin.iaholt then 1 else if s.presence = false then 3 else if s.par.st ≠ PairState.test ∧
      s.par.st ≠ PairState.recovery then 2 else if s.hasStandby = false then 4 else 0
    let A : State := s.cmdErr .PAR_CMD o.grp E
    exec (.parSwitch o) s = .next (s.done (if E = 0 then (if s.par.handing.isSome = true then A else { A with par := { s.par with handing := some (if s.par.st = PairState.test then .test else .active, 0), draining := true } }) else if E = 3 then (A.parInt 9).fault5 o .PAR_CMD 0 else A.parInt 9))) ∧
  (∀ (s : State) (o : Origin),
    s.grants o .PAR_CMD = true →
    let E : Nat := if o ≠ Origin.pf0 ∧
      o ≠ Origin.iaholt then 1 else if s.presence = false then 3 else if s.isActive = false then 2 else 0
    let A : State := s.cmdErr .PAR_CMD o.grp E
    exec (.parAcceptDigest o) s = .next (s.done (if E = 0 then { A with par := { s.par with accDigest := some s.par.ptDigest } } else if E = 3 then (A.parInt 9).fault5 o .PAR_CMD 0 else A.parInt 9))) ∧
  (∀ (s : State),
    exec .testMaxExpired s = .next (s.done (if s.par.st = PairState.test then s.parTo .active else s))) ∧
  (∀ (s : State),
    exec .recoverHoldExpired s = .next (s.done (if s.par.st = PairState.recovery ∧
      s.hasStandby = true then s.parTo .active else s))) ∧
  (∀ (s : State),
    exec .recoverMaxExpired s = .next (s.done (if s.par.st = PairState.recovery ∧
      s.hasStandby = false then s.parTo .solo else s)))

/-- Where HELLO, STATUS, ACK and the records of SAs complete on the member that receives them. Rests on R232, R233, R234,
R235, R236, R237, R238. -/
def Obligations.TetherRecordsComplete : Prop :=
  (∀ (s : State) (seq : Nat) (tag : TTag) (serial : W64) (slot : Nat) (st : PairState) (fmt : Nat) (digest : List Byte) (base : BitVec 48) (nonce : List Byte) (prefer actOut : Bool),
    s.onTether = true →
    s.tetherKeyed = true →
    tag = .ok →
    seq = s.par.rxSeq + 1 →
    exec (.helloReceived seq tag serial slot st fmt digest base nonce prefer actOut) s = .next (s.done ((((({ s with par := { s.par with tetherUp := 3#2, rxSeq := seq, lastRx := s.counter } } : State).count .par 0 0 1)).helloIn st digest base prefer actOut).sendAck))) ∧
  (∀ (s : State) (seq : Nat) (tag : TTag) (serial : W64) (slot : Nat) (st : PairState) (fmt : Nat) (digest : List Byte) (base : BitVec 48) (nonce : List Byte) (prefer actOut : Bool),
    tag = .zero →
    exec (.helloReceived seq tag serial slot st fmt digest base nonce prefer actOut) s = .next (s.done (if s.onTether = true ∧
      s.soloByConfig = false ∧ s.drbgKOk = true then s.helloZero seq serial fmt digest base nonce else s))) ∧
  (∀ (s : State) (seq : Nat) (tag : TTag) (st : PairState) (shed : Nat) (lease synced : Bool),
    s.onTether = true →
    s.tetherKeyed = true →
    tag = .ok →
    seq = s.par.rxSeq + 1 →
    exec (.statusReceived seq tag st shed lease synced) s = .next (s.done ((((({ s with par := { s.par with tetherUp := 3#2, rxSeq := seq, lastRx := s.counter } } : State).count .par 0 0 1)).statusIn st shed lease synced).sendAck))) ∧
  (∀ (s : State) (seq : Nat) (tag : TTag) (st : PairState) (shed : Nat) (lease synced : Bool),
    s.onTether = true →
    s.tetherKeyed = true →
    tag ≠ .ok →
    exec (.statusReceived seq tag st shed lease synced) s = .next (s.done ((((s.count .par 0 0 4).parInt 7).raise 22).syncLost))) ∧
  (∀ (s : State) (seq : Nat) (tag : TTag) (st : PairState) (shed : Nat) (lease synced : Bool),
    s.onTether = true →
    s.tetherKeyed = true →
    tag = .ok →
    seq ≠ s.par.rxSeq + 1 →
    exec (.statusReceived seq tag st shed lease synced) s = .next (s.done ((s.count .par 0 0 3).sendAck))) ∧
  (∀ (s : State) (seq : Nat) (tag : TTag) (st : PairState) (shed : Nat) (lease synced : Bool),
    s.onTether = false ∨ s.tetherKeyed = false →
    exec (.statusReceived seq tag st shed lease synced) s = .next (s.done s)) ∧
  (∀ (s : State) (seq : Nat) (tag : TTag) (upTo : Nat),
    s.onTether = true →
    s.tetherKeyed = true →
    tag = .ok →
    seq = s.par.rxSeq + 1 →
    exec (.ackReceived seq tag upTo) s = .next (s.done (((({ s with par := { s.par with tetherUp := 3#2, rxSeq := seq, lastRx := s.counter } } : State).count .par 0 0 1)).ackIn upTo))) ∧
  (∀ (s : State) (seq : Nat) (tag : TTag) (ca : Nat) (wrap : List Byte) (klen : Nat) (kn : W32) (an : Nat) (sscis : List (W64 × W32)) (salt : BitVec 96),
    s.onTether = true →
    s.tetherKeyed = true →
    tag = .ok →
    seq = s.par.rxSeq + 1 →
    exec (.sakRecord seq tag ca wrap klen kn an sscis salt) s = .next (s.done ((if s.isActive = true ∨ wrap.length ≠ klen + 8 then ((({ s with par := { s.par with tetherUp := 3#2, rxSeq := seq, lastRx := s.counter } } : State).count .par 0 0 1)) else ((({ s with par := { s.par with tetherUp := 3#2, rxSeq := seq, lastRx := s.counter } } : State).count .par 0 0 1)).sakIn (ca % 2048) wrap kn (an % 4) sscis salt).sendAck))) ∧
  (∀ (s : State) (seq : Nat) (tag : TTag) (op sa pn : Nat),
    s.onTether = true →
    s.tetherKeyed = true →
    tag = .ok →
    seq = s.par.rxSeq + 1 →
    s.isActive = false →
    op = 4 →
    exec (.saCommandRecord seq tag op sa pn) s = .next (s.done ((((({ s with par := { s.par with tetherUp := 3#2, rxSeq := seq, lastRx := s.counter } } : State).count .par 0 0 1)).setSa sa { s.sa sa with pn := max (s.sa sa).pn pn }).sendAck))) ∧
  (∀ (s : State) (seq : Nat) (tag : TTag) (op sa pn : Nat),
    s.onTether = true →
    s.tetherKeyed = true →
    tag = .ok →
    seq = s.par.rxSeq + 1 →
    s.isActive = false →
    op ≠ 4 →
    op ≠ 5 →
    let A : State := ((({ s with par := { s.par with tetherUp := 3#2, rxSeq := seq, lastRx := s.counter } } : State).count .par 0 0 1))
    exec (.saCommandRecord seq tag op sa pn) s = .next (s.done ((if op = 2 then A.mirrorInstall sa pn else if op = 3 then A.retireSa sa else if op = 6 then A.disarmSa sa else if op = 7 then A.switchSa sa else A).sendAck))) ∧
  (∀ (s : State) (seq : Nat) (tag : TTag) (op sa pn : Nat),
    s.onTether = true →
    s.tetherKeyed = true →
    tag = .ok →
    seq = s.par.rxSeq + 1 →
    s.isActive = false →
    op = 5 →
    let A : State := ((({ s with par := { s.par with tetherUp := 3#2, rxSeq := seq, lastRx := s.counter } } : State).count .par 0 0 1))
    exec (.saCommandRecord seq tag op sa pn) s = .next (s.done ((match (A.caOf (sa / 4)).bind (fun n => (A.ca n).epoch) with | some t => A.armSa sa t | none => A).sendAck))) ∧
  (∀ (s : State) (seq : Nat) (tag : TTag) (op sa pn : Nat),
    s.onTether = true →
    s.tetherKeyed = true →
    tag = .ok →
    seq = s.par.rxSeq + 1 →
    s.isActive = true →
    exec (.saCommandRecord seq tag op sa pn) s = .next (s.done (((({ s with par := { s.par with tetherUp := 3#2, rxSeq := seq, lastRx := s.counter } } : State).count .par 0 0 1)).sendAck))) ∧
  (∀ (s : State) (seq : Nat) (tag : TTag) (sa lease : Nat),
    s.onTether = true →
    s.tetherKeyed = true →
    tag = .ok →
    seq = s.par.rxSeq + 1 →
    s.isActive = false →
    exec (.pnLeaseRecord seq tag sa lease) s = .next (s.done (({ ((({ s with par := { s.par with tetherUp := 3#2, rxSeq := seq, lastRx := s.counter } } : State).count .par 0 0 1)) with par := { ((({ s with par := { s.par with tetherUp := 3#2, rxSeq := seq, lastRx := s.counter } } : State).count .par 0 0 1)).par with saLease := s.par.saLease.put (fun _ => 0) sa (max (s.par.saLease.look (fun _ => 0) sa) lease) } } : State).sendAck))) ∧
  (∀ (s : State) (seq : Nat) (tag : TTag) (sa lease : Nat),
    s.onTether = true →
    s.tetherKeyed = true →
    tag = .ok →
    seq = s.par.rxSeq + 1 →
    s.isActive = true →
    exec (.pnLeaseRecord seq tag sa lease) s = .next (s.done (((({ s with par := { s.par with tetherUp := 3#2, rxSeq := seq, lastRx := s.counter } } : State).count .par 0 0 1)).sendAck))) ∧
  (∀ (s : State) (seq : Nat) (tag : TTag) (batch : List (Nat × Nat × Nat × W64)),
    s.onTether = true →
    s.tetherKeyed = true →
    tag = .ok →
    seq = s.par.rxSeq + 1 →
    s.isActive = false →
    exec (.receiveReplayRecord seq tag batch) s = .next (s.done (({ ((({ s with par := { s.par with tetherUp := 3#2, rxSeq := seq, lastRx := s.counter } } : State).count .par 0 0 1)) with par := { ((({ s with par := { s.par with tetherUp := 3#2, rxSeq := seq, lastRx := s.counter } } : State).count .par 0 0 1)).par with mirRx := batch.foldl (fun (t : Tab (Nat × Nat × W64)) (e : Nat × Nat × Nat × W64) => t.put (fun _ => (0, 0, 0#64)) e.1 e.2) s.par.mirRx } } : State).sendAck))) ∧
  (∀ (s : State) (seq : Nat) (tag : TTag) (batch : List (Nat × Nat × Nat × W64)),
    s.onTether = true →
    s.tetherKeyed = true →
    tag = .ok →
    seq = s.par.rxSeq + 1 →
    s.isActive = true →
    exec (.receiveReplayRecord seq tag batch) s = .next (s.done (((({ s with par := { s.par with tetherUp := 3#2, rxSeq := seq, lastRx := s.counter } } : State).count .par 0 0 1)).sendAck)))

/-- Where the records of key agreement, time, CAKs and the hand-over complete on a member that is not active. Rests on
R232, R233, R234, R235, R236, R237. -/
def Obligations.MirrorRecordsComplete : Prop :=
  (∀ (s : State) (seq : Nat) (tag : TTag) (ca : Nat) (mi : BitVec 96) (isKs : Bool) (ksSci : W64) (kn : W32) (an oldAn : Nat),
    s.onTether = true →
    s.tetherKeyed = true →
    tag = .ok →
    seq = s.par.rxSeq + 1 →
    s.isActive = false →
    exec (.mkaStateRecord seq tag ca mi isKs ksSci kn an oldAn) s = .next (s.done ((((({ s with par := { s.par with tetherUp := 3#2, rxSeq := seq, lastRx := s.counter } } : State).count .par 0 0 1)).setCa (ca % 2048) { (s.ca (ca % 2048)) with active := true, peers := (if (s.ca (ca % 2048)).mi ≠ mi ∧ kn = 0 then [] else (s.ca (ca % 2048)).peers), mi := mi, isKs := isKs, ksSci := ksSci, kn := kn, latestAn := an % 4, oldAn := oldAn % 4 }).sendAck))) ∧
  (∀ (s : State) (seq : Nat) (tag : TTag) (ca : Nat) (mi : BitVec 96) (isKs : Bool) (ksSci : W64) (kn : W32) (an oldAn : Nat),
    s.onTether = true →
    s.tetherKeyed = true →
    tag = .ok →
    seq = s.par.rxSeq + 1 →
    s.isActive = true →
    exec (.mkaStateRecord seq tag ca mi isKs ksSci kn an oldAn) s = .next (s.done (((({ s with par := { s.par with tetherUp := 3#2, rxSeq := seq, lastRx := s.counter } } : State).count .par 0 0 1)).sendAck))) ∧
  (∀ (s : State) (seq : Nat) (tag : TTag) (ca lease : Nat),
    s.onTether = true →
    s.tetherKeyed = true →
    tag = .ok →
    seq = s.par.rxSeq + 1 →
    s.isActive = false →
    exec (.mnLeaseRecord seq tag ca lease) s = .next (s.done (({ ((({ s with par := { s.par with tetherUp := 3#2, rxSeq := seq, lastRx := s.counter } } : State).count .par 0 0 1)) with par := { ((({ s with par := { s.par with tetherUp := 3#2, rxSeq := seq, lastRx := s.counter } } : State).count .par 0 0 1)).par with mnLease := s.par.mnLease.put (fun _ => 0) (ca % 2048) (max (s.par.mnLease.look (fun _ => 0) (ca % 2048)) lease) } } : State).sendAck))) ∧
  (∀ (s : State) (seq : Nat) (tag : TTag) (ca lease : Nat),
    s.onTether = true →
    s.tetherKeyed = true →
    tag = .ok →
    seq = s.par.rxSeq + 1 →
    s.isActive = true →
    exec (.mnLeaseRecord seq tag ca lease) s = .next (s.done (((({ s with par := { s.par with tetherUp := 3#2, rxSeq := seq, lastRx := s.counter } } : State).count .par 0 0 1)).sendAck))) ∧
  (∀ (s : State) (seq : Nat) (tag : TTag) (ca : Nat) (mi : BitVec 96) (mn : Nat) (sci : W64) (live : Bool),
    s.onTether = true →
    s.tetherKeyed = true →
    tag = .ok →
    seq = s.par.rxSeq + 1 →
    s.isActive = false →
    live = false →
    (s.ca (ca % 2048)).peers.find? (fun p => p.mi == mi) = none →
    exec (.mkaPeerRecord seq tag ca mi mn sci live) s = .next (s.done ((((({ s with par := { s.par with tetherUp := 3#2, rxSeq := seq, lastRx := s.counter } } : State).count .par 0 0 1)).setCa (ca % 2048) { (s.ca (ca % 2048)) with peers := (s.ca (ca % 2048)).peers ++ [({ mi := mi, mn := mn, sci := sci, prio := if sci = (s.ca (ca % 2048)).ksSci then 0 else 128, live := false, rsc := none } : Peer)] }).sendAck))) ∧
  (∀ (s : State) (seq : Nat) (tag : TTag) (ca : Nat) (mi : BitVec 96) (mn : Nat) (sci : W64) (live : Bool) (p : Peer),
    s.onTether = true →
    s.tetherKeyed = true →
    tag = .ok →
    seq = s.par.rxSeq + 1 →
    s.isActive = false →
    (s.ca (ca % 2048)).peers.find? (fun p => p.mi == mi) = some p →
    p.rsc.isSome = true ∨ live = false →
    exec (.mkaPeerRecord seq tag ca mi mn sci live) s = .next (s.done ((if live = true then (({ ((({ s with par := { s.par with tetherUp := 3#2, rxSeq := seq, lastRx := s.counter } } : State).count .par 0 0 1)) with par := { ((({ s with par := { s.par with tetherUp := 3#2, rxSeq := seq, lastRx := s.counter } } : State).count .par 0 0 1)).par with lastPeer := if live = true then some (ca % 2048, mi) else s.par.lastPeer } } : State)).setPeer (ca % 2048) { p with mn := mn, sci := sci, live := true } else if p.live = true then ((({ ((({ s with par := { s.par with tetherUp := 3#2, rxSeq := seq, lastRx := s.counter } } : State).count .par 0 0 1)) with par := { ((({ s with par := { s.par with tetherUp := 3#2, rxSeq := seq, lastRx := s.counter } } : State).count .par 0 0 1)).par with lastPeer := if live = true then some (ca % 2048, mi) else s.par.lastPeer } } : State)).setCa (ca % 2048) { (s.ca (ca % 2048)) with peers := (s.ca (ca % 2048)).peers.filter (fun x => x.mi != mi) }).freePeerRsc (ca % 2048) p else (({ ((({ s with par := { s.par with tetherUp := 3#2, rxSeq := seq, lastRx := s.counter } } : State).count .par 0 0 1)) with par := { ((({ s with par := { s.par with tetherUp := 3#2, rxSeq := seq, lastRx := s.counter } } : State).count .par 0 0 1)).par with lastPeer := if live = true then some (ca % 2048, mi) else s.par.lastPeer } } : State)).setPeer (ca % 2048) { p with mn := mn, sci := sci }).sendAck))) ∧
  (∀ (s : State) (seq : Nat) (tag : TTag) (ca : Nat) (mi : BitVec 96) (mn : Nat) (sci : W64) (live : Bool),
    s.onTether = true →
    s.tetherKeyed = true →
    tag = .ok →
    seq = s.par.rxSeq + 1 →
    s.isActive = true →
    exec (.mkaPeerRecord seq tag ca mi mn sci live) s = .next (s.done (((({ s with par := { s.par with tetherUp := 3#2, rxSeq := seq, lastRx := s.counter } } : State).count .par 0 0 1)).sendAck))) ∧
  (∀ (s : State) (seq : Nat) (tag : TTag) (rate : W32) (t : Int),
    s.onTether = true →
    s.tetherKeyed = true →
    tag = .ok →
    seq = s.par.rxSeq + 1 →
    s.isActive = false →
    exec (.timeRecord seq tag rate t) s = .next (s.done ((((({ s with par := { s.par with tetherUp := 3#2, rxSeq := seq, lastRx := s.counter } } : State).count .par 0 0 1)).followTime rate t).sendAck))) ∧
  (∀ (s : State) (seq : Nat) (tag : TTag) (rate : W32) (t : Int),
    s.onTether = true →
    s.tetherKeyed = true →
    tag = .ok →
    seq = s.par.rxSeq + 1 →
    s.isActive = true →
    exec (.timeRecord seq tag rate t) s = .next (s.done (((({ s with par := { s.par with tetherUp := 3#2, rxSeq := seq, lastRx := s.counter } } : State).count .par 0 0 1)).sendAck))) ∧
  (∀ (s : State) (seq : Nat) (tag : TTag) (ca an : Nat) (kn : W32) (epoch : Option Int),
    s.onTether = true →
    s.tetherKeyed = true →
    tag = .ok →
    seq = s.par.rxSeq + 1 →
    s.isActive = false →
    exec (.epochRecord seq tag ca an kn epoch) s = .next (s.done ((if epoch = none ∨ (s.par.mirSak.look (fun _ => ({} : MirSak)) (ca % 2048 * 4 + an % 4)).kn = kn then ((({ s with par := { s.par with tetherUp := 3#2, rxSeq := seq, lastRx := s.counter } } : State).count .par 0 0 1)).setCa (ca % 2048) { s.ca (ca % 2048) with epoch := epoch } else ((({ s with par := { s.par with tetherUp := 3#2, rxSeq := seq, lastRx := s.counter } } : State).count .par 0 0 1))).sendAck))) ∧
  (∀ (s : State) (seq : Nat) (tag : TTag) (ca an : Nat) (kn : W32) (epoch : Option Int),
    s.onTether = true →
    s.tetherKeyed = true →
    tag = .ok →
    seq = s.par.rxSeq + 1 →
    s.isActive = true →
    exec (.epochRecord seq tag ca an kn epoch) s = .next (s.done (((({ s with par := { s.par with tetherUp := 3#2, rxSeq := seq, lastRx := s.counter } } : State).count .par 0 0 1)).sendAck))) ∧
  (∀ (s : State) (seq : Nat) (tag : TTag) (slot : Nat) (ckn : List Byte) (klen : Nat) (wrap key : List Byte),
    s.onTether = true →
    s.tetherKeyed = true →
    tag = .ok →
    seq = s.par.rxSeq + 1 →
    s.isActive = false →
    wrap.length = klen + 8 →
    keyUnwrap s.mirKey wrap = some key →
    exec (.cakRecord seq tag slot ckn klen wrap) s = .next (s.done ((((((({ s with par := { s.par with tetherUp := 3#2, rxSeq := seq, lastRx := s.counter } } : State).count .par 0 0 1)).storeCak (slot % 1024) key ckn).1).notice (.cakSlot (slot % 1024))).sendAck))) ∧
  (∀ (s : State) (seq : Nat) (tag : TTag) (slot : Nat) (ckn : List Byte) (klen : Nat) (wrap : List Byte),
    s.onTether = true →
    s.tetherKeyed = true →
    tag = .ok →
    seq = s.par.rxSeq + 1 →
    s.isActive = true ∨ wrap.length ≠ klen + 8 →
    exec (.cakRecord seq tag slot ckn klen wrap) s = .next (s.done (((({ s with par := { s.par with tetherUp := 3#2, rxSeq := seq, lastRx := s.counter } } : State).count .par 0 0 1)).sendAck))) ∧
  (∀ (s : State) (seq : Nat) (tag : TTag) (leases mns : List (Nat × Nat)) (role : PairState),
    s.onTether = true →
    s.tetherKeyed = true →
    tag = .ok →
    seq = s.par.rxSeq + 1 →
    s.isActive = false →
    exec (.handoverRecord seq tag leases mns role) s = .next (s.done (({ ((({ s with par := { s.par with tetherUp := 3#2, rxSeq := seq, lastRx := s.counter } } : State).count .par 0 0 1)) with par := { ((({ s with par := { s.par with tetherUp := 3#2, rxSeq := seq, lastRx := s.counter } } : State).count .par 0 0 1)).par with saLease := leases.foldl (fun (t : Tab Nat) (e : Nat × Nat) => t.put (fun _ => 0) e.1 e.2) s.par.saLease, mnLease := mns.foldl (fun (t : Tab Nat) (e : Nat × Nat) => t.put (fun _ => 0) e.1 e.2) s.par.mnLease, handRec := some role } } : State).sendAck))) ∧
  (∀ (s : State) (seq : Nat) (tag : TTag) (leases mns : List (Nat × Nat)) (role : PairState),
    s.onTether = true →
    s.tetherKeyed = true →
    tag = .ok →
    seq = s.par.rxSeq + 1 →
    s.isActive = true →
    exec (.handoverRecord seq tag leases mns role) s = .next (s.done (((({ s with par := { s.par with tetherUp := 3#2, rxSeq := seq, lastRx := s.counter } } : State).count .par 0 0 1)).sendAck)))

/-- Where resets, the start's beginning and its steps ST01 to ST05 complete. Rests on R247, R248, R250, R251, R255. -/
def Obligations.ResetsAndFirstStepsComplete : Prop :=
  (∀ (s : State) (cause : PorCause),
    ∃ t, exec (.powerOnReset cause) s = .next (s.done t) ∧ t.start.held = true ∧ t.start.kind = 0 ∧
      t.start.cause = (match cause with | .powerGood => 0 | .vcoreReset => 1) ∧ t.frames = [] ∧ t.sas = [] ∧ t.saSlots = [] ∧
      t.engs = [] ∧ t.mem = [] ∧ t.flash.run = [] ∧ t.tim.cnt = 0 ∧ t.fuses = s.fuses ∧ t.tck.flags = s.tck.flags) ∧
  (∀ (s : State),
    ∃ t, exec .coldReset s = .next (s.done t) ∧ t.start.held = true ∧ t.start.kind = 1 ∧ t.start.cause = 2 ∧
      t.frames = [] ∧ t.sas = [] ∧ t.saSlots = [] ∧ t.engs = [] ∧ t.mem = [] ∧ t.flash.run = [] ∧ t.tim.cnt = s.tim.cnt ∧
      t.tim.ofs = s.tim.ofs ∧ t.pwr.stage = s.pwr.stage ∧ t.fuses = s.fuses ∧ t.tck.flags = s.tck.flags) ∧
  (∀ (s : State),
    ∃ t, exec .warmReset s = .next (s.done t) ∧ t.start.held = true ∧ t.start.kind = 2 ∧ t.start.cause = 7 ∧
      t.frames = [] ∧ t.sas = [] ∧ t.saSlots = [] ∧ t.engs = [] ∧ t.mem = [] ∧ t.flash.run = [] ∧ t.tim.cnt = s.tim.cnt ∧
      t.tim.ofs = s.tim.ofs ∧ t.pwr.stage = s.pwr.stage ∧ t.fuses = s.fuses ∧ t.tck.flags = s.tck.flags) ∧
  (∀ (s : State),
    s.start.held = true →
    s.par.fenceIn = false →
    s.suppliesOk = true →
    let L : StartRec := s.ledger.log.headD { num := 0, kind := 0, cause := 0, ts := 0 }
    let N : Nat := (L.num + 1) % 2 ^ 32
    let V : Bool := (L.result == 2 || L.result == 3) && L.failStep != 0 && !L.erased
    exec .startBegin s = .next (s.done ((({ s with start := { s.start with held := false, num := N, prevFail := prevFailed s.ledger s.start.cause, failVal := V, failStep := if V then L.failStep else 0, failCode := if V then L.failCode else 0, failDet := if V then L.failDet else 0 } } : State).ledgerPut (blkStart N) (fun (l : Ledger) => { l with log := (({ num := N, kind := s.start.kind, cause := s.start.cause, ts := s.tck.ts } : StartRec) :: l.log).take 256 })).beginStep 1))) ∧
  (∀ (s : State),
    s.start.held = false ∨ s.par.fenceIn = true ∨ s.suppliesOk = false →
    exec .startBegin s = .next (s.done s)) ∧
  (∀ (s : State) (answers advances monitors : Bool),
    s.inStep 1 = true →
    let A : State := if s.tck.power = true then s else s.tackLost
    let B : State := { A with tck := { A.tck with batUsed := A.tck.batMark, batMark := A.tck.onBat } }
    let C : State := if monitors = true then B else B.raise 25
    let D : State := if C.tck.pendI = true ∨ C.tck.pendF = true ∨ C.tck.pendS = true ∨ C.tck.zDone = true ∨ C.jtag.extest = true then C.isolate else C
    exec (.st01Done answers advances monitors) s = .next (s.done (if answers = false ∨ advances = false then s.failStep 1 13 0 else (D.endStep 1 1).beginStep 2))) ∧
  (∀ (s : State) (answers advances monitors : Bool),
    s.inStep 1 = false →
    exec (.st01Done answers advances monitors) s = .next (s.done s)) ∧
  (∀ (s : State) (fuseOk : Bool),
    s.inStep 2 = true →
    exec (.st02Done fuseOk) s = .next (s.done ((if fuseOk then (s.endStep 2 1).beginStep 3 else s.failStep 2 11 0)))) ∧
  (∀ (s : State) (fuseOk : Bool),
    s.inStep 2 = false →
    exec (.st02Done fuseOk) s = .next (s.done s)) ∧
  (∀ (s : State) (trips : Bool) (rings : Nat) (test : StartUp) (refPin refT : Bool),
    s.inStep 3 = true →
    let A : State := ({ s with rng := { s.rng with esOk := true }, start := { s.start with refT := refT }, pwr := { s.pwr with started := true } } : State).drawKeys.shed
    let B : State := (A.refChoose refPin).endStep 3 1
    exec (.st03Done trips rings test refPin refT) s = .next (s.done (if trips = false then s.failStep 3 12 0 else if rings < 2 then s.failStep 3 10 0 else if startUpOk test = false then s.failStep 3 12 0 else if B.ledger.safeHold = true then B.enterHold else B.beginStep 4))) ∧
  (∀ (s : State) (trips : Bool) (rings : Nat) (test : StartUp) (refPin refT : Bool),
    s.inStep 3 = false →
    exec (.st03Done trips rings test refPin refT) s = .next (s.done s)) ∧
  (∀ (s : State) (readable : Bool),
    s.inStep 4 = true →
    s.flash.sfdp = false ∨ (s.flash.blank 1 = true ∧ s.flash.blank 2 = true) →
    let A : State := { s with flash := { s.flash with known := s.flash.sfdp } }
    exec (.st04Done readable) s = .next (s.done (if s.ledger.rollback ≠ 0 then A.failStep 4 2 0 else (((((A.endStep 4 1).beginStep 5).endStep 5 1).beginStep 6).endStep 6 1).beginStep 7))) ∧
  (∀ (s : State) (readable : Bool),
    s.inStep 4 = true →
    s.flash.sfdp = true →
    s.flash.blank 1 = false ∨ s.flash.blank 2 = false →
    let K : Nat := if s.wantsB = true then 2 else 1
    let A : State := ({ s with start := { s.start with image := K, takeB := s.wantsB }, flash := { s.flash with known := true, hdr := s.flash.header K, digests := s.flash.digestList K, sig := s.flash.sigBlock K } } : State).updRec (fun (r : StartRec) => { r with image := K })
    exec (.st04Done readable) s = .next (s.done (if readable = true ∧
      hdrOk (s.flash.header K) (s.flash.size / 2) = true then (A.endStep 4 A.copyOutcome).beginStep 5 else A.failStep 4 2 0))) ∧
  (∀ (s : State) (readable : Bool),
    s.inStep 4 = false →
    exec (.st04Done readable) s = .next (s.done s)) ∧
  (∀ (s : State),
    s.inStep 5 = true →
    exec .st05Done s = .next (s.done ((match s.sigCheck s.flash.hdr s.flash.digests s.flash.sig with | 0 => (s.endStep 5 s.copyOutcome).beginStep 6 | c => s.failStep 5 c 0)))) ∧
  (∀ (s : State),
    s.inStep 5 = false →
    exec .st05Done s = .next (s.done s))

/-- Where the steps ST06 to ST14 of the start complete. Rests on R248, R249, R250, R251, R253. -/
def Obligations.LaterStartStepsComplete : Prop :=
  (∀ (s : State),
    s.inStep 6 = true →
    exec .st06Done s = .next (s.done ((match s.applyImage with | .ok t => (((if t.flag F.TIM_REF_USE_PIN then t else { t with tim := { t.tim with refInt := true } }).shed).endStep 6 ((if t.flag F.TIM_REF_USE_PIN then t else { t with tim := { t.tim with refInt := true } }).copyOutcome)).beginStep 7 | .failed t blk off chk code => (t.imageErr blk off chk).failStep 6 code (imageDetail blk chk))))) ∧
  (∀ (s : State),
    s.inStep 6 = false →
    exec .st06Done s = .next (s.done s)) ∧
  (∀ (s : State),
    s.inStep 7 = true →
    exec .st07Done s = .next (s.done ((((s.flash.keys.foldl State.unwrapImage s).ledger.caks.foldl State.unwrapLedger (s.flash.keys.foldl State.unwrapImage s)).endStep 7 1).beginStep 8))) ∧
  (∀ (s : State),
    s.inStep 7 = false →
    exec .st07Done s = .next (s.done s)) ∧
  (∀ (s : State) (failing : List Nat),
    s.inStep 8 = true →
    let L : List Nat := s.tried failing
    let B : List Nat := L.filter (fun k => failing.contains k)
    let X : List Nat := B.filter (fun k => s.stkLevel k == 1 || s.failedBefore 8)
    let A : State := ([0, 1, 2, 3] : List Nat).foldl (fun (t : State) k => t.setStk k { t.stk k with mode := if s.stkLevel k = 2 ∨ B.contains k = true then StkMode.absent else if L.contains k = true then StkMode.init else StkMode.off }) s
    let C : State := if B = [] then A else A.ledgerPut (blkState 4) (fun (g : Ledger) => { g with stkLevel := B.foldl (fun (t : Tab Nat) k => t.put (fun _ => 0) k (if X.contains k = true then 2 else 1)) g.stkLevel })
    exec (.st08Done failing) s = .next (s.done (match B.filter (fun k => !X.contains k) with | k :: _ => C.failStep 8 7 k | [] => (C.endStep 8 (if s.failedBefore 8 = true ∨ ([0, 1, 2, 3] : List Nat).any (fun k => s.stkLevel k != 0) = true then 2 else 1)).beginStep 9))) ∧
  (∀ (s : State) (failing : List Nat),
    s.inStep 8 = false →
    exec (.st08Done failing) s = .next (s.done s)) ∧
  (∀ (s : State) (test : StackTest),
    s.inStep 9 = true →
    exec (.st09Done test) s = .next (s.done ((if ([0, 1, 2, 3] : List Nat).any (fun k => (s.stk k).mode == StkMode.init && !test.absent.contains k && decide ((failedOn test.lines k).length ≤ 4096)) = true then (((s.celInit test.absent test.lines).ovtShadow).endStep 9 1).beginStep 10 else s.failStep 9 9 0)))) ∧
  (∀ (s : State) (test : StackTest),
    s.inStep 9 = false →
    exec (.st09Done test) s = .next (s.done s)) ∧
  (∀ (s : State) (coefs : List (Nat × W32)) (failing : List Nat),
    s.inStep 10 = true →
    s.usedLanes.filter (fun k => (s.laneCoef coefs failing k).isNone) = [] →
    let A : State := s.usedLanes.foldl (fun (t : State) k => let u := (if s.ledger.ro = false ∧
      s.ledger.laneAlt.contains (laneGroup k) = true then t else t.storeLane k ((s.laneCoef coefs failing k).getD 0#32)); if k < 128 then u.setPort k { u.port k with coef := (s.laneCoef coefs failing k).getD 0#32 } else u) s
    exec (.st10Done coefs failing) s = .next (s.done ((A.endStep 10 (if s.ledger.ro = false ∧
      s.usedLanes.any (fun k => s.ledger.laneAlt.contains (laneGroup k)) = true then 2 else 1)).beginStep 11))) ∧
  (∀ (s : State) (coefs : List (Nat × W32)) (failing l : List Nat) (k : Nat),
    s.inStep 10 = true →
    s.usedLanes.filter (fun k => (s.laneCoef coefs failing k).isNone) = k :: l →
    let G : List Nat := ((k :: l).map laneGroup).filter (fun g => !s.ledger.laneAlt.contains g)
    exec (.st10Done coefs failing) s = .next (s.done ((if G = [] then s else s.ledgerPut (blkState 5) (fun (g : Ledger) => { g with laneAlt := (g.laneAlt ++ G).eraseDups })).failStep 10 8 k))) ∧
  (∀ (s : State) (coefs : List (Nat × W32)) (failing : List Nat),
    s.inStep 10 = false →
    exec (.st10Done coefs failing) s = .next (s.done s)) ∧
  (∀ (s : State) (failing : List Nat) (cal : List (Nat × Nat × Nat)),
    s.inStep 11 = true →
    let A : State := (List.range 64).foldl (fun (t : State) e => t.engTested cal (!((List.range 64).filter (fun e => failing.contains e)).contains e) e) s
    let M : W64 := BitVec.ofNat 64 ((((List.range 64).filter (fun e => failing.contains e)).map (fun e => 2 ^ e)).sum)
    let C : State := if M = A.ledger.engOut then A else A.ledgerPut (blkState 6) (fun (g : Ledger) => { g with engOut := M })
    exec (.st11Done failing cal) s = .next (s.done (match ((List.range 64).filter (fun e => failing.contains e)).filter (fun e => !s.failedBefore 11 && !s.engMarked e) with | k :: _ => A.failStep 11 14 k | [] => if 64 < ((List.range 64).filter (fun e => failing.contains e)).length + 2 then C.failStep 11 10 0 else ((C.endStep 11 (if s.failedBefore 11 = true ∨ (List.range 64).any s.engMarked = true then 2 else 1)).shedEngines).begin12))) ∧
  (∀ (s : State) (failing : List Nat) (cal : List (Nat × Nat × Nat)),
    s.inStep 11 = false →
    exec (.st11Done failing cal) s = .next (s.done s)) ∧
  (∀ (s : State),
    s.inStep 12 = true →
    exec .st12Done s = .next (s.done (if s.par.st = PairState.standby ∨ s.isActive = true then (s.endStep 12 1).begin13 else s))) ∧
  (∀ (s : State),
    s.inStep 12 = false →
    exec .st12Done s = .next (s.done s)) ∧
  (∀ (s : State),
    s.inStep 13 = true →
    exec .st13Done s = .next (s.done (if s.locked = true then (s.endStep 13 1).begin14 else s))) ∧
  (∀ (s : State),
    s.inStep 13 = false →
    exec .st13Done s = .next (s.done s)) ∧
  (∀ (s : State),
    s.inStep 14 = true →
    let A : State := s.endStep 14 1
    let B : State := ((({ A with zeroized := false, start := { A.start with step := 15 } } : State).updRec (fun (r : StartRec) => { r with result := 1 })).closeLedger)
    let C : State := B.flash.gateReq.foldl State.gateConfig B
    exec .st14Done s = .next (s.done (((List.range 128).foldl (fun (t : State) p => if t.portLive p = true ∧
      (t.port p).link = false then t.bringUp p else t) (if C.isActive = true then C.startCas else C)).setInt .STA_INT_STAT 0))) ∧
  (∀ (s : State),
    s.inStep 14 = false →
    exec .st14Done s = .next (s.done s))

/-- Where the start's deadlines, STA_CMD, the start log and the survival count complete. Rests on R248, R249, R250, R254,
R257, R262, R263. -/
def Obligations.StartDeadlinesAndCommandsComplete : Prop :=
  (∀ (s : State),
    s.inStep 12 = true →
    exec .st12MaxExpired s = .next (s.done ((s.endStep 12 1).begin13))) ∧
  (∀ (s : State),
    s.inStep 12 = false →
    exec .st12MaxExpired s = .next (s.done s)) ∧
  (∀ (s : State),
    s.inStep 13 = true →
    exec .timeWaitExpired s = .next (s.done ((s.endStep 13 2).begin14))) ∧
  (∀ (s : State),
    s.inStep 13 = false →
    exec .timeWaitExpired s = .next (s.done s)) ∧
  (∀ (s : State),
    exec .stepWatchdog s = .next (s.done (if s.inStep s.start.step = true ∧ (1 ≤ s.start.step ∧
      s.start.step ≤ 11 ∨ s.start.step = 14) then s.failStep s.start.step 1 0 else s))) ∧
  (∀ (s : State),
    exec .restartAfterFailure s = .next (s.done (if s.start.fwDead = true then s.resetTo 2 7 else if s.start.restart = true then s.resetTo 2 (if s.start.failCode = 1 then 5 else 6) else s))) ∧
  (∀ (s : State) (o : Origin),
    s.grants o .STA_CMD = true →
    o ≠ .pf1 →
    o.isCore = false →
    s.presence = true →
    exec (.staResetWarm o) s = .next (s.done ((s.cmdErr .STA_CMD o.grp 0).resetTo 2 8))) ∧
  (∀ (s : State) (o : Origin),
    s.grants o .STA_CMD = true →
    o = .pf1 ∨ o.isCore = true ∨ s.presence = false →
    exec (.staResetWarm o) s = .next (s.done (if o = Origin.pf1 ∨ o.isCore = true then (s.cmdErr .STA_CMD o.grp 1).setInt .STA_INT_STAT 6 else ((s.cmdErr .STA_CMD o.grp 2).setInt .STA_INT_STAT 6).fault5 o .STA_CMD 0))) ∧
  (∀ (s : State) (o : Origin),
    s.grants o .STA_CMD = true →
    o ≠ .pf1 →
    o.isCore = false →
    s.presence = true →
    exec (.staResetCold o) s = .next (s.done ((s.cmdErr .STA_CMD o.grp 0).resetTo 1 3))) ∧
  (∀ (s : State) (o : Origin),
    s.grants o .STA_CMD = true →
    o = .pf1 ∨ o.isCore = true ∨ s.presence = false →
    exec (.staResetCold o) s = .next (s.done (if o = Origin.pf1 ∨ o.isCore = true then (s.cmdErr .STA_CMD o.grp 1).setInt .STA_INT_STAT 6 else ((s.cmdErr .STA_CMD o.grp 2).setInt .STA_INT_STAT 6).fault5 o .STA_CMD 0))) ∧
  (∀ (s : State) (o : Origin),
    s.grants o .STA_CMD = true →
    o ≠ .pf1 →
    o.isCore = false →
    s.presence = true →
    let T : State := s.cmdErr .STA_CMD o.grp 0
    let A : State := (T.ledgerPut (blkStart s.start.num) (fun (l : Ledger) => { l with log := (l.log.take 2).map (fun (r : StartRec) => { r with erased := true }) ++ l.log.drop 2 })).ledgerPut (blkStart (s.start.num + 255)) (fun l => l)
    exec (.clearHold o) s = .next (s.done (if s.start.safeHold = false then T.staRefuse o 3 else if s.ledger.ro = true then T.staRefuse o 4 else (A.ledgerPut (blkState 2) (fun (l : Ledger) => { l with safeHold := false, copyB := false, failHdr := none })).resetTo 2 9))) ∧
  (∀ (s : State) (o : Origin),
    s.grants o .STA_CMD = true →
    o = .pf1 ∨ o.isCore = true ∨ s.presence = false →
    exec (.clearHold o) s = .next (s.done (if o = Origin.pf1 ∨ o.isCore = true then (s.cmdErr .STA_CMD o.grp 1).setInt .STA_INT_STAT 6 else ((s.cmdErr .STA_CMD o.grp 2).setInt .STA_INT_STAT 6).fault5 o .STA_CMD 0))) ∧
  (∀ (s : State) (o : Origin),
    s.grants o .STA_CMD = true →
    o ≠ .pf1 →
    o.isCore = false →
    s.presence = true →
    let T : State := s.cmdErr .STA_CMD o.grp 0
    exec (.clearAlt o) s = .next (s.done (if s.ledger.ro = true then T.staRefuse o 4 else T.ledgerPut (blkState 4) (fun (l : Ledger) => { l with stkLevel := [], engOut := 0, laneAlt := [] })))) ∧
  (∀ (s : State) (o : Origin),
    s.grants o .STA_CMD = true →
    o = .pf1 ∨ o.isCore = true ∨ s.presence = false →
    exec (.clearAlt o) s = .next (s.done (if o = Origin.pf1 ∨ o.isCore = true then (s.cmdErr .STA_CMD o.grp 1).setInt .STA_INT_STAT 6 else ((s.cmdErr .STA_CMD o.grp 2).setInt .STA_INT_STAT 6).fault5 o .STA_CMD 0))) ∧
  (∀ (s : State) (o : Origin) (r : StartRec),
    s.grants o .STA_LOGW_CMD = true →
    s.ledger.log[s.fld F.STA_LOGW_IDX_AGE 0 o.grp]? = some r →
    ∃ t, exec (.staLogwRead o) s = .next (s.done t) ∧ t.word .STA_LOGW_DATA 0 o.grp = BitVec.ofNat 32 r.num ∧
      bits (t.word .STA_LOGW_DATA 1 o.grp) 27 24 = r.step % 16 ∧ bits (t.word .STA_LOGW_DATA 1 o.grp) 21 18 = r.cause % 16 ∧
      t.ledger = s.ledger ∧ s.onlyWords t [.STA_LOGW_CMD, .STA_LOGW_DATA] o.grp = true) ∧
  (∀ (s : State) (o : Origin),
    s.grants o .STA_LOGW_CMD = true →
    s.ledger.log[s.fld F.STA_LOGW_IDX_AGE 0 o.grp]? = none →
    exec (.staLogwRead o) s = .next (s.done (s.setWords .STA_LOGW_DATA [0#32, 0#32, 0#32, 0#32, 0#32, 0#32] o.grp))) ∧
  (∀ (s : State),
    let A : State := s.survTime s.pwr.survFrom.isSome
    let N : Nat := A.pwr.survAcc / 1000000000
    exec .survivalCountWrite s = .next (s.done (if N = 0 then A else ({ A with pwr := { A.pwr with survAcc := A.pwr.survAcc % 1000000000 } } : State).ledgerPut (blkState 1) (fun (l : Ledger) => { l with surv := min (l.surv + N) (2 ^ 23 - 1) }))))

/-- Where the commands of the configuration flash complete. Rests on R279, R280, R281. -/
def Obligations.FlashCommandsComplete : Prop :=
  (∀ (s : State) (o : Origin) (len : Nat),
    s.grants o .STA_XSPI_CMD = true →
    s.flash.op = none →
    o ≠ .pf1 →
    o.isCore = false →
    let T : State := s.setFld F.STA_XSPI_CMD_LEN len 0 o.grp
    let N : Nat := T.fld F.STA_XSPI_CMD_LEN 0 o.grp
    let X : Nat := if s.flash.sfdp = false then 5 else if s.flash.size < (T.word .STA_XSPI_ADDR 0 o.grp).toNat + (if N = 0 then 256 else N) then 4 else 0
    exec (.xspiRead o len) s = .next (s.done (if X = 0 then { T.setWord .STA_XSPI_CMD (depo (depo (T.word .STA_XSPI_CMD 0 o.grp) 30 28 0) 31 31 1) 0 o.grp with flash := { s.flash with op := some (o.grp, 1, (T.word .STA_XSPI_ADDR 0 o.grp).toNat) } } else T.xspiErr o.grp X))) ∧
  (∀ (s : State) (o : Origin) (len : Nat),
    s.grants o .STA_XSPI_CMD = true →
    s.flash.op.isSome = true ∨ o = .pf1 ∨ o.isCore = true →
    exec (.xspiRead o len) s = .next (s.done (if s.flash.op.isSome = true then s else s.xspiErr o.grp 1))) ∧
  (∀ (s : State) (o : Origin),
    s.grants o .STA_XSPI_CMD = true →
    s.flash.op = none →
    o ≠ .pf1 →
    o.isCore = false →
    let X : Nat := if s.presence = false then 2 else if ((s.word .STA_XSPI_ADDR 0 o.grp).toNat) % 256 ≠ 0 ∨ s.flash.size < ((s.word .STA_XSPI_ADDR 0 o.grp).toNat) + 256 then 4 else if s.flash.inSource ((s.word .STA_XSPI_ADDR 0 o.grp).toNat) 256 = true then 3 else if s.flash.writable = false then 5 else 0
    exec (.xspiProgram o) s = .next (s.done (if X = 0 then { s.setWord .STA_XSPI_CMD (depo (depo (s.word .STA_XSPI_CMD 0 o.grp) 30 28 0) 31 31 1) 0 o.grp with flash := { s.flash with op := some (o.grp, 2, ((s.word .STA_XSPI_ADDR 0 o.grp).toNat)) } } else if X = 2 then (s.xspiErr o.grp 2).fault5 o .STA_XSPI_CMD 0 else s.xspiErr o.grp X))) ∧
  (∀ (s : State) (o : Origin),
    s.grants o .STA_XSPI_CMD = true →
    s.flash.op.isSome = true ∨ o = .pf1 ∨ o.isCore = true →
    exec (.xspiProgram o) s = .next (s.done (if s.flash.op.isSome = true then s else s.xspiErr o.grp 1))) ∧
  (∀ (s : State) (o : Origin),
    s.grants o .STA_XSPI_CMD = true →
    s.flash.op = none →
    o ≠ .pf1 →
    o.isCore = false →
    let X : Nat := if s.presence = false then 2 else if ((s.word .STA_XSPI_ADDR 0 o.grp).toNat) % 65536 ≠ 0 ∨ s.flash.size < ((s.word .STA_XSPI_ADDR 0 o.grp).toNat) + 65536 then 4 else if s.flash.inSource ((s.word .STA_XSPI_ADDR 0 o.grp).toNat) 65536 = true then 3 else if s.flash.writable = false then 5 else 0
    exec (.xspiErase o) s = .next (s.done (if X = 0 then { s.setWord .STA_XSPI_CMD (depo (depo (s.word .STA_XSPI_CMD 0 o.grp) 30 28 0) 31 31 1) 0 o.grp with flash := { s.flash with op := some (o.grp, 3, ((s.word .STA_XSPI_ADDR 0 o.grp).toNat)) } } else if X = 2 then (s.xspiErr o.grp 2).fault5 o .STA_XSPI_CMD 0 else s.xspiErr o.grp X))) ∧
  (∀ (s : State) (o : Origin),
    s.grants o .STA_XSPI_CMD = true →
    s.flash.op.isSome = true ∨ o = .pf1 ∨ o.isCore = true →
    exec (.xspiErase o) s = .next (s.done (if s.flash.op.isSome = true then s else s.xspiErr o.grp 1))) ∧
  (∀ (s : State) (o : Origin),
    s.grants o .STA_XSPI_CMD = true →
    s.flash.op = none →
    o ≠ .pf1 →
    o.isCore = false →
    exec (.xspiVerify o) s = .next (s.done (if s.flash.sfdp = true then { s.setWord .STA_XSPI_CMD (depo (depo (s.word .STA_XSPI_CMD 0 o.grp) 30 28 0) 31 31 1) 0 o.grp with flash := { s.flash with op := some (o.grp, 4, ((s.word .STA_XSPI_ADDR 0 o.grp).toNat)) } } else s.xspiErr o.grp 5))) ∧
  (∀ (s : State) (o : Origin),
    s.grants o .STA_XSPI_CMD = true →
    s.flash.op.isSome = true ∨ o = .pf1 ∨ o.isCore = true →
    exec (.xspiVerify o) s = .next (s.done (if s.flash.op.isSome = true then s else s.xspiErr o.grp 1))) ∧
  (∀ (s : State) (ok : Bool) (g op a : Nat),
    s.flash.op = some (g, op, a) →
    let A : State := ({ s with flash := { s.flash with op := none } } : State).setFld F.STA_XSPI_CMD_BUSY 0 0 g
    exec (.xspiCommandDone ok) s = .next (s.done (if ok = false then A.xspiErr g 5 else if op = 1 then A.xspiData g a else if op = 2 then A.xspiProgram g a else if op = 3 then A.xspiErase a else A.xspiVerified g a))) ∧
  (∀ (s : State) (ok : Bool),
    s.flash.op = none →
    exec (.xspiCommandDone ok) s = .next (s.done s))

/-- Where the commands of supplies, temperature, pace and the shed controller complete. Rests on R283, R284, R285, R288,
R289, R290, R291, R292, R369. -/
def Obligations.SuppliesAndShedComplete : Prop :=
  (∀ (s : State) (supply mv : Nat),
    mv ≤ supMax (supply % 10) →
    let A : State := s.setSupply (supply % 10) mv
    let B : State := if (A.supply (supply % 10)).uv = true ∧
      (s.supply (supply % 10)).uv = false then A.setInt .PWR_INT_STAT 2 else A
    let C : State := if (A.supply (supply % 10)).ov = true ∧
      (s.supply (supply % 10)).ov = false then B.setInt .PWR_INT_STAT 3 else B
    let D : State := if (supply % 10) = 9 then C.level 6 ((A.supply (supply % 10)).uv || (A.supply (supply % 10)).ov) else C.level 10 ((List.range 9).any (fun j => (C.supply j).uv || (C.supply j).ov))
    let X : State := if railLost (supply % 10) mv = true then D.loseRail (supply % 10) else D
    let Y : State := if (supply % 10) = 8 ∨ (supply % 10) = 9 then X.tackSupply else X
    exec (.supplyCrossing supply mv) s = .next (s.done (if (supply % 10) = 0 then ({ Y with pwr := { Y.pwr with dVcore := max Y.pwr.dVcore (vcoreStage mv) } } : State).shed else Y))) ∧
  (∀ (s : State) (supply mv : Nat),
    supMax (supply % 10) < mv →
    exec (.supplyCrossing supply mv) s = .fault .absoluteMaximum) ∧
  (∀ (s : State) (mv : Nat),
    exec (.vcoreReturnHold mv) s = .next (s.done { (s.setSupply 0 mv) with pwr := { (s.setSupply 0 mv).pwr with dVcore := min s.pwr.dVcore (if mv < 655 then 5 else if mv < 685 then 4 else if mv < 715 then 2 else 0) } })) ∧
  (∀ (s : State) (readings : List Int) (tack : Int),
    let O : List (Int × Nat) := readings.zipIdx.filter (fun (x : Int × Nat) => decide (200 < (2 * x.1 - median2 readings).natAbs) && !s.pwr.tjLeft.contains x.2)
    let X : List Int := readings.filter (fun x => decide (x < -180) || decide (600 < x))
    let A : State := { s with pwr := { s.pwr with tjLeft := s.pwr.tjLeft ++ O.map (fun (x : Int × Nat) => x.2) } }
    let B : State := (List.range (O.length + X.length)).foldl (fun (t : State) _ => t.monEvent 14) A
    let C : State := (B.level 5 (decide (tack < -200) || decide (600 < tack))).takeTj readings
    exec (.tjSample readings tack) s = .next (s.done (((C.survTime (decide (500 < C.pwr.tj))).survival).shed))) ∧
  (∀ (s : State),
    exec .tjReturnHold s = .next (s.done (if s.pwr.dTj ≠ 0 ∧
      s.pwr.tj ≤ tjLevel s.pwr.dTj - ((s.fld F.PWR_CTL_TJ_HYST * 4 : Nat) : Int) then { s with pwr := { s.pwr with dTj := if s.pwr.dTj = 6 then 5 else if s.pwr.dTj = 5 then 4 else if s.pwr.dTj = 4 then 2 else 0 } } else s))) ∧
  (∀ (s : State),
    let D : Nat := max s.pwr.dPace (min 5 (s.pwr.stage + 1))
    exec .paceLow s = .next (s.done (if s.flag F.PWR_CTL_PACE_EN = false ∨ 1000 ≤ s.judged ∨ D = s.pwr.dPace then s else ((({ s with pwr := { s.pwr with dPace := D } } : State).count .pwr 0 0 15).setInt .PWR_INT_STAT 6).shed))) ∧
  (∀ (s : State),
    exec .paceReturnHold s = .next (s.done (if s.judged < 3000 then s else { s with pwr := { s.pwr with dPace := s.pwr.dPace - 1 } }))) ∧
  (∀ (s : State),
    exec .stepBack s = .next (s.done (if s.topDemand < s.pwr.stage then (((({ s with pwr := { s.pwr with stage := s.pwr.stage - 1 } } : State).count .pwr 0 0 (s.pwr.stage - 1))).leaveStage s.pwr.stage).noteStage s.pwr.stage (s.pwr.stage - 1) else s))) ∧
  (∀ (s : State) (o : Origin) (stage : Nat),
    s.grants o .PWR_CTL = true →
    s.legal o .PWR_CTL 0 (depo (s.word .PWR_CTL) 31 29 stage) = true →
    exec (.forceStageWrite o stage) s = .next (s.done ((s.written o .PWR_CTL 0 (depo (s.word .PWR_CTL) 31 29 stage)).shed))) ∧
  (∀ (s : State) (o : Origin) (stage : Nat),
    s.grants o .PWR_CTL = true →
    s.presence = false →
    s.accepts o .PWR_CTL 0 = true →
    stage % 8 ≠ s.fld F.PWR_CTL_FORCE_STAGE →
    stage % 8 < 7 →
    exec (.forceStageWrite o stage) s = .next (s.done ((s.fault5 o .PWR_CTL 0).shed)))

/-- Where the samples and monitors of the tack room complete. Rests on R304, R305, R306, R307, R313. -/
def Obligations.MonitorsComplete : Prop :=
  (∀ (s : State) (r10 : Nat) (tmp : BitVec 4) (strap : Bool),
    let N : BitVec 4 := BitVec.ofNat 4 (((List.range 4).map (fun n => b2n (s.tmpActive tmp n) * 2 ^ n)).sum)
    let A : State := { s with tck := { s.tck with sealR := min r10 65535, sealBad := sealState r10 != 0, tmpRd := N, strapRd := strap, strap := if s.tck.strapRd = strap then strap else s.tck.strap } }
    let B : State := if (sealState r10 != 0) = s.tck.sealBad then A.level 0 (sealState r10 != 0) else A
    let C : State := (List.range 4).foldl (fun (u : State) n => if N.getLsbD n then (if s.tck.tmpRd.getLsbD n then u.level (1 + n) true else u) else u.level (1 + n) false) B
    let D : State := if C.tck.raised.getLsbD 0 = true then { C with tck := { C.tck with pressWin := none } } else C
    exec (.sealSample r10 tmp strap) s = .next (s.done ((D.level 9 (D.tck.strap && !(sealState r10 != 0))).presLook s.presence))) ∧
  (∀ (s : State) (ref : Nat) (res : ClkRes),
    ref < 7 →
    ref ≠ 5 ∨ s.start.refT = true →
    s.stimulated 12 = false →
    let A : State := if (res != ClkRes.inRange) = s.tck.clkBad.getLsbD ref then s else { s with tck := { s.tck with clkBad := s.tck.clkBad ^^^ BitVec.ofNat 7 (2 ^ ref) } }
    let B : State := A.level 12 (A.tck.clkBad != 0#7)
    exec (.clockMonitorWindow ref res) s = .next (s.done (if res ≠ ClkRes.inRange ∧
      s.tck.clkBad.getLsbD ref = false then B.clockLost ref else B))) ∧
  (∀ (s : State) (ref : Nat) (res : ClkRes),
    7 ≤ ref ∨ (ref = 5 ∧ s.start.refT = false) ∨ s.stimulated 12 = true →
    exec (.clockMonitorWindow ref res) s = .next (s.done s)) ∧
  (∀ (s : State) (ref : Nat),
    exec (.clockGlitch ref) s = .next (s.done (if ref < 7 ∧ (ref ≠ 5 ∨ s.start.refT = true) ∧
      s.stimulated 13 = false then s.raise 13 else s))) ∧
  (∀ (s : State) (inRange : Bool),
    exec (.crystalCheck inRange) s = .next (s.done (({ s with tck := { s.tck with xtalOk := inRange } } : State).level 7 (!inRange)))) ∧
  (∀ (s : State) (supply : Nat),
    exec (.supplyGlitch supply) s = .next (s.done (if ((supply % 10) = 0 ∨ (supply % 10) = 1 ∨ (supply % 10) = 3 ∨ (supply % 10) = 6) ∧
      s.stimulated 11 = false then s.raise 11 else s))) ∧
  (∀ (s : State) (src : Nat),
    src < 26 →
    exec (.alarmHoldExpired src) s = .next (s.done ((if s.tck.raised.getLsbD src = true then s else { s with pwr := { s.pwr with sDem := s.pwr.sDem.put (fun _ => 0) src 0 } }).shed))) ∧
  (∀ (s : State) (src : Nat),
    26 ≤ src →
    exec (.alarmHoldExpired src) s = .next (s.done s))

/-- Where the commands of the tack room and its registers complete. Rests on R310, R314, R315, R316, R318, R319, R320,
R323, R324. -/
def Obligations.TackCommandsComplete : Prop :=
  (∀ (s : State) (o : Origin),
    s.grants o .TCK_CMD = true →
    o ≠ .pf1 →
    o.isCore = false →
    let E : Nat := if s.presence = false then 2 else if s.heldLevel = true then 3 else if s.zeroized = true then 4 else if s.tck.anyPend = false then 5 else 0
    let A : State := { s with alarm := { s.alarm with isolated := s.jtag.extest }, tck := { s.tck with pendI := false, pendF := false, pendS := false, zDone := false, pendStg := 0, pendSrc := 0 } }
    let B : State := if A.pairRuns = true then A.parTo .start else A
    exec (.ack o) s = .next (s.done (if E = 0 then (((B.cmdErr .TCK_CMD o.grp 0).tckLog 4 0 0 0 0).setInt .TCK_INT_STAT 5).leaseLook else if E = 2 then (s.cmdErr .TCK_CMD o.grp 2).fault5 o .TCK_CMD 0 else s.cmdErr .TCK_CMD o.grp E))) ∧
  (∀ (s : State) (o : Origin),
    s.grants o .TCK_CMD = true →
    o = .pf1 ∨ o.isCore = true →
    exec (.ack o) s = .next (s.done (s.cmdErr .TCK_CMD o.grp 1))) ∧
  (∀ (s : State) (o : Origin),
    s.grants o .TCK_CMD = true →
    o ≠ .pf1 →
    o.isCore = false →
    exec (.close o) s = .next (s.done (({ (s.cmdErr .TCK_CMD o.grp 0) with tck := { s.tck with pressWin := none } } : State).presLook s.presence))) ∧
  (∀ (s : State) (o : Origin),
    s.grants o .TCK_CMD = true →
    o = .pf1 ∨ o.isCore = true →
    exec (.close o) s = .next (s.done (s.cmdErr .TCK_CMD o.grp 1))) ∧
  (∀ (s : State) (o : Origin) (src : Nat),
    s.grants o .TCK_CMD = true →
    o ≠ .pf1 →
    o.isCore = false →
    let A : State := s.setFld F.TCK_CMD_SRC (src % 32) 0 o.grp
    exec (.stim o src) s = .next (s.done (if s.tck.raised.getLsbD (src % 32) = true ∨ monitored (src % 32) = false ∨ s.tck.stimSt = 1 ∨ s.tck.onBat = true then A.cmdErr .TCK_CMD o.grp 6 else { A.cmdErr .TCK_CMD o.grp 0 with tck := { s.tck with stimSt := 1, stimSrc := src % 32 } }))) ∧
  (∀ (s : State) (o : Origin) (src : Nat),
    s.grants o .TCK_CMD = true →
    o = .pf1 ∨ o.isCore = true →
    exec (.stim o src) s = .next (s.done (s.cmdErr .TCK_CMD o.grp 1))) ∧
  (∀ (s : State) (pass holds : Bool),
    s.tck.stimSt = 1 →
    let K : Nat := s.tck.stimSrc
    let A : State := (({ s with tck := { s.tck with stimSt := if pass then 2 else 3 } } : State).tckLog 3 0 0 0 K).setInt .TCK_INT_STAT 6
    let B : State := if pass = true then A else A.raise 25
    exec (.stimEnd pass holds) s = .next (s.done (if holds = true ∧ K ≠ 11 ∧ K ≠ 13 ∧ K ≠ 14 then B.level K true else B))) ∧
  (∀ (s : State) (pass holds : Bool),
    s.tck.stimSt ≠ 1 →
    exec (.stimEnd pass holds) s = .next (s.done s)) ∧
  (∀ (s : State),
    let K : Nat := s.tck.stimNext
    let A : State := { s with tck := { s.tck with stimNext := if K = 14 then 12 else K + 1 } }
    exec .stimRotation s = .next (s.done (if s.fld F.TCK_CTL_STIM_ROT_S = 0 ∨ s.tck.stimSt = 1 then s else if s.tck.raised.getLsbD K = true then A else { A with tck := { A.tck with stimSt := 1, stimSrc := K } }))) ∧
  (∀ (s : State),
    let A : State := { s with tck := { s.tck with pressWin := none } }
    exec .presenceWindowExpired s = .next (s.done (if A.presence = s.presence then A else (A.windowEnds.tckLog 6 0 0 0 0).setInt .TCK_INT_STAT 3))) ∧
  (∀ (s : State) (o : Origin) (v : W32),
    s.grants o .TCK_FLAG = true →
    exec (.flagClear o v) s = .next (s.done (if s.tck.flags &&& v.setWidth 26 = s.tck.flags then s else if s.presence = true then { s with tck := { s.tck with flags := s.tck.flags &&& v.setWidth 26 } } else s.fault5 o .TCK_FLAG 0))) ∧
  (∀ (s : State) (o : Origin) (src : Nat) (win : Bool) (v : W32),
    s.grants o ((if win then Reg.TCK_RESP_WIN else Reg.TCK_RESP)) src = true →
    src < 26 →
    s.presence = true →
    s.legal o ((if win then Reg.TCK_RESP_WIN else Reg.TCK_RESP)) src v = true →
    win = true ∨ bits (s.wouldBe o ((if win then Reg.TCK_RESP_WIN else Reg.TCK_RESP)) src 0 v) 28 28 = 0 ∨ bits (s.wouldBe o ((if win then Reg.TCK_RESP_WIN else Reg.TCK_RESP)) src 0 v) 27 25 ≠ 0 →
    exec (.responseRecordWrite o src win v) s = .next (s.done { (s.written o ((if win then Reg.TCK_RESP_WIN else Reg.TCK_RESP)) src v) with tck := { s.tck with raises := s.tck.raises.put (fun _ => []) src [] } })) ∧
  (∀ (s : State) (o : Origin) (e : TckEnt),
    s.grants o .TCK_LOGW_CMD = true →
    s.tck.log[s.fld F.TCK_LOGW_IDX_AGE 0 o.grp]? = some e →
    exec (.tckLogwRead o) s = .next (s.done (s.setWords .TCK_LOGW_DATA e.words o.grp))) ∧
  (∀ (s : State) (o : Origin),
    s.grants o .TCK_LOGW_CMD = true →
    s.tck.log[s.fld F.TCK_LOGW_IDX_AGE 0 o.grp]? = none →
    exec (.tckLogwRead o) s = .next (s.done (s.setWords .TCK_LOGW_DATA [0#32, 0#32, 0#32, 0#32] o.grp))) ∧
  (∀ (s : State),
    exec .presenceRelease s = .next (s.done { s with tck := { s.tck with pressed := false } }))

/-- Where register writes complete: plain registers, core memory, the MSI-X table. Rests on R325, R326, R327, R339, R361,
R362, R363. -/
def Obligations.RegisterWritesComplete : Prop :=
  (∀ (s : State) (o : Origin) (addr : Nat) (v : W32) (x : RegInfo) (i : Nat),
    (o ≠ .pf0 ∧ o ≠ .pf1) ∨ addr < 0x3000000 →
    s.acuKind o addr true = 0 →
    coreMem addr = false →
    findReg addr = some (x, i) →
    isCmd x.reg = false →
    x.reg.within .OBS_CTL .OBS_CEL_CNT_HI = false →
    x.reg.within .TIM_OUT_CFG .TIM_OUT_WIDTH = false →
    [Reg.PWR_CTL, .TCK_FLAG, .TCK_RESP, .TCK_RESP_WIN, .TIM_CTL, .TIM_HOST, .TIM_CAP_CFG, .HPT_CFG, .LPT_CFG, .HPT_MAX_FRAME, .HPT_FC_THR, .HPT_DORMANT, .LPT_DORMANT, .HPT_RECAL, .LPT_RECAL, .CLS_AGE, .CLS_LP_MODE, .SEC_CTL, .SEC_SECY_CFG, .SEC_SECY_WIN, .YRD_TEST, .MKA_TIME0, .MKA_TIME1, .MKA_TIME2, .MKA_TIME3, .KEY_ZERO, .KEY_PROV_CMD, .KEY_PROV_DATA, .SVC_CTL, .TMG_PORT_CFG, .PCI_IVEC, .HFR_TX_BASE_LO, .HFR_TX_BASE_HI, .HFR_TX_CTL, .HFR_TX_TAIL, .HFR_RX_BASE_LO, .HFR_RX_BASE_HI, .HFR_RX_CTL, .HFR_RX_TAIL].contains x.reg = false →
    s.legal o x.reg i v = true →
    exec (.registerWrite o addr v) s = .next (s.done (((s.written o x.reg i v).irqs x.reg).firmware))) ∧
  (∀ (s : State) (o : Origin) (addr : Nat) (v : W32),
    (o ≠ .pf0 ∧ o ≠ .pf1) →
    s.acuKind o addr true = 0 →
    coreMem addr = true →
    exec (.registerWrite o addr v) s = .next (s.done ((s.wrMem addr (leOctets 4 v.toNat)).firmware))) ∧
  (∀ (s : State) (o : Origin) (addr : Nat) (v : W32),
    o = .pf0 ∨ o = .pf1 →
    0x3000000 ≤ addr →
    addr < 0x3000400 →
    addr % 4 = 0 →
    let T : State := { s with pci := { s.pci with table := s.pci.table.put msixDflt (((if o = Origin.pf1 then 1 else 0)) * 2 ^ 16 + ((addr - 0x3000000) / 4)) v } }
    exec (.registerWrite o addr v) s = .next (s.done ((if ((addr - 0x3000000) / 4) % 4 = 3 ∧ bits v 0 0 = 0 ∧
      s.pci.msix.getLsbD ((((if o = Origin.pf1 then 1 else 0)) * 64 + ((addr - 0x3000000) / 4) / 4)) = true then ({ T with pci := { T.pci with msix := s.pci.msix &&& ~~~(BitVec.ofNat 128 (2 ^ ((((if o = Origin.pf1 then 1 else 0)) * 64 + ((addr - 0x3000000) / 4) / 4)))) } } : State).emit (.msix ((if o = Origin.pf1 then 1 else 0)) (((addr - 0x3000000) / 4) / 4)) else T).firmware))) ∧
  (∀ (s : State) (o : Origin) (addr : Nat) (v : W32),
    (o ≠ .pf0 ∧ o ≠ .pf1) ∨ addr < 0x3000000 ∨ 0x3001008 ≤ addr →
    s.acuKind o addr true ≠ 0 →
    exec (.registerWrite o addr v) s = .next (s.done ((s.recordFault o addr true (s.acuKind o addr true)).firmware))) ∧
  (∀ (s : State) (o : Origin) (addr : Nat) (v : W32),
    (o ≠ .pf0 ∧ o ≠ .pf1) ∨ addr < 0x3000000 ∨ 0x3001008 ≤ addr →
    s.acuKind o addr true = 0 →
    coreMem addr = false →
    findReg addr = none →
    exec (.registerWrite o addr v) s = .next (s.done ((if lptHole addr = true then s else s.recordFault o addr true 6).firmware))) ∧
  (∀ (s : State) (o : Origin) (addr : Nat) (v : W32) (x : RegInfo) (i : Nat),
    (o ≠ .pf0 ∧ o ≠ .pf1) ∨ addr < 0x3000000 ∨ 0x3001008 ≤ addr →
    s.acuKind o addr true = 0 →
    coreMem addr = false →
    findReg addr = some (x, i) →
    exec (.registerWrite o addr v) s = .next (s.done ((s.regWrite o x.reg i v).firmware)))

/-- Where the commands of the PCIe functions and the host rings complete. Rests on R325, R328, R329, R330, R331, R332,
R333, R334. -/
def Obligations.HostRingsComplete : Prop :=
  (∀ (s : State),
    ∃ t, exec .pf0Flr s = .next (s.done t) ∧ t.rings = [] ∧ t.cas = s.cas ∧ t.saSlots = s.saSlots) ∧
  (∀ (s : State),
    let M : List Nat := (List.range 33).filter (fun n => s.fld F.PCI_IVEC_PF n == 1)
    let A : State := M.foldl (fun (t : State) n => t.setWord .PCI_IVEC (Reg.PCI_IVEC.rst n) n) s
    exec .pf1Flr s = .next (s.done { A with pci := { A.pci with msix := A.pci.msix &&& BitVec.ofNat 128 (2 ^ 64 - 1), table := A.pci.table.filter (fun (e : Nat × W32) => e.1 / 65536 != 1) } })) ∧
  (∀ (s : State),
    ∃ t, exec .pcieFundamentalReset s = .next (s.done t) ∧ t.pci.speed = 0 ∧ t.pci.width = 0 ∧ t.pci.bme = false ∧
      t.rings = [] ∧ t.cas = s.cas) ∧
  (∀ (s : State) (ring : Nat) (d : TxDesc),
    s.flag F.HFR_TX_CTL_EN (ring % 8) = true →
    (s.ring (ring % 8)).fetch ≠ s.fld F.HFR_TX_TAIL_IDX (ring % 8) →
    s.dscBad (ring % 8) d = false →
    d.readOk = true →
    let A : State := s.setRing (ring % 8) { (s.ring (ring % 8)) with fetch := ((s.ring (ring % 8)).fetch + 1) % s.txSize (ring % 8), flight := (s.ring (ring % 8)).flight ++ [((s.ring (ring % 8)).fetch, nbit d.flags.toNat 2)] }
    let B : List Byte × Bool := s.dscBody d
    let X : Frame := { id := s.nextId, enc := decide (64 ≤ d.port.toNat), src := .ring (ring % 8), octets := B.1 ++ fcs B.1, stage := .queued, queue := ctlQueue, lport := if d.port.toNat < 64 then 0 else d.port.toNat - 64, hport := if d.port.toNat < 64 then some d.port.toNat else none, cls := d.flags.toNat / 8 % 8, outOct := B.1 ++ fcs B.1, verdict := .good, arrived := s.counter, inTime := s.timeT, launch := if nbit d.flags.toNat 1 && d.launch != 0#64 then some (unstamp d.launch) else none, ringDsc := some (s.ring (ring % 8)).fetch, privCls := some (d.flags.toNat / 8 % 8), csum := nbit d.flags.toNat 0 }
    let C : State := { A with nextId := s.nextId + 1, frames := s.frames ++ [X] }
    let D : State := if B.2 = true then C.portCnt d.port.toNat 34 else C
    let Y : Frame := { X with queue := privQueue d.port.toNat (ring % 8) }
    exec (.txDescriptor ring d) s = .next (s.done ((if (ring % 8) < 2 then (D.setFrame Y).enqueue Y (privQueue d.port.toNat (ring % 8)) else if 64 ≤ d.port.toNat ∧
      (parse (s.fld F.CLS_TPID_X) B.1).etype ≠ 0x888E then (D.dropFrame X).secCnt 0 (d.port.toNat - 64) 6 else D.setPort d.port.toNat { D.port d.port.toNat with ctlFifo := (D.port d.port.toNat).ctlFifo ++ [s.nextId] }).pumpAll))) ∧
  (∀ (s : State) (ring : Nat) (d : TxDesc),
    s.flag F.HFR_TX_CTL_EN (ring % 8) = true →
    (s.ring (ring % 8)).fetch ≠ s.fld F.HFR_TX_TAIL_IDX (ring % 8) →
    s.dscBad (ring % 8) d = true ∨ d.readOk = false →
    let A : State := s.setRing (ring % 8) { (s.ring (ring % 8)) with fetch := ((s.ring (ring % 8)).fetch + 1) % s.txSize (ring % 8), flight := (s.ring (ring % 8)).flight ++ [((s.ring (ring % 8)).fetch, nbit d.flags.toNat 2)] }
    exec (.txDescriptor ring d) s = .next (s.done ((if s.dscBad (ring % 8) d = true then (if s.launchFar d = true ∧
      d.port.toNat < 128 then A.count .tmg 2 d.port.toNat 3 else A).dscDone (ring % 8) (s.ring (ring % 8)).fetch 3 (nbit d.flags.toNat 2) else A.dscDone (ring % 8) (s.ring (ring % 8)).fetch 5 (nbit d.flags.toNat 2)).pumpAll))) ∧
  (∀ (s : State) (ring : Nat) (d : TxDesc),
    s.flag F.HFR_TX_CTL_EN (ring % 8) = false ∨ (s.ring (ring % 8)).fetch = s.fld F.HFR_TX_TAIL_IDX (ring % 8) →
    exec (.txDescriptor ring d) s = .next (s.done s.pumpAll)) ∧
  (∀ (s : State) (ring : Nat) (d : Nat) (t : Int) (res : Nat) (irq : Bool),
    (s.ring (ring % 8)).done.find? (fun e => decide (e.1 = (s.ring (ring % 8)).head)) = some (d, t, res, irq) →
    let A : State := s.setRing (ring % 8) { (s.ring (ring % 8)) with head := ((s.ring (ring % 8)).head + 1) % s.txSize (ring % 8), done := (s.ring (ring % 8)).done.filter (fun e => e.1 != d), flight := (s.ring (ring % 8)).flight.filter (fun e => e.1 != d) }
    let B : State := A.emit (.hostWrite (s.dscAddr true (ring % 8) d + 16) ((if res ≤ 1 then leOctets 8 (stamp t).toNat else zeros 8) ++ leOctets 4 (0x80000000 + res * 0x10000000) ++ zeros 4))
    exec (.txWriteback ring) s = .next (s.done ((if irq = true then B.setRing' (ring % 8) else B).ringRest true (ring % 8)))) ∧
  (∀ (s : State) (ring : Nat),
    (s.ring (ring % 8)).done = [] →
    exec (.txWriteback ring) s = .next (s.done s)) ∧
  (∀ (s : State) (ring : Nat) (addr : W64) (b : List Byte) (port flags : BitVec 8) (trap : Nat) (ts : Int) (l : List (List Byte × BitVec 8 × BitVec 8 × Nat × Int)),
    (s.ring (8 + ring % 8)).rxq = (b, port, flags, trap, ts) :: l →
    let A : State := s.setRing (8 + (ring % 8)) { (s.ring (8 + ring % 8)) with head := ((s.ring (8 + ring % 8)).head + 1) % s.rxSize (ring % 8), rxq := l, coal := decide ((s.fld F.HFR_RX_CTL_COAL_US (ring % 8)) ≠ 0) }
    let B : State := (((A.emit (.hostWrite addr.toNat b)).emit (.hostWrite (s.dscAddr false (ring % 8) (s.ring (8 + ring % 8)).head + 8) (leOctets 2 b.length ++ [port, flags] ++ leOctets 4 (trap % 16) ++ leOctets 8 (stamp ts).toNat ++ leOctets 4 0x80000000 ++ zeros 4))).count .hfr 1 (ring % 8) 0).count .hfr 1 (ring % 8) 1 b.length
    exec (.rxWriteback ring addr) s = .next (s.done ((if (s.fld F.HFR_RX_CTL_COAL_US (ring % 8)) = 0 then B.setRing' (8 + (ring % 8)) else B).ringRest false (ring % 8)))) ∧
  (∀ (s : State) (ring : Nat) (addr : W64),
    (s.ring (8 + ring % 8)).rxq = [] →
    exec (.rxWriteback ring addr) s = .next (s.done s)) ∧
  (∀ (s : State) (ring : Nat),
    exec (.rxCoalesce ring) s = .next (s.done (if (s.ring ((8 + ring % 8))).coal = true then ((s.setRing ((8 + ring % 8)) { s.ring ((8 + ring % 8)) with coal := false }).setWord .HFR_RING_STAT (s.word .HFR_RING_STAT ||| BitVec.ofNat 32 (2 ^ ((8 + ring % 8))))).irq ((8 + ring % 8)) else s))) ∧
  (∀ (s : State) (o : Origin) (tx : Bool) (ring : Nat),
    o = .pf0 →
    s.grants o ((if tx then Reg.HFR_TX_CTL else Reg.HFR_RX_CTL)) (ring % 8) = true →
    exec (.ringEnable o tx ring) s = .next (s.done ((s.setWord ((if tx then Reg.HFR_TX_CTL else Reg.HFR_RX_CTL)) (depo (s.word ((if tx then Reg.HFR_TX_CTL else Reg.HFR_RX_CTL)) (ring % 8)) 31 31 1) (ring % 8)).setRing ((if tx then (ring % 8) else 8 + (ring % 8))) { s.ring ((if tx then (ring % 8) else 8 + (ring % 8))) with stopped := false }))) ∧
  (∀ (s : State) (o : Origin) (tx : Bool) (ring : Nat),
    o ≠ .pf0 →
    s.grants o (if tx then Reg.HFR_TX_CTL else Reg.HFR_RX_CTL) (ring % 8) = true →
    exec (.ringEnable o tx ring) s = .next (s.done (s.fault4 o (if tx then Reg.HFR_TX_CTL else Reg.HFR_RX_CTL) (ring % 8)))) ∧
  (∀ (s : State) (o : Origin) (tx : Bool) (ring : Nat),
    o = .pf0 →
    s.grants o ((if tx then Reg.HFR_TX_CTL else Reg.HFR_RX_CTL)) (ring % 8) = true →
    exec (.ringDisable o tx ring) s = .next (s.done (if (s.ring ((if tx then (ring % 8) else 8 + (ring % 8)))).flight = [] ∧
      (s.ring ((if tx then (ring % 8) else 8 + (ring % 8)))).done = [] ∧
      (s.ring ((if tx then (ring % 8) else 8 + (ring % 8)))).rxq = [] then (s.setWord ((if tx then Reg.HFR_TX_CTL else Reg.HFR_RX_CTL)) (depo (s.word ((if tx then Reg.HFR_TX_CTL else Reg.HFR_RX_CTL)) (ring % 8)) 31 31 0) (ring % 8)).setRing ((if tx then (ring % 8) else 8 + (ring % 8))) { s.ring ((if tx then (ring % 8) else 8 + (ring % 8))) with stopped := true } else (s.setWord ((if tx then Reg.HFR_TX_CTL else Reg.HFR_RX_CTL)) (depo (s.word ((if tx then Reg.HFR_TX_CTL else Reg.HFR_RX_CTL)) (ring % 8)) 31 31 0) (ring % 8))))) ∧
  (∀ (s : State) (o : Origin) (tx : Bool) (ring : Nat),
    o ≠ .pf0 →
    s.grants o (if tx then Reg.HFR_TX_CTL else Reg.HFR_RX_CTL) (ring % 8) = true →
    exec (.ringDisable o tx ring) s = .next (s.done (s.fault4 o (if tx then Reg.HFR_TX_CTL else Reg.HFR_RX_CTL) (ring % 8)))) ∧
  (∀ (s : State) (o : Origin) (tx : Bool) (ring : Nat) (v : W32),
    o = .pf0 →
    s.grants o ((if tx then Reg.HFR_TX_TAIL else Reg.HFR_RX_TAIL)) (ring % 8) = true →
    exec (.tailWrite o tx ring v) s = .next (s.done (if 2 ^ (6 + bits (s.word ((if tx then Reg.HFR_TX_CTL else Reg.HFR_RX_CTL)) (ring % 8)) 3 0) ≤ bits v 15 0 then s.recordFault o (regAddr ((if tx then Reg.HFR_TX_TAIL else Reg.HFR_RX_TAIL)) (ring % 8)) true 6 else (if bits v 31 16 = 0 then s else s.fault4 o ((if tx then Reg.HFR_TX_TAIL else Reg.HFR_RX_TAIL)) (ring % 8)).setWord ((if tx then Reg.HFR_TX_TAIL else Reg.HFR_RX_TAIL)) (BitVec.ofNat 32 (bits v 15 0)) (ring % 8)))) ∧
  (∀ (s : State) (o : Origin) (tx : Bool) (ring : Nat) (v : W32),
    o ≠ .pf0 →
    s.grants o (if tx then Reg.HFR_TX_TAIL else Reg.HFR_RX_TAIL) (ring % 8) = true →
    exec (.tailWrite o tx ring v) s = .next (s.done (s.fault4 o (if tx then Reg.HFR_TX_TAIL else Reg.HFR_RX_TAIL) (ring % 8))))

/-- Where the commands of SMBus and Iaholt complete. Rests on R335, R336, R337, R340, R342, R362. -/
def Obligations.SmbusAndIaholtComplete : Prop :=
  (∀ (s : State) (pec : Bool) (addr : Nat),
    pec = true →
    exec (.smbAddr pec addr) s = .next (s.done { s with smb := { s.smb with off := addr % 4294967296 } })) ∧
  (∀ (s : State) (pec : Bool) (addr : Nat),
    pec = false →
    exec (.smbAddr pec addr) s = .next (s.done (({ s with smb := { s.smb with pecErr := true } } : State).emit .smbNack))) ∧
  (∀ (s : State),
    let B : State × W32 × Bool := s.busRead .smbus s.smb.off
    exec .smbRead s = .next (s.done (({ B.1 with smb := { B.1.smb with fault := B.2.2, off := (B.1.smb.off + 4) % 4294967296 } } : State).emit (.smbData (leOctets 4 B.2.1.toNat))))) ∧
  (∀ (s : State) (pec : Bool) (v : W32),
    let B : State × Bool := s.busWrite .smbus s.smb.off v
    exec (.smbWrite pec v) s = .next (s.done ((if pec = true then { B.1 with smb := { B.1.smb with fault := B.2, off := (B.1.smb.off + 4) % 4294967296 } } else ({ s with smb := { s.smb with pecErr := true } } : State).emit .smbNack).firmware))) ∧
  (∀ (s : State),
    exec .smbStatus s = .next (s.done (({ s with smb := { s.smb with pecErr := false } } : State).emit (.smbData [BitVec.ofNat 8 ((if s.smb.fault then 1 else 0) + (if s.smb.pecErr then 4 else 0) + (if s.start.safeHold then 8 else 0))])))) ∧
  (∀ (s : State),
    exec .smbId s = .next (s.done (s.emit (.smbData (leOctets 4 (s.regView .GLB_DEV_ID 0 1).toNat ++ leOctets 4 (s.regView .GLB_DEV_REV 0 1).toNat))))) ∧
  (∀ (s : State),
    exec .smbusTimeout s = .next (s.done { s with smb := { off := 0, fault := false, pecErr := false } })) ∧
  (∀ (s : State) (nonce pub : List Byte) (k : Nat),
    firstIdx (fun j => !(s.sess.look (fun _ => {}) j).open_) 0 4 = some k →
    s.flag F.MGT_CFG_IAH_EN = true →
    s.cakKey 1022 ≠ [] ∨ s.presence = true →
    nonce.length = 16 →
    s.drbgKOk = true →
    let A : BitVec 512 × State := s.drbgReq.draw
    let B : BitVec 512 × State := A.2.draw
    let N : List Byte := beOctets 16 (A.1.toNat % 2 ^ 128)
    let I : W32 := BitVec.ofNat 32 (A.1.toNat / 2 ^ 128)
    let P : List Byte := ecPub (privOf B.1)
    let T : List Byte := nonce ++ pub ++ N ++ P
    exec (.iaholtOpen nonce pub) s = .next (s.done (match ecdh (privOf B.1) pub with | none => s | some z => ({ B.2 with sess := B.2.sess.put (fun _ => {}) k { open_ := true, id := I, byWin := (s.cakKey 1022).isEmpty, key := if (s.cakKey 1022).isEmpty then (sha384 (z ++ T)).take 32 else kdf (s.cakKey 1022) "SVT Iaholt" (z ++ T) 32 } } : State).mgtSend (.iaholt (beOctets 4 I.toNat ++ N ++ P)) (B.2.mgtUdp 145)))) ∧
  (∀ (s : State) (nonce pub : List Byte),
    s.flag F.MGT_CFG_IAH_EN = false ∨ (s.cakKey 1022 = [] ∧ s.presence = false) ∨ nonce.length ≠ 16 →
    exec (.iaholtOpen nonce pub) s = .next (s.done s)) ∧
  (∀ (s : State) (h : IahHdr) (start count : Nat) (k : Nat) (x : IahSess),
    s.sessOf h.session = some (k, x) →
    s.flag F.MGT_CFG_IAH_EN = true →
    h.tagOk = true →
    x.seq < h.seq →
    let T : State := { s with sess := s.sess.put (fun _ => {}) k { x with seq := h.seq } }
    let A : State × List (W32 × Bool) := T.iahReads start count
    exec (.iaholtRead h start count) s = .next (s.done (if count = 0 ∨ 64 < count then T.iahAnswer h.seq [true] [] else A.1.iahAnswer h.seq (A.2.map (fun (e : W32 × Bool) => e.2)) (A.2.map (fun (e : W32 × Bool) => e.1))))) ∧
  (∀ (s : State) (h : IahHdr) (start count : Nat),
    s.sessOf h.session = none ∨ (s.flag F.MGT_CFG_IAH_EN = true ∧ h.tagOk = false) →
    exec (.iaholtRead h start count) s = .next (s.done { s with iahDrop := s.iahDrop + 1 })) ∧
  (∀ (s : State) (h : IahHdr) (pairs : List (Nat × W32)) (k : Nat) (x : IahSess),
    s.sessOf h.session = some (k, x) →
    s.flag F.MGT_CFG_IAH_EN = true →
    h.tagOk = true →
    x.seq < h.seq →
    let T : State := { s with sess := s.sess.put (fun _ => {}) k { x with seq := h.seq } }
    let A : State × List Bool := T.iahWrites pairs
    exec (.iaholtWrite h pairs) s = .next (s.done ((if pairs = [] ∨ 64 < pairs.length then T.iahAnswer h.seq [true] [] else A.1.iahAnswer h.seq A.2 []).firmware))) ∧
  (∀ (s : State) (h : IahHdr) (pairs : List (Nat × W32)) (k : Nat) (x : IahSess),
    s.sessOf h.session = some (k, x) →
    s.flag F.MGT_CFG_IAH_EN = true →
    h.tagOk = false ∨ h.seq ≤ x.seq →
    exec (.iaholtWrite h pairs) s = .next (s.done (({ s with iahDrop := s.iahDrop + 1 } : State).firmware))) ∧
  (∀ (s : State) (h : IahHdr) (k : Nat) (x : IahSess),
    s.sessOf h.session = some (k, x) →
    s.flag F.MGT_CFG_IAH_EN = true →
    h.tagOk = true →
    x.seq < h.seq →
    ∃ t, exec (.iaholtClose h) s = .next (s.done t) ∧ t.sess.look (fun _ => {}) k = {} ∧ t.saSlots = s.saSlots ∧
      t.regs = s.regs) ∧
  (∀ (s : State) (slot : Nat),
    exec (.iaholtIdleClose slot) s = .next (s.done { s with sess := s.sess.put (fun _ => {}) (slot % 4) {} }))

/-- Where an ACU's commit and the instructions of the TAP complete. Rests on R343, R344, R346. -/
def Obligations.CommitsAndTapInstructionsComplete : Prop :=
  (∀ (s : State) (o : Origin) (acu : Nat),
    s.grants o .ACU_CTL ((acu % 91)) = true →
    acuMaster o ((acu % 91)) = true →
    ((acu % 91) ≠ 80 ∧ (acu % 91) ≠ 81) ∨ s.presence = true →
    (s.acu ((acu % 91))).drained = true →
    rulesOk (s.acuShadow ((acu % 91))) = true →
    exec (.acuCommit o acu) s = .next (s.done (s.setAcu ((acu % 91)) { s.acu ((acu % 91)) with rules := s.acuShadow ((acu % 91)), drained := false, err := 0 }))) ∧
  (∀ (s : State) (o : Origin) (acu : Nat),
    s.grants o .ACU_CTL ((acu % 91)) = true →
    acuMaster o ((acu % 91)) = false ∨ (s.acu ((acu % 91))).drained = false ∨ rulesOk (s.acuShadow ((acu % 91))) = false →
    ((acu % 91) ≠ 80 ∧ (acu % 91) ≠ 81) ∨ s.presence = true →
    let E : Nat := if acuMaster o ((acu % 91)) = false then 1 else if (s.acu ((acu % 91))).drained = false then 3 else 2
    exec (.acuCommit o acu) s = .next (s.done ((s.setAcu ((acu % 91)) { s.acu ((acu % 91)) with err := E }).setInt .ACU_INT_STAT 1))) ∧
  (∀ (s : State) (acu : Nat),
    exec (.acuFenceDrained acu) s = .next (s.done (s.setAcu (acu % 91) { s.acu (acu % 91) with drained := true }))) ∧
  (∀ (s : State),
    s.presence = true →
    exec .extest s = .next (s.done (({ s with jtag := { s.jtag with ir := 0x00#8, extest := true } } : State).isolate))) ∧
  (∀ (s : State),
    s.presence = false →
    exec .extest s = .next (s.done { s with jtag := { s.jtag with ir := 0xFF#8 } })) ∧
  (∀ (s : State),
    s.presence = true →
    exec .extestPulse s = .next (s.done (({ s with jtag := { s.jtag with ir := 0x03#8, extest := true } } : State).isolate))) ∧
  (∀ (s : State),
    s.presence = false →
    exec .extestPulse s = .next (s.done { s with jtag := { s.jtag with ir := 0xFF#8 } })) ∧
  (∀ (s : State),
    s.presence = true →
    exec .extestTrain s = .next (s.done (({ s with jtag := { s.jtag with ir := 0x04#8, extest := true } } : State).isolate))) ∧
  (∀ (s : State),
    s.presence = false →
    exec .extestTrain s = .next (s.done { s with jtag := { s.jtag with ir := 0xFF#8 } })) ∧
  (∀ (s : State),
    s.presence = true →
    exec .clamp s = .next (s.done { s with jtag := { s.jtag with ir := 0x05#8 } })) ∧
  (∀ (s : State),
    s.presence = false →
    exec .clamp s = .next (s.done { s with jtag := { s.jtag with ir := 0xFF#8 } })) ∧
  (∀ (s : State),
    s.presence = true →
    exec .highz s = .next (s.done { s with jtag := { s.jtag with ir := 0x06#8 } })) ∧
  (∀ (s : State),
    s.presence = false →
    exec .highz s = .next (s.done { s with jtag := { s.jtag with ir := 0xFF#8 } })) ∧
  (∀ (s : State),
    exec .idcode s = .next (s.done (({ s with jtag := { s.jtag with ir := 0x01#8 } } : State).emit (.tdo (leOctets 4 0xB6408F35))))) ∧
  (∀ (s : State),
    exec .samplePreload s = .next (s.done { s with jtag := { s.jtag with ir := 0x02#8 } })) ∧
  (∀ (s : State),
    exec .bypass s = .next (s.done { s with jtag := { s.jtag with ir := 0xFF#8 } }))

/-- Where the debug unlock and the debug instructions complete, and where they stop. Rests on R346, R347. -/
def Obligations.DebugCommandsComplete : Prop :=
  (∀ (s : State),
    s.drbgKOk = true →
    exec .dbgChal s = .next (s.done (({ (({ s with jtag := { s.jtag with ir := 0x20#8 } } : State).drbgReq.draw).2 with jtag := { (({ s with jtag := { s.jtag with ir := 0x20#8 } } : State).drbgReq.draw).2.jtag with nonce := some (beOctets 16 ((({ s with jtag := { s.jtag with ir := 0x20#8 } } : State).drbgReq.draw).1.toNat % 2 ^ 128)) } } : State).emit (.tdo (beOctets 8 s.fuses.serial.toNat ++ (beOctets 16 ((({ s with jtag := { s.jtag with ir := 0x20#8 } } : State).drbgReq.draw).1.toNat % 2 ^ 128))))))) ∧
  (∀ (s : State),
    s.drbgKOk = false →
    exec .dbgChal s = .next (s.done (({ s with jtag := { s.jtag with ir := 0x20#8 } } : State).drbgRefused))) ∧
  (∀ (s : State) (pub r sig : List Byte) (n : List Byte),
    s.jtag.nonce = some n →
    s.presence = true →
    sha384 pub = s.fuses.keyHash →
    let M : List Byte := ascii "SVT debug unlock" ++ beOctets 8 s.fuses.serial.toNat ++ n
    let E : Nat := if ecdsaOk pub M r sig = false then 3 else if s.start.safeHold = false ∧
      s.alarm.isolated = false then 4 else 0
    exec (.dbgResp pub r sig) s = .next (s.done (if E = 0 then (({ s with svc := [], mem := s.mem.filter (fun (c : Cell) => decide (0x31000000 ≤ c.1)), jtag := { s.jtag with ir := 0x21#8, nonce := none, lastErr := 0, unlocked := true } } : State).setInt .ACU_INT_STAT 2).raise 24 else ({ s with jtag := { s.jtag with ir := 0x21#8, nonce := none, lastErr := E } } : State).setInt .ACU_INT_STAT 2))) ∧
  (∀ (s : State) (pub r sig : List Byte),
    s.presence = false ∨ s.jtag.nonce = none →
    exec (.dbgResp pub r sig) s = .next (s.done (({ s with jtag := { s.jtag with ir := 0x21#8, nonce := none, lastErr := if s.presence = false then 1 else 5 } } : State).setInt .ACU_INT_STAT 2))) ∧
  (∀ (s : State) (k : DbgKind) (c : Nat),
    s.jtag.unlocked = true →
    k = DbgKind.halt c ∨ k = DbgKind.resume c →
    exec (.debugAccess k) s = .next (s.done { s with jtag := { s.jtag with halted := (s.jtag.halted.filter (fun j => j != c % 16)) ++ (if k = DbgKind.halt c then [c % 16] else []) } })) ∧
  (∀ (s : State) (k : DbgKind),
    s.jtag.unlocked = false →
    exec (.debugAccess k) s = .next (s.done { s with jtag := { s.jtag with ir := 0xFF#8 } })) ∧
  (∀ (s : State) (k : DbgKind) (c a : Nat),
    s.jtag.unlocked = true →
    k = DbgKind.read c a →
    let B : State × W32 × Bool := s.busRead (.core (c % 16)) a
    exec (.debugAccess k) s = .next (s.done (if s.jtag.halted.contains (c % 16) = true then B.1.emit (.tdo (leOctets 4 B.2.1.toNat)) else s))) ∧
  (∀ (s : State) (k : DbgKind) (c a : Nat) (v : W32),
    s.jtag.unlocked = true →
    k = DbgKind.write c a v →
    exec (.debugAccess k) s = .next (s.done (if s.jtag.halted.contains (c % 16) = true then (s.busWrite (.core (c % 16)) a v).1 else s))) ∧
  (∀ (s : State) (k : DbgKind) (c : Nat),
    s.jtag.unlocked = true →
    k = DbgKind.step c →
    exec (.debugAccess k) s = .refused .debugStep) ∧
  (∀ (s : State) (k : DbgKind),
    s.jtag.unlocked = true →
    k = DbgKind.scan →
    exec (.debugAccess k) s = .refused .internalScan)

/-- Where the commands of the observation unit complete: samples, FREEZE, the windows and the event log. Rests on R354,
R355, R358, R359, R360. -/
def Obligations.ObservationCommandsComplete : Prop :=
  (∀ (s : State) (u : ObsUnit) (cnt : Nat) (d1 d2 : W32) (w : Nat × Nat),
    s.obs.wrapped.find? (fun e => e.1 == obsKey u cnt) = some w →
    s.obs.on = true →
    let X : Sample := { unit := u.code, idx := u.idx, cnt := cnt, d1 := (match u with | .port n => BitVec.ofNat 32 (s.fifoFill (n % 128) / 256) | _ => d1), d2 := (match u with | .port _ => 0#32 | _ => d2), occ := (match u with | .engine e => (s.eng (e % 64)).slots.length | _ => 0), ns := s.nowNs, wrap := w.2 }
    let A : State := { s with obs := { s.obs with wrapped := s.obs.wrapped.filter (fun (j : Nat × Nat) => j.1 != obsKey u cnt) } }
    let B : State := { A with obs := { A.obs with samples := putSample A.obs.samples X } }
    exec (.counterWrapSample u cnt d1 d2) s = .next (s.done (if 256 ≤ s.obs.samples.length then A.setInt .OBS_INT_STAT 1 else if s.obs.samples.length = 127 then B.setInt .OBS_INT_STAT 0 else B))) ∧
  (∀ (s : State) (u : ObsUnit) (cnt : Nat) (d1 d2 : W32),
    s.obs.wrapped.find? (fun e => e.1 == obsKey u cnt) = none ∨ s.obs.on = false →
    exec (.counterWrapSample u cnt d1 d2) s = .next (s.done s)) ∧
  (∀ (s : State) (o : Origin),
    s.grants o .OBS_SMPW_CMD = true →
    s.accepts o .OBS_SMPW_CMD 0 = true →
    exec (.smpwPop o) s = .next (s.done (if s.obs.on = false then s else match s.obs.samples with | [] => s.setWord .OBS_SMPW_DATA 0#32 0 o.grp | x :: l => ({ s with obs := { s.obs with samples := l } } : State).setWords .OBS_SMPW_DATA x.words o.grp))) ∧
  (∀ (s : State) (o : Origin),
    s.grants o .OBS_SMPW_CMD = true →
    s.accepts o .OBS_SMPW_CMD 0 = false →
    exec (.smpwPop o) s = .next (s.done (s.fault4 o .OBS_SMPW_CMD 0))) ∧
  (∀ (s : State) (o : Origin) (on : Bool),
    s.grants o .OBS_CTL = true →
    s.legal o .OBS_CTL 0 (depo (s.word .OBS_CTL) 31 31 (if on then 1 else 0)) = true →
    exec (.freeze o on) s = .next (s.done (s.written o .OBS_CTL 0 (depo (s.word .OBS_CTL) 31 31 (if on then 1 else 0))))) ∧
  (∀ (s : State) (x : LogPend),
    nextLog s.obs.pend = some x →
    let L : Nat := s.obs.lastLog.look (fun _ => 0) x.key
    exec .eventLogEntry s = .next (s.done (if 0 < L ∧
      x.ns < L - 1 + 1000000 then { s with obs := { s.obs with pend := s.obs.pend.erase x, supp := s.obs.supp.put (fun _ => 0) x.key (min (s.obs.supp.look (fun _ => 0) x.key + 1) 255) } } else ({ s with obs := { s.obs with pend := s.obs.pend.erase x, log := (({ t := x.t, src := x.src, port := if x.src = 16 ∨ x.src = 17 then x.port else 0, bit := x.bit, supp := s.obs.supp.look (fun _ => 0) x.key, evt := x.evt, seq := s.obs.logSeq + 1 } : LogEnt) :: s.obs.log).take 1024, logSeq := s.obs.logSeq + 1, supp := s.obs.supp.put (fun _ => 0) x.key 0, lastLog := s.obs.lastLog.put (fun _ => 0) x.key (x.ns + 1) } } : State).setInt .OBS_INT_STAT 2))) ∧
  (∀ (s : State),
    nextLog s.obs.pend = none →
    exec .eventLogEntry s = .next (s.done s)) ∧
  (∀ (s : State) (o : Origin),
    s.grants o .OBS_LOGW_CMD = true →
    s.accepts o .OBS_LOGW_CMD 0 = true →
    exec (.obsLogwRead o) s = .next (s.done (match s.obs.log[s.fld F.OBS_LOGW_IDX_AGE 0 o.grp]? with | some e => (s.setWords .OBS_LOGW_DATA e.words o.grp).setWord .OBS_LOGW_SEQ (BitVec.ofNat 32 e.seq) 0 o.grp | none => (s.setWords .OBS_LOGW_DATA [0#32, 0#32, 0#32, 0#32] o.grp).setWord .OBS_LOGW_SEQ 0#32 0 o.grp))) ∧
  (∀ (s : State) (o : Origin),
    s.grants o .OBS_LOGW_CMD = true →
    s.accepts o .OBS_LOGW_CMD 0 = false →
    exec (.obsLogwRead o) s = .next (s.done (s.fault4 o .OBS_LOGW_CMD 0)))

/-- With no presence window open, gated commands are refused with an access fault of kind 5. Rests on R321, R342, R345. -/
def Obligations.ClosedWindowRefusesGatedCommands : Prop :=
  (∀ (s : State) (o : Origin),
    s.grants o .CLS_BANK = true →
    (s.presence = false) →
    exec (.bankSwitch o) s = .next (s.done (s.recordFault o (regAddr .CLS_BANK 0) true 5))) ∧
  (∀ (s : State) (o : Origin),
    s.grants o .KEY_CAKW_CMD = true →
    o = .pf0 ∨ o = .iaholt →
    (s.presence = false) →
    exec (.cakwErase o) s = .next (s.done ((((s.cmdErr .KEY_CAKW_CMD o.grp 2).setInt .KEY_INT_STAT 1).recordFault o (regAddr .KEY_CAKW_CMD 0) true 5)))) ∧
  (∀ (s : State) (o : Origin) (slot : Nat),
    s.grants o .KEY_PROV_CMD = true →
    o = .pf0 ∨ o = .iaholt →
    (s.presence = false) →
    exec (.provBegin o slot) s = .next (s.done (((s.cmdErr .KEY_PROV_CMD o.grp 2).setInt .KEY_INT_STAT 1).recordFault o (regAddr .KEY_PROV_CMD 0) true 5))) ∧
  (∀ (s : State) (o : Origin),
    s.grants o .KEY_PROV_CMD = true →
    o = .pf0 ∨ o = .iaholt →
    (s.presence = false) →
    exec (.provCommit o) s = .next (s.done (((s.cmdErr .KEY_PROV_CMD o.grp 2).setInt .KEY_INT_STAT 1).recordFault o (regAddr .KEY_PROV_CMD 0) true 5))) ∧
  (∀ (s : State) (o : Origin) (v : W32),
    s.grants o .KEY_ZERO = true →
    (s.presence = false) →
    v = 0x5A3C#32 →
    exec (.keyZero o v) s = .next (s.done (s.recordFault o (regAddr .KEY_ZERO 0) true 5))) ∧
  (∀ (s : State) (o : Origin),
    s.grants o .MKA_CAW_CMD = true →
    (s.presence = false) →
    exec (.cawRestart o) s = .next (s.done ((s.cmdErr .MKA_CAW_CMD o.grp 4).recordFault o (regAddr .MKA_CAW_CMD 0) true 5))) ∧
  (∀ (s : State) (o : Origin),
    s.grants o .TMG_GCW_CMD = true →
    (s.presence = false) →
    exec (.gcwWrite o) s = .next (s.done (((s.cmdErr .TMG_GCW_CMD o.grp 1).setInt .TMG_INT_STAT 1).recordFault o (regAddr .TMG_GCW_CMD 0) true 5))) ∧
  (∀ (s : State) (o : Origin),
    s.grants o .PAR_CMD = true →
    o = .pf0 ∨ o = .iaholt →
    (s.presence = false) →
    exec (.parTest o) s = .next (s.done (((s.cmdErr .PAR_CMD o.grp 3).parInt 9).recordFault o (regAddr .PAR_CMD 0) true 5))) ∧
  (∀ (s : State) (o : Origin),
    s.grants o .PAR_CMD = true →
    o = .pf0 ∨ o = .iaholt →
    (s.presence = false) →
    exec (.parSwitch o) s = .next (s.done (((s.cmdErr .PAR_CMD o.grp 3).parInt 9).recordFault o (regAddr .PAR_CMD 0) true 5))) ∧
  (∀ (s : State) (o : Origin),
    s.grants o .PAR_CMD = true →
    o = .pf0 ∨ o = .iaholt →
    (s.presence = false) →
    exec (.parAcceptDigest o) s = .next (s.done (((s.cmdErr .PAR_CMD o.grp 3).parInt 9).recordFault o (regAddr .PAR_CMD 0) true 5))) ∧
  (∀ (s : State) (o : Origin),
    s.grants o .STA_CMD = true →
    o = .pf0 ∨ o = .iaholt ∨ o = .smbus →
    (s.presence = false) →
    exec (.clearHold o) s = .next (s.done (((s.cmdErr .STA_CMD o.grp 2).setInt .STA_INT_STAT 6).recordFault o (regAddr .STA_CMD 0) true 5))) ∧
  (∀ (s : State) (o : Origin),
    s.grants o .STA_CMD = true →
    o = .pf0 ∨ o = .iaholt ∨ o = .smbus →
    (s.presence = false) →
    exec (.clearAlt o) s = .next (s.done (((s.cmdErr .STA_CMD o.grp 2).setInt .STA_INT_STAT 6).recordFault o (regAddr .STA_CMD 0) true 5))) ∧
  (∀ (s : State) (o : Origin),
    s.grants o .TCK_CMD = true →
    o = .pf0 ∨ o = .iaholt ∨ o = .smbus →
    (s.presence = false) →
    exec (.ack o) s = .next (s.done ((s.cmdErr .TCK_CMD o.grp 2).recordFault o (regAddr .TCK_CMD 0) true 5))) ∧
  (∀ (s : State) (o : Origin) (owner : Nat),
    s.grants o .TIM_CTL = true →
    owner % 4 ≠ s.fld F.TIM_CTL_OWNER →
    (s.presence = false) →
    exec (.ownerWrite o owner) s = .next (s.done (s.recordFault o (regAddr .TIM_CTL 0) true 5))) ∧
  (∀ (s : State) (o : Origin) (v : W32),
    s.grants o .TCK_FLAG = true →
    (s.tck.flags &&& v.setWidth 26) ≠ s.tck.flags →
    (s.presence = false) →
    exec (.flagClear o v) s = .next (s.done (s.recordFault o (regAddr .TCK_FLAG 0) true 5)))

/-- Where commands are turned away: no owner, a stale sequence number, a busy yardmaster, a closed window at the TAP. Rests
on R150, R204, R205, R334, R336, R337, R346. -/
def Obligations.CommandsTurnedAwayLeaveTheirTargets : Prop :=
  (∀ (s : State) (o : Origin),
    s.grants o .TIM_ADJ_CMD = true →
    s.par.st ≠ .standby →
    s.ownsTime o = false →
    exec (.adjRate o) s = .next (s.done (((s.cmdErr .TIM_ADJ_CMD o.grp 1).count .tim 0 0 4).setInt .TIM_INT_STAT 7))) ∧
  (∀ (s : State) (o : Origin),
    s.grants o .TIM_ADJ_CMD = true →
    s.par.st ≠ .standby →
    s.ownsTime o = false →
    exec (.adjStep o) s = .next (s.done (((s.cmdErr .TIM_ADJ_CMD o.grp 1).count .tim 0 0 4).setInt .TIM_INT_STAT 7))) ∧
  (∀ (s : State) (o : Origin),
    s.grants o .TIM_ADJ_CMD = true →
    s.par.st ≠ .standby →
    s.ownsTime o = false →
    exec (.adjRateAndStep o) s = .next (s.done (((s.cmdErr .TIM_ADJ_CMD o.grp 1).count .tim 0 0 4).setInt .TIM_INT_STAT 7))) ∧
  (∀ (s : State) (o : Origin),
    s.grants o .TIM_ADJ_CMD = true →
    s.par.st = .standby →
    exec (.adjSet o) s = .next (s.done (((s.cmdErr .TIM_ADJ_CMD o.grp 4).count .tim 0 0 4).setInt .TIM_INT_STAT 7))) ∧
  (∀ (s : State) (h : IahHdr) (start count : Nat) (k : Nat) (x : IahSess),
    s.sessOf h.session = some (k, x) →
    s.flag F.MGT_CFG_IAH_EN = true →
    h.tagOk = false ∨ h.seq ≤ x.seq →
    exec (.iaholtRead h start count) s = .next (s.done { s with iahDrop := s.iahDrop + 1 })) ∧
  (∀ (s : State) (h : IahHdr) (pairs : List (Nat × W32)) (k : Nat) (x : IahSess),
    s.sessOf h.session = some (k, x) →
    s.flag F.MGT_CFG_IAH_EN = true →
    h.tagOk = false ∨ h.seq ≤ x.seq →
    exec (.iaholtWrite h pairs) s = .next (s.done (({ s with iahDrop := s.iahDrop + 1 } : State).firmware))) ∧
  (∀ (s : State) (h : IahHdr) (k : Nat) (x : IahSess),
    s.sessOf h.session = some (k, x) →
    s.flag F.MGT_CFG_IAH_EN = true →
    h.tagOk = false ∨ h.seq ≤ x.seq →
    exec (.iaholtClose h) s = .next (s.done { s with iahDrop := s.iahDrop + 1 })) ∧
  (∀ (s : State) (o : Origin) (op eng : Nat),
    s.grants o .YRD_TEST = true →
    o.main = true →
    s.testBusy = true →
    exec (.testRequest o op eng) s = .next (s.done ((s.setFld F.YRD_TEST_OP op).setFld F.YRD_TEST_ENGINE eng))) ∧
  (∀ (s : State),
    s.presence = false →
    exec .extest s = .next (s.done { s with jtag := { s.jtag with ir := 0xFF#8 } })) ∧
  (∀ (s : State),
    s.presence = false →
    exec .clamp s = .next (s.done { s with jtag := { s.jtag with ir := 0xFF#8 } })) ∧
  (∀ (s : State),
    s.presence = false →
    exec .highz s = .next (s.done { s with jtag := { s.jtag with ir := 0xFF#8 } })) ∧
  (∀ (s : State) (o : Origin) (tx : Bool) (ring : Nat) (v : W32),
    o = .pf0 →
    s.grants o ((if tx then Reg.HFR_TX_TAIL else Reg.HFR_RX_TAIL)) (ring % 8) = true →
    2 ^ (6 + bits (s.word (if tx then Reg.HFR_TX_CTL else Reg.HFR_RX_CTL) (ring % 8)) 3 0) ≤ bits v 15 0 →
    exec (.tailWrite o tx ring v) s = .next (s.done (s.recordFault o (regAddr ((if tx then Reg.HFR_TX_TAIL else Reg.HFR_RX_TAIL)) (ring % 8)) true 6)))
end

