-- ==== Sys2Proof/Laws/State.lean ====
section
/-!
SUPPORT. The laws of the tables and of State's updates: what a table holds after a write, that it keeps its canonical form,
and one lemma for each field that an update leaves alone.
-/

namespace Sys2Proof.Machine

/-! ## Tables -/

theorem Tab.look_drop {α : Type} (d : Nat → α) (t : Tab α) (k j : Nat) :
    (t.drop k).look d j = if j = k then d k else t.look d j := by
  induction t with
  | nil => by_cases h : j = k <;> simp [Tab.drop, Tab.look, h]
  | cons e r ih =>
    obtain ⟨i, v⟩ := e
    by_cases hi : i = k
    · subst hi
      by_cases hj : j = i
      · subst hj; simpa [Tab.drop] using ih
      · have : ¬ i = j := fun h => hj h.symm
        simp [Tab.drop, Tab.look, ih, hj, this]
    · by_cases hj : j = k
      · subst hj; simp [Tab.drop, Tab.look, hi, ih]
      · simp [Tab.drop, Tab.look, hi, ih, hj]

theorem Tab.look_ins {α : Type} (d : Nat → α) (t : Tab α) (k : Nat) (v : α) (j : Nat) :
    (t.ins k v).look d j = if j = k then v else t.look d j := by
  induction t with
  | nil =>
    by_cases h : k = j
    · simp [Tab.ins, Tab.look, h]
    · have : ¬ j = k := fun e => h e.symm
      simp [Tab.ins, Tab.look, h, this]
  | cons e r ih =>
    obtain ⟨i, w⟩ := e
    by_cases h1 : i < k
    · by_cases hj : j = k
      · subst hj
        have : ¬ i = j := by omega
        simp [Tab.ins, Tab.look, h1, this, ih]
      · simp [Tab.ins, Tab.look, h1, ih, hj]
    · by_cases h2 : i = k
      · subst h2
        by_cases hj : i = j
        · simp [Tab.ins, Tab.look, hj]
        · have : ¬ j = i := fun e => hj e.symm
          simp [Tab.ins, Tab.look, hj, this]
      · simp only [Tab.ins, h1, if_false, beq_eq_false_iff_ne.mpr h2, Bool.false_eq_true]
        by_cases hj : k = j
        · simp [Tab.look, hj]
        · have : ¬ j = k := fun e => hj e.symm
          simp [Tab.look, hj, this]

/-- What a table holds after a write, at every index. -/
theorem Tab.look_put {α : Type} [DecidableEq α] (d : Nat → α) (t : Tab α) (k : Nat) (v : α) (j : Nat) :
    (t.put d k v).look d j = if j = k then v else t.look d j := by
  unfold Tab.put
  split
  · rename_i h; rw [Tab.look_drop, h]
  · rw [Tab.look_ins]

@[simp] theorem Tab.look_put_self {α : Type} [DecidableEq α] (d : Nat → α) (t : Tab α) (k : Nat) (v : α) :
    (t.put d k v).look d k = v := by simp [Tab.look_put]

theorem Tab.look_put_ne {α : Type} [DecidableEq α] (d : Nat → α) (t : Tab α) {k j : Nat} (v : α) (h : j ≠ k) :
    (t.put d k v).look d j = t.look d j := by simp [Tab.look_put, h]

theorem Tab.wfFrom_mono {α : Type} [DecidableEq α] (d : Nat → α) (t : Tab α) {a b : Nat} (h : a ≤ b) :
    t.wfFrom d b = true → t.wfFrom d a = true := by
  cases t with
  | nil => simp [Tab.wfFrom]
  | cons e r =>
    simp only [Tab.wfFrom, Bool.and_eq_true, decide_eq_true_eq]
    exact fun g => ⟨⟨by omega, g.1.2⟩, g.2⟩

theorem Tab.wfFrom_drop {α : Type} [DecidableEq α] (d : Nat → α) (t : Tab α) (k a : Nat) :
    t.wfFrom d a = true → (t.drop k).wfFrom d a = true := by
  induction t generalizing a with
  | nil => simp [Tab.drop]
  | cons e r ih =>
    obtain ⟨i, v⟩ := e
    intro h
    simp only [Tab.wfFrom, Bool.and_eq_true, decide_eq_true_eq] at h
    by_cases hi : i = k
    · simp only [Tab.drop, hi, beq_self_eq_true, if_true]
      exact Tab.wfFrom_mono d _ (by omega) (ih _ h.2)
    · simp only [Tab.drop, beq_eq_false_iff_ne.mpr hi]
      simp only [Tab.wfFrom, Bool.and_eq_true, decide_eq_true_eq, Bool.false_eq_true, if_false]
      exact ⟨h.1, ih _ h.2⟩

theorem Tab.wfFrom_ins {α : Type} [DecidableEq α] (d : Nat → α) (t : Tab α) (k : Nat) (v : α) (hv : v ≠ d k) (a : Nat)
    (ha : a ≤ k) : t.wfFrom d a = true → (t.ins k v).wfFrom d a = true := by
  induction t generalizing a with
  | nil => simp [Tab.ins, Tab.wfFrom, hv, ha]
  | cons e r ih =>
    obtain ⟨i, w⟩ := e
    intro h
    simp only [Tab.wfFrom, Bool.and_eq_true, decide_eq_true_eq] at h
    by_cases h1 : i < k
    · simp only [Tab.ins, h1, if_true, Tab.wfFrom, Bool.and_eq_true, decide_eq_true_eq]
      exact ⟨h.1, ih _ (by omega) h.2⟩
    · by_cases h2 : i = k
      · subst h2
        simp only [Tab.ins, lt_irrefl, if_false, beq_self_eq_true, if_true, Tab.wfFrom, Bool.and_eq_true,
          decide_eq_true_eq]
        exact ⟨⟨h.1.1, hv⟩, h.2⟩
      · simp only [Tab.ins, h1, if_false, beq_eq_false_iff_ne.mpr h2, Bool.false_eq_true, Tab.wfFrom,
          Bool.and_eq_true, decide_eq_true_eq]
        exact ⟨⟨ha, hv⟩, ⟨by omega, h.1.2⟩, h.2⟩

/-- A write keeps the canonical form. -/
theorem Tab.wf_put {α : Type} [DecidableEq α] (d : Nat → α) (t : Tab α) (k : Nat) (v : α) :
    t.wf d = true → (t.put d k v).wf d = true := by
  intro h
  unfold Tab.put
  split
  · exact Tab.wfFrom_drop d t k 0 h
  · rename_i hv; exact Tab.wfFrom_ins d t k v hv 0 (Nat.zero_le _) h

/-! ## Core memory -/

theorem Memory.wfFrom_eq (m : List Host.Cell) (a : Nat) : Memory.wfFrom a m = Tab.wfFrom (fun _ => memDflt) a m := by
  induction m generalizing a with
  | nil => rfl
  | cons e r ih =>
    obtain ⟨i, b⟩ := e
    simp [Memory.wfFrom, Tab.wfFrom, ih, bne, beq_eq_decide]

/-- Writing octets keeps the memory's canonical form. -/
theorem Memory.wf_write (m : List Host.Cell) (a : Nat) (b : Byte) : Memory.wf m = true → Memory.wf (Memory.write m a b) = true := by
  simp only [Memory.wf, Memory.wfFrom_eq]
  exact Tab.wf_put (fun _ => memDflt) m a b

theorem Memory.wf_writes (m : List Host.Cell) (a : Nat) (l : List Byte) :
    Memory.wf m = true → Memory.wf (Memory.writes m a l) = true := by
  induction l generalizing m a with
  | nil => simp [Memory.writes]
  | cons b r ih => intro h; exact ih _ _ (Memory.wf_write m a b h)

/-- The octet read at an address after one write. -/
theorem Memory.read_write (m : List Host.Cell) (a : Nat) (b : Byte) (x : Nat) :
    Memory.read (Memory.write m a b) x = if x = a then b else Memory.read m x :=
  Tab.look_put (fun _ => memDflt) m a b x

/-! ## One table entry -/

@[simp] theorem State.port_setPort (s : State) (k : Nat) (v : Port) : (s.setPort k v).port k = v :=
  Tab.look_put_self _ _ _ _
theorem State.port_setPort_ne (s : State) {k j : Nat} (v : Port) (h : j ≠ k) : (s.setPort k v).port j = s.port j :=
  Tab.look_put_ne _ _ _ h
@[simp] theorem State.sa_setSa (s : State) (k : Nat) (v : Sa) : (s.setSa k v).sa k = v :=
  Tab.look_put_self _ _ _ _
theorem State.sa_setSa_ne (s : State) {k j : Nat} (v : Sa) (h : j ≠ k) : (s.setSa k v).sa j = s.sa j :=
  Tab.look_put_ne _ _ _ h
@[simp] theorem State.secy_setSecy (s : State) (k : Nat) (v : Secy) : (s.setSecy k v).secy k = v :=
  Tab.look_put_self _ _ _ _
theorem State.secy_setSecy_ne (s : State) {k j : Nat} (v : Secy) (h : j ≠ k) : (s.setSecy k v).secy j = s.secy j :=
  Tab.look_put_ne _ _ _ h
@[simp] theorem State.rsc_setRsc (s : State) (k : Nat) (v : Rsc) : (s.setRsc k v).rsc k = v :=
  Tab.look_put_self _ _ _ _
theorem State.rsc_setRsc_ne (s : State) {k j : Nat} (v : Rsc) (h : j ≠ k) : (s.setRsc k v).rsc j = s.rsc j :=
  Tab.look_put_ne _ _ _ h
@[simp] theorem State.ca_setCa (s : State) (k : Nat) (v : Ca) : (s.setCa k v).ca k = v :=
  Tab.look_put_self _ _ _ _
theorem State.ca_setCa_ne (s : State) {k j : Nat} (v : Ca) (h : j ≠ k) : (s.setCa k v).ca j = s.ca j :=
  Tab.look_put_ne _ _ _ h
@[simp] theorem State.saSlot_setSaSlot (s : State) (k : Nat) (v : SaSlot) : (s.setSaSlot k v).saSlot k = v :=
  Tab.look_put_self _ _ _ _
theorem State.saSlot_setSaSlot_ne (s : State) {k j : Nat} (v : SaSlot) (h : j ≠ k) : (s.setSaSlot k v).saSlot j = s.saSlot j :=
  Tab.look_put_ne _ _ _ h
@[simp] theorem State.cakSlot_setCakSlot (s : State) (k : Nat) (v : CakSlot) : (s.setCakSlot k v).cakSlot k = v :=
  Tab.look_put_self _ _ _ _
theorem State.cakSlot_setCakSlot_ne (s : State) {k j : Nat} (v : CakSlot) (h : j ≠ k) : (s.setCakSlot k v).cakSlot j = s.cakSlot j :=
  Tab.look_put_ne _ _ _ h
@[simp] theorem State.eng_setEng (s : State) (k : Nat) (v : Eng) : (s.setEng k v).eng k = v :=
  Tab.look_put_self _ _ _ _
theorem State.eng_setEng_ne (s : State) {k j : Nat} (v : Eng) (h : j ≠ k) : (s.setEng k v).eng j = s.eng j :=
  Tab.look_put_ne _ _ _ h
@[simp] theorem State.acu_setAcu (s : State) (k : Nat) (v : Acu) : (s.setAcu k v).acu k = v :=
  Tab.look_put_self _ _ _ _
theorem State.acu_setAcu_ne (s : State) {k j : Nat} (v : Acu) (h : j ≠ k) : (s.setAcu k v).acu j = s.acu j :=
  Tab.look_put_ne _ _ _ h
@[simp] theorem State.ring_setRing (s : State) (k : Nat) (v : Ring) : (s.setRing k v).ring k = v :=
  Tab.look_put_self _ _ _ _
theorem State.ring_setRing_ne (s : State) {k j : Nat} (v : Ring) (h : j ≠ k) : (s.setRing k v).ring j = s.ring j :=
  Tab.look_put_ne _ _ _ h
@[simp] theorem State.word_setWord (s : State) (r : Reg) (w : W32) (i g : Nat) : (s.setWord r w i g).word r i g = w :=
  Tab.look_put_self _ _ _ _
@[simp] theorem State.cnt_count (s : State) (b : CntBlk) (kd i c n : Nat) :
    (s.count b kd i c n).cnt b kd i c = s.cnt b kd i c + BitVec.ofNat 64 n :=
  Tab.look_put_self _ _ _ _

/-! ## Fields an update leaves alone -/

@[simp] theorem State.setWord_pending (s : State) (r : Reg) (w : W32) (i g : Nat) : (s.setWord r w i g).pending = s.pending := by
  unfold State.setWord; generalize s.regs.put regDflt (regKey r i g) w = x; rfl
@[simp] theorem State.setWord_cnts (s : State) (r : Reg) (w : W32) (i g : Nat) : (s.setWord r w i g).cnts = s.cnts := by
  unfold State.setWord; generalize s.regs.put regDflt (regKey r i g) w = x; rfl
@[simp] theorem State.setWord_snaps (s : State) (r : Reg) (w : W32) (i g : Nat) : (s.setWord r w i g).snaps = s.snaps := by
  unfold State.setWord; generalize s.regs.put regDflt (regKey r i g) w = x; rfl
@[simp] theorem State.setWord_caps (s : State) (r : Reg) (w : W32) (i g : Nat) : (s.setWord r w i g).caps = s.caps := by
  unfold State.setWord; generalize s.regs.put regDflt (regKey r i g) w = x; rfl
@[simp] theorem State.setWord_ports (s : State) (r : Reg) (w : W32) (i g : Nat) : (s.setWord r w i g).ports = s.ports := by
  unfold State.setWord; generalize s.regs.put regDflt (regKey r i g) w = x; rfl
@[simp] theorem State.setWord_frames (s : State) (r : Reg) (w : W32) (i g : Nat) : (s.setWord r w i g).frames = s.frames := by
  unfold State.setWord; generalize s.regs.put regDflt (regKey r i g) w = x; rfl
@[simp] theorem State.setWord_nextId (s : State) (r : Reg) (w : W32) (i g : Nat) : (s.setWord r w i g).nextId = s.nextId := by
  unfold State.setWord; generalize s.regs.put regDflt (regKey r i g) w = x; rfl
@[simp] theorem State.setWord_cls (s : State) (r : Reg) (w : W32) (i g : Nat) : (s.setWord r w i g).cls = s.cls := by
  unfold State.setWord; generalize s.regs.put regDflt (regKey r i g) w = x; rfl
@[simp] theorem State.setWord_sas (s : State) (r : Reg) (w : W32) (i g : Nat) : (s.setWord r w i g).sas = s.sas := by
  unfold State.setWord; generalize s.regs.put regDflt (regKey r i g) w = x; rfl
@[simp] theorem State.setWord_instNo (s : State) (r : Reg) (w : W32) (i g : Nat) : (s.setWord r w i g).instNo = s.instNo := by
  unfold State.setWord; generalize s.regs.put regDflt (regKey r i g) w = x; rfl
@[simp] theorem State.setWord_ghosts (s : State) (r : Reg) (w : W32) (i g : Nat) : (s.setWord r w i g).ghosts = s.ghosts := by
  unfold State.setWord; generalize s.regs.put regDflt (regKey r i g) w = x; rfl
@[simp] theorem State.setWord_secys (s : State) (r : Reg) (w : W32) (i g : Nat) : (s.setWord r w i g).secys = s.secys := by
  unfold State.setWord; generalize s.regs.put regDflt (regKey r i g) w = x; rfl
@[simp] theorem State.setWord_rscs (s : State) (r : Reg) (w : W32) (i g : Nat) : (s.setWord r w i g).rscs = s.rscs := by
  unfold State.setWord; generalize s.regs.put regDflt (regKey r i g) w = x; rfl
@[simp] theorem State.setWord_cas (s : State) (r : Reg) (w : W32) (i g : Nat) : (s.setWord r w i g).cas = s.cas := by
  unfold State.setWord; generalize s.regs.put regDflt (regKey r i g) w = x; rfl
@[simp] theorem State.setWord_pairing (s : State) (r : Reg) (w : W32) (i g : Nat) : (s.setWord r w i g).pairing = s.pairing := by
  unfold State.setWord; generalize s.regs.put regDflt (regKey r i g) w = x; rfl
@[simp] theorem State.setWord_saSlots (s : State) (r : Reg) (w : W32) (i g : Nat) : (s.setWord r w i g).saSlots = s.saSlots := by
  unfold State.setWord; generalize s.regs.put regDflt (regKey r i g) w = x; rfl
@[simp] theorem State.setWord_cakSlots (s : State) (r : Reg) (w : W32) (i g : Nat) : (s.setWord r w i g).cakSlots = s.cakSlots := by
  unfold State.setWord; generalize s.regs.put regDflt (regKey r i g) w = x; rfl
@[simp] theorem State.setWord_tetherKey (s : State) (r : Reg) (w : W32) (i g : Nat) : (s.setWord r w i g).tetherKey = s.tetherKey := by
  unfold State.setWord; generalize s.regs.put regDflt (regKey r i g) w = x; rfl
@[simp] theorem State.setWord_ctxKey (s : State) (r : Reg) (w : W32) (i g : Nat) : (s.setWord r w i g).ctxKey = s.ctxKey := by
  unfold State.setWord; generalize s.regs.put regDflt (regKey r i g) w = x; rfl
@[simp] theorem State.setWord_zeroized (s : State) (r : Reg) (w : W32) (i g : Nat) : (s.setWord r w i g).zeroized = s.zeroized := by
  unfold State.setWord; generalize s.regs.put regDflt (regKey r i g) w = x; rfl
@[simp] theorem State.setWord_prov (s : State) (r : Reg) (w : W32) (i g : Nat) : (s.setWord r w i g).prov = s.prov := by
  unfold State.setWord; generalize s.regs.put regDflt (regKey r i g) w = x; rfl
@[simp] theorem State.setWord_rng (s : State) (r : Reg) (w : W32) (i g : Nat) : (s.setWord r w i g).rng = s.rng := by
  unfold State.setWord; generalize s.regs.put regDflt (regKey r i g) w = x; rfl
@[simp] theorem State.setWord_svc (s : State) (r : Reg) (w : W32) (i g : Nat) : (s.setWord r w i g).svc = s.svc := by
  unfold State.setWord; generalize s.regs.put regDflt (regKey r i g) w = x; rfl
@[simp] theorem State.setWord_engs (s : State) (r : Reg) (w : W32) (i g : Nat) : (s.setWord r w i g).engs = s.engs := by
  unfold State.setWord; generalize s.regs.put regDflt (regKey r i g) w = x; rfl
@[simp] theorem State.setWord_yrd (s : State) (r : Reg) (w : W32) (i g : Nat) : (s.setWord r w i g).yrd = s.yrd := by
  unfold State.setWord; generalize s.regs.put regDflt (regKey r i g) w = x; rfl
@[simp] theorem State.setWord_tmg (s : State) (r : Reg) (w : W32) (i g : Nat) : (s.setWord r w i g).tmg = s.tmg := by
  unfold State.setWord; generalize s.regs.put regDflt (regKey r i g) w = x; rfl
@[simp] theorem State.setWord_cel (s : State) (r : Reg) (w : W32) (i g : Nat) : (s.setWord r w i g).cel = s.cel := by
  unfold State.setWord; generalize s.regs.put regDflt (regKey r i g) w = x; rfl
@[simp] theorem State.setWord_tim (s : State) (r : Reg) (w : W32) (i g : Nat) : (s.setWord r w i g).tim = s.tim := by
  unfold State.setWord; generalize s.regs.put regDflt (regKey r i g) w = x; rfl
@[simp] theorem State.setWord_par (s : State) (r : Reg) (w : W32) (i g : Nat) : (s.setWord r w i g).par = s.par := by
  unfold State.setWord; generalize s.regs.put regDflt (regKey r i g) w = x; rfl
@[simp] theorem State.setWord_ledger (s : State) (r : Reg) (w : W32) (i g : Nat) : (s.setWord r w i g).ledger = s.ledger := by
  unfold State.setWord; generalize s.regs.put regDflt (regKey r i g) w = x; rfl
@[simp] theorem State.setWord_fuses (s : State) (r : Reg) (w : W32) (i g : Nat) : (s.setWord r w i g).fuses = s.fuses := by
  unfold State.setWord; generalize s.regs.put regDflt (regKey r i g) w = x; rfl
@[simp] theorem State.setWord_straps (s : State) (r : Reg) (w : W32) (i g : Nat) : (s.setWord r w i g).straps = s.straps := by
  unfold State.setWord; generalize s.regs.put regDflt (regKey r i g) w = x; rfl
@[simp] theorem State.setWord_start (s : State) (r : Reg) (w : W32) (i g : Nat) : (s.setWord r w i g).start = s.start := by
  unfold State.setWord; generalize s.regs.put regDflt (regKey r i g) w = x; rfl
@[simp] theorem State.setWord_flash (s : State) (r : Reg) (w : W32) (i g : Nat) : (s.setWord r w i g).flash = s.flash := by
  unfold State.setWord; generalize s.regs.put regDflt (regKey r i g) w = x; rfl
@[simp] theorem State.setWord_pwr (s : State) (r : Reg) (w : W32) (i g : Nat) : (s.setWord r w i g).pwr = s.pwr := by
  unfold State.setWord; generalize s.regs.put regDflt (regKey r i g) w = x; rfl
@[simp] theorem State.setWord_tck (s : State) (r : Reg) (w : W32) (i g : Nat) : (s.setWord r w i g).tck = s.tck := by
  unfold State.setWord; generalize s.regs.put regDflt (regKey r i g) w = x; rfl
@[simp] theorem State.setWord_alarm (s : State) (r : Reg) (w : W32) (i g : Nat) : (s.setWord r w i g).alarm = s.alarm := by
  unfold State.setWord; generalize s.regs.put regDflt (regKey r i g) w = x; rfl
@[simp] theorem State.setWord_acus (s : State) (r : Reg) (w : W32) (i g : Nat) : (s.setWord r w i g).acus = s.acus := by
  unfold State.setWord; generalize s.regs.put regDflt (regKey r i g) w = x; rfl
@[simp] theorem State.setWord_rings (s : State) (r : Reg) (w : W32) (i g : Nat) : (s.setWord r w i g).rings = s.rings := by
  unfold State.setWord; generalize s.regs.put regDflt (regKey r i g) w = x; rfl
@[simp] theorem State.setWord_sess (s : State) (r : Reg) (w : W32) (i g : Nat) : (s.setWord r w i g).sess = s.sess := by
  unfold State.setWord; generalize s.regs.put regDflt (regKey r i g) w = x; rfl
@[simp] theorem State.setWord_iahDrop (s : State) (r : Reg) (w : W32) (i g : Nat) : (s.setWord r w i g).iahDrop = s.iahDrop := by
  unfold State.setWord; generalize s.regs.put regDflt (regKey r i g) w = x; rfl
@[simp] theorem State.setWord_jtag (s : State) (r : Reg) (w : W32) (i g : Nat) : (s.setWord r w i g).jtag = s.jtag := by
  unfold State.setWord; generalize s.regs.put regDflt (regKey r i g) w = x; rfl
@[simp] theorem State.setWord_pci (s : State) (r : Reg) (w : W32) (i g : Nat) : (s.setWord r w i g).pci = s.pci := by
  unfold State.setWord; generalize s.regs.put regDflt (regKey r i g) w = x; rfl
@[simp] theorem State.setWord_smb (s : State) (r : Reg) (w : W32) (i g : Nat) : (s.setWord r w i g).smb = s.smb := by
  unfold State.setWord; generalize s.regs.put regDflt (regKey r i g) w = x; rfl
@[simp] theorem State.setWord_obs (s : State) (r : Reg) (w : W32) (i g : Nat) : (s.setWord r w i g).obs = s.obs := by
  unfold State.setWord; generalize s.regs.put regDflt (regKey r i g) w = x; rfl
@[simp] theorem State.setWord_leds (s : State) (r : Reg) (w : W32) (i g : Nat) : (s.setWord r w i g).leds = s.leds := by
  unfold State.setWord; generalize s.regs.put regDflt (regKey r i g) w = x; rfl
@[simp] theorem State.setWord_mail (s : State) (r : Reg) (w : W32) (i g : Nat) : (s.setWord r w i g).mail = s.mail := by
  unfold State.setWord; generalize s.regs.put regDflt (regKey r i g) w = x; rfl
@[simp] theorem State.setWord_mem (s : State) (r : Reg) (w : W32) (i g : Nat) : (s.setWord r w i g).mem = s.mem := by
  unfold State.setWord; generalize s.regs.put regDflt (regKey r i g) w = x; rfl
@[simp] theorem State.setWord_mgtWait (s : State) (r : Reg) (w : W32) (i g : Nat) : (s.setWord r w i g).mgtWait = s.mgtWait := by
  unfold State.setWord; generalize s.regs.put regDflt (regKey r i g) w = x; rfl
@[simp] theorem State.setWord_out (s : State) (r : Reg) (w : W32) (i g : Nat) : (s.setWord r w i g).out = s.out := by
  unfold State.setWord; generalize s.regs.put regDflt (regKey r i g) w = x; rfl

@[simp] theorem State.setPort_pending (s : State) (p : Nat) (v : Port) : (s.setPort p v).pending = s.pending := rfl
@[simp] theorem State.setPort_regs (s : State) (p : Nat) (v : Port) : (s.setPort p v).regs = s.regs := rfl
@[simp] theorem State.setPort_cnts (s : State) (p : Nat) (v : Port) : (s.setPort p v).cnts = s.cnts := rfl
@[simp] theorem State.setPort_snaps (s : State) (p : Nat) (v : Port) : (s.setPort p v).snaps = s.snaps := rfl
@[simp] theorem State.setPort_caps (s : State) (p : Nat) (v : Port) : (s.setPort p v).caps = s.caps := rfl
@[simp] theorem State.setPort_frames (s : State) (p : Nat) (v : Port) : (s.setPort p v).frames = s.frames := rfl
@[simp] theorem State.setPort_nextId (s : State) (p : Nat) (v : Port) : (s.setPort p v).nextId = s.nextId := rfl
@[simp] theorem State.setPort_cls (s : State) (p : Nat) (v : Port) : (s.setPort p v).cls = s.cls := rfl
@[simp] theorem State.setPort_sas (s : State) (p : Nat) (v : Port) : (s.setPort p v).sas = s.sas := rfl
@[simp] theorem State.setPort_instNo (s : State) (p : Nat) (v : Port) : (s.setPort p v).instNo = s.instNo := rfl
@[simp] theorem State.setPort_ghosts (s : State) (p : Nat) (v : Port) : (s.setPort p v).ghosts = s.ghosts := rfl
@[simp] theorem State.setPort_secys (s : State) (p : Nat) (v : Port) : (s.setPort p v).secys = s.secys := rfl
@[simp] theorem State.setPort_rscs (s : State) (p : Nat) (v : Port) : (s.setPort p v).rscs = s.rscs := rfl
@[simp] theorem State.setPort_cas (s : State) (p : Nat) (v : Port) : (s.setPort p v).cas = s.cas := rfl
@[simp] theorem State.setPort_pairing (s : State) (p : Nat) (v : Port) : (s.setPort p v).pairing = s.pairing := rfl
@[simp] theorem State.setPort_saSlots (s : State) (p : Nat) (v : Port) : (s.setPort p v).saSlots = s.saSlots := rfl
@[simp] theorem State.setPort_cakSlots (s : State) (p : Nat) (v : Port) : (s.setPort p v).cakSlots = s.cakSlots := rfl
@[simp] theorem State.setPort_tetherKey (s : State) (p : Nat) (v : Port) : (s.setPort p v).tetherKey = s.tetherKey := rfl
@[simp] theorem State.setPort_ctxKey (s : State) (p : Nat) (v : Port) : (s.setPort p v).ctxKey = s.ctxKey := rfl
@[simp] theorem State.setPort_zeroized (s : State) (p : Nat) (v : Port) : (s.setPort p v).zeroized = s.zeroized := rfl
@[simp] theorem State.setPort_prov (s : State) (p : Nat) (v : Port) : (s.setPort p v).prov = s.prov := rfl
@[simp] theorem State.setPort_rng (s : State) (p : Nat) (v : Port) : (s.setPort p v).rng = s.rng := rfl
@[simp] theorem State.setPort_svc (s : State) (p : Nat) (v : Port) : (s.setPort p v).svc = s.svc := rfl
@[simp] theorem State.setPort_engs (s : State) (p : Nat) (v : Port) : (s.setPort p v).engs = s.engs := rfl
@[simp] theorem State.setPort_yrd (s : State) (p : Nat) (v : Port) : (s.setPort p v).yrd = s.yrd := rfl
@[simp] theorem State.setPort_tmg (s : State) (p : Nat) (v : Port) : (s.setPort p v).tmg = s.tmg := rfl
@[simp] theorem State.setPort_cel (s : State) (p : Nat) (v : Port) : (s.setPort p v).cel = s.cel := rfl
@[simp] theorem State.setPort_tim (s : State) (p : Nat) (v : Port) : (s.setPort p v).tim = s.tim := rfl
@[simp] theorem State.setPort_par (s : State) (p : Nat) (v : Port) : (s.setPort p v).par = s.par := rfl
@[simp] theorem State.setPort_ledger (s : State) (p : Nat) (v : Port) : (s.setPort p v).ledger = s.ledger := rfl
@[simp] theorem State.setPort_fuses (s : State) (p : Nat) (v : Port) : (s.setPort p v).fuses = s.fuses := rfl
@[simp] theorem State.setPort_straps (s : State) (p : Nat) (v : Port) : (s.setPort p v).straps = s.straps := rfl
@[simp] theorem State.setPort_start (s : State) (p : Nat) (v : Port) : (s.setPort p v).start = s.start := rfl
@[simp] theorem State.setPort_flash (s : State) (p : Nat) (v : Port) : (s.setPort p v).flash = s.flash := rfl
@[simp] theorem State.setPort_pwr (s : State) (p : Nat) (v : Port) : (s.setPort p v).pwr = s.pwr := rfl
@[simp] theorem State.setPort_tck (s : State) (p : Nat) (v : Port) : (s.setPort p v).tck = s.tck := rfl
@[simp] theorem State.setPort_alarm (s : State) (p : Nat) (v : Port) : (s.setPort p v).alarm = s.alarm := rfl
@[simp] theorem State.setPort_acus (s : State) (p : Nat) (v : Port) : (s.setPort p v).acus = s.acus := rfl
@[simp] theorem State.setPort_rings (s : State) (p : Nat) (v : Port) : (s.setPort p v).rings = s.rings := rfl
@[simp] theorem State.setPort_sess (s : State) (p : Nat) (v : Port) : (s.setPort p v).sess = s.sess := rfl
@[simp] theorem State.setPort_iahDrop (s : State) (p : Nat) (v : Port) : (s.setPort p v).iahDrop = s.iahDrop := rfl
@[simp] theorem State.setPort_jtag (s : State) (p : Nat) (v : Port) : (s.setPort p v).jtag = s.jtag := rfl
@[simp] theorem State.setPort_pci (s : State) (p : Nat) (v : Port) : (s.setPort p v).pci = s.pci := rfl
@[simp] theorem State.setPort_smb (s : State) (p : Nat) (v : Port) : (s.setPort p v).smb = s.smb := rfl
@[simp] theorem State.setPort_obs (s : State) (p : Nat) (v : Port) : (s.setPort p v).obs = s.obs := rfl
@[simp] theorem State.setPort_leds (s : State) (p : Nat) (v : Port) : (s.setPort p v).leds = s.leds := rfl
@[simp] theorem State.setPort_mail (s : State) (p : Nat) (v : Port) : (s.setPort p v).mail = s.mail := rfl
@[simp] theorem State.setPort_mem (s : State) (p : Nat) (v : Port) : (s.setPort p v).mem = s.mem := rfl
@[simp] theorem State.setPort_mgtWait (s : State) (p : Nat) (v : Port) : (s.setPort p v).mgtWait = s.mgtWait := rfl
@[simp] theorem State.setPort_out (s : State) (p : Nat) (v : Port) : (s.setPort p v).out = s.out := rfl

@[simp] theorem State.setSa_pending (s : State) (k : Nat) (v : Sa) : (s.setSa k v).pending = s.pending := rfl
@[simp] theorem State.setSa_regs (s : State) (k : Nat) (v : Sa) : (s.setSa k v).regs = s.regs := rfl
@[simp] theorem State.setSa_cnts (s : State) (k : Nat) (v : Sa) : (s.setSa k v).cnts = s.cnts := rfl
@[simp] theorem State.setSa_snaps (s : State) (k : Nat) (v : Sa) : (s.setSa k v).snaps = s.snaps := rfl
@[simp] theorem State.setSa_caps (s : State) (k : Nat) (v : Sa) : (s.setSa k v).caps = s.caps := rfl
@[simp] theorem State.setSa_ports (s : State) (k : Nat) (v : Sa) : (s.setSa k v).ports = s.ports := rfl
@[simp] theorem State.setSa_frames (s : State) (k : Nat) (v : Sa) : (s.setSa k v).frames = s.frames := rfl
@[simp] theorem State.setSa_nextId (s : State) (k : Nat) (v : Sa) : (s.setSa k v).nextId = s.nextId := rfl
@[simp] theorem State.setSa_cls (s : State) (k : Nat) (v : Sa) : (s.setSa k v).cls = s.cls := rfl
@[simp] theorem State.setSa_instNo (s : State) (k : Nat) (v : Sa) : (s.setSa k v).instNo = s.instNo := rfl
@[simp] theorem State.setSa_ghosts (s : State) (k : Nat) (v : Sa) : (s.setSa k v).ghosts = s.ghosts := rfl
@[simp] theorem State.setSa_secys (s : State) (k : Nat) (v : Sa) : (s.setSa k v).secys = s.secys := rfl
@[simp] theorem State.setSa_rscs (s : State) (k : Nat) (v : Sa) : (s.setSa k v).rscs = s.rscs := rfl
@[simp] theorem State.setSa_cas (s : State) (k : Nat) (v : Sa) : (s.setSa k v).cas = s.cas := rfl
@[simp] theorem State.setSa_pairing (s : State) (k : Nat) (v : Sa) : (s.setSa k v).pairing = s.pairing := rfl
@[simp] theorem State.setSa_saSlots (s : State) (k : Nat) (v : Sa) : (s.setSa k v).saSlots = s.saSlots := rfl
@[simp] theorem State.setSa_cakSlots (s : State) (k : Nat) (v : Sa) : (s.setSa k v).cakSlots = s.cakSlots := rfl
@[simp] theorem State.setSa_tetherKey (s : State) (k : Nat) (v : Sa) : (s.setSa k v).tetherKey = s.tetherKey := rfl
@[simp] theorem State.setSa_ctxKey (s : State) (k : Nat) (v : Sa) : (s.setSa k v).ctxKey = s.ctxKey := rfl
@[simp] theorem State.setSa_zeroized (s : State) (k : Nat) (v : Sa) : (s.setSa k v).zeroized = s.zeroized := rfl
@[simp] theorem State.setSa_prov (s : State) (k : Nat) (v : Sa) : (s.setSa k v).prov = s.prov := rfl
@[simp] theorem State.setSa_rng (s : State) (k : Nat) (v : Sa) : (s.setSa k v).rng = s.rng := rfl
@[simp] theorem State.setSa_svc (s : State) (k : Nat) (v : Sa) : (s.setSa k v).svc = s.svc := rfl
@[simp] theorem State.setSa_engs (s : State) (k : Nat) (v : Sa) : (s.setSa k v).engs = s.engs := rfl
@[simp] theorem State.setSa_yrd (s : State) (k : Nat) (v : Sa) : (s.setSa k v).yrd = s.yrd := rfl
@[simp] theorem State.setSa_tmg (s : State) (k : Nat) (v : Sa) : (s.setSa k v).tmg = s.tmg := rfl
@[simp] theorem State.setSa_cel (s : State) (k : Nat) (v : Sa) : (s.setSa k v).cel = s.cel := rfl
@[simp] theorem State.setSa_tim (s : State) (k : Nat) (v : Sa) : (s.setSa k v).tim = s.tim := rfl
@[simp] theorem State.setSa_par (s : State) (k : Nat) (v : Sa) : (s.setSa k v).par = s.par := rfl
@[simp] theorem State.setSa_ledger (s : State) (k : Nat) (v : Sa) : (s.setSa k v).ledger = s.ledger := rfl
@[simp] theorem State.setSa_fuses (s : State) (k : Nat) (v : Sa) : (s.setSa k v).fuses = s.fuses := rfl
@[simp] theorem State.setSa_straps (s : State) (k : Nat) (v : Sa) : (s.setSa k v).straps = s.straps := rfl
@[simp] theorem State.setSa_start (s : State) (k : Nat) (v : Sa) : (s.setSa k v).start = s.start := rfl
@[simp] theorem State.setSa_flash (s : State) (k : Nat) (v : Sa) : (s.setSa k v).flash = s.flash := rfl
@[simp] theorem State.setSa_pwr (s : State) (k : Nat) (v : Sa) : (s.setSa k v).pwr = s.pwr := rfl
@[simp] theorem State.setSa_tck (s : State) (k : Nat) (v : Sa) : (s.setSa k v).tck = s.tck := rfl
@[simp] theorem State.setSa_alarm (s : State) (k : Nat) (v : Sa) : (s.setSa k v).alarm = s.alarm := rfl
@[simp] theorem State.setSa_acus (s : State) (k : Nat) (v : Sa) : (s.setSa k v).acus = s.acus := rfl
@[simp] theorem State.setSa_rings (s : State) (k : Nat) (v : Sa) : (s.setSa k v).rings = s.rings := rfl
@[simp] theorem State.setSa_sess (s : State) (k : Nat) (v : Sa) : (s.setSa k v).sess = s.sess := rfl
@[simp] theorem State.setSa_iahDrop (s : State) (k : Nat) (v : Sa) : (s.setSa k v).iahDrop = s.iahDrop := rfl
@[simp] theorem State.setSa_jtag (s : State) (k : Nat) (v : Sa) : (s.setSa k v).jtag = s.jtag := rfl
@[simp] theorem State.setSa_pci (s : State) (k : Nat) (v : Sa) : (s.setSa k v).pci = s.pci := rfl
@[simp] theorem State.setSa_smb (s : State) (k : Nat) (v : Sa) : (s.setSa k v).smb = s.smb := rfl
@[simp] theorem State.setSa_obs (s : State) (k : Nat) (v : Sa) : (s.setSa k v).obs = s.obs := rfl
@[simp] theorem State.setSa_leds (s : State) (k : Nat) (v : Sa) : (s.setSa k v).leds = s.leds := rfl
@[simp] theorem State.setSa_mail (s : State) (k : Nat) (v : Sa) : (s.setSa k v).mail = s.mail := rfl
@[simp] theorem State.setSa_mem (s : State) (k : Nat) (v : Sa) : (s.setSa k v).mem = s.mem := rfl
@[simp] theorem State.setSa_mgtWait (s : State) (k : Nat) (v : Sa) : (s.setSa k v).mgtWait = s.mgtWait := rfl
@[simp] theorem State.setSa_out (s : State) (k : Nat) (v : Sa) : (s.setSa k v).out = s.out := rfl

@[simp] theorem State.setSecy_pending (s : State) (k : Nat) (v : Secy) : (s.setSecy k v).pending = s.pending := rfl
@[simp] theorem State.setSecy_regs (s : State) (k : Nat) (v : Secy) : (s.setSecy k v).regs = s.regs := rfl
@[simp] theorem State.setSecy_cnts (s : State) (k : Nat) (v : Secy) : (s.setSecy k v).cnts = s.cnts := rfl
@[simp] theorem State.setSecy_snaps (s : State) (k : Nat) (v : Secy) : (s.setSecy k v).snaps = s.snaps := rfl
@[simp] theorem State.setSecy_caps (s : State) (k : Nat) (v : Secy) : (s.setSecy k v).caps = s.caps := rfl
@[simp] theorem State.setSecy_ports (s : State) (k : Nat) (v : Secy) : (s.setSecy k v).ports = s.ports := rfl
@[simp] theorem State.setSecy_frames (s : State) (k : Nat) (v : Secy) : (s.setSecy k v).frames = s.frames := rfl
@[simp] theorem State.setSecy_nextId (s : State) (k : Nat) (v : Secy) : (s.setSecy k v).nextId = s.nextId := rfl
@[simp] theorem State.setSecy_cls (s : State) (k : Nat) (v : Secy) : (s.setSecy k v).cls = s.cls := rfl
@[simp] theorem State.setSecy_sas (s : State) (k : Nat) (v : Secy) : (s.setSecy k v).sas = s.sas := rfl
@[simp] theorem State.setSecy_instNo (s : State) (k : Nat) (v : Secy) : (s.setSecy k v).instNo = s.instNo := rfl
@[simp] theorem State.setSecy_ghosts (s : State) (k : Nat) (v : Secy) : (s.setSecy k v).ghosts = s.ghosts := rfl
@[simp] theorem State.setSecy_rscs (s : State) (k : Nat) (v : Secy) : (s.setSecy k v).rscs = s.rscs := rfl
@[simp] theorem State.setSecy_cas (s : State) (k : Nat) (v : Secy) : (s.setSecy k v).cas = s.cas := rfl
@[simp] theorem State.setSecy_pairing (s : State) (k : Nat) (v : Secy) : (s.setSecy k v).pairing = s.pairing := rfl
@[simp] theorem State.setSecy_saSlots (s : State) (k : Nat) (v : Secy) : (s.setSecy k v).saSlots = s.saSlots := rfl
@[simp] theorem State.setSecy_cakSlots (s : State) (k : Nat) (v : Secy) : (s.setSecy k v).cakSlots = s.cakSlots := rfl
@[simp] theorem State.setSecy_tetherKey (s : State) (k : Nat) (v : Secy) : (s.setSecy k v).tetherKey = s.tetherKey := rfl
@[simp] theorem State.setSecy_ctxKey (s : State) (k : Nat) (v : Secy) : (s.setSecy k v).ctxKey = s.ctxKey := rfl
@[simp] theorem State.setSecy_zeroized (s : State) (k : Nat) (v : Secy) : (s.setSecy k v).zeroized = s.zeroized := rfl
@[simp] theorem State.setSecy_prov (s : State) (k : Nat) (v : Secy) : (s.setSecy k v).prov = s.prov := rfl
@[simp] theorem State.setSecy_rng (s : State) (k : Nat) (v : Secy) : (s.setSecy k v).rng = s.rng := rfl
@[simp] theorem State.setSecy_svc (s : State) (k : Nat) (v : Secy) : (s.setSecy k v).svc = s.svc := rfl
@[simp] theorem State.setSecy_engs (s : State) (k : Nat) (v : Secy) : (s.setSecy k v).engs = s.engs := rfl
@[simp] theorem State.setSecy_yrd (s : State) (k : Nat) (v : Secy) : (s.setSecy k v).yrd = s.yrd := rfl
@[simp] theorem State.setSecy_tmg (s : State) (k : Nat) (v : Secy) : (s.setSecy k v).tmg = s.tmg := rfl
@[simp] theorem State.setSecy_cel (s : State) (k : Nat) (v : Secy) : (s.setSecy k v).cel = s.cel := rfl
@[simp] theorem State.setSecy_tim (s : State) (k : Nat) (v : Secy) : (s.setSecy k v).tim = s.tim := rfl
@[simp] theorem State.setSecy_par (s : State) (k : Nat) (v : Secy) : (s.setSecy k v).par = s.par := rfl
@[simp] theorem State.setSecy_ledger (s : State) (k : Nat) (v : Secy) : (s.setSecy k v).ledger = s.ledger := rfl
@[simp] theorem State.setSecy_fuses (s : State) (k : Nat) (v : Secy) : (s.setSecy k v).fuses = s.fuses := rfl
@[simp] theorem State.setSecy_straps (s : State) (k : Nat) (v : Secy) : (s.setSecy k v).straps = s.straps := rfl
@[simp] theorem State.setSecy_start (s : State) (k : Nat) (v : Secy) : (s.setSecy k v).start = s.start := rfl
@[simp] theorem State.setSecy_flash (s : State) (k : Nat) (v : Secy) : (s.setSecy k v).flash = s.flash := rfl
@[simp] theorem State.setSecy_pwr (s : State) (k : Nat) (v : Secy) : (s.setSecy k v).pwr = s.pwr := rfl
@[simp] theorem State.setSecy_tck (s : State) (k : Nat) (v : Secy) : (s.setSecy k v).tck = s.tck := rfl
@[simp] theorem State.setSecy_alarm (s : State) (k : Nat) (v : Secy) : (s.setSecy k v).alarm = s.alarm := rfl
@[simp] theorem State.setSecy_acus (s : State) (k : Nat) (v : Secy) : (s.setSecy k v).acus = s.acus := rfl
@[simp] theorem State.setSecy_rings (s : State) (k : Nat) (v : Secy) : (s.setSecy k v).rings = s.rings := rfl
@[simp] theorem State.setSecy_sess (s : State) (k : Nat) (v : Secy) : (s.setSecy k v).sess = s.sess := rfl
@[simp] theorem State.setSecy_iahDrop (s : State) (k : Nat) (v : Secy) : (s.setSecy k v).iahDrop = s.iahDrop := rfl
@[simp] theorem State.setSecy_jtag (s : State) (k : Nat) (v : Secy) : (s.setSecy k v).jtag = s.jtag := rfl
@[simp] theorem State.setSecy_pci (s : State) (k : Nat) (v : Secy) : (s.setSecy k v).pci = s.pci := rfl
@[simp] theorem State.setSecy_smb (s : State) (k : Nat) (v : Secy) : (s.setSecy k v).smb = s.smb := rfl
@[simp] theorem State.setSecy_obs (s : State) (k : Nat) (v : Secy) : (s.setSecy k v).obs = s.obs := rfl
@[simp] theorem State.setSecy_leds (s : State) (k : Nat) (v : Secy) : (s.setSecy k v).leds = s.leds := rfl
@[simp] theorem State.setSecy_mail (s : State) (k : Nat) (v : Secy) : (s.setSecy k v).mail = s.mail := rfl
@[simp] theorem State.setSecy_mem (s : State) (k : Nat) (v : Secy) : (s.setSecy k v).mem = s.mem := rfl
@[simp] theorem State.setSecy_mgtWait (s : State) (k : Nat) (v : Secy) : (s.setSecy k v).mgtWait = s.mgtWait := rfl
@[simp] theorem State.setSecy_out (s : State) (k : Nat) (v : Secy) : (s.setSecy k v).out = s.out := rfl

@[simp] theorem State.setRsc_pending (s : State) (k : Nat) (v : Rsc) : (s.setRsc k v).pending = s.pending := rfl
@[simp] theorem State.setRsc_regs (s : State) (k : Nat) (v : Rsc) : (s.setRsc k v).regs = s.regs := rfl
@[simp] theorem State.setRsc_cnts (s : State) (k : Nat) (v : Rsc) : (s.setRsc k v).cnts = s.cnts := rfl
@[simp] theorem State.setRsc_snaps (s : State) (k : Nat) (v : Rsc) : (s.setRsc k v).snaps = s.snaps := rfl
@[simp] theorem State.setRsc_caps (s : State) (k : Nat) (v : Rsc) : (s.setRsc k v).caps = s.caps := rfl
@[simp] theorem State.setRsc_ports (s : State) (k : Nat) (v : Rsc) : (s.setRsc k v).ports = s.ports := rfl
@[simp] theorem State.setRsc_frames (s : State) (k : Nat) (v : Rsc) : (s.setRsc k v).frames = s.frames := rfl
@[simp] theorem State.setRsc_nextId (s : State) (k : Nat) (v : Rsc) : (s.setRsc k v).nextId = s.nextId := rfl
@[simp] theorem State.setRsc_cls (s : State) (k : Nat) (v : Rsc) : (s.setRsc k v).cls = s.cls := rfl
@[simp] theorem State.setRsc_sas (s : State) (k : Nat) (v : Rsc) : (s.setRsc k v).sas = s.sas := rfl
@[simp] theorem State.setRsc_instNo (s : State) (k : Nat) (v : Rsc) : (s.setRsc k v).instNo = s.instNo := rfl
@[simp] theorem State.setRsc_ghosts (s : State) (k : Nat) (v : Rsc) : (s.setRsc k v).ghosts = s.ghosts := rfl
@[simp] theorem State.setRsc_secys (s : State) (k : Nat) (v : Rsc) : (s.setRsc k v).secys = s.secys := rfl
@[simp] theorem State.setRsc_cas (s : State) (k : Nat) (v : Rsc) : (s.setRsc k v).cas = s.cas := rfl
@[simp] theorem State.setRsc_pairing (s : State) (k : Nat) (v : Rsc) : (s.setRsc k v).pairing = s.pairing := rfl
@[simp] theorem State.setRsc_saSlots (s : State) (k : Nat) (v : Rsc) : (s.setRsc k v).saSlots = s.saSlots := rfl
@[simp] theorem State.setRsc_cakSlots (s : State) (k : Nat) (v : Rsc) : (s.setRsc k v).cakSlots = s.cakSlots := rfl
@[simp] theorem State.setRsc_tetherKey (s : State) (k : Nat) (v : Rsc) : (s.setRsc k v).tetherKey = s.tetherKey := rfl
@[simp] theorem State.setRsc_ctxKey (s : State) (k : Nat) (v : Rsc) : (s.setRsc k v).ctxKey = s.ctxKey := rfl
@[simp] theorem State.setRsc_zeroized (s : State) (k : Nat) (v : Rsc) : (s.setRsc k v).zeroized = s.zeroized := rfl
@[simp] theorem State.setRsc_prov (s : State) (k : Nat) (v : Rsc) : (s.setRsc k v).prov = s.prov := rfl
@[simp] theorem State.setRsc_rng (s : State) (k : Nat) (v : Rsc) : (s.setRsc k v).rng = s.rng := rfl
@[simp] theorem State.setRsc_svc (s : State) (k : Nat) (v : Rsc) : (s.setRsc k v).svc = s.svc := rfl
@[simp] theorem State.setRsc_engs (s : State) (k : Nat) (v : Rsc) : (s.setRsc k v).engs = s.engs := rfl
@[simp] theorem State.setRsc_yrd (s : State) (k : Nat) (v : Rsc) : (s.setRsc k v).yrd = s.yrd := rfl
@[simp] theorem State.setRsc_tmg (s : State) (k : Nat) (v : Rsc) : (s.setRsc k v).tmg = s.tmg := rfl
@[simp] theorem State.setRsc_cel (s : State) (k : Nat) (v : Rsc) : (s.setRsc k v).cel = s.cel := rfl
@[simp] theorem State.setRsc_tim (s : State) (k : Nat) (v : Rsc) : (s.setRsc k v).tim = s.tim := rfl
@[simp] theorem State.setRsc_par (s : State) (k : Nat) (v : Rsc) : (s.setRsc k v).par = s.par := rfl
@[simp] theorem State.setRsc_ledger (s : State) (k : Nat) (v : Rsc) : (s.setRsc k v).ledger = s.ledger := rfl
@[simp] theorem State.setRsc_fuses (s : State) (k : Nat) (v : Rsc) : (s.setRsc k v).fuses = s.fuses := rfl
@[simp] theorem State.setRsc_straps (s : State) (k : Nat) (v : Rsc) : (s.setRsc k v).straps = s.straps := rfl
@[simp] theorem State.setRsc_start (s : State) (k : Nat) (v : Rsc) : (s.setRsc k v).start = s.start := rfl
@[simp] theorem State.setRsc_flash (s : State) (k : Nat) (v : Rsc) : (s.setRsc k v).flash = s.flash := rfl
@[simp] theorem State.setRsc_pwr (s : State) (k : Nat) (v : Rsc) : (s.setRsc k v).pwr = s.pwr := rfl
@[simp] theorem State.setRsc_tck (s : State) (k : Nat) (v : Rsc) : (s.setRsc k v).tck = s.tck := rfl
@[simp] theorem State.setRsc_alarm (s : State) (k : Nat) (v : Rsc) : (s.setRsc k v).alarm = s.alarm := rfl
@[simp] theorem State.setRsc_acus (s : State) (k : Nat) (v : Rsc) : (s.setRsc k v).acus = s.acus := rfl
@[simp] theorem State.setRsc_rings (s : State) (k : Nat) (v : Rsc) : (s.setRsc k v).rings = s.rings := rfl
@[simp] theorem State.setRsc_sess (s : State) (k : Nat) (v : Rsc) : (s.setRsc k v).sess = s.sess := rfl
@[simp] theorem State.setRsc_iahDrop (s : State) (k : Nat) (v : Rsc) : (s.setRsc k v).iahDrop = s.iahDrop := rfl
@[simp] theorem State.setRsc_jtag (s : State) (k : Nat) (v : Rsc) : (s.setRsc k v).jtag = s.jtag := rfl
@[simp] theorem State.setRsc_pci (s : State) (k : Nat) (v : Rsc) : (s.setRsc k v).pci = s.pci := rfl
@[simp] theorem State.setRsc_smb (s : State) (k : Nat) (v : Rsc) : (s.setRsc k v).smb = s.smb := rfl
@[simp] theorem State.setRsc_obs (s : State) (k : Nat) (v : Rsc) : (s.setRsc k v).obs = s.obs := rfl
@[simp] theorem State.setRsc_leds (s : State) (k : Nat) (v : Rsc) : (s.setRsc k v).leds = s.leds := rfl
@[simp] theorem State.setRsc_mail (s : State) (k : Nat) (v : Rsc) : (s.setRsc k v).mail = s.mail := rfl
@[simp] theorem State.setRsc_mem (s : State) (k : Nat) (v : Rsc) : (s.setRsc k v).mem = s.mem := rfl
@[simp] theorem State.setRsc_mgtWait (s : State) (k : Nat) (v : Rsc) : (s.setRsc k v).mgtWait = s.mgtWait := rfl
@[simp] theorem State.setRsc_out (s : State) (k : Nat) (v : Rsc) : (s.setRsc k v).out = s.out := rfl

@[simp] theorem State.setCa_pending (s : State) (k : Nat) (v : Ca) : (s.setCa k v).pending = s.pending := rfl
@[simp] theorem State.setCa_regs (s : State) (k : Nat) (v : Ca) : (s.setCa k v).regs = s.regs := rfl
@[simp] theorem State.setCa_cnts (s : State) (k : Nat) (v : Ca) : (s.setCa k v).cnts = s.cnts := rfl
@[simp] theorem State.setCa_snaps (s : State) (k : Nat) (v : Ca) : (s.setCa k v).snaps = s.snaps := rfl
@[simp] theorem State.setCa_caps (s : State) (k : Nat) (v : Ca) : (s.setCa k v).caps = s.caps := rfl
@[simp] theorem State.setCa_ports (s : State) (k : Nat) (v : Ca) : (s.setCa k v).ports = s.ports := rfl
@[simp] theorem State.setCa_frames (s : State) (k : Nat) (v : Ca) : (s.setCa k v).frames = s.frames := rfl
@[simp] theorem State.setCa_nextId (s : State) (k : Nat) (v : Ca) : (s.setCa k v).nextId = s.nextId := rfl
@[simp] theorem State.setCa_cls (s : State) (k : Nat) (v : Ca) : (s.setCa k v).cls = s.cls := rfl
@[simp] theorem State.setCa_sas (s : State) (k : Nat) (v : Ca) : (s.setCa k v).sas = s.sas := rfl
@[simp] theorem State.setCa_instNo (s : State) (k : Nat) (v : Ca) : (s.setCa k v).instNo = s.instNo := rfl
@[simp] theorem State.setCa_ghosts (s : State) (k : Nat) (v : Ca) : (s.setCa k v).ghosts = s.ghosts := rfl
@[simp] theorem State.setCa_secys (s : State) (k : Nat) (v : Ca) : (s.setCa k v).secys = s.secys := rfl
@[simp] theorem State.setCa_rscs (s : State) (k : Nat) (v : Ca) : (s.setCa k v).rscs = s.rscs := rfl
@[simp] theorem State.setCa_pairing (s : State) (k : Nat) (v : Ca) : (s.setCa k v).pairing = s.pairing := rfl
@[simp] theorem State.setCa_saSlots (s : State) (k : Nat) (v : Ca) : (s.setCa k v).saSlots = s.saSlots := rfl
@[simp] theorem State.setCa_cakSlots (s : State) (k : Nat) (v : Ca) : (s.setCa k v).cakSlots = s.cakSlots := rfl
@[simp] theorem State.setCa_tetherKey (s : State) (k : Nat) (v : Ca) : (s.setCa k v).tetherKey = s.tetherKey := rfl
@[simp] theorem State.setCa_ctxKey (s : State) (k : Nat) (v : Ca) : (s.setCa k v).ctxKey = s.ctxKey := rfl
@[simp] theorem State.setCa_zeroized (s : State) (k : Nat) (v : Ca) : (s.setCa k v).zeroized = s.zeroized := rfl
@[simp] theorem State.setCa_prov (s : State) (k : Nat) (v : Ca) : (s.setCa k v).prov = s.prov := rfl
@[simp] theorem State.setCa_rng (s : State) (k : Nat) (v : Ca) : (s.setCa k v).rng = s.rng := rfl
@[simp] theorem State.setCa_svc (s : State) (k : Nat) (v : Ca) : (s.setCa k v).svc = s.svc := rfl
@[simp] theorem State.setCa_engs (s : State) (k : Nat) (v : Ca) : (s.setCa k v).engs = s.engs := rfl
@[simp] theorem State.setCa_yrd (s : State) (k : Nat) (v : Ca) : (s.setCa k v).yrd = s.yrd := rfl
@[simp] theorem State.setCa_tmg (s : State) (k : Nat) (v : Ca) : (s.setCa k v).tmg = s.tmg := rfl
@[simp] theorem State.setCa_cel (s : State) (k : Nat) (v : Ca) : (s.setCa k v).cel = s.cel := rfl
@[simp] theorem State.setCa_tim (s : State) (k : Nat) (v : Ca) : (s.setCa k v).tim = s.tim := rfl
@[simp] theorem State.setCa_par (s : State) (k : Nat) (v : Ca) : (s.setCa k v).par = s.par := rfl
@[simp] theorem State.setCa_ledger (s : State) (k : Nat) (v : Ca) : (s.setCa k v).ledger = s.ledger := rfl
@[simp] theorem State.setCa_fuses (s : State) (k : Nat) (v : Ca) : (s.setCa k v).fuses = s.fuses := rfl
@[simp] theorem State.setCa_straps (s : State) (k : Nat) (v : Ca) : (s.setCa k v).straps = s.straps := rfl
@[simp] theorem State.setCa_start (s : State) (k : Nat) (v : Ca) : (s.setCa k v).start = s.start := rfl
@[simp] theorem State.setCa_flash (s : State) (k : Nat) (v : Ca) : (s.setCa k v).flash = s.flash := rfl
@[simp] theorem State.setCa_pwr (s : State) (k : Nat) (v : Ca) : (s.setCa k v).pwr = s.pwr := rfl
@[simp] theorem State.setCa_tck (s : State) (k : Nat) (v : Ca) : (s.setCa k v).tck = s.tck := rfl
@[simp] theorem State.setCa_alarm (s : State) (k : Nat) (v : Ca) : (s.setCa k v).alarm = s.alarm := rfl
@[simp] theorem State.setCa_acus (s : State) (k : Nat) (v : Ca) : (s.setCa k v).acus = s.acus := rfl
@[simp] theorem State.setCa_rings (s : State) (k : Nat) (v : Ca) : (s.setCa k v).rings = s.rings := rfl
@[simp] theorem State.setCa_sess (s : State) (k : Nat) (v : Ca) : (s.setCa k v).sess = s.sess := rfl
@[simp] theorem State.setCa_iahDrop (s : State) (k : Nat) (v : Ca) : (s.setCa k v).iahDrop = s.iahDrop := rfl
@[simp] theorem State.setCa_jtag (s : State) (k : Nat) (v : Ca) : (s.setCa k v).jtag = s.jtag := rfl
@[simp] theorem State.setCa_pci (s : State) (k : Nat) (v : Ca) : (s.setCa k v).pci = s.pci := rfl
@[simp] theorem State.setCa_smb (s : State) (k : Nat) (v : Ca) : (s.setCa k v).smb = s.smb := rfl
@[simp] theorem State.setCa_obs (s : State) (k : Nat) (v : Ca) : (s.setCa k v).obs = s.obs := rfl
@[simp] theorem State.setCa_leds (s : State) (k : Nat) (v : Ca) : (s.setCa k v).leds = s.leds := rfl
@[simp] theorem State.setCa_mail (s : State) (k : Nat) (v : Ca) : (s.setCa k v).mail = s.mail := rfl
@[simp] theorem State.setCa_mem (s : State) (k : Nat) (v : Ca) : (s.setCa k v).mem = s.mem := rfl
@[simp] theorem State.setCa_mgtWait (s : State) (k : Nat) (v : Ca) : (s.setCa k v).mgtWait = s.mgtWait := rfl
@[simp] theorem State.setCa_out (s : State) (k : Nat) (v : Ca) : (s.setCa k v).out = s.out := rfl

@[simp] theorem State.setSaSlot_pending (s : State) (k : Nat) (v : SaSlot) : (s.setSaSlot k v).pending = s.pending := rfl
@[simp] theorem State.setSaSlot_regs (s : State) (k : Nat) (v : SaSlot) : (s.setSaSlot k v).regs = s.regs := rfl
@[simp] theorem State.setSaSlot_cnts (s : State) (k : Nat) (v : SaSlot) : (s.setSaSlot k v).cnts = s.cnts := rfl
@[simp] theorem State.setSaSlot_snaps (s : State) (k : Nat) (v : SaSlot) : (s.setSaSlot k v).snaps = s.snaps := rfl
@[simp] theorem State.setSaSlot_caps (s : State) (k : Nat) (v : SaSlot) : (s.setSaSlot k v).caps = s.caps := rfl
@[simp] theorem State.setSaSlot_ports (s : State) (k : Nat) (v : SaSlot) : (s.setSaSlot k v).ports = s.ports := rfl
@[simp] theorem State.setSaSlot_frames (s : State) (k : Nat) (v : SaSlot) : (s.setSaSlot k v).frames = s.frames := rfl
@[simp] theorem State.setSaSlot_nextId (s : State) (k : Nat) (v : SaSlot) : (s.setSaSlot k v).nextId = s.nextId := rfl
@[simp] theorem State.setSaSlot_cls (s : State) (k : Nat) (v : SaSlot) : (s.setSaSlot k v).cls = s.cls := rfl
@[simp] theorem State.setSaSlot_sas (s : State) (k : Nat) (v : SaSlot) : (s.setSaSlot k v).sas = s.sas := rfl
@[simp] theorem State.setSaSlot_instNo (s : State) (k : Nat) (v : SaSlot) : (s.setSaSlot k v).instNo = s.instNo := rfl
@[simp] theorem State.setSaSlot_ghosts (s : State) (k : Nat) (v : SaSlot) : (s.setSaSlot k v).ghosts = s.ghosts := rfl
@[simp] theorem State.setSaSlot_secys (s : State) (k : Nat) (v : SaSlot) : (s.setSaSlot k v).secys = s.secys := rfl
@[simp] theorem State.setSaSlot_rscs (s : State) (k : Nat) (v : SaSlot) : (s.setSaSlot k v).rscs = s.rscs := rfl
@[simp] theorem State.setSaSlot_cas (s : State) (k : Nat) (v : SaSlot) : (s.setSaSlot k v).cas = s.cas := rfl
@[simp] theorem State.setSaSlot_pairing (s : State) (k : Nat) (v : SaSlot) : (s.setSaSlot k v).pairing = s.pairing := rfl
@[simp] theorem State.setSaSlot_cakSlots (s : State) (k : Nat) (v : SaSlot) : (s.setSaSlot k v).cakSlots = s.cakSlots := rfl
@[simp] theorem State.setSaSlot_tetherKey (s : State) (k : Nat) (v : SaSlot) : (s.setSaSlot k v).tetherKey = s.tetherKey := rfl
@[simp] theorem State.setSaSlot_ctxKey (s : State) (k : Nat) (v : SaSlot) : (s.setSaSlot k v).ctxKey = s.ctxKey := rfl
@[simp] theorem State.setSaSlot_zeroized (s : State) (k : Nat) (v : SaSlot) : (s.setSaSlot k v).zeroized = s.zeroized := rfl
@[simp] theorem State.setSaSlot_prov (s : State) (k : Nat) (v : SaSlot) : (s.setSaSlot k v).prov = s.prov := rfl
@[simp] theorem State.setSaSlot_rng (s : State) (k : Nat) (v : SaSlot) : (s.setSaSlot k v).rng = s.rng := rfl
@[simp] theorem State.setSaSlot_svc (s : State) (k : Nat) (v : SaSlot) : (s.setSaSlot k v).svc = s.svc := rfl
@[simp] theorem State.setSaSlot_engs (s : State) (k : Nat) (v : SaSlot) : (s.setSaSlot k v).engs = s.engs := rfl
@[simp] theorem State.setSaSlot_yrd (s : State) (k : Nat) (v : SaSlot) : (s.setSaSlot k v).yrd = s.yrd := rfl
@[simp] theorem State.setSaSlot_tmg (s : State) (k : Nat) (v : SaSlot) : (s.setSaSlot k v).tmg = s.tmg := rfl
@[simp] theorem State.setSaSlot_cel (s : State) (k : Nat) (v : SaSlot) : (s.setSaSlot k v).cel = s.cel := rfl
@[simp] theorem State.setSaSlot_tim (s : State) (k : Nat) (v : SaSlot) : (s.setSaSlot k v).tim = s.tim := rfl
@[simp] theorem State.setSaSlot_par (s : State) (k : Nat) (v : SaSlot) : (s.setSaSlot k v).par = s.par := rfl
@[simp] theorem State.setSaSlot_ledger (s : State) (k : Nat) (v : SaSlot) : (s.setSaSlot k v).ledger = s.ledger := rfl
@[simp] theorem State.setSaSlot_fuses (s : State) (k : Nat) (v : SaSlot) : (s.setSaSlot k v).fuses = s.fuses := rfl
@[simp] theorem State.setSaSlot_straps (s : State) (k : Nat) (v : SaSlot) : (s.setSaSlot k v).straps = s.straps := rfl
@[simp] theorem State.setSaSlot_start (s : State) (k : Nat) (v : SaSlot) : (s.setSaSlot k v).start = s.start := rfl
@[simp] theorem State.setSaSlot_flash (s : State) (k : Nat) (v : SaSlot) : (s.setSaSlot k v).flash = s.flash := rfl
@[simp] theorem State.setSaSlot_pwr (s : State) (k : Nat) (v : SaSlot) : (s.setSaSlot k v).pwr = s.pwr := rfl
@[simp] theorem State.setSaSlot_tck (s : State) (k : Nat) (v : SaSlot) : (s.setSaSlot k v).tck = s.tck := rfl
@[simp] theorem State.setSaSlot_alarm (s : State) (k : Nat) (v : SaSlot) : (s.setSaSlot k v).alarm = s.alarm := rfl
@[simp] theorem State.setSaSlot_acus (s : State) (k : Nat) (v : SaSlot) : (s.setSaSlot k v).acus = s.acus := rfl
@[simp] theorem State.setSaSlot_rings (s : State) (k : Nat) (v : SaSlot) : (s.setSaSlot k v).rings = s.rings := rfl
@[simp] theorem State.setSaSlot_sess (s : State) (k : Nat) (v : SaSlot) : (s.setSaSlot k v).sess = s.sess := rfl
@[simp] theorem State.setSaSlot_iahDrop (s : State) (k : Nat) (v : SaSlot) : (s.setSaSlot k v).iahDrop = s.iahDrop := rfl
@[simp] theorem State.setSaSlot_jtag (s : State) (k : Nat) (v : SaSlot) : (s.setSaSlot k v).jtag = s.jtag := rfl
@[simp] theorem State.setSaSlot_pci (s : State) (k : Nat) (v : SaSlot) : (s.setSaSlot k v).pci = s.pci := rfl
@[simp] theorem State.setSaSlot_smb (s : State) (k : Nat) (v : SaSlot) : (s.setSaSlot k v).smb = s.smb := rfl
@[simp] theorem State.setSaSlot_obs (s : State) (k : Nat) (v : SaSlot) : (s.setSaSlot k v).obs = s.obs := rfl
@[simp] theorem State.setSaSlot_leds (s : State) (k : Nat) (v : SaSlot) : (s.setSaSlot k v).leds = s.leds := rfl
@[simp] theorem State.setSaSlot_mail (s : State) (k : Nat) (v : SaSlot) : (s.setSaSlot k v).mail = s.mail := rfl
@[simp] theorem State.setSaSlot_mem (s : State) (k : Nat) (v : SaSlot) : (s.setSaSlot k v).mem = s.mem := rfl
@[simp] theorem State.setSaSlot_mgtWait (s : State) (k : Nat) (v : SaSlot) : (s.setSaSlot k v).mgtWait = s.mgtWait := rfl
@[simp] theorem State.setSaSlot_out (s : State) (k : Nat) (v : SaSlot) : (s.setSaSlot k v).out = s.out := rfl

@[simp] theorem State.setCakSlot_pending (s : State) (k : Nat) (v : CakSlot) : (s.setCakSlot k v).pending = s.pending := rfl
@[simp] theorem State.setCakSlot_regs (s : State) (k : Nat) (v : CakSlot) : (s.setCakSlot k v).regs = s.regs := rfl
@[simp] theorem State.setCakSlot_cnts (s : State) (k : Nat) (v : CakSlot) : (s.setCakSlot k v).cnts = s.cnts := rfl
@[simp] theorem State.setCakSlot_snaps (s : State) (k : Nat) (v : CakSlot) : (s.setCakSlot k v).snaps = s.snaps := rfl
@[simp] theorem State.setCakSlot_caps (s : State) (k : Nat) (v : CakSlot) : (s.setCakSlot k v).caps = s.caps := rfl
@[simp] theorem State.setCakSlot_ports (s : State) (k : Nat) (v : CakSlot) : (s.setCakSlot k v).ports = s.ports := rfl
@[simp] theorem State.setCakSlot_frames (s : State) (k : Nat) (v : CakSlot) : (s.setCakSlot k v).frames = s.frames := rfl
@[simp] theorem State.setCakSlot_nextId (s : State) (k : Nat) (v : CakSlot) : (s.setCakSlot k v).nextId = s.nextId := rfl
@[simp] theorem State.setCakSlot_cls (s : State) (k : Nat) (v : CakSlot) : (s.setCakSlot k v).cls = s.cls := rfl
@[simp] theorem State.setCakSlot_sas (s : State) (k : Nat) (v : CakSlot) : (s.setCakSlot k v).sas = s.sas := rfl
@[simp] theorem State.setCakSlot_instNo (s : State) (k : Nat) (v : CakSlot) : (s.setCakSlot k v).instNo = s.instNo := rfl
@[simp] theorem State.setCakSlot_ghosts (s : State) (k : Nat) (v : CakSlot) : (s.setCakSlot k v).ghosts = s.ghosts := rfl
@[simp] theorem State.setCakSlot_secys (s : State) (k : Nat) (v : CakSlot) : (s.setCakSlot k v).secys = s.secys := rfl
@[simp] theorem State.setCakSlot_rscs (s : State) (k : Nat) (v : CakSlot) : (s.setCakSlot k v).rscs = s.rscs := rfl
@[simp] theorem State.setCakSlot_cas (s : State) (k : Nat) (v : CakSlot) : (s.setCakSlot k v).cas = s.cas := rfl
@[simp] theorem State.setCakSlot_pairing (s : State) (k : Nat) (v : CakSlot) : (s.setCakSlot k v).pairing = s.pairing := rfl
@[simp] theorem State.setCakSlot_saSlots (s : State) (k : Nat) (v : CakSlot) : (s.setCakSlot k v).saSlots = s.saSlots := rfl
@[simp] theorem State.setCakSlot_tetherKey (s : State) (k : Nat) (v : CakSlot) : (s.setCakSlot k v).tetherKey = s.tetherKey := rfl
@[simp] theorem State.setCakSlot_ctxKey (s : State) (k : Nat) (v : CakSlot) : (s.setCakSlot k v).ctxKey = s.ctxKey := rfl
@[simp] theorem State.setCakSlot_zeroized (s : State) (k : Nat) (v : CakSlot) : (s.setCakSlot k v).zeroized = s.zeroized := rfl
@[simp] theorem State.setCakSlot_prov (s : State) (k : Nat) (v : CakSlot) : (s.setCakSlot k v).prov = s.prov := rfl
@[simp] theorem State.setCakSlot_rng (s : State) (k : Nat) (v : CakSlot) : (s.setCakSlot k v).rng = s.rng := rfl
@[simp] theorem State.setCakSlot_svc (s : State) (k : Nat) (v : CakSlot) : (s.setCakSlot k v).svc = s.svc := rfl
@[simp] theorem State.setCakSlot_engs (s : State) (k : Nat) (v : CakSlot) : (s.setCakSlot k v).engs = s.engs := rfl
@[simp] theorem State.setCakSlot_yrd (s : State) (k : Nat) (v : CakSlot) : (s.setCakSlot k v).yrd = s.yrd := rfl
@[simp] theorem State.setCakSlot_tmg (s : State) (k : Nat) (v : CakSlot) : (s.setCakSlot k v).tmg = s.tmg := rfl
@[simp] theorem State.setCakSlot_cel (s : State) (k : Nat) (v : CakSlot) : (s.setCakSlot k v).cel = s.cel := rfl
@[simp] theorem State.setCakSlot_tim (s : State) (k : Nat) (v : CakSlot) : (s.setCakSlot k v).tim = s.tim := rfl
@[simp] theorem State.setCakSlot_par (s : State) (k : Nat) (v : CakSlot) : (s.setCakSlot k v).par = s.par := rfl
@[simp] theorem State.setCakSlot_ledger (s : State) (k : Nat) (v : CakSlot) : (s.setCakSlot k v).ledger = s.ledger := rfl
@[simp] theorem State.setCakSlot_fuses (s : State) (k : Nat) (v : CakSlot) : (s.setCakSlot k v).fuses = s.fuses := rfl
@[simp] theorem State.setCakSlot_straps (s : State) (k : Nat) (v : CakSlot) : (s.setCakSlot k v).straps = s.straps := rfl
@[simp] theorem State.setCakSlot_start (s : State) (k : Nat) (v : CakSlot) : (s.setCakSlot k v).start = s.start := rfl
@[simp] theorem State.setCakSlot_flash (s : State) (k : Nat) (v : CakSlot) : (s.setCakSlot k v).flash = s.flash := rfl
@[simp] theorem State.setCakSlot_pwr (s : State) (k : Nat) (v : CakSlot) : (s.setCakSlot k v).pwr = s.pwr := rfl
@[simp] theorem State.setCakSlot_tck (s : State) (k : Nat) (v : CakSlot) : (s.setCakSlot k v).tck = s.tck := rfl
@[simp] theorem State.setCakSlot_alarm (s : State) (k : Nat) (v : CakSlot) : (s.setCakSlot k v).alarm = s.alarm := rfl
@[simp] theorem State.setCakSlot_acus (s : State) (k : Nat) (v : CakSlot) : (s.setCakSlot k v).acus = s.acus := rfl
@[simp] theorem State.setCakSlot_rings (s : State) (k : Nat) (v : CakSlot) : (s.setCakSlot k v).rings = s.rings := rfl
@[simp] theorem State.setCakSlot_sess (s : State) (k : Nat) (v : CakSlot) : (s.setCakSlot k v).sess = s.sess := rfl
@[simp] theorem State.setCakSlot_iahDrop (s : State) (k : Nat) (v : CakSlot) : (s.setCakSlot k v).iahDrop = s.iahDrop := rfl
@[simp] theorem State.setCakSlot_jtag (s : State) (k : Nat) (v : CakSlot) : (s.setCakSlot k v).jtag = s.jtag := rfl
@[simp] theorem State.setCakSlot_pci (s : State) (k : Nat) (v : CakSlot) : (s.setCakSlot k v).pci = s.pci := rfl
@[simp] theorem State.setCakSlot_smb (s : State) (k : Nat) (v : CakSlot) : (s.setCakSlot k v).smb = s.smb := rfl
@[simp] theorem State.setCakSlot_obs (s : State) (k : Nat) (v : CakSlot) : (s.setCakSlot k v).obs = s.obs := rfl
@[simp] theorem State.setCakSlot_leds (s : State) (k : Nat) (v : CakSlot) : (s.setCakSlot k v).leds = s.leds := rfl
@[simp] theorem State.setCakSlot_mail (s : State) (k : Nat) (v : CakSlot) : (s.setCakSlot k v).mail = s.mail := rfl
@[simp] theorem State.setCakSlot_mem (s : State) (k : Nat) (v : CakSlot) : (s.setCakSlot k v).mem = s.mem := rfl
@[simp] theorem State.setCakSlot_mgtWait (s : State) (k : Nat) (v : CakSlot) : (s.setCakSlot k v).mgtWait = s.mgtWait := rfl
@[simp] theorem State.setCakSlot_out (s : State) (k : Nat) (v : CakSlot) : (s.setCakSlot k v).out = s.out := rfl

@[simp] theorem State.setEng_pending (s : State) (k : Nat) (v : Eng) : (s.setEng k v).pending = s.pending := rfl
@[simp] theorem State.setEng_regs (s : State) (k : Nat) (v : Eng) : (s.setEng k v).regs = s.regs := rfl
@[simp] theorem State.setEng_cnts (s : State) (k : Nat) (v : Eng) : (s.setEng k v).cnts = s.cnts := rfl
@[simp] theorem State.setEng_snaps (s : State) (k : Nat) (v : Eng) : (s.setEng k v).snaps = s.snaps := rfl
@[simp] theorem State.setEng_caps (s : State) (k : Nat) (v : Eng) : (s.setEng k v).caps = s.caps := rfl
@[simp] theorem State.setEng_ports (s : State) (k : Nat) (v : Eng) : (s.setEng k v).ports = s.ports := rfl
@[simp] theorem State.setEng_frames (s : State) (k : Nat) (v : Eng) : (s.setEng k v).frames = s.frames := rfl
@[simp] theorem State.setEng_nextId (s : State) (k : Nat) (v : Eng) : (s.setEng k v).nextId = s.nextId := rfl
@[simp] theorem State.setEng_cls (s : State) (k : Nat) (v : Eng) : (s.setEng k v).cls = s.cls := rfl
@[simp] theorem State.setEng_sas (s : State) (k : Nat) (v : Eng) : (s.setEng k v).sas = s.sas := rfl
@[simp] theorem State.setEng_instNo (s : State) (k : Nat) (v : Eng) : (s.setEng k v).instNo = s.instNo := rfl
@[simp] theorem State.setEng_ghosts (s : State) (k : Nat) (v : Eng) : (s.setEng k v).ghosts = s.ghosts := rfl
@[simp] theorem State.setEng_secys (s : State) (k : Nat) (v : Eng) : (s.setEng k v).secys = s.secys := rfl
@[simp] theorem State.setEng_rscs (s : State) (k : Nat) (v : Eng) : (s.setEng k v).rscs = s.rscs := rfl
@[simp] theorem State.setEng_cas (s : State) (k : Nat) (v : Eng) : (s.setEng k v).cas = s.cas := rfl
@[simp] theorem State.setEng_pairing (s : State) (k : Nat) (v : Eng) : (s.setEng k v).pairing = s.pairing := rfl
@[simp] theorem State.setEng_saSlots (s : State) (k : Nat) (v : Eng) : (s.setEng k v).saSlots = s.saSlots := rfl
@[simp] theorem State.setEng_cakSlots (s : State) (k : Nat) (v : Eng) : (s.setEng k v).cakSlots = s.cakSlots := rfl
@[simp] theorem State.setEng_tetherKey (s : State) (k : Nat) (v : Eng) : (s.setEng k v).tetherKey = s.tetherKey := rfl
@[simp] theorem State.setEng_ctxKey (s : State) (k : Nat) (v : Eng) : (s.setEng k v).ctxKey = s.ctxKey := rfl
@[simp] theorem State.setEng_zeroized (s : State) (k : Nat) (v : Eng) : (s.setEng k v).zeroized = s.zeroized := rfl
@[simp] theorem State.setEng_prov (s : State) (k : Nat) (v : Eng) : (s.setEng k v).prov = s.prov := rfl
@[simp] theorem State.setEng_rng (s : State) (k : Nat) (v : Eng) : (s.setEng k v).rng = s.rng := rfl
@[simp] theorem State.setEng_svc (s : State) (k : Nat) (v : Eng) : (s.setEng k v).svc = s.svc := rfl
@[simp] theorem State.setEng_yrd (s : State) (k : Nat) (v : Eng) : (s.setEng k v).yrd = s.yrd := rfl
@[simp] theorem State.setEng_tmg (s : State) (k : Nat) (v : Eng) : (s.setEng k v).tmg = s.tmg := rfl
@[simp] theorem State.setEng_cel (s : State) (k : Nat) (v : Eng) : (s.setEng k v).cel = s.cel := rfl
@[simp] theorem State.setEng_tim (s : State) (k : Nat) (v : Eng) : (s.setEng k v).tim = s.tim := rfl
@[simp] theorem State.setEng_par (s : State) (k : Nat) (v : Eng) : (s.setEng k v).par = s.par := rfl
@[simp] theorem State.setEng_ledger (s : State) (k : Nat) (v : Eng) : (s.setEng k v).ledger = s.ledger := rfl
@[simp] theorem State.setEng_fuses (s : State) (k : Nat) (v : Eng) : (s.setEng k v).fuses = s.fuses := rfl
@[simp] theorem State.setEng_straps (s : State) (k : Nat) (v : Eng) : (s.setEng k v).straps = s.straps := rfl
@[simp] theorem State.setEng_start (s : State) (k : Nat) (v : Eng) : (s.setEng k v).start = s.start := rfl
@[simp] theorem State.setEng_flash (s : State) (k : Nat) (v : Eng) : (s.setEng k v).flash = s.flash := rfl
@[simp] theorem State.setEng_pwr (s : State) (k : Nat) (v : Eng) : (s.setEng k v).pwr = s.pwr := rfl
@[simp] theorem State.setEng_tck (s : State) (k : Nat) (v : Eng) : (s.setEng k v).tck = s.tck := rfl
@[simp] theorem State.setEng_alarm (s : State) (k : Nat) (v : Eng) : (s.setEng k v).alarm = s.alarm := rfl
@[simp] theorem State.setEng_acus (s : State) (k : Nat) (v : Eng) : (s.setEng k v).acus = s.acus := rfl
@[simp] theorem State.setEng_rings (s : State) (k : Nat) (v : Eng) : (s.setEng k v).rings = s.rings := rfl
@[simp] theorem State.setEng_sess (s : State) (k : Nat) (v : Eng) : (s.setEng k v).sess = s.sess := rfl
@[simp] theorem State.setEng_iahDrop (s : State) (k : Nat) (v : Eng) : (s.setEng k v).iahDrop = s.iahDrop := rfl
@[simp] theorem State.setEng_jtag (s : State) (k : Nat) (v : Eng) : (s.setEng k v).jtag = s.jtag := rfl
@[simp] theorem State.setEng_pci (s : State) (k : Nat) (v : Eng) : (s.setEng k v).pci = s.pci := rfl
@[simp] theorem State.setEng_smb (s : State) (k : Nat) (v : Eng) : (s.setEng k v).smb = s.smb := rfl
@[simp] theorem State.setEng_obs (s : State) (k : Nat) (v : Eng) : (s.setEng k v).obs = s.obs := rfl
@[simp] theorem State.setEng_leds (s : State) (k : Nat) (v : Eng) : (s.setEng k v).leds = s.leds := rfl
@[simp] theorem State.setEng_mail (s : State) (k : Nat) (v : Eng) : (s.setEng k v).mail = s.mail := rfl
@[simp] theorem State.setEng_mem (s : State) (k : Nat) (v : Eng) : (s.setEng k v).mem = s.mem := rfl
@[simp] theorem State.setEng_mgtWait (s : State) (k : Nat) (v : Eng) : (s.setEng k v).mgtWait = s.mgtWait := rfl
@[simp] theorem State.setEng_out (s : State) (k : Nat) (v : Eng) : (s.setEng k v).out = s.out := rfl

@[simp] theorem State.setAcu_pending (s : State) (k : Nat) (v : Acu) : (s.setAcu k v).pending = s.pending := rfl
@[simp] theorem State.setAcu_regs (s : State) (k : Nat) (v : Acu) : (s.setAcu k v).regs = s.regs := rfl
@[simp] theorem State.setAcu_cnts (s : State) (k : Nat) (v : Acu) : (s.setAcu k v).cnts = s.cnts := rfl
@[simp] theorem State.setAcu_snaps (s : State) (k : Nat) (v : Acu) : (s.setAcu k v).snaps = s.snaps := rfl
@[simp] theorem State.setAcu_caps (s : State) (k : Nat) (v : Acu) : (s.setAcu k v).caps = s.caps := rfl
@[simp] theorem State.setAcu_ports (s : State) (k : Nat) (v : Acu) : (s.setAcu k v).ports = s.ports := rfl
@[simp] theorem State.setAcu_frames (s : State) (k : Nat) (v : Acu) : (s.setAcu k v).frames = s.frames := rfl
@[simp] theorem State.setAcu_nextId (s : State) (k : Nat) (v : Acu) : (s.setAcu k v).nextId = s.nextId := rfl
@[simp] theorem State.setAcu_cls (s : State) (k : Nat) (v : Acu) : (s.setAcu k v).cls = s.cls := rfl
@[simp] theorem State.setAcu_sas (s : State) (k : Nat) (v : Acu) : (s.setAcu k v).sas = s.sas := rfl
@[simp] theorem State.setAcu_instNo (s : State) (k : Nat) (v : Acu) : (s.setAcu k v).instNo = s.instNo := rfl
@[simp] theorem State.setAcu_ghosts (s : State) (k : Nat) (v : Acu) : (s.setAcu k v).ghosts = s.ghosts := rfl
@[simp] theorem State.setAcu_secys (s : State) (k : Nat) (v : Acu) : (s.setAcu k v).secys = s.secys := rfl
@[simp] theorem State.setAcu_rscs (s : State) (k : Nat) (v : Acu) : (s.setAcu k v).rscs = s.rscs := rfl
@[simp] theorem State.setAcu_cas (s : State) (k : Nat) (v : Acu) : (s.setAcu k v).cas = s.cas := rfl
@[simp] theorem State.setAcu_pairing (s : State) (k : Nat) (v : Acu) : (s.setAcu k v).pairing = s.pairing := rfl
@[simp] theorem State.setAcu_saSlots (s : State) (k : Nat) (v : Acu) : (s.setAcu k v).saSlots = s.saSlots := rfl
@[simp] theorem State.setAcu_cakSlots (s : State) (k : Nat) (v : Acu) : (s.setAcu k v).cakSlots = s.cakSlots := rfl
@[simp] theorem State.setAcu_tetherKey (s : State) (k : Nat) (v : Acu) : (s.setAcu k v).tetherKey = s.tetherKey := rfl
@[simp] theorem State.setAcu_ctxKey (s : State) (k : Nat) (v : Acu) : (s.setAcu k v).ctxKey = s.ctxKey := rfl
@[simp] theorem State.setAcu_zeroized (s : State) (k : Nat) (v : Acu) : (s.setAcu k v).zeroized = s.zeroized := rfl
@[simp] theorem State.setAcu_prov (s : State) (k : Nat) (v : Acu) : (s.setAcu k v).prov = s.prov := rfl
@[simp] theorem State.setAcu_rng (s : State) (k : Nat) (v : Acu) : (s.setAcu k v).rng = s.rng := rfl
@[simp] theorem State.setAcu_svc (s : State) (k : Nat) (v : Acu) : (s.setAcu k v).svc = s.svc := rfl
@[simp] theorem State.setAcu_engs (s : State) (k : Nat) (v : Acu) : (s.setAcu k v).engs = s.engs := rfl
@[simp] theorem State.setAcu_yrd (s : State) (k : Nat) (v : Acu) : (s.setAcu k v).yrd = s.yrd := rfl
@[simp] theorem State.setAcu_tmg (s : State) (k : Nat) (v : Acu) : (s.setAcu k v).tmg = s.tmg := rfl
@[simp] theorem State.setAcu_cel (s : State) (k : Nat) (v : Acu) : (s.setAcu k v).cel = s.cel := rfl
@[simp] theorem State.setAcu_tim (s : State) (k : Nat) (v : Acu) : (s.setAcu k v).tim = s.tim := rfl
@[simp] theorem State.setAcu_par (s : State) (k : Nat) (v : Acu) : (s.setAcu k v).par = s.par := rfl
@[simp] theorem State.setAcu_ledger (s : State) (k : Nat) (v : Acu) : (s.setAcu k v).ledger = s.ledger := rfl
@[simp] theorem State.setAcu_fuses (s : State) (k : Nat) (v : Acu) : (s.setAcu k v).fuses = s.fuses := rfl
@[simp] theorem State.setAcu_straps (s : State) (k : Nat) (v : Acu) : (s.setAcu k v).straps = s.straps := rfl
@[simp] theorem State.setAcu_start (s : State) (k : Nat) (v : Acu) : (s.setAcu k v).start = s.start := rfl
@[simp] theorem State.setAcu_flash (s : State) (k : Nat) (v : Acu) : (s.setAcu k v).flash = s.flash := rfl
@[simp] theorem State.setAcu_pwr (s : State) (k : Nat) (v : Acu) : (s.setAcu k v).pwr = s.pwr := rfl
@[simp] theorem State.setAcu_tck (s : State) (k : Nat) (v : Acu) : (s.setAcu k v).tck = s.tck := rfl
@[simp] theorem State.setAcu_alarm (s : State) (k : Nat) (v : Acu) : (s.setAcu k v).alarm = s.alarm := rfl
@[simp] theorem State.setAcu_rings (s : State) (k : Nat) (v : Acu) : (s.setAcu k v).rings = s.rings := rfl
@[simp] theorem State.setAcu_sess (s : State) (k : Nat) (v : Acu) : (s.setAcu k v).sess = s.sess := rfl
@[simp] theorem State.setAcu_iahDrop (s : State) (k : Nat) (v : Acu) : (s.setAcu k v).iahDrop = s.iahDrop := rfl
@[simp] theorem State.setAcu_jtag (s : State) (k : Nat) (v : Acu) : (s.setAcu k v).jtag = s.jtag := rfl
@[simp] theorem State.setAcu_pci (s : State) (k : Nat) (v : Acu) : (s.setAcu k v).pci = s.pci := rfl
@[simp] theorem State.setAcu_smb (s : State) (k : Nat) (v : Acu) : (s.setAcu k v).smb = s.smb := rfl
@[simp] theorem State.setAcu_obs (s : State) (k : Nat) (v : Acu) : (s.setAcu k v).obs = s.obs := rfl
@[simp] theorem State.setAcu_leds (s : State) (k : Nat) (v : Acu) : (s.setAcu k v).leds = s.leds := rfl
@[simp] theorem State.setAcu_mail (s : State) (k : Nat) (v : Acu) : (s.setAcu k v).mail = s.mail := rfl
@[simp] theorem State.setAcu_mem (s : State) (k : Nat) (v : Acu) : (s.setAcu k v).mem = s.mem := rfl
@[simp] theorem State.setAcu_mgtWait (s : State) (k : Nat) (v : Acu) : (s.setAcu k v).mgtWait = s.mgtWait := rfl
@[simp] theorem State.setAcu_out (s : State) (k : Nat) (v : Acu) : (s.setAcu k v).out = s.out := rfl

@[simp] theorem State.setRing_pending (s : State) (k : Nat) (v : Ring) : (s.setRing k v).pending = s.pending := rfl
@[simp] theorem State.setRing_regs (s : State) (k : Nat) (v : Ring) : (s.setRing k v).regs = s.regs := rfl
@[simp] theorem State.setRing_cnts (s : State) (k : Nat) (v : Ring) : (s.setRing k v).cnts = s.cnts := rfl
@[simp] theorem State.setRing_snaps (s : State) (k : Nat) (v : Ring) : (s.setRing k v).snaps = s.snaps := rfl
@[simp] theorem State.setRing_caps (s : State) (k : Nat) (v : Ring) : (s.setRing k v).caps = s.caps := rfl
@[simp] theorem State.setRing_ports (s : State) (k : Nat) (v : Ring) : (s.setRing k v).ports = s.ports := rfl
@[simp] theorem State.setRing_frames (s : State) (k : Nat) (v : Ring) : (s.setRing k v).frames = s.frames := rfl
@[simp] theorem State.setRing_nextId (s : State) (k : Nat) (v : Ring) : (s.setRing k v).nextId = s.nextId := rfl
@[simp] theorem State.setRing_cls (s : State) (k : Nat) (v : Ring) : (s.setRing k v).cls = s.cls := rfl
@[simp] theorem State.setRing_sas (s : State) (k : Nat) (v : Ring) : (s.setRing k v).sas = s.sas := rfl
@[simp] theorem State.setRing_instNo (s : State) (k : Nat) (v : Ring) : (s.setRing k v).instNo = s.instNo := rfl
@[simp] theorem State.setRing_ghosts (s : State) (k : Nat) (v : Ring) : (s.setRing k v).ghosts = s.ghosts := rfl
@[simp] theorem State.setRing_secys (s : State) (k : Nat) (v : Ring) : (s.setRing k v).secys = s.secys := rfl
@[simp] theorem State.setRing_rscs (s : State) (k : Nat) (v : Ring) : (s.setRing k v).rscs = s.rscs := rfl
@[simp] theorem State.setRing_cas (s : State) (k : Nat) (v : Ring) : (s.setRing k v).cas = s.cas := rfl
@[simp] theorem State.setRing_pairing (s : State) (k : Nat) (v : Ring) : (s.setRing k v).pairing = s.pairing := rfl
@[simp] theorem State.setRing_saSlots (s : State) (k : Nat) (v : Ring) : (s.setRing k v).saSlots = s.saSlots := rfl
@[simp] theorem State.setRing_cakSlots (s : State) (k : Nat) (v : Ring) : (s.setRing k v).cakSlots = s.cakSlots := rfl
@[simp] theorem State.setRing_tetherKey (s : State) (k : Nat) (v : Ring) : (s.setRing k v).tetherKey = s.tetherKey := rfl
@[simp] theorem State.setRing_ctxKey (s : State) (k : Nat) (v : Ring) : (s.setRing k v).ctxKey = s.ctxKey := rfl
@[simp] theorem State.setRing_zeroized (s : State) (k : Nat) (v : Ring) : (s.setRing k v).zeroized = s.zeroized := rfl
@[simp] theorem State.setRing_prov (s : State) (k : Nat) (v : Ring) : (s.setRing k v).prov = s.prov := rfl
@[simp] theorem State.setRing_rng (s : State) (k : Nat) (v : Ring) : (s.setRing k v).rng = s.rng := rfl
@[simp] theorem State.setRing_svc (s : State) (k : Nat) (v : Ring) : (s.setRing k v).svc = s.svc := rfl
@[simp] theorem State.setRing_engs (s : State) (k : Nat) (v : Ring) : (s.setRing k v).engs = s.engs := rfl
@[simp] theorem State.setRing_yrd (s : State) (k : Nat) (v : Ring) : (s.setRing k v).yrd = s.yrd := rfl
@[simp] theorem State.setRing_tmg (s : State) (k : Nat) (v : Ring) : (s.setRing k v).tmg = s.tmg := rfl
@[simp] theorem State.setRing_cel (s : State) (k : Nat) (v : Ring) : (s.setRing k v).cel = s.cel := rfl
@[simp] theorem State.setRing_tim (s : State) (k : Nat) (v : Ring) : (s.setRing k v).tim = s.tim := rfl
@[simp] theorem State.setRing_par (s : State) (k : Nat) (v : Ring) : (s.setRing k v).par = s.par := rfl
@[simp] theorem State.setRing_ledger (s : State) (k : Nat) (v : Ring) : (s.setRing k v).ledger = s.ledger := rfl
@[simp] theorem State.setRing_fuses (s : State) (k : Nat) (v : Ring) : (s.setRing k v).fuses = s.fuses := rfl
@[simp] theorem State.setRing_straps (s : State) (k : Nat) (v : Ring) : (s.setRing k v).straps = s.straps := rfl
@[simp] theorem State.setRing_start (s : State) (k : Nat) (v : Ring) : (s.setRing k v).start = s.start := rfl
@[simp] theorem State.setRing_flash (s : State) (k : Nat) (v : Ring) : (s.setRing k v).flash = s.flash := rfl
@[simp] theorem State.setRing_pwr (s : State) (k : Nat) (v : Ring) : (s.setRing k v).pwr = s.pwr := rfl
@[simp] theorem State.setRing_tck (s : State) (k : Nat) (v : Ring) : (s.setRing k v).tck = s.tck := rfl
@[simp] theorem State.setRing_alarm (s : State) (k : Nat) (v : Ring) : (s.setRing k v).alarm = s.alarm := rfl
@[simp] theorem State.setRing_acus (s : State) (k : Nat) (v : Ring) : (s.setRing k v).acus = s.acus := rfl
@[simp] theorem State.setRing_sess (s : State) (k : Nat) (v : Ring) : (s.setRing k v).sess = s.sess := rfl
@[simp] theorem State.setRing_iahDrop (s : State) (k : Nat) (v : Ring) : (s.setRing k v).iahDrop = s.iahDrop := rfl
@[simp] theorem State.setRing_jtag (s : State) (k : Nat) (v : Ring) : (s.setRing k v).jtag = s.jtag := rfl
@[simp] theorem State.setRing_pci (s : State) (k : Nat) (v : Ring) : (s.setRing k v).pci = s.pci := rfl
@[simp] theorem State.setRing_smb (s : State) (k : Nat) (v : Ring) : (s.setRing k v).smb = s.smb := rfl
@[simp] theorem State.setRing_obs (s : State) (k : Nat) (v : Ring) : (s.setRing k v).obs = s.obs := rfl
@[simp] theorem State.setRing_leds (s : State) (k : Nat) (v : Ring) : (s.setRing k v).leds = s.leds := rfl
@[simp] theorem State.setRing_mail (s : State) (k : Nat) (v : Ring) : (s.setRing k v).mail = s.mail := rfl
@[simp] theorem State.setRing_mem (s : State) (k : Nat) (v : Ring) : (s.setRing k v).mem = s.mem := rfl
@[simp] theorem State.setRing_mgtWait (s : State) (k : Nat) (v : Ring) : (s.setRing k v).mgtWait = s.mgtWait := rfl
@[simp] theorem State.setRing_out (s : State) (k : Nat) (v : Ring) : (s.setRing k v).out = s.out := rfl

@[simp] theorem State.setFrame_pending (s : State) (f : Frame) : (s.setFrame f).pending = s.pending := rfl
@[simp] theorem State.setFrame_regs (s : State) (f : Frame) : (s.setFrame f).regs = s.regs := rfl
@[simp] theorem State.setFrame_cnts (s : State) (f : Frame) : (s.setFrame f).cnts = s.cnts := rfl
@[simp] theorem State.setFrame_snaps (s : State) (f : Frame) : (s.setFrame f).snaps = s.snaps := rfl
@[simp] theorem State.setFrame_caps (s : State) (f : Frame) : (s.setFrame f).caps = s.caps := rfl
@[simp] theorem State.setFrame_ports (s : State) (f : Frame) : (s.setFrame f).ports = s.ports := rfl
@[simp] theorem State.setFrame_nextId (s : State) (f : Frame) : (s.setFrame f).nextId = s.nextId := rfl
@[simp] theorem State.setFrame_cls (s : State) (f : Frame) : (s.setFrame f).cls = s.cls := rfl
@[simp] theorem State.setFrame_sas (s : State) (f : Frame) : (s.setFrame f).sas = s.sas := rfl
@[simp] theorem State.setFrame_instNo (s : State) (f : Frame) : (s.setFrame f).instNo = s.instNo := rfl
@[simp] theorem State.setFrame_ghosts (s : State) (f : Frame) : (s.setFrame f).ghosts = s.ghosts := rfl
@[simp] theorem State.setFrame_secys (s : State) (f : Frame) : (s.setFrame f).secys = s.secys := rfl
@[simp] theorem State.setFrame_rscs (s : State) (f : Frame) : (s.setFrame f).rscs = s.rscs := rfl
@[simp] theorem State.setFrame_cas (s : State) (f : Frame) : (s.setFrame f).cas = s.cas := rfl
@[simp] theorem State.setFrame_pairing (s : State) (f : Frame) : (s.setFrame f).pairing = s.pairing := rfl
@[simp] theorem State.setFrame_saSlots (s : State) (f : Frame) : (s.setFrame f).saSlots = s.saSlots := rfl
@[simp] theorem State.setFrame_cakSlots (s : State) (f : Frame) : (s.setFrame f).cakSlots = s.cakSlots := rfl
@[simp] theorem State.setFrame_tetherKey (s : State) (f : Frame) : (s.setFrame f).tetherKey = s.tetherKey := rfl
@[simp] theorem State.setFrame_ctxKey (s : State) (f : Frame) : (s.setFrame f).ctxKey = s.ctxKey := rfl
@[simp] theorem State.setFrame_zeroized (s : State) (f : Frame) : (s.setFrame f).zeroized = s.zeroized := rfl
@[simp] theorem State.setFrame_prov (s : State) (f : Frame) : (s.setFrame f).prov = s.prov := rfl
@[simp] theorem State.setFrame_rng (s : State) (f : Frame) : (s.setFrame f).rng = s.rng := rfl
@[simp] theorem State.setFrame_svc (s : State) (f : Frame) : (s.setFrame f).svc = s.svc := rfl
@[simp] theorem State.setFrame_engs (s : State) (f : Frame) : (s.setFrame f).engs = s.engs := rfl
@[simp] theorem State.setFrame_yrd (s : State) (f : Frame) : (s.setFrame f).yrd = s.yrd := rfl
@[simp] theorem State.setFrame_tmg (s : State) (f : Frame) : (s.setFrame f).tmg = s.tmg := rfl
@[simp] theorem State.setFrame_cel (s : State) (f : Frame) : (s.setFrame f).cel = s.cel := rfl
@[simp] theorem State.setFrame_tim (s : State) (f : Frame) : (s.setFrame f).tim = s.tim := rfl
@[simp] theorem State.setFrame_par (s : State) (f : Frame) : (s.setFrame f).par = s.par := rfl
@[simp] theorem State.setFrame_ledger (s : State) (f : Frame) : (s.setFrame f).ledger = s.ledger := rfl
@[simp] theorem State.setFrame_fuses (s : State) (f : Frame) : (s.setFrame f).fuses = s.fuses := rfl
@[simp] theorem State.setFrame_straps (s : State) (f : Frame) : (s.setFrame f).straps = s.straps := rfl
@[simp] theorem State.setFrame_start (s : State) (f : Frame) : (s.setFrame f).start = s.start := rfl
@[simp] theorem State.setFrame_flash (s : State) (f : Frame) : (s.setFrame f).flash = s.flash := rfl
@[simp] theorem State.setFrame_pwr (s : State) (f : Frame) : (s.setFrame f).pwr = s.pwr := rfl
@[simp] theorem State.setFrame_tck (s : State) (f : Frame) : (s.setFrame f).tck = s.tck := rfl
@[simp] theorem State.setFrame_alarm (s : State) (f : Frame) : (s.setFrame f).alarm = s.alarm := rfl
@[simp] theorem State.setFrame_acus (s : State) (f : Frame) : (s.setFrame f).acus = s.acus := rfl
@[simp] theorem State.setFrame_rings (s : State) (f : Frame) : (s.setFrame f).rings = s.rings := rfl
@[simp] theorem State.setFrame_sess (s : State) (f : Frame) : (s.setFrame f).sess = s.sess := rfl
@[simp] theorem State.setFrame_iahDrop (s : State) (f : Frame) : (s.setFrame f).iahDrop = s.iahDrop := rfl
@[simp] theorem State.setFrame_jtag (s : State) (f : Frame) : (s.setFrame f).jtag = s.jtag := rfl
@[simp] theorem State.setFrame_pci (s : State) (f : Frame) : (s.setFrame f).pci = s.pci := rfl
@[simp] theorem State.setFrame_smb (s : State) (f : Frame) : (s.setFrame f).smb = s.smb := rfl
@[simp] theorem State.setFrame_obs (s : State) (f : Frame) : (s.setFrame f).obs = s.obs := rfl
@[simp] theorem State.setFrame_leds (s : State) (f : Frame) : (s.setFrame f).leds = s.leds := rfl
@[simp] theorem State.setFrame_mail (s : State) (f : Frame) : (s.setFrame f).mail = s.mail := rfl
@[simp] theorem State.setFrame_mem (s : State) (f : Frame) : (s.setFrame f).mem = s.mem := rfl
@[simp] theorem State.setFrame_mgtWait (s : State) (f : Frame) : (s.setFrame f).mgtWait = s.mgtWait := rfl
@[simp] theorem State.setFrame_out (s : State) (f : Frame) : (s.setFrame f).out = s.out := rfl

@[simp] theorem State.emit_pending (s : State) (o : Output) : (s.emit o).pending = s.pending := rfl
@[simp] theorem State.emit_regs (s : State) (o : Output) : (s.emit o).regs = s.regs := rfl
@[simp] theorem State.emit_cnts (s : State) (o : Output) : (s.emit o).cnts = s.cnts := rfl
@[simp] theorem State.emit_snaps (s : State) (o : Output) : (s.emit o).snaps = s.snaps := rfl
@[simp] theorem State.emit_caps (s : State) (o : Output) : (s.emit o).caps = s.caps := rfl
@[simp] theorem State.emit_ports (s : State) (o : Output) : (s.emit o).ports = s.ports := rfl
@[simp] theorem State.emit_frames (s : State) (o : Output) : (s.emit o).frames = s.frames := rfl
@[simp] theorem State.emit_nextId (s : State) (o : Output) : (s.emit o).nextId = s.nextId := rfl
@[simp] theorem State.emit_cls (s : State) (o : Output) : (s.emit o).cls = s.cls := rfl
@[simp] theorem State.emit_sas (s : State) (o : Output) : (s.emit o).sas = s.sas := rfl
@[simp] theorem State.emit_instNo (s : State) (o : Output) : (s.emit o).instNo = s.instNo := rfl
@[simp] theorem State.emit_ghosts (s : State) (o : Output) : (s.emit o).ghosts = s.ghosts := rfl
@[simp] theorem State.emit_secys (s : State) (o : Output) : (s.emit o).secys = s.secys := rfl
@[simp] theorem State.emit_rscs (s : State) (o : Output) : (s.emit o).rscs = s.rscs := rfl
@[simp] theorem State.emit_cas (s : State) (o : Output) : (s.emit o).cas = s.cas := rfl
@[simp] theorem State.emit_pairing (s : State) (o : Output) : (s.emit o).pairing = s.pairing := rfl
@[simp] theorem State.emit_saSlots (s : State) (o : Output) : (s.emit o).saSlots = s.saSlots := rfl
@[simp] theorem State.emit_cakSlots (s : State) (o : Output) : (s.emit o).cakSlots = s.cakSlots := rfl
@[simp] theorem State.emit_tetherKey (s : State) (o : Output) : (s.emit o).tetherKey = s.tetherKey := rfl
@[simp] theorem State.emit_ctxKey (s : State) (o : Output) : (s.emit o).ctxKey = s.ctxKey := rfl
@[simp] theorem State.emit_zeroized (s : State) (o : Output) : (s.emit o).zeroized = s.zeroized := rfl
@[simp] theorem State.emit_prov (s : State) (o : Output) : (s.emit o).prov = s.prov := rfl
@[simp] theorem State.emit_rng (s : State) (o : Output) : (s.emit o).rng = s.rng := rfl
@[simp] theorem State.emit_svc (s : State) (o : Output) : (s.emit o).svc = s.svc := rfl
@[simp] theorem State.emit_engs (s : State) (o : Output) : (s.emit o).engs = s.engs := rfl
@[simp] theorem State.emit_yrd (s : State) (o : Output) : (s.emit o).yrd = s.yrd := rfl
@[simp] theorem State.emit_tmg (s : State) (o : Output) : (s.emit o).tmg = s.tmg := rfl
@[simp] theorem State.emit_cel (s : State) (o : Output) : (s.emit o).cel = s.cel := rfl
@[simp] theorem State.emit_tim (s : State) (o : Output) : (s.emit o).tim = s.tim := rfl
@[simp] theorem State.emit_par (s : State) (o : Output) : (s.emit o).par = s.par := rfl
@[simp] theorem State.emit_ledger (s : State) (o : Output) : (s.emit o).ledger = s.ledger := rfl
@[simp] theorem State.emit_fuses (s : State) (o : Output) : (s.emit o).fuses = s.fuses := rfl
@[simp] theorem State.emit_straps (s : State) (o : Output) : (s.emit o).straps = s.straps := rfl
@[simp] theorem State.emit_start (s : State) (o : Output) : (s.emit o).start = s.start := rfl
@[simp] theorem State.emit_flash (s : State) (o : Output) : (s.emit o).flash = s.flash := rfl
@[simp] theorem State.emit_pwr (s : State) (o : Output) : (s.emit o).pwr = s.pwr := rfl
@[simp] theorem State.emit_tck (s : State) (o : Output) : (s.emit o).tck = s.tck := rfl
@[simp] theorem State.emit_alarm (s : State) (o : Output) : (s.emit o).alarm = s.alarm := rfl
@[simp] theorem State.emit_acus (s : State) (o : Output) : (s.emit o).acus = s.acus := rfl
@[simp] theorem State.emit_rings (s : State) (o : Output) : (s.emit o).rings = s.rings := rfl
@[simp] theorem State.emit_sess (s : State) (o : Output) : (s.emit o).sess = s.sess := rfl
@[simp] theorem State.emit_iahDrop (s : State) (o : Output) : (s.emit o).iahDrop = s.iahDrop := rfl
@[simp] theorem State.emit_jtag (s : State) (o : Output) : (s.emit o).jtag = s.jtag := rfl
@[simp] theorem State.emit_pci (s : State) (o : Output) : (s.emit o).pci = s.pci := rfl
@[simp] theorem State.emit_smb (s : State) (o : Output) : (s.emit o).smb = s.smb := rfl
@[simp] theorem State.emit_obs (s : State) (o : Output) : (s.emit o).obs = s.obs := rfl
@[simp] theorem State.emit_leds (s : State) (o : Output) : (s.emit o).leds = s.leds := rfl
@[simp] theorem State.emit_mail (s : State) (o : Output) : (s.emit o).mail = s.mail := rfl
@[simp] theorem State.emit_mem (s : State) (o : Output) : (s.emit o).mem = s.mem := rfl
@[simp] theorem State.emit_mgtWait (s : State) (o : Output) : (s.emit o).mgtWait = s.mgtWait := rfl

@[simp] theorem State.count_pending (s : State) (b : CntBlk) (kd i c n : Nat) : (s.count b kd i c n).pending = s.pending := by
  unfold State.count
  generalize s.cnts.put (fun _ => 0#64) (cntKey b kd i c) (s.cnt b kd i c + BitVec.ofNat 64 n) = x; rfl
@[simp] theorem State.count_regs (s : State) (b : CntBlk) (kd i c n : Nat) : (s.count b kd i c n).regs = s.regs := by
  unfold State.count
  generalize s.cnts.put (fun _ => 0#64) (cntKey b kd i c) (s.cnt b kd i c + BitVec.ofNat 64 n) = x; rfl
@[simp] theorem State.count_snaps (s : State) (b : CntBlk) (kd i c n : Nat) : (s.count b kd i c n).snaps = s.snaps := by
  unfold State.count
  generalize s.cnts.put (fun _ => 0#64) (cntKey b kd i c) (s.cnt b kd i c + BitVec.ofNat 64 n) = x; rfl
@[simp] theorem State.count_caps (s : State) (b : CntBlk) (kd i c n : Nat) : (s.count b kd i c n).caps = s.caps := by
  unfold State.count
  generalize s.cnts.put (fun _ => 0#64) (cntKey b kd i c) (s.cnt b kd i c + BitVec.ofNat 64 n) = x; rfl
@[simp] theorem State.count_ports (s : State) (b : CntBlk) (kd i c n : Nat) : (s.count b kd i c n).ports = s.ports := by
  unfold State.count
  generalize s.cnts.put (fun _ => 0#64) (cntKey b kd i c) (s.cnt b kd i c + BitVec.ofNat 64 n) = x; rfl
@[simp] theorem State.count_frames (s : State) (b : CntBlk) (kd i c n : Nat) : (s.count b kd i c n).frames = s.frames := by
  unfold State.count
  generalize s.cnts.put (fun _ => 0#64) (cntKey b kd i c) (s.cnt b kd i c + BitVec.ofNat 64 n) = x; rfl
@[simp] theorem State.count_nextId (s : State) (b : CntBlk) (kd i c n : Nat) : (s.count b kd i c n).nextId = s.nextId := by
  unfold State.count
  generalize s.cnts.put (fun _ => 0#64) (cntKey b kd i c) (s.cnt b kd i c + BitVec.ofNat 64 n) = x; rfl
@[simp] theorem State.count_cls (s : State) (b : CntBlk) (kd i c n : Nat) : (s.count b kd i c n).cls = s.cls := by
  unfold State.count
  generalize s.cnts.put (fun _ => 0#64) (cntKey b kd i c) (s.cnt b kd i c + BitVec.ofNat 64 n) = x; rfl
@[simp] theorem State.count_sas (s : State) (b : CntBlk) (kd i c n : Nat) : (s.count b kd i c n).sas = s.sas := by
  unfold State.count
  generalize s.cnts.put (fun _ => 0#64) (cntKey b kd i c) (s.cnt b kd i c + BitVec.ofNat 64 n) = x; rfl
@[simp] theorem State.count_instNo (s : State) (b : CntBlk) (kd i c n : Nat) : (s.count b kd i c n).instNo = s.instNo := by
  unfold State.count
  generalize s.cnts.put (fun _ => 0#64) (cntKey b kd i c) (s.cnt b kd i c + BitVec.ofNat 64 n) = x; rfl
@[simp] theorem State.count_ghosts (s : State) (b : CntBlk) (kd i c n : Nat) : (s.count b kd i c n).ghosts = s.ghosts := by
  unfold State.count
  generalize s.cnts.put (fun _ => 0#64) (cntKey b kd i c) (s.cnt b kd i c + BitVec.ofNat 64 n) = x; rfl
@[simp] theorem State.count_secys (s : State) (b : CntBlk) (kd i c n : Nat) : (s.count b kd i c n).secys = s.secys := by
  unfold State.count
  generalize s.cnts.put (fun _ => 0#64) (cntKey b kd i c) (s.cnt b kd i c + BitVec.ofNat 64 n) = x; rfl
@[simp] theorem State.count_rscs (s : State) (b : CntBlk) (kd i c n : Nat) : (s.count b kd i c n).rscs = s.rscs := by
  unfold State.count
  generalize s.cnts.put (fun _ => 0#64) (cntKey b kd i c) (s.cnt b kd i c + BitVec.ofNat 64 n) = x; rfl
@[simp] theorem State.count_cas (s : State) (b : CntBlk) (kd i c n : Nat) : (s.count b kd i c n).cas = s.cas := by
  unfold State.count
  generalize s.cnts.put (fun _ => 0#64) (cntKey b kd i c) (s.cnt b kd i c + BitVec.ofNat 64 n) = x; rfl
@[simp] theorem State.count_pairing (s : State) (b : CntBlk) (kd i c n : Nat) : (s.count b kd i c n).pairing = s.pairing := by
  unfold State.count
  generalize s.cnts.put (fun _ => 0#64) (cntKey b kd i c) (s.cnt b kd i c + BitVec.ofNat 64 n) = x; rfl
@[simp] theorem State.count_saSlots (s : State) (b : CntBlk) (kd i c n : Nat) : (s.count b kd i c n).saSlots = s.saSlots := by
  unfold State.count
  generalize s.cnts.put (fun _ => 0#64) (cntKey b kd i c) (s.cnt b kd i c + BitVec.ofNat 64 n) = x; rfl
@[simp] theorem State.count_cakSlots (s : State) (b : CntBlk) (kd i c n : Nat) : (s.count b kd i c n).cakSlots = s.cakSlots := by
  unfold State.count
  generalize s.cnts.put (fun _ => 0#64) (cntKey b kd i c) (s.cnt b kd i c + BitVec.ofNat 64 n) = x; rfl
@[simp] theorem State.count_tetherKey (s : State) (b : CntBlk) (kd i c n : Nat) : (s.count b kd i c n).tetherKey = s.tetherKey := by
  unfold State.count
  generalize s.cnts.put (fun _ => 0#64) (cntKey b kd i c) (s.cnt b kd i c + BitVec.ofNat 64 n) = x; rfl
@[simp] theorem State.count_ctxKey (s : State) (b : CntBlk) (kd i c n : Nat) : (s.count b kd i c n).ctxKey = s.ctxKey := by
  unfold State.count
  generalize s.cnts.put (fun _ => 0#64) (cntKey b kd i c) (s.cnt b kd i c + BitVec.ofNat 64 n) = x; rfl
@[simp] theorem State.count_zeroized (s : State) (b : CntBlk) (kd i c n : Nat) : (s.count b kd i c n).zeroized = s.zeroized := by
  unfold State.count
  generalize s.cnts.put (fun _ => 0#64) (cntKey b kd i c) (s.cnt b kd i c + BitVec.ofNat 64 n) = x; rfl
@[simp] theorem State.count_prov (s : State) (b : CntBlk) (kd i c n : Nat) : (s.count b kd i c n).prov = s.prov := by
  unfold State.count
  generalize s.cnts.put (fun _ => 0#64) (cntKey b kd i c) (s.cnt b kd i c + BitVec.ofNat 64 n) = x; rfl
@[simp] theorem State.count_rng (s : State) (b : CntBlk) (kd i c n : Nat) : (s.count b kd i c n).rng = s.rng := by
  unfold State.count
  generalize s.cnts.put (fun _ => 0#64) (cntKey b kd i c) (s.cnt b kd i c + BitVec.ofNat 64 n) = x; rfl
@[simp] theorem State.count_svc (s : State) (b : CntBlk) (kd i c n : Nat) : (s.count b kd i c n).svc = s.svc := by
  unfold State.count
  generalize s.cnts.put (fun _ => 0#64) (cntKey b kd i c) (s.cnt b kd i c + BitVec.ofNat 64 n) = x; rfl
@[simp] theorem State.count_engs (s : State) (b : CntBlk) (kd i c n : Nat) : (s.count b kd i c n).engs = s.engs := by
  unfold State.count
  generalize s.cnts.put (fun _ => 0#64) (cntKey b kd i c) (s.cnt b kd i c + BitVec.ofNat 64 n) = x; rfl
@[simp] theorem State.count_yrd (s : State) (b : CntBlk) (kd i c n : Nat) : (s.count b kd i c n).yrd = s.yrd := by
  unfold State.count
  generalize s.cnts.put (fun _ => 0#64) (cntKey b kd i c) (s.cnt b kd i c + BitVec.ofNat 64 n) = x; rfl
@[simp] theorem State.count_tmg (s : State) (b : CntBlk) (kd i c n : Nat) : (s.count b kd i c n).tmg = s.tmg := by
  unfold State.count
  generalize s.cnts.put (fun _ => 0#64) (cntKey b kd i c) (s.cnt b kd i c + BitVec.ofNat 64 n) = x; rfl
@[simp] theorem State.count_cel (s : State) (b : CntBlk) (kd i c n : Nat) : (s.count b kd i c n).cel = s.cel := by
  unfold State.count
  generalize s.cnts.put (fun _ => 0#64) (cntKey b kd i c) (s.cnt b kd i c + BitVec.ofNat 64 n) = x; rfl
@[simp] theorem State.count_tim (s : State) (b : CntBlk) (kd i c n : Nat) : (s.count b kd i c n).tim = s.tim := by
  unfold State.count
  generalize s.cnts.put (fun _ => 0#64) (cntKey b kd i c) (s.cnt b kd i c + BitVec.ofNat 64 n) = x; rfl
@[simp] theorem State.count_par (s : State) (b : CntBlk) (kd i c n : Nat) : (s.count b kd i c n).par = s.par := by
  unfold State.count
  generalize s.cnts.put (fun _ => 0#64) (cntKey b kd i c) (s.cnt b kd i c + BitVec.ofNat 64 n) = x; rfl
@[simp] theorem State.count_ledger (s : State) (b : CntBlk) (kd i c n : Nat) : (s.count b kd i c n).ledger = s.ledger := by
  unfold State.count
  generalize s.cnts.put (fun _ => 0#64) (cntKey b kd i c) (s.cnt b kd i c + BitVec.ofNat 64 n) = x; rfl
@[simp] theorem State.count_fuses (s : State) (b : CntBlk) (kd i c n : Nat) : (s.count b kd i c n).fuses = s.fuses := by
  unfold State.count
  generalize s.cnts.put (fun _ => 0#64) (cntKey b kd i c) (s.cnt b kd i c + BitVec.ofNat 64 n) = x; rfl
@[simp] theorem State.count_straps (s : State) (b : CntBlk) (kd i c n : Nat) : (s.count b kd i c n).straps = s.straps := by
  unfold State.count
  generalize s.cnts.put (fun _ => 0#64) (cntKey b kd i c) (s.cnt b kd i c + BitVec.ofNat 64 n) = x; rfl
@[simp] theorem State.count_start (s : State) (b : CntBlk) (kd i c n : Nat) : (s.count b kd i c n).start = s.start := by
  unfold State.count
  generalize s.cnts.put (fun _ => 0#64) (cntKey b kd i c) (s.cnt b kd i c + BitVec.ofNat 64 n) = x; rfl
@[simp] theorem State.count_flash (s : State) (b : CntBlk) (kd i c n : Nat) : (s.count b kd i c n).flash = s.flash := by
  unfold State.count
  generalize s.cnts.put (fun _ => 0#64) (cntKey b kd i c) (s.cnt b kd i c + BitVec.ofNat 64 n) = x; rfl
@[simp] theorem State.count_pwr (s : State) (b : CntBlk) (kd i c n : Nat) : (s.count b kd i c n).pwr = s.pwr := by
  unfold State.count
  generalize s.cnts.put (fun _ => 0#64) (cntKey b kd i c) (s.cnt b kd i c + BitVec.ofNat 64 n) = x; rfl
@[simp] theorem State.count_tck (s : State) (b : CntBlk) (kd i c n : Nat) : (s.count b kd i c n).tck = s.tck := by
  unfold State.count
  generalize s.cnts.put (fun _ => 0#64) (cntKey b kd i c) (s.cnt b kd i c + BitVec.ofNat 64 n) = x; rfl
@[simp] theorem State.count_alarm (s : State) (b : CntBlk) (kd i c n : Nat) : (s.count b kd i c n).alarm = s.alarm := by
  unfold State.count
  generalize s.cnts.put (fun _ => 0#64) (cntKey b kd i c) (s.cnt b kd i c + BitVec.ofNat 64 n) = x; rfl
@[simp] theorem State.count_acus (s : State) (b : CntBlk) (kd i c n : Nat) : (s.count b kd i c n).acus = s.acus := by
  unfold State.count
  generalize s.cnts.put (fun _ => 0#64) (cntKey b kd i c) (s.cnt b kd i c + BitVec.ofNat 64 n) = x; rfl
@[simp] theorem State.count_rings (s : State) (b : CntBlk) (kd i c n : Nat) : (s.count b kd i c n).rings = s.rings := by
  unfold State.count
  generalize s.cnts.put (fun _ => 0#64) (cntKey b kd i c) (s.cnt b kd i c + BitVec.ofNat 64 n) = x; rfl
@[simp] theorem State.count_sess (s : State) (b : CntBlk) (kd i c n : Nat) : (s.count b kd i c n).sess = s.sess := by
  unfold State.count
  generalize s.cnts.put (fun _ => 0#64) (cntKey b kd i c) (s.cnt b kd i c + BitVec.ofNat 64 n) = x; rfl
@[simp] theorem State.count_iahDrop (s : State) (b : CntBlk) (kd i c n : Nat) : (s.count b kd i c n).iahDrop = s.iahDrop := by
  unfold State.count
  generalize s.cnts.put (fun _ => 0#64) (cntKey b kd i c) (s.cnt b kd i c + BitVec.ofNat 64 n) = x; rfl
@[simp] theorem State.count_jtag (s : State) (b : CntBlk) (kd i c n : Nat) : (s.count b kd i c n).jtag = s.jtag := by
  unfold State.count
  generalize s.cnts.put (fun _ => 0#64) (cntKey b kd i c) (s.cnt b kd i c + BitVec.ofNat 64 n) = x; rfl
@[simp] theorem State.count_pci (s : State) (b : CntBlk) (kd i c n : Nat) : (s.count b kd i c n).pci = s.pci := by
  unfold State.count
  generalize s.cnts.put (fun _ => 0#64) (cntKey b kd i c) (s.cnt b kd i c + BitVec.ofNat 64 n) = x; rfl
@[simp] theorem State.count_smb (s : State) (b : CntBlk) (kd i c n : Nat) : (s.count b kd i c n).smb = s.smb := by
  unfold State.count
  generalize s.cnts.put (fun _ => 0#64) (cntKey b kd i c) (s.cnt b kd i c + BitVec.ofNat 64 n) = x; rfl
@[simp] theorem State.count_obs (s : State) (b : CntBlk) (kd i c n : Nat) : (s.count b kd i c n).obs = s.obs := by
  unfold State.count
  generalize s.cnts.put (fun _ => 0#64) (cntKey b kd i c) (s.cnt b kd i c + BitVec.ofNat 64 n) = x; rfl
@[simp] theorem State.count_leds (s : State) (b : CntBlk) (kd i c n : Nat) : (s.count b kd i c n).leds = s.leds := by
  unfold State.count
  generalize s.cnts.put (fun _ => 0#64) (cntKey b kd i c) (s.cnt b kd i c + BitVec.ofNat 64 n) = x; rfl
@[simp] theorem State.count_mail (s : State) (b : CntBlk) (kd i c n : Nat) : (s.count b kd i c n).mail = s.mail := by
  unfold State.count
  generalize s.cnts.put (fun _ => 0#64) (cntKey b kd i c) (s.cnt b kd i c + BitVec.ofNat 64 n) = x; rfl
@[simp] theorem State.count_mem (s : State) (b : CntBlk) (kd i c n : Nat) : (s.count b kd i c n).mem = s.mem := by
  unfold State.count
  generalize s.cnts.put (fun _ => 0#64) (cntKey b kd i c) (s.cnt b kd i c + BitVec.ofNat 64 n) = x; rfl
@[simp] theorem State.count_mgtWait (s : State) (b : CntBlk) (kd i c n : Nat) : (s.count b kd i c n).mgtWait = s.mgtWait := by
  unfold State.count
  generalize s.cnts.put (fun _ => 0#64) (cntKey b kd i c) (s.cnt b kd i c + BitVec.ofNat 64 n) = x; rfl
@[simp] theorem State.count_out (s : State) (b : CntBlk) (kd i c n : Nat) : (s.count b kd i c n).out = s.out := by
  unfold State.count
  generalize s.cnts.put (fun _ => 0#64) (cntKey b kd i c) (s.cnt b kd i c + BitVec.ofNat 64 n) = x; rfl

@[simp] theorem State.raise_pending (s : State) (k : Nat) : (s.raise k).pending = s.pending := rfl
@[simp] theorem State.raise_regs (s : State) (k : Nat) : (s.raise k).regs = s.regs := rfl
@[simp] theorem State.raise_cnts (s : State) (k : Nat) : (s.raise k).cnts = s.cnts := rfl
@[simp] theorem State.raise_snaps (s : State) (k : Nat) : (s.raise k).snaps = s.snaps := rfl
@[simp] theorem State.raise_caps (s : State) (k : Nat) : (s.raise k).caps = s.caps := rfl
@[simp] theorem State.raise_ports (s : State) (k : Nat) : (s.raise k).ports = s.ports := rfl
@[simp] theorem State.raise_frames (s : State) (k : Nat) : (s.raise k).frames = s.frames := rfl
@[simp] theorem State.raise_nextId (s : State) (k : Nat) : (s.raise k).nextId = s.nextId := rfl
@[simp] theorem State.raise_cls (s : State) (k : Nat) : (s.raise k).cls = s.cls := rfl
@[simp] theorem State.raise_sas (s : State) (k : Nat) : (s.raise k).sas = s.sas := rfl
@[simp] theorem State.raise_instNo (s : State) (k : Nat) : (s.raise k).instNo = s.instNo := rfl
@[simp] theorem State.raise_ghosts (s : State) (k : Nat) : (s.raise k).ghosts = s.ghosts := rfl
@[simp] theorem State.raise_secys (s : State) (k : Nat) : (s.raise k).secys = s.secys := rfl
@[simp] theorem State.raise_rscs (s : State) (k : Nat) : (s.raise k).rscs = s.rscs := rfl
@[simp] theorem State.raise_cas (s : State) (k : Nat) : (s.raise k).cas = s.cas := rfl
@[simp] theorem State.raise_pairing (s : State) (k : Nat) : (s.raise k).pairing = s.pairing := rfl
@[simp] theorem State.raise_saSlots (s : State) (k : Nat) : (s.raise k).saSlots = s.saSlots := rfl
@[simp] theorem State.raise_cakSlots (s : State) (k : Nat) : (s.raise k).cakSlots = s.cakSlots := rfl
@[simp] theorem State.raise_tetherKey (s : State) (k : Nat) : (s.raise k).tetherKey = s.tetherKey := rfl
@[simp] theorem State.raise_ctxKey (s : State) (k : Nat) : (s.raise k).ctxKey = s.ctxKey := rfl
@[simp] theorem State.raise_zeroized (s : State) (k : Nat) : (s.raise k).zeroized = s.zeroized := rfl
@[simp] theorem State.raise_prov (s : State) (k : Nat) : (s.raise k).prov = s.prov := rfl
@[simp] theorem State.raise_rng (s : State) (k : Nat) : (s.raise k).rng = s.rng := rfl
@[simp] theorem State.raise_svc (s : State) (k : Nat) : (s.raise k).svc = s.svc := rfl
@[simp] theorem State.raise_engs (s : State) (k : Nat) : (s.raise k).engs = s.engs := rfl
@[simp] theorem State.raise_yrd (s : State) (k : Nat) : (s.raise k).yrd = s.yrd := rfl
@[simp] theorem State.raise_tmg (s : State) (k : Nat) : (s.raise k).tmg = s.tmg := rfl
@[simp] theorem State.raise_cel (s : State) (k : Nat) : (s.raise k).cel = s.cel := rfl
@[simp] theorem State.raise_tim (s : State) (k : Nat) : (s.raise k).tim = s.tim := rfl
@[simp] theorem State.raise_par (s : State) (k : Nat) : (s.raise k).par = s.par := rfl
@[simp] theorem State.raise_ledger (s : State) (k : Nat) : (s.raise k).ledger = s.ledger := rfl
@[simp] theorem State.raise_fuses (s : State) (k : Nat) : (s.raise k).fuses = s.fuses := rfl
@[simp] theorem State.raise_straps (s : State) (k : Nat) : (s.raise k).straps = s.straps := rfl
@[simp] theorem State.raise_start (s : State) (k : Nat) : (s.raise k).start = s.start := rfl
@[simp] theorem State.raise_flash (s : State) (k : Nat) : (s.raise k).flash = s.flash := rfl
@[simp] theorem State.raise_pwr (s : State) (k : Nat) : (s.raise k).pwr = s.pwr := rfl
@[simp] theorem State.raise_tck (s : State) (k : Nat) : (s.raise k).tck = s.tck := rfl
@[simp] theorem State.raise_acus (s : State) (k : Nat) : (s.raise k).acus = s.acus := rfl
@[simp] theorem State.raise_rings (s : State) (k : Nat) : (s.raise k).rings = s.rings := rfl
@[simp] theorem State.raise_sess (s : State) (k : Nat) : (s.raise k).sess = s.sess := rfl
@[simp] theorem State.raise_iahDrop (s : State) (k : Nat) : (s.raise k).iahDrop = s.iahDrop := rfl
@[simp] theorem State.raise_jtag (s : State) (k : Nat) : (s.raise k).jtag = s.jtag := rfl
@[simp] theorem State.raise_pci (s : State) (k : Nat) : (s.raise k).pci = s.pci := rfl
@[simp] theorem State.raise_smb (s : State) (k : Nat) : (s.raise k).smb = s.smb := rfl
@[simp] theorem State.raise_obs (s : State) (k : Nat) : (s.raise k).obs = s.obs := rfl
@[simp] theorem State.raise_leds (s : State) (k : Nat) : (s.raise k).leds = s.leds := rfl
@[simp] theorem State.raise_mail (s : State) (k : Nat) : (s.raise k).mail = s.mail := rfl
@[simp] theorem State.raise_mem (s : State) (k : Nat) : (s.raise k).mem = s.mem := rfl
@[simp] theorem State.raise_mgtWait (s : State) (k : Nat) : (s.raise k).mgtWait = s.mgtWait := rfl
@[simp] theorem State.raise_out (s : State) (k : Nat) : (s.raise k).out = s.out := rfl

@[simp] theorem State.notice_pending (s : State) (m : Mail) : (s.notice m).pending = s.pending := rfl
@[simp] theorem State.notice_regs (s : State) (m : Mail) : (s.notice m).regs = s.regs := rfl
@[simp] theorem State.notice_cnts (s : State) (m : Mail) : (s.notice m).cnts = s.cnts := rfl
@[simp] theorem State.notice_snaps (s : State) (m : Mail) : (s.notice m).snaps = s.snaps := rfl
@[simp] theorem State.notice_caps (s : State) (m : Mail) : (s.notice m).caps = s.caps := rfl
@[simp] theorem State.notice_ports (s : State) (m : Mail) : (s.notice m).ports = s.ports := rfl
@[simp] theorem State.notice_frames (s : State) (m : Mail) : (s.notice m).frames = s.frames := rfl
@[simp] theorem State.notice_nextId (s : State) (m : Mail) : (s.notice m).nextId = s.nextId := rfl
@[simp] theorem State.notice_cls (s : State) (m : Mail) : (s.notice m).cls = s.cls := rfl
@[simp] theorem State.notice_sas (s : State) (m : Mail) : (s.notice m).sas = s.sas := rfl
@[simp] theorem State.notice_instNo (s : State) (m : Mail) : (s.notice m).instNo = s.instNo := rfl
@[simp] theorem State.notice_ghosts (s : State) (m : Mail) : (s.notice m).ghosts = s.ghosts := rfl
@[simp] theorem State.notice_secys (s : State) (m : Mail) : (s.notice m).secys = s.secys := rfl
@[simp] theorem State.notice_rscs (s : State) (m : Mail) : (s.notice m).rscs = s.rscs := rfl
@[simp] theorem State.notice_cas (s : State) (m : Mail) : (s.notice m).cas = s.cas := rfl
@[simp] theorem State.notice_pairing (s : State) (m : Mail) : (s.notice m).pairing = s.pairing := rfl
@[simp] theorem State.notice_saSlots (s : State) (m : Mail) : (s.notice m).saSlots = s.saSlots := rfl
@[simp] theorem State.notice_cakSlots (s : State) (m : Mail) : (s.notice m).cakSlots = s.cakSlots := rfl
@[simp] theorem State.notice_tetherKey (s : State) (m : Mail) : (s.notice m).tetherKey = s.tetherKey := rfl
@[simp] theorem State.notice_ctxKey (s : State) (m : Mail) : (s.notice m).ctxKey = s.ctxKey := rfl
@[simp] theorem State.notice_zeroized (s : State) (m : Mail) : (s.notice m).zeroized = s.zeroized := rfl
@[simp] theorem State.notice_prov (s : State) (m : Mail) : (s.notice m).prov = s.prov := rfl
@[simp] theorem State.notice_rng (s : State) (m : Mail) : (s.notice m).rng = s.rng := rfl
@[simp] theorem State.notice_svc (s : State) (m : Mail) : (s.notice m).svc = s.svc := rfl
@[simp] theorem State.notice_engs (s : State) (m : Mail) : (s.notice m).engs = s.engs := rfl
@[simp] theorem State.notice_yrd (s : State) (m : Mail) : (s.notice m).yrd = s.yrd := rfl
@[simp] theorem State.notice_tmg (s : State) (m : Mail) : (s.notice m).tmg = s.tmg := rfl
@[simp] theorem State.notice_cel (s : State) (m : Mail) : (s.notice m).cel = s.cel := rfl
@[simp] theorem State.notice_tim (s : State) (m : Mail) : (s.notice m).tim = s.tim := rfl
@[simp] theorem State.notice_par (s : State) (m : Mail) : (s.notice m).par = s.par := rfl
@[simp] theorem State.notice_ledger (s : State) (m : Mail) : (s.notice m).ledger = s.ledger := rfl
@[simp] theorem State.notice_fuses (s : State) (m : Mail) : (s.notice m).fuses = s.fuses := rfl
@[simp] theorem State.notice_straps (s : State) (m : Mail) : (s.notice m).straps = s.straps := rfl
@[simp] theorem State.notice_start (s : State) (m : Mail) : (s.notice m).start = s.start := rfl
@[simp] theorem State.notice_flash (s : State) (m : Mail) : (s.notice m).flash = s.flash := rfl
@[simp] theorem State.notice_pwr (s : State) (m : Mail) : (s.notice m).pwr = s.pwr := rfl
@[simp] theorem State.notice_tck (s : State) (m : Mail) : (s.notice m).tck = s.tck := rfl
@[simp] theorem State.notice_alarm (s : State) (m : Mail) : (s.notice m).alarm = s.alarm := rfl
@[simp] theorem State.notice_acus (s : State) (m : Mail) : (s.notice m).acus = s.acus := rfl
@[simp] theorem State.notice_rings (s : State) (m : Mail) : (s.notice m).rings = s.rings := rfl
@[simp] theorem State.notice_sess (s : State) (m : Mail) : (s.notice m).sess = s.sess := rfl
@[simp] theorem State.notice_iahDrop (s : State) (m : Mail) : (s.notice m).iahDrop = s.iahDrop := rfl
@[simp] theorem State.notice_jtag (s : State) (m : Mail) : (s.notice m).jtag = s.jtag := rfl
@[simp] theorem State.notice_pci (s : State) (m : Mail) : (s.notice m).pci = s.pci := rfl
@[simp] theorem State.notice_smb (s : State) (m : Mail) : (s.notice m).smb = s.smb := rfl
@[simp] theorem State.notice_obs (s : State) (m : Mail) : (s.notice m).obs = s.obs := rfl
@[simp] theorem State.notice_leds (s : State) (m : Mail) : (s.notice m).leds = s.leds := rfl
@[simp] theorem State.notice_mem (s : State) (m : Mail) : (s.notice m).mem = s.mem := rfl
@[simp] theorem State.notice_mgtWait (s : State) (m : Mail) : (s.notice m).mgtWait = s.mgtWait := rfl
@[simp] theorem State.notice_out (s : State) (m : Mail) : (s.notice m).out = s.out := rfl

/-! ## The end of a step -/

theorem State.setGate_gate (s : State) (b : Bool) : (s.setGate b).par.gate = b := by
  unfold State.setGate
  split
  · rename_i h; simpa using h
  · rfl

theorem State.setGate_else (s : State) (b : Bool) :
    (s.setGate b).par = { s.par with gate := b } ∧ (s.setGate b).alarm = s.alarm := by
  unfold State.setGate
  split
  · rename_i h
    have : s.par.gate = b := by simpa using h
    exact ⟨by rw [← this], rfl⟩
  · exact ⟨rfl, rfl⟩

/-- Whatever the core does, the pads follow their conditions at the end of a step (R224, R226). -/
theorem State.padLogic_padsOk (s : State) : s.padLogic.par.gate =
    (s.padLogic.par.actOut && s.padLogic.par.settled && !s.padLogic.par.actIn && !s.padLogic.par.fenceIn) := by
  unfold State.padLogic State.gateLook
  split
  · rw [(State.setGate_else _ _).1]
  · rw [(State.setGate_else _ _).1]

/-- A step leaves the queue as the command found it. -/
@[simp] theorem State.done_pending (s t : State) : (s.done t).pending = s.pending := by
  unfold State.done; generalize t.settle = u; rfl

end Sys2Proof.Machine
end

