-- ==== Sys2Proof/Laws/Frames.lean ====
section
/-!
SUPPORT. What the shared operations can change: one lemma for each, which gives the state after it as the state before with
only the fields it may touch replaced.
-/

namespace Sys2Proof.Machine

/-- A message leaves, or its pending bit is set (R327). -/
theorem State.message_frame (s : State) (pf v : Nat) : ∃ p o, s.message pf v = { s with pci := p, out := o } := by
  unfold State.message
  split
  · exact ⟨_, s.out, rfl⟩
  · exact ⟨s.pci, _, rfl⟩

/-- A look at an interrupt source (R327). -/
theorem State.irq_frame (s : State) (n : Nat) : ∃ p o, s.irq n = { s with pci := p, out := o } := by
  unfold State.irq
  dsimp only
  split
  · exact ⟨s.pci, s.out, rfl⟩
  · split
    · obtain ⟨p, o, h⟩ := State.message_frame
        { s with pci := { s.pci with srcs := s.pci.srcs ^^^ BitVec.ofNat 33 (2 ^ n) } } (s.fld F.PCI_IVEC_PF n) (s.fld F.PCI_IVEC_VECTOR n)
      exact ⟨p, o, h⟩
    · exact ⟨_, s.out, rfl⟩

/-- An INT_STAT bit is set: its register, the log's waiting entries, and what the source sends (R326, R327, R359). -/
theorem State.setInt_frame (s : State) (r : Reg) (b i : Nat) :
    ∃ g w p o, s.setInt r b i = { s with regs := g, obs := w, pci := p, out := o } := by
  unfold State.setInt State.setWord
  dsimp only
  generalize s.regs.put regDflt (regKey r i 0) (s.word r i ||| BitVec.ofNat 32 (2 ^ b)) = g
  generalize LogPend.mk _ _ _ _ _ _ = l
  obtain ⟨p, o, h⟩ := State.irq_frame { s with regs := g, obs := { s.obs with pend := s.obs.pend ++ [l] } } (intInfo r).1
  exact ⟨g, _, p, o, h⟩

theorem State.setInts_frame (s : State) (r : Reg) (l : List Nat) (i : Nat) :
    ∃ g w p o, s.setInts r l i = { s with regs := g, obs := w, pci := p, out := o } := by
  induction l generalizing s with
  | nil => exact ⟨s.regs, s.obs, s.pci, s.out, rfl⟩
  | cons b t ih =>
    obtain ⟨g, w, p, o, h⟩ := State.setInt_frame s r b i
    obtain ⟨g', w', p', o', h'⟩ := ih (s.setInt r b i)
    refine ⟨g', w', p', o', ?_⟩
    rw [State.setInts, h', h]

/-- A programmable counter counts an event (R350, R353, R357). -/
theorem State.obsOne_frame (s : State) (u : ObsUnit) (code n stack c : Nat) : ∃ w, s.obsOne u code n stack c = { s with obs := w } := by
  unfold State.obsOne State.obsAdd
  dsimp only
  repeat' split
  all_goals exact ⟨_, rfl⟩

/-- A fold of operations that change the observation block only changes it only. -/
theorem State.obsFold_frame {α : Type} (f : State → α → State) (h : ∀ s a, ∃ w, f s a = { s with obs := w }) (l : List α) (s : State) :
    ∃ w, l.foldl f s = { s with obs := w } := by
  induction l generalizing s with
  | nil => exact ⟨s.obs, rfl⟩
  | cons a t ih =>
    obtain ⟨w, e⟩ := h s a
    obtain ⟨w', e'⟩ := ih (f s a)
    exact ⟨w', by rw [List.foldl_cons, e', e]⟩

/-- An event of a unit (R353). -/
theorem State.obsEvent_frame (s : State) (u : ObsUnit) (code n stack : Nat) : ∃ w, s.obsEvent u code n stack = { s with obs := w } := by
  unfold State.obsEvent
  split
  · exact State.obsFold_frame _ (fun s a => State.obsOne_frame s u code n stack a) _ s
  · exact ⟨s.obs, rfl⟩

/-- An access fault is recorded (R344). -/
theorem State.noteFault_frame (s : State) (acu code a : Nat) (wr : Bool) (kind : Nat) :
    ∃ c g w p o, s.noteFault acu code a wr kind = { s with acus := c, regs := g, obs := w, pci := p, out := o } := by
  unfold State.noteFault State.setAcu State.setWord
  dsimp only
  generalize s.acus.put acuDflt acu _ = c
  generalize s.regs.put regDflt (regKey .ACU_EVT 0 0) _ = g
  obtain ⟨g', w, p, o, h⟩ := State.setInt_frame { s with acus := c, regs := g } .ACU_INT_STAT 0 0
  exact ⟨c, g', w, p, o, h⟩

theorem State.recordFault_frame (s : State) (o : Origin) (a : Nat) (wr : Bool) (kind : Nat) :
    ∃ c g w p x, s.recordFault o a wr kind = { s with acus := c, regs := g, obs := w, pci := p, out := x } := by
  obtain ⟨c, g, w, p, x, h⟩ := State.noteFault_frame s o.acu o.code a wr kind
  unfold State.recordFault
  dsimp only
  rw [h]
  split
  · obtain ⟨w', e⟩ := State.obsEvent_frame { s with acus := c, regs := g, obs := w, pci := p, out := x } (.core _) 0x05 1 0
    exact ⟨c, g, w', p, x, e⟩
  · obtain ⟨w', e⟩ := State.obsEvent_frame { s with acus := c, regs := g, obs := w, pci := p, out := x } (.core _) 0x05 1 0
    exact ⟨c, g, w', p, x, e⟩
  · exact ⟨c, g, w, p, x, rfl⟩

/-- A command's write that the ACU grants has its effect, one it denies its fault alone (R340, R344). -/
theorem State.hostWrite_granted (s : State) (o : Origin) (r : Reg) (i : Nat) (f : State → State) (h : s.grants o r i = true) :
    s.hostWrite o r i f = f s := by
  have : s.acuKind o (regAddr r i) true = 0 := by simpa [State.grants] using h
  simp [State.hostWrite, this]

theorem State.hostWrite_denied (s : State) (o : Origin) (r : Reg) (i : Nat) (f : State → State) (h : s.grants o r i = false) :
    s.hostWrite o r i f = s.recordFault o (regAddr r i) true (s.acuKind o (regAddr r i) true) := by
  have : ¬ s.acuKind o (regAddr r i) true = 0 := by simpa [State.grants] using h
  simp [State.hostWrite, this]

end Sys2Proof.Machine
end

