-- ==== Sys2Proof/Tests/Slice0.lean ====
section
/-!
SUPPORT. Tests: small states, one witness theorem for the hypotheses of each statement, the ill-formed terms that
WellFormed refuses, and steps checked against worked examples and tables of spec/.
-/

namespace Sys2Proof.Tests

set_option Elab.async false

open Host Sys2Proof Sys2Proof.Machine

/-! ## States and values of the witnesses -/

/-- A whole frame of 64 zero octets but for its FCS. -/
def frameA : List Byte := List.replicate 60 0#8 ++ fcs (List.replicate 60 0#8)
/-- A part past ST14, out of service. -/
def sRun : State := { start := { step := 15, held := false } }
/-- Host port 0 and line port 0 in service with their links up. -/
def sUp : State := ((sRun.setPort 0 { link := true, formAct := 7 }).setPort 64 { link := true, formAct := 7 }).setEng 5 { mode := .inService }
def sFc : State := (sRun.setFld F.HPT_FC_MODE 1 3 0).setPort 3 { pauseSent := true }
def sFcZ : State := sFc.setFld F.HPT_FC_THR_XOFF_HIGH 0 3 0
def sFcP : State := ((sRun.setFld F.HPT_FC_MODE 2 3 0).setFld F.HPT_FC_THR_XOFF_HIGH 0 3 0).setPort 3 { pfcSent := 1 }
def sLt : State := sRun.setFld F.HPT_CFG_LT_EN 1 0
def sStorm : State := (sRun.setFld F.HPT_STORM_STORM_MS 5 3 0).setPort 3 { paused := true }
def withF (s : State) (f : Frame) : State := { s with frames := [f], nextId := 1 }
def fTx : Frame := { id := 0, enc := true, src := .hostPort 0, octets := frameA, stage := .waitPn, hport := some 0 }
def sTx : State := withF (((sUp.setSecy 0 { txValid := true }).setSa 0 { installed := true, pn := 1, lease := 100 }).setFld F.SEC_SECY_CFG_SUITE 2 0) fTx
def fDisp : Frame := { fTx with stage := .dispatch, sa := some 0, pn := 1 }
def sDisp : State := withF sTx fDisp
def sHot : State := withF ((sTx.setSa 0 { installed := true, hot := true }).setScSet 0 { engs := [5] }) fDisp
def fFetch : Frame := { fDisp with stage := .fetching }
def sCel : State := { sTx with cel := { keys := some [], layout := [⟨1, 0, 0, 100⟩], stks := [(0, { mode := .on })] } }
def sFetch : State := withF sCel fFetch
def sDem : State := ({ sCel with frames := [] }).setSa 0 { installed := true, hot := true, demoting := true }
def fCiph : Frame := { fDisp with stage := .cipher, segs := [⟨0, 5, false⟩, ⟨1, 6, false⟩] }
def sCiph : State := withF (sUp.setEng 5 { mode := .inService, slots := [(0, 0)] }) fCiph
def fReord : Frame := { fDisp with stage := .reorder, segs := [⟨0, 5, true⟩], outOct := frameA }
def sReord : State := withF sUp fReord
def fVerd : Frame := { fReord with stage := .held }
def sVerd : State := withF sUp fVerd
def fHeld : Frame := { fVerd with verdict := .good }
def sHeld : State := withF sUp fHeld
def sMacCtl : State := { sUp.setPort 0 { link := true, formAct := 7, macCtl := [frameA] } with par := { gate := true } }
def fPark : Frame := { fTx with stage := .parked }
def sPark : State := withF sUp fPark
def sRepair : State := { sRun with cls := { repairs := [(1, 5)] } }
def sEng : State := sUp
def sRecal : State := sRun.setPort 0 { recal := .running }
def sDormEn : State := sRun.setFld F.HPT_CFG_DORMANT_EN 1 2 0
def sDorm : State := sRun.setPort 2 { dormant := true }
def sPres : State := { sRun with tck := { pressWin := some 0 } }
def sMac : State := { sRun with cls := { mac := [(0, mkMac 5 0 0 3 false)], sweepAt := some 0 } }
def sMac0 : State := { sRun with cls := { mac := [(macBucket 0 0 * 8, mkMac 0 0 0 3 false)] } }
def sFlush : State := { sRun with cls := { flushes := [⟨0, false, 0, 1⟩] } }
def sCore : State := { sRun with acus := [] }
def sSaw : State := ((sRun.setSecy 0 { txValid := true }).setWord .SEC_SECY_CFG 0x80000000#32 0 0).setWord .SEC_SAW_DATA1 5#32 0 0
def sSawIn : State := (sSaw.setSa 0 { installed := true, drained := false, pn := 1, lease := 100 }).setSaSlot 0 { klen := 16 }
def sRsc : State := sSaw
def sRscIn : State := sSaw.setRsc 0 { valid := true }
def sSawSlot : State := sSaw.setSaSlot 0 { st := .held, klen := 16 }
def sRet : State := sSaw.setSa 0 { retired := true, drained := false }
def sPend : State := sSawIn.setSecy 0 { pendValid := true }
def mapInfo : RegInfo := { reg := .HPT_MAP, base := 0x10001C, stride := 0x1000, count := 64, flds := [⟨7, 7, .rwi, []⟩, ⟨5, 0, .rwi, []⟩] }
def caOn (c : Ca) (s : State) : State :=
  ((({ s with par := { st := .solo } } : State).setFld F.MKA_CTL_EN 1).setFld F.MKA_CA_CFG_VALID 1 0).setCa 0 c
def peer9 : Peer := { mi := 9#96, mn := 1, sci := 0, prio := 0, live := false, rsc := none }
def sCa : State := (caOn { active := true, mnLease := 9 } sUp).setCakSlot 0 { klen := 16, ckn := [1#8] }
def sCaPeer : State := caOn { active := true, peers := [peer9] } sUp
def sCaSak : State := (caOn { active := true, hasSak := true, wantSak := true, olds := [⟨1, 0, 3#32, true⟩] } sUp).setWord .MKA_TIME3 10#32
def sCaLost : State := caOn { active := true, lastPeerLost := true } sUp
def sCaNew : State := (caOn {} sUp).setCakSlot 0 { klen := 16 }
def sCaPres : State := { sCa with tck := { pressWin := some 0 } }
def mkpdu0 : Mkpdu := { ckn := [1#8], wellFormed := true, icvOk := true, mi := 9#96, mn := 1, sci := 0, prio := 0, isKs := false, cap := 3, desired := true, live := [], pot := [], use := none, sak := none, epoch := none, suites := [], ignored := false }
def sPairC : State := { sRun with pairing := { st := .committing } }
def gPub : List Byte := ecPub 1
def gX : List Byte := (ecdh 1 gPub).getD []
def sPairR : State := { sRun with pairing := { st := .committing, peerId := some 7#64, priv := 1, commit := sha384 (gPub ++ []) } }
def sPairS : State := { sRun with pairing := { st := .showing, derived := true, peerId := some 7#64, kconf := List.replicate 16 0#8 } }
def sHeldK : State := sRun.setSaSlot 0 { st := .held }
def sLedCak : State := { sPres with ledger := { caks := [(0, [])] } }
def sProv : State := { sPres with prov := { active := true } }
def sRetest : State := { sRun with rng := { retest := true } }
/-- key0-wrapped octets: sixteen octets 7 (RFC 3394). -/
def wrap7 : List Byte := [93, 200, 120, 9, 3, 66, 108, 2, 125, 77, 69, 37, 184, 181, 213, 113, 241, 52, 15, 42, 45, 64, 197, 176]
/-- The provisioning record of CAK key0 with CKN 01 for slot 0, wrapped under provKek. -/
def wrapProv : List Byte := [152, 4, 118, 247, 205, 102, 128, 70, 96, 11, 77, 117, 154, 20, 147, 21, 130, 211, 209, 176, 28, 163, 140, 33] ++
  [122, 159, 76, 200, 255, 178, 247, 90, 86, 77, 200, 231, 129, 205, 111, 126, 151, 180, 70, 175, 227, 193, 254, 242] ++
  [103, 15, 163, 10, 153, 43, 237, 95, 7, 111, 175, 141, 122, 123, 105, 146, 190, 159, 80, 209, 213, 190, 59, 222] ++
  [182, 105, 129, 229, 135, 105, 201, 209]
/-- key0 wrapped under the mirror key of sKeyed. -/
def wrapMir : List Byte := [181, 149, 161, 192, 175, 190, 122, 137, 206, 67, 128, 124, 179, 178, 186, 87, 55, 255, 93, 113, 208, 163, 92, 215]
def key0 : List Byte := List.replicate 16 0#8
def sSvc : State := (((sRun.setWord .SVC_SRC 0x30000000#32 0).setWord .SVC_DST 0x30000100#32 0).setFld F.SVC_LEN_N 16 0).setSvc 0 { key := some key0 }
def sSvcIv : State := sSvc.setSvc 0 { key := some key0, ivCnt := 5, keyId := ctxKeyId (sSvc.svcKeyWord 0) key0 }
def sSvcWrap : State := (sSvc.wrMem 0x30000000 wrap7).setFld F.SVC_LEN_N 24 0
def sSvcBusy : State := sRun.setSvc 0 { busy := true, resMem := some (0x30000000, [7#8]) }
def provKek : List Byte := (sha384 (gX ++ gPub ++ gPub)).take 32
def sProvIn : State := { sPres with tck := { pressWin := some 0, kek := { present := true } }, prov := { active := true, priv := 1, pub := gPub, inp := gPub ++ zeros 3 ++ wrapProv } }
def sPace : State := sRun.setEng 0 { pace := 1250 }
def sSet : State := sRun.setScSet 0 { engs := [1, 2, 3], want := 2 }
def sDefer : State := { sRun.setEng 5 { mode := .inService } with yrd := { testSt := .deferred, testEng := some 5, testReq := true } }
def sDrainE : State := { sRun.setEng 5 { mode := .draining } with yrd := { testSt := .draining, testEng := some 5 } }
def sTestE : State := { sRun.setEng 5 { mode := .test } with yrd := { testSt := .running, testEng := some 5 } }
def sShed4 : State := { sRun with pwr := { stage := 4 } }
def sWakeE : State := sRun.setEng 5 { mode := .shedOff }
def sShw : State := ((sRun.setWord .TMG_SHW_DATA2 0x00100000#32 0 1).setWord .TMG_SHW_DATA4 9#32 0 1)
def sGcw : State := sPres.setFld F.TMG_GCW_DATA1_INTERVAL_NS 1000 0 1
def gateL : GateList := { base := 0, cycle := 1000, ext := 0, entries := [(1#8, 500)] }
def sGate : State := sRun.setGatePort 3 { pend := some (gateL, 0) }
def fPq : Frame := { fReord with stage := .queued, launch := some 0 }
def sPq : State := (withF sUp fPq).setQueue (privQueue 0 0) { frames := [0] }
def sPqT : State := { sPq with tim := { cnt := 2 ^ 80 } }
def fPqL : Frame := { fTx with stage := .queued }
def sPqL : State := (withF sUp fPqL).setQueue (privQueue 64 0) { frames := [0] }
def fPtp : Frame := { fReord with stage := .queued, launch := some 0, ptpDep := true }
def sPtpF : State := withF sPqT fPtp
def celWith (l : List Region) (s : State) : State := { s with cel := { keys := some [], layout := l, stks := [(0, { mode := .on })] } }
def sCelD : State := (celWith [⟨8, 0, 0, 100⟩] sRun).setFld F.CEL_RCFG_DIAG_PROT 1
def sCelRd : State := { sCelD with cel := { sCelD.cel with reads := [5], poison := [(5, 1)] } }
def sCelW : State := celWith [⟨1, 0, 0, 100⟩] sRun
def sCelDirty : State := { sCelW with cel := { sCelW.cel with dirty := [tagBase] } }
def sCelScrub : State := celWith [⟨4, 0, 0, 100⟩] sRun
def fMove : Frame := { fReord with stage := .queued, pages := [2 ^ 30] }
def sMove : State := withF { sRun with cel := { stks := [(0, { mode := .on, free := 3 }), (1, { mode := .draining })] } } fMove
def sMoveN : State := sMove.setStk 0 { mode := .on, free := 0 }
def sMoveR : State := { sRun with cel := { keys := some [], layout := [⟨1, 1, 0, 100⟩], stks := [(0, { mode := .on, free := 3, share := 2 ^ 20 }), (1, { mode := .draining })] } }
def sStkDr : State := sRun.setStk 1 { mode := .draining }
def sStkWk : State := sRun.setStk 1 { mode := .waking }
def sStkCp : State := { sRun with cel := { keys := some [], stks := [(1, { mode := .on, partner := some 0 })] } }
theorem sha384_take (m : List Byte) : (sha384 m).take 48 = sha384 m := by simp [sha384]
def ovtFlash : Flash := { src := 1, digests := sha384 (Flash.block { src := 1 } 1 0) }
theorem ovtFlash_ok : ovtFlash.blockOk ovtFlash.digests ovtFlash.src 0 = true := by
  have h : ovtFlash.block 1 0 = Flash.block { src := 1 } 1 0 := by
    simp only [Flash.block, Flash.header, Flash.octs, Flash.copyAt, ovtFlash]
  simp [Flash.blockOk, ovtFlash, sha384_take] at h ⊢
  rw [h]
theorem ovtFlash_range : (List.range (1 / 1024 + 2)).all (fun b => decide (5 + 1 ≤ (5 / 1024 + b) * 1024) ||
    ovtFlash.blockOk ovtFlash.digests ovtFlash.src (5 / 1024 + b)) = true := by
  simp [List.range_succ, ovtFlash_ok]
def sOvt : State := { sRun with cel := { ovtBad := [(5, 1)] } }
def sOvtF : State := { sOvt with flash := ovtFlash }
def sCelBuf : State := celWith [⟨0, 0, 7, 100⟩] sRun
def sDgw : State := ((celWith [⟨8, 0, 0, 100000⟩] sRun).setFld F.CEL_RCFG_DIAG_PROT 2).setFld F.CEL_RCFG_DIAG_MIB 1
def sNode : State := { sDgw with cel := { keys := some [], layout := [⟨8, 1, 0x252B015A, 100000⟩], stks := [(0, { mode := .on, partner := some 1, copyValid := true }), (1, { mode := .on })], restore := [hAddr 0 2 0] } }
def sOwn : State := sRun.setFld F.TIM_CTL_OWNER 1
def ptpSt (p : Ptp) : State := { sRun.setWord .TIM_PORT_EN 1#32 0 with tim := { ptp := p } }
def sPtp : State := ptpSt { master := some 7#64 }
def sPtpM : State := (ptpSt {}).setFld F.TIM_CTL_SLAVE_ONLY 0
def sHostT : State := { sOwn with tim := { mode := .holdover } }
def sHostL : State := { sOwn with tim := { mode := .locked } }
def sCap : State := sRun.setFld F.TIM_CAP_CFG_EN 1 1
def sCap2 : State := sCap.setCap 1 { fifo := [(5, 6)] }
def sOut : State := (sRun.setFld F.TIM_OUT_CFG_EN 1 0).setOut 0 { next := some 0 }
def parIs (p : Par) : State := { sRun with par := p }
def sConf : State := parIs { conflict := true, keepClaim := true, actIn := true, leaseRun := true }
def sFen : State := parIs { st := .fenced, fenceIn := true }
def sFenO : State := parIs { fenceOut := true }
def sSby : State := parIs { st := .standby, synced := true }
def sLease : State := parIs { leaseRun := true }
def sAct : State := { parIs { st := .active, leaseRun := true } with tetherKey := { present := true } }
def sActS : State := { parIs { st := .active, leaseRun := true, ptKnown := true, ptSt := .standby } with tck := { pressWin := some 0 } }
def sPairSt : State := { parIs {} with straps := 0 }
def sDirty : State := parIs { rxDirty := [8192] }
def sHand : State := parIs { st := .active, handing := some (.active, 0) }
def sTest : State := { parIs { st := .test, ptKnown := true, ptSt := .standby } with tck := { pressWin := some 0 } }
def sRec : State := parIs { st := .recovery, ptKnown := true, ptSt := .standby }
def sRec0 : State := parIs { st := .recovery }
def sKeyed : State := { parIs { st := .standby, leaseRun := true } with tetherKey := { present := true } }
def sStep (n : Nat) : State := { start := { step := n, held := false } }
def sStepP (n : Nat) : State := { sStep n with par := { st := .solo } }
def sStepL : State := { sStep 13 with tim := { mode := .locked } }
def sRest : State := { start := { step := 7, held := false, restart := true } }
def sHoldP : State := { start := { step := 7, held := false, safeHold := true }, tck := { pressWin := some 0 } }
def sLog : State := { sRun with ledger := { log := [{ num := 5, kind := 0, cause := 0, ts := 0 }] } }
def sSurv : State := { sRun with pwr := { survAcc := 2000000000 } }
def sXspi : State := { sRun with flash := { op := some (1, 1, 0) } }
def sTj5 : State := { sRun with pwr := { dTj := 5, tj := 0 } }
def sPaceL : State := { sRun.setFld F.PWR_CTL_PACE_EN 1 with yrd := { margin := 0 } }
def sPaceR : State := { sRun with yrd := { margin := 5000 }, pwr := { dPace := 2 } }
def sStage2 : State := { sRun with pwr := { stage := 2 } }
def sNoTmp : State := sRun.setFld F.TCK_CTL_TMP_EN 0
def sAck : State := { sRun with tck := { pressWin := some 0, pendI := true }, alarm := { isolated := true } }
def sStim : State := { sRun with tck := { stimSt := 1, stimSrc := 12 } }
def sFlag : State := { sRun with tck := { pressWin := some 0, flags := 1 } }
def sTLog : State := { sRun with tck := { log := [{ ts := 1, kind := 4, seq := 1 }] } }
def sMsix : State := { sRun with pci := { msix := BitVec.ofNat 128 (2 ^ 64) } }
def sCoreM : State := sRun.setAcu 1 {}
def txD : TxDesc := { len := 60, port := 0, flags := 4, launch := 0, zeros := true, frame := List.replicate 60 0#8, readOk := true }
def sTxRing : State := ((sUp.setFld F.HFR_TX_CTL_EN 1 2).setFld F.HFR_TX_TAIL_IDX 1 2)
def sTxDone : State := (sUp.setFld F.HFR_TX_CTL_EN 1 0).setRing 0 { done := [(0, 0, 0, false)], stopped := false }
def sRx : State := ((sUp.setFld F.HFR_RX_CTL_EN 1 1).setFld F.HFR_RX_CTL_COAL_US 10 1).setRing 9 { rxq := [(frameA, 5, 0, 0, 0)], stopped := false }
def sCoal : State := sUp.setRing 9 { coal := true }
def sSmbMap : State := { sRun with smb := { off := 0x10301C } }
def sess9 : IahSess := { open_ := true, id := 9 }
def sSess : State := { sRun.setFld F.MGT_CFG_IAH_EN 1 with sess := [(0, sess9)] }
def sUnl : State := { sRun with jtag := { unlocked := true } }
def sUnlH : State := { sRun with jtag := { unlocked := true, halted := [3] } }
def sWrap : State := { sRun with obs := { wrapped := [(obsKey (.core 2) 1, 0)] } }
def smp1 : Sample := { unit := 0, idx := 1, cnt := 2, d1 := 0, d2 := 0, occ := 0, ns := 7, wrap := 0 }
def sSmp : State := { sRun with obs := { samples := [smp1] } }
def pend1 : LogPend := { t := 0, src := 3, port := 0, bit := 1, evt := 0, ns := 9 }
def sPendL : State := { sRun with obs := { pend := [pend1] } }
def sOLog : State := { sRun with obs := { log := [{ t := 5, src := 3, port := 0, bit := 2, supp := 0, evt := 0, seq := 1 }] } }
def enInfo : RegInfo := { reg := .ACU_INT_EN, base := 0x4F004, flds := [⟨2, 0, .rw, []⟩] }
def sIah : State := { sRun.setFld F.MGT_CFG_IAH_EN 1 with tck := { pressWin := some 0 } }
def sDbg : State := { sRun with fuses := { keyHash := sha384 gPub }, tck := { pressWin := some 0 }, alarm := { isolated := true }, jtag := { nonce := some [] } }
def sFlagNP : State := { sRun with tck := { flags := 1 } }
def sAcu : State := { sRun with acus := [(80, { rules := [(1, 1, 0x1F#5)] })] }
def sMsg : State := { (((sRun.setWord .ACU_INT_EN 7#32).setWord .ACU_INT_STAT 1#32).setFld F.PCI_IVEC_EN 1 31) with pci := { table := [(127, 0#32)] } }

def loInfo : RegInfo := (allRegs.find? (fun x => x.reg == .CLS_SL_CNT_LO)).getD mapInfo
def tjInfo : RegInfo := (allRegs.find? (fun x => x.reg == .PWR_TJ)).getD mapInfo

def peerL : Peer := { peer9 with live := true }
def sCaKs : State := caOn { active := true, isKs := true, wantSak := true, peers := [peerL] } sUp
def sCaOld : State := caOn { active := true, olds := [⟨1, 0, 3#32, false⟩] } sUp
def sPairF : State := { sRun with pairing := { st := .failed } }

def sSvcZ : State := sSvc
def sSvcSl : State := (((sSvc.setSaSlot 0 { st := .held, klen := 16 }).setSaSlot 1 { st := .held, klen := 16 }).setWord .SVC_SRC 1#32 0).setWord .SVC_KEY 0x20000000#32 0
def sSvcDst : State := (sSvc.setSaSlot 5 { st := .held }).setWord .SVC_DST 5#32 0
def sSvcWrapS : State := (sSvcWrap.setSaSlot 5 { st := .held }).setWord .SVC_DST 5#32 0
def sSvcSlot : State := (sRun.setSvc 0 { busy := true, resSlot := some (3, key0) }).setSaSlot 3 { st := .held }
def sEsAgain : State := { sRun with rng := { lastFail := some 0 } }

def sDeferR : State := { sRun with yrd := { testSt := .deferred, testEng := some 5 } }

def sPqLate : State := { ((withF sUp { fPqL with launch := some 0 }).setQueue (privQueue 64 0) { frames := [0] }).setFld F.TMG_PORT_CFG_LATE_DROP 1 64 with tim := { cnt := 2 ^ 80 } }

def sRefInt : State := { sRun with tim := { sRun.tim with refInt := true } }
def sPtpFu : State := ptpSt { master := some 7#64, pendT1 := some (3, 20), reqT3 := some (4, 3), t12 := some (1, 2) }
def sOutH : State := ((({ sRun with tim := { sRun.tim with cnt := 2 ^ 80 } } : State).setFld F.TIM_OUT_CFG_EN 1 0).setFld F.TIM_OUT_WIDTH_NS 1000 0).setOut 0 { next := some 0, high := true }

def kp5 : Peer := { mi := 5, mn := 0, sci := 6, prio := 0, live := false, rsc := none }
def sKeyP : State := sKeyed.setCa 0 { sKeyed.ca 0 with peers := [kp5] }

def sKeyedA : State := { sKeyed with par := { sKeyed.par with st := .active } }

def sNoRng : State := { sRun with rng := { sRun.rng with esFail := true, k := { sRun.rng.k with due := true } } }

def sPf1O : State := sRun.setAcu Origin.pf1.acu { rules := [(0, 2 ^ 20, 0x1E#5)] }
def sPf1W : State := sPf1O.setFld F.OBS_CTL_PF1_WR 0

/-! ## Witnesses of the statements' hypotheses -/

theorem witness_StepRunsFrontCommand :
    (∃ (c : Instr) (rest : List Instr) (s : State), s.pending = c :: rest) :=
  ⟨.idcode, [.bypass], { sRun with pending := [.idcode, .bypass] }, rfl⟩

theorem witness_IdleStepCountsTime :
    (∃ s : State, s.pending = []) :=
  ⟨sRun, rfl⟩

theorem witness_ExecKeepsQueue :
    (∃ c s t, exec c s = .next t) ∧ (∃ s t : State, s.queueWf = true ∧ step s = .next t) :=
  ⟨⟨.bypass, sRun, _, rfl⟩, ⟨sRun, _, by decide, rfl⟩⟩

theorem witness_PadsFollowTheirConditions :
    (∃ s t : State, s.padsOk = true ∧ step s = .next t) :=
  ⟨{ sLease with pending := [.bypass] }, _, by decide, rfl⟩

theorem witness_RegisterAddressesRoundTrip :
    (∃ (x : RegInfo) (i : Nat), x ∈ allRegs ∧ i < x.count * max x.ocount 1) :=
  ⟨enInfo, 0, by decide, by decide⟩

theorem witness_RegisterWriteFollowsAccessCodes :
    (∃ (s : State) (o : Origin) (r : Reg) (i : Nat) (v : W32), s.accepts o r i = true ∧ (presGated r i = false ∨ s.presence = true) ∧ s.outOfRange (fieldsFor o r) v = false) :=
  ⟨sRun, .pf0, .TCK_CTL, 0, 0xFFFFFFFF#32, by decide, by decide, by decide⟩

theorem witness_ThresholdOrderIsKept :
    (∃ (s : State) (o : Origin) (port : Nat) (v : W32), s.grants o .HPT_FC_THR (port % 64) = true ∧ bits v 8 0 < bits v 17 9 ∧ bits v 17 9 ≤ bits v 26 18) ∧ (∃ (s : State) (o : Origin) (port : Nat) (v : W32), s.grants o .HPT_FC_THR (port % 64) = true ∧ ¬(bits v 8 0 < bits v 17 9 ∧ bits v 17 9 ≤ bits v 26 18)) :=
  ⟨⟨sUp, .pf0, 0, BitVec.ofNat 32 (1 + 2 * 512 + 2 * 262144), by decide, by decide, by decide⟩, ⟨sUp, .pf0, 0, BitVec.ofNat 32 (2 + 2 * 512 + 2 * 262144), by decide, by decide⟩⟩

theorem witness_VcoreDemandFollowsItsLevels :
    (∃ mv : Nat, mv ≤ 900 ∧ mv < 640) ∧ (∃ mv : Nat, 640 < mv ∧ mv < 670) ∧ (∃ mv : Nat, 670 < mv ∧ mv < 700) ∧ (∃ mv : Nat, 700 < mv ∧ mv ≤ 900) ∧ (∃ mv : Nat, 715 ≤ mv) ∧ (∃ mv : Nat, 685 ≤ mv ∧ mv < 715) ∧ (∃ mv : Nat, 655 ≤ mv ∧ mv < 685) :=
  ⟨⟨639, by decide, by decide⟩, ⟨669, by decide, by decide⟩, ⟨699, by decide, by decide⟩, ⟨900, by decide, by decide⟩, ⟨715, by decide⟩, ⟨685, by decide, by decide⟩, ⟨655, by decide, by decide⟩⟩

theorem witness_TjDemandFollowsItsThresholds :
    (∃ (s : State) (l : List Int), s.pwr.tjLeft = [] ∧ l ≠ [] ∧ ∀ x ∈ l, ∀ y ∈ l, (x - y).natAbs ≤ 100) ∧ (∃ s : State, s.pwr.dTj = 6 ∧ s.pwr.tj ≤ 560 - 4 * (s.fld F.PWR_CTL_TJ_HYST : Int)) ∧ (∃ s : State, s.pwr.dTj = 5 ∧ s.pwr.tj ≤ 528 - 4 * (s.fld F.PWR_CTL_TJ_HYST : Int)) ∧ (∃ s : State, s.pwr.dTj = 4 ∧ s.pwr.tj ≤ 500 - 4 * (s.fld F.PWR_CTL_TJ_HYST : Int)) ∧ (∃ s : State, s.pwr.dTj = 2 ∧ s.pwr.tj ≤ 460 - 4 * (s.fld F.PWR_CTL_TJ_HYST : Int)) :=
  ⟨⟨sRun, [460, 500, 560], rfl, by decide, by decide⟩, ⟨{ sRun with pwr := { dTj := 6 } }, by decide, by decide⟩, ⟨{ sRun with pwr := { dTj := 5 } }, by decide, by decide⟩, ⟨{ sRun with pwr := { dTj := 4 } }, by decide, by decide⟩, ⟨{ sRun with pwr := { dTj := 2 } }, by decide, by decide⟩⟩

theorem witness_WrittenMemoryReadsBack :
    (∃ s : State, Memory.wf s.mem = true) :=
  ⟨sRun, by decide⟩

theorem witness_RecoveredPnIsInWindow :
    (∃ l p : Nat, l < 2 ^ 64 ∧ p < 2 ^ 32 ∧ l + 2 ^ 32 ≤ 2 ^ 64 ∧ p < l) ∧ (∃ l p : Nat, l < 2 ^ 64 ∧ p < 2 ^ 32 ∧ ¬(l + 2 ^ 32 ≤ 2 ^ 64)) :=
  ⟨⟨2 ^ 32 + 5, 4, by decide, by decide, by decide, by decide⟩, ⟨2 ^ 64 - 1, 4, by decide, by decide, by decide⟩⟩

theorem witness_ShedReachesTheHighestDemand :
    (∃ s : State, s.pwr.started = true ∧ s.pwr.stage < s.topDemand) ∧ (∃ s : State, s.topDemand ≤ s.pwr.stage) :=
  ⟨⟨{ sRun with pwr := { started := true, dTj := 4 } }, by decide, by decide⟩, ⟨sRun, by decide⟩⟩

theorem witness_FunctionResetTouchesOnlyItsFunction :
    (∃ n, n < 33 ∧ sRun.fld F.PCI_IVEC_PF n = 0) ∧ (∃ n, n < 33 ∧ (sRun.setFld F.PCI_IVEC_PF 1 3).fld F.PCI_IVEC_PF n = 1) ∧ Reg.HFR_TX_CTL.within .HFR_TX_BASE_LO .HFR_RING_EN = true ∧ Reg.HPT_CFG.within .HFR_TX_BASE_LO .HFR_RING_EN = false :=
  ⟨⟨0, by decide, by decide⟩, ⟨3, by decide, by decide⟩, by decide, by decide⟩

theorem witness_StampGivesTimeBack :
    (∃ t : Int, 0 ≤ t ∧ t < 2 ^ 34 * unitsPerSec) :=
  ⟨65537, by decide, by decide⟩

theorem witness_SnapshotCopiesEveryCounter :
    (∃ (s : State) (o : Origin) (port : PortId), s.grants o (port.reg .HPT_STAT_SNAP .LPT_STAT_SNAP) (port.n % 64) = true) ∧ (∃ p : PortId, ¬p.idx < 64) :=
  ⟨⟨sUp, .pf0, ⟨.host, 1⟩, by decide⟩, ⟨⟨.line, 1⟩, by decide⟩⟩

theorem witness_RemaskingKeepsEveryKey :
    (∃ s : State, s.maskStopped = true) :=
  ⟨{ sRun with rng := { esFail := true, m := { due := true } } }, by decide⟩

theorem witness_AcuChecksEachAccess :
    (∃ (s : State) (o : Origin) (q : Nat × Nat × BitVec 5), (s.acu o.acu).region? 0x1000 = some q) ∧ (∃ (s : State) (o : Origin), (s.acu o.acu).region? 0 = none ∧ o.user = true) ∧ (∃ (s : State) (o : Origin), (s.acu o.acu).region? 0 = none ∧ o.user = false) :=
  ⟨⟨sAcu, .pf0, (1, 1, 0x1F#5), by decide⟩, ⟨sAcu, .task 2 0, by decide, by decide⟩, ⟨sAcu, .core 2, by decide, by decide⟩⟩

theorem witness_CommitIsRefusedWhileOldRulesDrain :
    (∃ (s : State) (o : Origin) (acu : Nat), s.grants o .ACU_CTL (acu % 91) = true ∧ acuMaster o (acu % 91) = true ∧ ((acu % 91 ≠ 80 ∧ acu % 91 ≠ 81) ∨ s.presence = true) ∧ ((s.acu (acu % 91)).drained = false ∨ rulesOk (s.acuShadow (acu % 91)) = false)) :=
  ⟨sRun.setAcu 5 { drained := false }, .core 1, 5, by decide, by decide, by decide, by decide⟩

theorem witness_OneMessagePerSource :
    (∃ (s : State) (n : Nat), n < 33 ∧ s.pci.srcs.getLsbD n = false ∧ s.srcSet n = true ∧ s.flag F.PCI_IVEC_EN n = true ∧ bits (s.pci.table.look msixDflt (s.fld F.PCI_IVEC_PF n * 65536 + s.fld F.PCI_IVEC_VECTOR n * 4 + 3)) 0 0 = 0) :=
  ⟨sMsg, 31, by decide, by decide, by decide, by decide, by decide⟩

theorem witness_CalmStepsEndWhereTheyStand :
    (∃ t : State, t.calm = true) :=
  ⟨{ sRun with leds := sRun.ledsNow }, by decide⟩

theorem witness_EveryCommandCompletes :
    (∃ (c : Instr) (s : State), ¬stops c s) ∧ (∃ supply mv : Nat, supMax (supply % 10) < mv) ∧ (∃ s : State, s.jtag.unlocked = true) :=
  ⟨⟨.bypass, sRun, id⟩, ⟨0, 100000, by decide⟩, ⟨sUnl, by decide⟩⟩

theorem witness_DeniedWriteRecordsItsFault :
    (∃ (c : Instr) (s : State) (o : Origin) (r : Reg) (i : Nat), target c = some (o, r, i) ∧ s.grants o r i = false) ∧ (∃ (s : State) (o : Origin), s.grants o .SEC_SAW_CMD = false) :=
  ⟨⟨.rgwRead (.task 2 0), sRun, .task 2 0, .CEL_RGW_CMD, 0, by decide, by decide⟩, ⟨sRun, .task 2 0, by decide⟩⟩

theorem witness_FramesArriveOnPorts :
    (∃ (s : State) (port : Nat) (rx : RxFrame), (s.codewords (port % 64) rx.corr rx.unc).serving = true ∧ (s.codewords (port % 64) rx.corr rx.unc).receives (port % 64) = true ∧ (s.codewords (port % 64) rx.corr rx.unc).goodFrame (port % 64) rx.octets = true ∧ (s.codewords (port % 64) rx.corr rx.unc).par.st ≠ .standby ∧ (s.codewords (port % 64) rx.corr rx.unc).fifoFill (port % 64) + rx.octets.length ≤ 131072) ∧
    (∃ (s : State) (port : Nat) (rx : RxFrame), (s.codewords (64 + port % 64) rx.corr rx.unc).serving = true ∧ (s.codewords (64 + port % 64) rx.corr rx.unc).receives (64 + port % 64) = true ∧ (s.codewords (64 + port % 64) rx.corr rx.unc).goodFrame (64 + port % 64) rx.octets = true ∧ (s.codewords (64 + port % 64) rx.corr rx.unc).fifoFill (64 + port % 64) + rx.octets.length ≤ 131072) ∧
    (∃ (s : State) (port : Nat), s.fld F.HPT_FC_MODE (port % 64) = 1 ∧ (s.port (port % 64)).pauseSent = true ∧ s.fld F.HPT_FC_THR_XOFF_HIGH (port % 64) * 256 ≤ s.fifoFill (port % 64)) ∧
    (∃ (s : State) (port : Nat), s.fld F.HPT_FC_MODE (port % 64) = 2 ∧ (s.port (port % 64)).pfcSent ≠ 0#8) ∧
    (∃ (s : State) (port : PortId), s.receives port.idx = true ∧ ((if port.idx < 64 then s.flag F.HPT_FC_RX_OBEY port.idx else s.flag F.LPT_FC_RX_OBEY (port.idx - 64)) = true) ∧ (s.port port.idx).storm = false) ∧
    (∃ (s : State) (port : PortId), s.receives port.idx = true ∧ ((if port.idx < 64 then s.flag F.HPT_FC_RX_OBEY port.idx else s.flag F.LPT_FC_RX_OBEY (port.idx - 64)) = true) ∧ (s.port port.idx).storm = false) ∧
    (∃ (s : State) (port : PortId), s.stormMs port.idx ≠ 0 ∧ s.stormPaused port.idx = true ∧ (s.port port.idx).storm = false) :=
  ⟨⟨sUp, 0, ⟨frameA, 3, 1⟩, by decide, by decide, by decide +kernel, by decide, by decide⟩,
    ⟨sUp, 0, ⟨frameA, 3, 1⟩, by decide, by decide, by decide +kernel, by decide⟩,
    ⟨sFcZ, 3, by decide, by decide, by decide⟩,
    ⟨sFcP, 3, by decide, by decide⟩,
    ⟨sUp, ⟨.line, 0⟩, by decide, by decide, by decide⟩,
    ⟨sUp, ⟨.host, 0⟩, by decide, by decide, by decide⟩,
    ⟨sStorm, ⟨.host, 3⟩, by decide, by decide, by decide⟩⟩

theorem witness_FramesCrossThePath :
    (∃ (s : State) (frame : Nat) (f : Frame) (k : Nat), s.frame? frame = some f ∧ f.stage = .waitPn ∧ s.nextForPn f = true ∧ s.par.draining = false ∧ s.curSa f.secy = some k ∧ (s.sa k).stopped = false ∧ s.poisoned f = false ∧ (s.sa k).pn ≤ (s.sa k).lease ∧ s.xpn f.secy = true) ∧
    (∃ (s : State) (frame : Nat) (f : Frame) (a : Nat), s.frame? frame = some f ∧ f.stage = .dispatch ∧ f.sa = some a ∧ s.yrd.restricted = false ∧ (s.sa a).hot = false) ∧
    (∃ (s : State) (frame : Nat) (f : Frame) (a : Nat) (e : Nat) (f2 : Frame), s.frame? frame = some f ∧ f.stage = .dispatch ∧ f.sa = some a ∧ f.segs = [] ∧ f.refetch = false ∧ s.yrd.restricted = false ∧ (s.sa a).hot = true ∧ (segCount (((((((({ s with yrd := { s.yrd with useNo := s.yrd.useNo + 1 } } : State).setSa a { s.sa a with lastUse := s.yrd.useNo + 1, demoting := false }).fitSet f.sc)).scSet f.sc).engs.foldl (fun (t : State) e => t.loadKeys e [f.slot]) (((({ s with yrd := { s.yrd with useNo := s.yrd.useNo + 1 } } : State).setSa a { s.sa a with lastUse := s.yrd.useNo + 1, demoting := false }).fitSet f.sc)))).ctLen f) ((((({ s with yrd := { s.yrd with useNo := s.yrd.useNo + 1 } } : State).setSa a { s.sa a with lastUse := s.yrd.useNo + 1, demoting := false }).fitSet f.sc)).scSet f.sc).engs.length = 1) ∧ ((((((((({ s with yrd := { s.yrd with useNo := s.yrd.useNo + 1 } } : State).setSa a { s.sa a with lastUse := s.yrd.useNo + 1, demoting := false }).fitSet f.sc)).scSet f.sc).engs.foldl (fun (t : State) e => t.loadKeys e [f.slot]) (((({ s with yrd := { s.yrd with useNo := s.yrd.useNo + 1 } } : State).setSa a { s.sa a with lastUse := s.yrd.useNo + 1, demoting := false }).fitSet f.sc)))).setFrame f).mostFree ((((({ s with yrd := { s.yrd with useNo := s.yrd.useNo + 1 } } : State).setSa a { s.sa a with lastUse := s.yrd.useNo + 1, demoting := false }).fitSet f.sc)).scSet f.sc).engs = some e) ∧ ((((((((((({ s with yrd := { s.yrd with useNo := s.yrd.useNo + 1 } } : State).setSa a { s.sa a with lastUse := s.yrd.useNo + 1, demoting := false }).fitSet f.sc)).scSet f.sc).engs.foldl (fun (t : State) e => t.loadKeys e [f.slot]) (((({ s with yrd := { s.yrd with useNo := s.yrd.useNo + 1 } } : State).setSa a { s.sa a with lastUse := s.yrd.useNo + 1, demoting := false }).fitSet f.sc)))).setFrame f).placeSeg f.id 0 e)).frame? f.id = some f2) ∧ (f2.missing 1).isEmpty = true) ∧
    (∃ (s : State) (sa : Nat) (res : ReadRes) (f : Frame) (a : Nat), (s.frames.find? (fun f => f.stage == .fetching && f.sa == some sa) = some f) ∧ (s.sa sa).hot = false ∧ placeOf s.cel.layout 1 sa = some a ∧ (s.readData [⟨a, res, none⟩] a).2.1 = .ok) ∧
    (∃ (s : State) (sa : Nat) (a : Nat), (s.sa sa).demoting = true ∧ s.boundTo sa = false ∧ placeOf s.cel.layout 1 sa = some a) ∧
    (∃ (s : State) (frame : Nat) (seg : Nat) (f : Frame) (g : Seg), s.frame? frame = some f ∧ (f.segs.find? (fun g => g.j == seg && !g.done) = some g) ∧ s.hwAccess (16 + g.eng) 2 (0x40000000 + (32768 - s.roFree) % 32768 * 256) true true = (s, true) ∧ (s.eng g.eng).offPend = false ∧ (({ f with segs := f.segs.map (fun (q : Seg) => if q.j == seg then { q with done := true } else q) }).inEngine = true)) ∧
    (∃ (s : State) (frame : Nat) (f : Frame), s.frame? frame = some f ∧ s.firstInLine f = true ∧ f.stage = .reorder) ∧
    (∃ (s : State) (frame : Nat) (f : Frame), s.frame? frame = some f ∧ s.verdictDue f = true ∧ f.enc = true ∧ f.rx = .none ∧ f.cutErr = false ∧ fcsOk f.octets = true ∧ f.stage ≠ .committed) ∧
    (∃ (s : State) (frame : Nat) (f : Frame), s.frame? frame = some f ∧ f.stage = .held ∧ s.keptBack f = false ∧ s.tooSlow f = false) ∧
    (∃ (s : State) (port : PortId) (o : List Byte) (r : List (List Byte)), s.portUp port.idx = true ∧ s.gateOpen = true ∧ s.pwr.stage ≠ 6 ∧ (s.frames.any (fun g => g.egress == port.idx && g.stage == .committed) = false) ∧ (s.port port.idx).macCtl = o :: r) ∧
    (∃ (s : State) (secy : Nat) (f : Frame), (s.frames.find? (fun f => f.enc && f.secy == secy % 2048 && f.stage == .parked) = some f)) :=
  ⟨⟨sTx, 0, fTx, 0, by decide +kernel, by decide, by decide, by decide, by decide, by decide, by decide, by decide, by decide⟩,
    ⟨sDisp, 0, fDisp, 0, by decide +kernel, by decide, by decide, by decide, by decide⟩,
    ⟨sHot, 0, fDisp, 0, 0, { fDisp with segs := [⟨0, 0, false⟩] }, by decide +kernel, by decide, by decide, by decide, by decide, by decide, by decide, by decide +kernel, by decide +kernel, by decide +kernel, by decide⟩,
    ⟨sFetch, 0, .clean, fFetch, 0, by decide +kernel, by decide, by decide, by decide +kernel⟩,
    ⟨sDem, 0, 0, by decide, by decide, by decide⟩,
    ⟨sCiph, 0, 0, fCiph, ⟨0, 5, false⟩, by decide +kernel, by decide, by decide +kernel, by decide, by decide⟩,
    ⟨sReord, 0, fReord, by decide +kernel, by decide, by decide⟩,
    ⟨sVerd, 0, fVerd, by decide +kernel, by decide, by decide, by decide, by decide, by decide +kernel, by decide⟩,
    ⟨sHeld, 0, fHeld, by decide +kernel, by decide, by decide, by decide⟩,
    ⟨sMacCtl, ⟨.host, 0⟩, frameA, [], by decide, by decide, by decide, by decide, by decide +kernel⟩,
    ⟨sPark, 0, fPark, by decide +kernel⟩⟩

theorem witness_PortsAndLinksRun :
    (∃ (s : State) (slice : Nat) (word : Nat), s.cls.repairs.contains (slice % 4, word) = true ∧ evenW (s.cls.mem.look clsDflt ((slice % 4 + 1) % 4 * 2 ^ 27 + word % 2 ^ 27)) = true) ∧
    (∃ (s : State) (eng : Nat) (cause : Nat), (s.eng (eng % 64)).mode = .inService ∧ (cause = 1 ∨ cause = 2 ∨ (cause = 4 ∧ (s.eng (eng % 64)).slow s.nowNs s.medianPace = true))) ∧
    (∃ (s : State) (eng : Nat), (s.eng (eng % 64)).slots ≠ [] ∧ (s.eng (eng % 64)).mode = .inService) ∧
    (∃ (s : State) (port : PortId) (form : Nat), port.side = .host ∧ s.linksRun = true ∧ s.portLive port.idx = true ∧ (s.port port.idx).link = false ∧ (s.port port.idx).recal ≠ .running ∧ (s.mayCome port.idx ((if s.portCfgForm port.idx = 0 then form else s.portCfgForm port.idx)) = true)) ∧
    (∃ (s : State) (port : PortId) (form : Nat), s.linksRun = true ∧ s.portLive port.idx = true ∧ (s.port port.idx).link = false ∧ (s.port port.idx).recal ≠ .running ∧ (s.mayCome port.idx ((if s.portCfgForm port.idx = 0 then form else s.portCfgForm port.idx)) = true)) ∧
    (∃ (s : State) (port : PortId), (s.port port.idx).link = true) ∧
    (∃ (s : State) (port : PortId), s.linksRun = true ∧ (s.port port.idx).link = false ∧ s.portLive port.idx = true ∧ s.ltEn port.idx = true) ∧
    (∃ (s : State) (port : PortId) (reached : Bool), reached = false ∧ s.linksRun = true ∧ s.image = false ∧ s.portCfgForm port.idx = 0 ∧ (s.port port.idx).link = false ∧ s.portLive port.idx = true ∧ s.itsTurn port.idx = true) ∧
    (∃ (s : State) (port : PortId) (reached : Bool), reached = true ∧ s.linksRun = true ∧ s.image = false ∧ s.portCfgForm port.idx = 0 ∧ (s.port port.idx).link = false ∧ (s.port port.idx).recal ≠ .running ∧ s.portLive port.idx = true ∧ s.itsTurn port.idx = true ∧ s.mayCome port.idx ((probeForms.getD (s.nextProbe port.idx (s.port port.idx).probe) (1, 1))).1 = true) :=
  ⟨⟨sRepair, 1, 5, by decide, by decide⟩,
    ⟨sEng, 5, 1, by decide, by decide⟩,
    ⟨sCiph, 5, by decide, by decide⟩,
    ⟨sRun, ⟨.host, 0⟩, 7, by decide, by decide, by decide, by decide, by decide, by decide⟩,
    ⟨sRun, ⟨.line, 0⟩, 7, by decide, by decide, by decide, by decide, by decide⟩,
    ⟨sUp, ⟨.line, 0⟩, by decide⟩,
    ⟨sLt, ⟨.host, 0⟩, by decide, by decide, by decide, by decide⟩,
    ⟨sRun, ⟨.line, 0⟩, false, by decide, by decide, by decide, by decide, by decide, by decide, by decide⟩,
    ⟨sRun, ⟨.line, 0⟩, true, by decide, by decide, by decide, by decide, by decide, by decide, by decide, by decide, by decide⟩⟩

theorem witness_LanesSleepAndWake :
    (∃ (s : State) (o : Origin) (port : PortId), s.grants o (port.reg .HPT_RECAL .LPT_RECAL) (port.n % 64) = true ∧ (s.port port.idx).recal ≠ .running) ∧
    (∃ (s : State) (port : PortId), (s.port port.idx).recal = .running) ∧
    (∃ (s : State) (port : PortId), (s.port port.idx).link = false ∧ (s.port port.idx).dormant = false ∧ s.portEn port.idx = true ∧ s.par.st ≠ .standby ∧ ((if port.idx < 64 then s.flag F.HPT_CFG_DORMANT_EN port.idx else s.flag F.LPT_CFG_DORMANT_EN (port.idx - 64)) = true)) ∧
    (∃ (s : State) (port : PortId), (s.port port.idx).dormant = true) ∧
    (∃ (s : State) (port : PortId), (s.port port.idx).dormant = true ∧ s.portEn port.idx = true ∧ s.kept port.idx = true) ∧
    (∃ (s : State) (port : PortId), (s.port port.idx).dormant = true ∧ s.portEn port.idx = true ∧ s.kept port.idx = true) ∧
    (∃ (s : State) (o : Origin) (port : PortId), s.grants o (port.reg .HPT_DORMANT .LPT_DORMANT) (port.n % 64) = true ∧ (s.port port.idx).dormant = true ∧ s.portEn port.idx = true ∧ s.kept port.idx = true) ∧
    (∃ (s : State) (o : Origin) (port : PortId), s.grants o (port.reg .HPT_STAT_SNAP .LPT_STAT_SNAP) (port.n % 64) = true) ∧
    (∃ (s : State) (o : Origin) (port : Nat) (v : W32), s.grants o .HPT_MAX_FRAME (port % 64) = true ∧ s.legal o .HPT_MAX_FRAME (port % 64) v = true ∧ s.maxFrameOk (port % 64) (bits (s.wouldBe o .HPT_MAX_FRAME (port % 64) (copyOf o .HPT_MAX_FRAME) v) 13 0) = true) ∧
    (∃ (s : State) (o : Origin) (port : Nat) (v : W32), s.grants o .HPT_FC_THR (port % 64) = true ∧ s.legal o .HPT_FC_THR (port % 64) v = true ∧ bits (s.wouldBe o .HPT_FC_THR (port % 64) (copyOf o .HPT_FC_THR) v) 8 0 < bits (s.wouldBe o .HPT_FC_THR (port % 64) (copyOf o .HPT_FC_THR) v) 17 9 ∧ bits (s.wouldBe o .HPT_FC_THR (port % 64) (copyOf o .HPT_FC_THR) v) 17 9 ≤ bits (s.wouldBe o .HPT_FC_THR (port % 64) (copyOf o .HPT_FC_THR) v) 26 18) :=
  ⟨⟨sUp, .pf0, ⟨.line, 0⟩, by decide, by decide⟩,
    ⟨sRecal, ⟨.host, 0⟩, by decide⟩,
    ⟨sDormEn, ⟨.host, 2⟩, by decide, by decide, by decide, by decide, by decide⟩,
    ⟨sDorm, ⟨.host, 2⟩, by decide⟩,
    ⟨sDorm, ⟨.host, 2⟩, by decide, by decide, by decide⟩,
    ⟨sDorm, ⟨.host, 2⟩, by decide, by decide, by decide⟩,
    ⟨sDorm, .pf0, ⟨.host, 2⟩, by decide, by decide, by decide, by decide⟩,
    ⟨sUp, .pf0, ⟨.line, 0⟩, by decide⟩,
    ⟨sUp, .pf0, 0, 9000#32, by decide, by decide, by decide +kernel⟩,
    ⟨sUp, .pf0, 0, BitVec.ofNat 32 (1 + 2 * 512 + 3 * 262144), by decide, by decide, by decide, by decide⟩⟩

theorem witness_ClassifierCommandsComplete :
    (∃ (s : State) (o : Origin), s.grants o .CLS_BANK = true ∧ s.presence = true ∧ s.cls.drained = true) ∧
    (∃ (s : State) (n : Nat), s.cls.sweepAt = some n ∧ n ≤ s.nowNs) ∧
    (∃ (s : State) (o : Origin) (v : W32), s.grants o .CLS_AGE = true ∧ s.legal o .CLS_AGE 0 v = true ∧ ((bits (s.wouldBe o .CLS_AGE 0 (copyOf o .CLS_AGE) v) 15 0) = 0 ∨ 30 ≤ (bits (s.wouldBe o .CLS_AGE 0 (copyOf o .CLS_AGE) v) 15 0))) ∧
    (∃ (s : State) (o : Origin) (table : Nat), s.grants o .CLS_TW_CMD = true ∧ s.twBusy o.grp = false ∧ (s.fld F.CLS_TW_ADDR_ADDR 0 o.grp) < tableSize table ∧ table ≠ 10) ∧
    (∃ (s : State) (o : Origin) (slice : Nat) (table : Nat), s.grants o .CLS_TW_CMD = true ∧ s.twBusy o.grp = false ∧ (s.fld F.CLS_TW_ADDR_ADDR 0 o.grp) < tableSize 10 ∧ table = 10 ∧ s.flushing (slice % 4) = false) ∧
    (∃ (s : State) (o : Origin) (table : Nat) (bank : Nat), s.grants o .CLS_TW_CMD = true ∧ s.twBusy o.grp = false ∧ s.presence = true ∧ table < 9 ∧ banked table = true ∧ (s.fld F.CLS_TW_ADDR_ADDR 0 o.grp) < tableSize table ∧ bank % 2 ≠ s.bank ∧ s.cls.drained = true ∧ (table = 7 → s.qbaseOk (bank % 2) (s.fld F.CLS_TW_ADDR_ADDR 0 o.grp) (s.word .CLS_TW_DATA 0 o.grp).toNat = true)) ∧
    (∃ (s : State) (o : Origin) (table : Nat), s.grants o .CLS_TW_CMD = true ∧ s.twBusy o.grp = false ∧ s.presence = true ∧ table < 9 ∧ banked table = false ∧ (s.fld F.CLS_TW_ADDR_ADDR 0 o.grp) < tableSize table ∧ (s.cls.drained = true ∨ s.reaches table (s.fld F.CLS_TW_ADDR_ADDR 0 o.grp) = false)) ∧
    (∃ (s : State) (o : Origin) (slice : Nat) (table : Nat), s.grants o .CLS_TW_CMD = true ∧ s.twBusy o.grp = false ∧ o.main = true ∧ table = 10 ∧ (s.fld F.CLS_TW_ADDR_ADDR 0 o.grp) < tableSize 10 ∧ s.flushing (slice % 4) = false) ∧
    (∃ (s : State) (o : Origin) (slice : Nat), s.grants o .CLS_TW_CMD = true ∧ s.twBusy o.grp = false ∧ o.main = true ∧ s.flushing (slice % 4) = false ∧ (((s.twBegin o.grp slice (s.fld F.CLS_TW_CMD_TABLE 0 o.grp) (s.fld F.CLS_TW_CMD_BANK 0 o.grp)).twHold o.grp false).macInsert (slice % 4) (storedMac (mkMac (meMac (s.twEntry o.grp)) (meLport (s.twEntry o.grp)) (mePeer (s.twEntry o.grp)) (meAge (s.twEntry o.grp)) (meStatic (s.twEntry o.grp))))).2 = true) ∧
    (∃ (s : State) (o : Origin) (slice : Nat) (i : Nat), s.grants o .CLS_TW_CMD = true ∧ s.twBusy o.grp = false ∧ o.main = true ∧ s.flushing (slice % 4) = false ∧ ((s.twBegin o.grp slice (s.fld F.CLS_TW_CMD_TABLE 0 o.grp) (s.fld F.CLS_TW_CMD_BANK 0 o.grp)).twHold o.grp false).macFind (slice % 4) (meLport (s.twEntry o.grp)) (meMac (s.twEntry o.grp)) = some i) ∧
    (∃ (s : State) (o : Origin) (slice : Nat), s.grants o .CLS_TW_CMD = true ∧ s.twBusy o.grp = false ∧ o.main = true ∧ s.flushing (slice % 4) = false) ∧
    (∃ (s : State) (o : Origin) (slice : Nat), s.grants o .CLS_TW_CMD = true ∧ s.twBusy o.grp = false ∧ o.main = true ∧ s.flushing (slice % 4) = false) ∧
    (∃ (s : State) (f : Flush) (rest : List Flush), s.cls.flushes = f :: rest) ∧
    (∃ (s : State) (o : Origin) (port : Nat) (v : W32), s.grants o .CLS_LP_MODE (port % 64) = true ∧ s.legal o .CLS_LP_MODE (port % 64) v = true ∧ bits (s.wouldBe o .CLS_LP_MODE (port % 64) (copyOf o .CLS_LP_MODE) v) 31 30 ≠ 3) :=
  ⟨⟨sPres, .pf0, by decide, by decide, by decide⟩,
    ⟨sMac, 0, by decide, by decide⟩,
    ⟨sRun, .pf0, 60#32, by decide, by decide, by decide⟩,
    ⟨sRun, .pf0, 0, by decide, by decide, by decide, by decide⟩,
    ⟨sRun, .pf0, 0, 10, by decide, by decide, by decide, by decide, by decide⟩,
    ⟨sPres, .pf0, 7, 1, by decide, by decide, by decide, by decide, by decide, by decide, by decide, by decide, by decide⟩,
    ⟨sPres, .pf0, 1, by decide, by decide, by decide, by decide, by decide, by decide, by decide⟩,
    ⟨sRun, .pf0, 0, 10, by decide, by decide, by decide, by decide, by decide, by decide⟩,
    ⟨sRun, .pf0, 0, by decide, by decide, by decide, by decide, by decide⟩,
    ⟨sMac0, .pf0, 0, macBucket 0 0 * 8, by decide, by decide, by decide, by decide, by decide +kernel⟩,
    ⟨sRun, .pf0, 0, by decide, by decide, by decide, by decide⟩,
    ⟨sRun, .pf0, 0, by decide, by decide, by decide, by decide⟩,
    ⟨sFlush, ⟨0, false, 0, 1⟩, [], by decide⟩,
    ⟨sPres, .pf0, 0, 0x40000000#32, by decide, by decide, by decide⟩⟩

theorem witness_SecureAssociationCommandsComplete :
    (∃ (s : State) (o : Origin), s.grants o .SEC_SAW_CMD = true ∧ (s.fld F.SEC_SAW_IDX_IDX 0 o.grp) < 73728) ∧
    (∃ (s : State) (o : Origin), s.grants o .SEC_SAW_CMD = true ∧ o.isCore = true ∧ (s.fld F.SEC_SAW_IDX_IDX 0 o.grp) < 73728 ∧ (s.sa (s.fld F.SEC_SAW_IDX_IDX 0 o.grp)).installed = false ∧ (s.sa (s.fld F.SEC_SAW_IDX_IDX 0 o.grp)).retired = false ∧ ((s.fld F.SEC_SAW_IDX_IDX 0 o.grp) < 8192 ∨ (s.rsc (((s.fld F.SEC_SAW_IDX_IDX 0 o.grp) - 8192) / 4)).valid = true) ∧ s.secyValid (s.saSecy (s.fld F.SEC_SAW_IDX_IDX 0 o.grp)) = true ∧ s.sawPn o.grp ≠ 0 ∧ s.pnWide (s.fld F.SEC_SAW_IDX_IDX 0 o.grp) (s.sawPn o.grp) = false ∧ (s.saSlot (s.fld F.SEC_SAW_DATA0_KEY_SLOT 0 o.grp)).st = .held ∧ (s.saSlot (s.fld F.SEC_SAW_DATA0_KEY_SLOT 0 o.grp)).klen = s.suiteKey (s.saSecy (s.fld F.SEC_SAW_IDX_IDX 0 o.grp)) ∧ s.ownsSlot o (s.fld F.SEC_SAW_DATA0_KEY_SLOT 0 o.grp) = true) ∧
    (∃ (s : State) (o : Origin), s.grants o .SEC_SAW_CMD = true ∧ o.isCore = true ∧ s.fld F.SEC_SAW_IDX_IDX 0 o.grp < 73728) ∧
    (∃ (s : State) (o : Origin), s.grants o .SEC_SAW_CMD = true ∧ o.isCore = true ∧ (s.fld F.SEC_SAW_IDX_IDX 0 o.grp) < 73728 ∧ (s.sa (s.fld F.SEC_SAW_IDX_IDX 0 o.grp)).installed = true ∧ s.pnWide (s.fld F.SEC_SAW_IDX_IDX 0 o.grp) (s.sawPn o.grp) = false ∧ (s.sa (s.fld F.SEC_SAW_IDX_IDX 0 o.grp)).pn ≤ s.sawPn o.grp) ∧
    (∃ (s : State) (o : Origin), s.grants o .SEC_SAW_CMD = true ∧ o.isCore = true ∧ (s.fld F.SEC_SAW_IDX_IDX 0 o.grp) < 8192) ∧
    (∃ (s : State) (o : Origin), s.grants o .SEC_SAW_CMD = true ∧ o.isCore = true ∧ (s.fld F.SEC_SAW_IDX_IDX 0 o.grp) < 8192) ∧
    (∃ (s : State) (o : Origin), s.grants o .SEC_SAW_CMD = true ∧ o.isCore = true ∧ (s.fld F.SEC_SAW_IDX_IDX 0 o.grp) < 8192 ∧ (s.sa (s.fld F.SEC_SAW_IDX_IDX 0 o.grp)).installed = true) ∧
    (∃ (s : State) (o : Origin), s.grants o .SEC_RSCW_CMD = true) ∧
    (∃ (s : State) (o : Origin), s.grants o .SEC_RSCW_CMD = true ∧ o.isCore = true ∧ (s.rsc (s.fld F.SEC_RSCW_IDX_IDX 0 o.grp)).valid = false ∧ s.rscOk (bits (s.word .SEC_RSCW_DATA0 0 o.grp) 10 0) (BitVec.ofNat 64 ((((s.words .SEC_RSCW_DATA1 2 o.grp)).getD 0 0#32).toNat + (((s.words .SEC_RSCW_DATA1 2 o.grp)).getD 1 0#32).toNat * 2 ^ 32)) (bits (s.word .SEC_RSCW_DATA0 0 o.grp) 30 30 == 1) = true) ∧
    (∃ (s : State) (o : Origin), s.grants o .SEC_RSCW_CMD = true ∧ o.isCore = true ∧ s.rscBusy (s.fld F.SEC_RSCW_IDX_IDX 0 o.grp) = false) ∧
    (∃ (s : State) (sa : Nat), (s.sa sa).retired = true ∧ s.boundTo sa = false) ∧
    (∃ (s : State) (secy : Nat), (s.secy (secy % 2048)).pendValid = true ∧ (s.sa ((secy % 2048) * 4 + (s.secy (secy % 2048)).pendAn)).installed = true) ∧
    (∃ (s : State) (o : Origin) (r : SecReg) (v : W32), s.grants o r.reg r.index = true ∧ s.legal o r.reg r.index v = true ∧ (r.reg = .SEC_SECY_CFG → bits (s.wouldBe o r.reg r.index (copyOf o r.reg) v) 23 22 ≠ 3) ∧ (r.reg = .SEC_SECY_WIN → bits (s.wouldBe o r.reg r.index (copyOf o r.reg) v) 30 0 ≤ 2 ^ 30) ∧ (r.reg = .SEC_CTL → bits (s.wouldBe o r.reg r.index (copyOf o r.reg) v) 7 0 ≤ 250)) ∧
    (∃ (s : State) (o : Origin) (addr : Nat) (i : Nat) (x : RegInfo) (c : W64), s.acuKind o addr false = 0 ∧ coreMem addr = false ∧ findReg addr = some (x, i) ∧ (pd109 x.reg = false ∨ s.obs.on = true) ∧ x.reg.within .SVC_CTL .SVC_TAG3 = false ∧ x.reg ≠ .KEY_PROV_DATA ∧ s.loCounter x.reg i o.grp = some c) ∧
    (∃ (s : State) (o : Origin) (addr : Nat) (i : Nat) (x : RegInfo), s.acuKind o addr false = 0 ∧ coreMem addr = false ∧ findReg addr = some (x, i) ∧ (x.reg = .PWR_VCORE ∨ x.reg = .PWR_TJ ∨ x.reg = .TMG_BUF_MIN ∨ x.reg = .YRD_RO_STAT)) :=
  ⟨⟨sSawIn, .pf0, by decide, by decide⟩,
    ⟨sSawSlot, .core 0, by decide, by decide, by decide, by decide, by decide, by decide, by decide, by decide, by decide, by decide, by decide, by decide⟩,
    ⟨sSawIn, .core 0, by decide, by decide, by decide⟩,
    ⟨sSawIn, .core 0, by decide, by decide, by decide, by decide, by decide, by decide⟩,
    ⟨sSawIn, .core 0, by decide, by decide, by decide⟩,
    ⟨sSawIn, .core 0, by decide, by decide, by decide⟩,
    ⟨sSawIn, .core 0, by decide, by decide, by decide, by decide⟩,
    ⟨sRscIn, .pf0, by decide⟩,
    ⟨sRsc, .core 0, by decide, by decide, by decide, by decide⟩,
    ⟨sRscIn, .core 0, by decide, by decide, by decide⟩,
    ⟨sRet, 0, by decide, by decide⟩,
    ⟨sPend, 0, by decide, by decide⟩,
    ⟨sPres, .pf0, .win 3, 128#32, by decide, by decide, by decide, by decide, by decide⟩,
    ⟨sRun, .pf0, regAddr .CLS_SL_CNT_LO 0, 0, loInfo, 0#64, by decide, by decide, by decide, by decide, by decide, by decide, by decide⟩,
    ⟨sRun, .pf0, regAddr .PWR_TJ 0, 0, tjInfo, by decide, by decide, by decide, by decide⟩⟩

theorem witness_KeyAgreementCommandsComplete :
    (∃ (s : State) (port : Nat) (m : Mkpdu) (n : Nat), s.serving = true ∧ s.receives (64 + port % 64) = true ∧ (((List.range 2048).filter (fun n => s.caValid n && s.caLine n == port % 64)).find? (fun n => (s.ca n).active && (s.cakSlot (s.caCak n)).ckn == m.ckn) = some n) ∧ m.wellFormed = true ∧ s.maskStopped = false ∧ m.icvOk = true ∧ (((s.busCak (s.caCak n) 1).ca n).peers.any (fun p => p.mi == m.mi && decide (m.mn ≤ p.mn)) = false) ∧ m.mi ≠ ((s.busCak (s.caCak n) 1).ca n).mi) ∧
    (∃ (s : State) (ca : Nat), (s.ca (ca % 2048)).active = true ∧ (((((s.ca (ca % 2048)).peers.foldl (fun (t : State) p => t.tellPeer (ca % 2048) p) (s.takeTimes (ca % 2048)))).ca (ca % 2048)).active = true) ∧ ((((s.ca (ca % 2048)).peers.foldl (fun (t : State) p => t.tellPeer (ca % 2048) p) (s.takeTimes (ca % 2048)))).caValid (ca % 2048) = true) ∧ ((((s.ca (ca % 2048)).peers.foldl (fun (t : State) p => t.tellPeer (ca % 2048) p) (s.takeTimes (ca % 2048)))).isActive = true) ∧ (((((s.ca (ca % 2048)).peers.foldl (fun (t : State) p => t.tellPeer (ca % 2048) p) (s.takeTimes (ca % 2048)))).ca (ca % 2048)).mn < 0xFFFFFFFF) ∧ ((((s.ca (ca % 2048)).peers.foldl (fun (t : State) p => t.tellPeer (ca % 2048) p) (s.takeTimes (ca % 2048)))).mkpduReady (ca % 2048) = true)) ∧
    (∃ (s : State) (ca : Nat) (mi : BitVec 96) (p : Peer), s.isActive = true ∧ ((s.ca (ca % 2048)).peers.find? (fun p => p.mi == mi) = some p)) ∧
    (∃ (s : State) (ca : Nat), (s.timesOf (ca % 2048)).sakLife ≠ 0 ∧ (s.ca (ca % 2048)).hasSak = true) ∧
    (∃ (s : State) (ca : Nat), (s.ca (ca % 2048)).wantSak = true ∧ (s.ca (ca % 2048)).isKs = true ∧ (s.ca (ca % 2048)).live ≠ [] ∧ s.isActive = true) ∧
    (∃ (s : State) (ca : Nat) (o : OldSak), ((s.ca (ca % 2048)).olds.find? (fun o => !o.done) = some o)) ∧
    (∃ (s : State) (ca : Nat), (s.ca (ca % 2048)).lastPeerLost = true ∧ (s.ca (ca % 2048)).live = []) ∧
    (∃ (s : State) (ca : Nat), s.caValid (ca % 2048) = true ∧ (s.cakSlot (s.caCak (ca % 2048))).klen ≠ 0 ∧ (s.ca (ca % 2048)).active = false ∧ s.isActive = true) ∧
    (∃ (s : State) (o : Origin), s.grants o .MKA_CAW_CMD = true ∧ s.caValid (s.fld F.MKA_CAW_IDX_CA 0 o.grp) = true) ∧
    (∃ (s : State) (o : Origin) (p : Peer), s.grants o .MKA_CAW_CMD = true ∧ s.caValid (s.fld F.MKA_CAW_IDX_CA 0 o.grp) = true ∧ (s.ca (s.fld F.MKA_CAW_IDX_CA 0 o.grp)).peers[s.fld F.MKA_CAW_IDX_PEER 0 o.grp]? = some p) ∧
    (∃ (s : State) (o : Origin), s.grants o .MKA_CAW_CMD = true ∧ o.main = true ∧ s.caValid (s.fld F.MKA_CAW_IDX_CA 0 o.grp) = true) ∧
    (∃ (s : State) (o : Origin), s.grants o .MKA_CAW_CMD = true ∧ s.presence = true ∧ s.caValid (s.fld F.MKA_CAW_IDX_CA 0 o.grp) = true) ∧
    (∃ (s : State) (o : Origin) (k : Nat) (v : W32), s.grants o (mkaTimeReg k) = true ∧ s.legal o (mkaTimeReg k) 0 v = true ∧ (k % 4 = 0 → 3 * bits (s.wouldBe o (mkaTimeReg k) 0 (copyOf o (mkaTimeReg k)) v) 15 0 ≤ bits (s.wouldBe o (mkaTimeReg k) 0 (copyOf o (mkaTimeReg k)) v) 31 16)) :=
  ⟨⟨sCa, 0, mkpdu0, 0, by decide, by decide, by decide +kernel, by decide, by decide, by decide, by decide, by decide⟩,
    ⟨sCa, 0, by decide, by decide, by decide, by decide, by decide, by decide⟩,
    ⟨sCaPeer, 0, 9#96, peer9, by decide, by decide⟩,
    ⟨sCaSak, 0, by decide, by decide⟩,
    ⟨sCaKs, 0, by decide, by decide, by decide, by decide⟩,
    ⟨sCaOld, 0, ⟨1, 0, 3#32, false⟩, by decide⟩,
    ⟨sCaLost, 0, by decide, by decide⟩,
    ⟨sCaNew, 0, by decide, by decide, by decide, by decide⟩,
    ⟨sCa, .pf0, by decide, by decide⟩,
    ⟨sCaPeer, .pf0, peer9, by decide, by decide, by decide⟩,
    ⟨sCa, .pf0, by decide, by decide, by decide⟩,
    ⟨sCaPres, .pf0, by decide, by decide, by decide⟩,
    ⟨sPres, .pf0, 0, 0x177007D0#32, by decide, by decide, by decide⟩⟩

theorem witness_PresencePairingCompletes :
    (∃ (s : State), s.tck.pressed = false ∧ s.tck.sealBad = false ∧ s.tck.raised.getLsbD 0 = false) ∧
    (∃ (s : State) (ch : PairCh) (pid : W64), PairCh.isTether ch = s.pairing.tether ∧ pid ≠ s.pairing.pid ∧ s.pairing.st = .committing ∧ s.pairing.peerId = none) ∧
    (∃ (s : State) (ch : PairCh) (pid : W64) (nonce : List Byte) (pub : List Byte) (z : List Byte), PairCh.isTether ch = s.pairing.tether ∧ s.pairing.st = .committing ∧ s.pairing.peerId = some pid ∧ sha384 (pub ++ nonce) = s.pairing.commit ∧ ecdh s.pairing.priv pub = some z) ∧
    (∃ (s : State) (ch : PairCh) (pid : W64) (tag : List Byte), PairCh.isTether ch = s.pairing.tether ∧ s.pairing.derived = true ∧ s.pairing.peerId = some pid ∧ (s.pairing.st = .showing ∨ s.pairing.st = .confirmed) ∧ tag = cmac s.pairing.kconf (s.pairing.t ++ beOctets 8 pid.toNat)) ∧
    (∃ (s : State), (s.pairing.st = .committing ∨ s.pairing.st = .showing ∨ s.pairing.st = .confirmed)) ∧
    (∃ (s : State), s.pairing.st = .committing) ∧
    (∃ (s : State), (s.pairing.st = .showing ∨ s.pairing.st = .confirmed)) ∧
    (∃ (s : State), (s.pairing.st = .showing ∨ s.pairing.st = .confirmed)) ∧
    (∃ (s : State), (s.pairing.st = .stored ∨ s.pairing.st = .failed)) :=
  ⟨⟨sRun, by decide, by decide, by decide⟩,
    ⟨sPairC, .line 0, 7#64, by decide, by decide, by decide, by decide⟩,
    ⟨sPairR, .line 0, 7#64, [], gPub, gX, by decide, by decide, by decide, by decide +kernel, by decide +kernel⟩,
    ⟨sPairS, .line 0, 7#64, cmac sPairS.pairing.kconf (sPairS.pairing.t ++ beOctets 8 7), by decide, by decide, by decide, by decide, rfl⟩,
    ⟨sPairC, by decide⟩,
    ⟨sPairC, by decide⟩,
    ⟨sPairS, by decide⟩,
    ⟨sPairS, by decide⟩,
    ⟨sPairF, by decide⟩⟩

theorem witness_KeyStoreCommandsComplete :
    (∃ (s : State), s.maskStopped = false) ∧
    (∃ (s : State) (o : Origin), s.grants o .KEY_SLOTW_CMD = true) ∧
    (∃ (s : State) (o : Origin) (k : Nat), s.grants o .KEY_SLOTW_CMD = true ∧ o.isCore = true ∧ s.freeSlot = some k) ∧
    (∃ (s : State) (o : Origin), s.grants o .KEY_SLOTW_CMD = true ∧ o.isCore = true ∧ (s.saSlot (s.fld F.KEY_SLOTW_IDX_SLOT 0 o.grp)).st = .held ∧ s.ownsSlot o (s.fld F.KEY_SLOTW_IDX_SLOT 0 o.grp) = true) ∧
    (∃ (s : State) (o : Origin), s.grants o .KEY_SLOTW_CMD = true ∧ o.isCore = true ∧ (s.saSlot (s.fld F.KEY_SLOTW_IDX_SLOT 0 o.grp)).st = .held ∧ s.ownsSlot o (s.fld F.KEY_SLOTW_IDX_SLOT 0 o.grp) = true ∧ s.zeroized = false ∧ (s.saSlot (s.fld F.KEY_SLOTW_IDX_SLOT 0 o.grp)).klen = 0 ∧ s.drbgKOk = true) ∧
    (∃ (s : State) (o : Origin), s.grants o .KEY_SLOTW_CMD = true ∧ o.isCore = true ∧ (s.saSlot (s.fld F.KEY_SLOTW_IDX_SLOT 0 o.grp)).st = .held ∧ s.ownsSlot o (s.fld F.KEY_SLOTW_IDX_SLOT 0 o.grp) = true ∧ s.zeroized = false ∧ (s.saSlot (s.fld F.KEY_SLOTW_IDX_SLOT 0 o.grp)).klen = 0 ∧ s.drbgKOk = true) ∧
    (∃ (s : State) (o : Origin), s.grants o .KEY_CAKW_CMD = true) ∧
    (∃ (s : State) (o : Origin), s.grants o .KEY_CAKW_CMD = true ∧ o.pfIa = true ∧ s.presence = true ∧ (s.ledger.caks.any (fun r => r.1 == (s.fld F.KEY_CAKW_IDX_SLOT 0 o.grp)) = true) ∧ (((s.cmdErr .KEY_CAKW_CMD o.grp 0).eraseCak (s.fld F.KEY_CAKW_IDX_SLOT 0 o.grp)).cakSlot (s.fld F.KEY_CAKW_IDX_SLOT 0 o.grp)).image = false) :=
  ⟨⟨sRun, by decide⟩,
    ⟨sRun, .pf0, by decide⟩,
    ⟨sRun, .core 0, 0, by decide, by decide, by decide⟩,
    ⟨sHeldK, .core 0, by decide, by decide, by decide, by decide⟩,
    ⟨sHeldK, .core 0, by decide, by decide, by decide, by decide, by decide, by decide, by decide⟩,
    ⟨sHeldK, .core 0, by decide, by decide, by decide, by decide, by decide, by decide, by decide⟩,
    ⟨sRun, .pf0, by decide⟩,
    ⟨sLedCak, .pf0, by decide, by decide, by decide, by decide, by decide⟩⟩

theorem witness_ProvisioningAndEntropyComplete :
    (∃ (s : State) (o : Origin), s.grants o .KEY_PROV_CMD = true ∧ o.pfIa = true ∧ s.presence = true ∧ s.drbgKOk = true) ∧
    (∃ (s : State) (o : Origin) (key : List Byte) (ckn : List Byte), s.grants o .KEY_PROV_CMD = true ∧ o.pfIa = true ∧ s.presence = true ∧ s.prov.active = true ∧ s.zeroized = false ∧ s.prov.check = some (key, ckn) ∧ (s.storeCak s.prov.slot key ckn).2 = true) ∧
    (∃ (s : State) (o : Origin), s.grants o .KEY_PROV_CMD = true ∧ o.pfIa = true ∧ s.presence = true ∧ s.prov.active = true) ∧
    (∃ (s : State) (o : Origin) (write : Bool), s.grants o .KEY_PROV_DATA = true ∧ write = true ∧ s.presence = true ∧ o.pfIa = true ∧ s.prov.active = true) ∧
    (∃ (s : State) (o : Origin) (write : Bool), s.readable o .KEY_PROV_DATA = true ∧ write = false) ∧
    (∃ (s : State), s.prov.active = true) ∧
    (∃ (s : State) (o : Origin) (v : W32), s.grants o .KEY_ZERO = true ∧ s.presence = true ∧ v = 0x5A3C#32) ∧
    (∃ (s : State), s.rng.esFail = false) ∧
    (∃ (s : State), s.rng.esFail = false ∧ s.rng.lastFail = none) ∧
    (∃ (s : State) (t : Nat), s.rng.esFail = false ∧ s.rng.lastFail = some t) ∧
    (∃ (s : State), s.rng.retest = true) :=
  ⟨⟨sPres, .pf0, by decide, by decide, by decide, by decide⟩,
    ⟨sProvIn, .pf0, key0, [1#8], by decide, by decide, by decide, by decide, by decide, by decide +kernel, by decide⟩,
    ⟨sProv, .pf0, by decide, by decide, by decide, by decide⟩,
    ⟨sProv, .pf0, true, by decide, by decide, by decide, by decide, by decide⟩,
    ⟨sProv, .pf0, false, by decide, by decide⟩,
    ⟨sProv, by decide⟩,
    ⟨sPres, .pf0, 0x5A3C#32, by decide, by decide, by decide⟩,
    ⟨sRun, by decide⟩,
    ⟨sRun, by decide, by decide⟩,
    ⟨sEsAgain, 0, by decide, by decide⟩,
    ⟨sRetest, by decide⟩⟩

theorem witness_ServiceCipherStarts :
    (∃ (s : State) (o : Origin) (ctx : Nat) (k : List Byte), s.grants o .SVC_CTL (ctx % 32) = true ∧ o.ownsCtx (ctx % 32) = true ∧ (s.svcCtx (ctx % 32)).busy = false ∧ s.maskStopped = false ∧ (s.svcKey o (s.svcCtx (ctx % 32)) (s.svcKeyWord ctx)).toOption = some k ∧ s.svcDeny o ((s.word .SVC_SRC (ctx % 32)).toNat) (s.svcLen ctx) false = none ∧ s.svcDeny o ((s.word .SVC_DST (ctx % 32)).toNat) (((blocks16 ((s.rdMem ((s.word .SVC_SRC (ctx % 32)).toNat) (s.svcLen ctx)).take ((s.rdMem ((s.word .SVC_SRC (ctx % 32)).toNat) (s.svcLen ctx)).length / 16 * 16))).map (aesEnc k)).flatten).length true = none) ∧
    (∃ (s : State) (o : Origin) (ctx : Nat) (k : List Byte), s.grants o .SVC_CTL (ctx % 32) = true ∧ o.ownsCtx (ctx % 32) = true ∧ (s.svcCtx (ctx % 32)).busy = false ∧ s.maskStopped = false ∧ (s.svcKey o (s.svcCtx (ctx % 32)) (s.svcKeyWord ctx)).toOption = some k ∧ s.svcDeny o ((s.word .SVC_SRC (ctx % 32)).toNat) (s.svcLen ctx) false = none ∧ s.svcDeny o ((s.word .SVC_DST (ctx % 32)).toNat) (((blocks16 ((s.rdMem ((s.word .SVC_SRC (ctx % 32)).toNat) (s.svcLen ctx)).take ((s.rdMem ((s.word .SVC_SRC (ctx % 32)).toNat) (s.svcLen ctx)).length / 16 * 16))).map (aesDec k)).flatten).length true = none) ∧
    (∃ (s : State) (o : Origin) (ctx : Nat) (k : List Byte), s.grants o .SVC_CTL (ctx % 32) = true ∧ o.ownsCtx (ctx % 32) = true ∧ (s.svcCtx (ctx % 32)).busy = false ∧ s.maskStopped = false ∧ (s.svcKey o (s.svcCtx (ctx % 32)) (s.svcKeyWord ctx)).toOption = some k ∧ s.svcDeny o ((s.word .SVC_SRC (ctx % 32)).toNat) (s.svcLen ctx) false = none ∧ s.svcDeny o ((s.word .SVC_DST (ctx % 32)).toNat) (cbcEnc k (((s.drbgM ((s.svcLen ctx) / 16 + 1)).svcBus (s.svcKeyWord ctx)).svcIv ctx ++ zeros 4) (blocks16 ((s.rdMem ((s.word .SVC_SRC (ctx % 32)).toNat) (s.svcLen ctx)).take ((s.rdMem ((s.word .SVC_SRC (ctx % 32)).toNat) (s.svcLen ctx)).length / 16 * 16)))).1.length true = none) ∧
    (∃ (s : State) (o : Origin) (ctx : Nat) (k : List Byte), s.grants o .SVC_CTL (ctx % 32) = true ∧ o.ownsCtx (ctx % 32) = true ∧ (s.svcCtx (ctx % 32)).busy = false ∧ s.maskStopped = false ∧ (s.svcKey o (s.svcCtx (ctx % 32)) (s.svcKeyWord ctx)).toOption = some k ∧ s.svcDeny o ((s.word .SVC_SRC (ctx % 32)).toNat) (s.svcLen ctx) false = none ∧ s.svcDeny o ((s.word .SVC_DST (ctx % 32)).toNat) (cbcDec k (((s.drbgM ((s.svcLen ctx) / 16 + 1)).svcBus (s.svcKeyWord ctx)).svcIv ctx ++ zeros 4) (blocks16 ((s.rdMem ((s.word .SVC_SRC (ctx % 32)).toNat) (s.svcLen ctx)).take ((s.rdMem ((s.word .SVC_SRC (ctx % 32)).toNat) (s.svcLen ctx)).length / 16 * 16)))).1.length true = none) ∧
    (∃ (s : State) (o : Origin) (ctx : Nat) (k : List Byte), s.grants o .SVC_CTL (ctx % 32) = true ∧ o.ownsCtx (ctx % 32) = true ∧ (s.svcCtx (ctx % 32)).busy = false ∧ s.maskStopped = false ∧ (s.svcKey o (s.svcCtx (ctx % 32)) (s.svcKeyWord ctx)).toOption = some k ∧ s.svcDeny o ((s.word .SVC_SRC (ctx % 32)).toNat) (s.svcLen ctx) false = none ∧ s.svcDeny o ((s.word .SVC_DST (ctx % 32)).toNat) (ctrMode k (blkBits (((s.drbgM ((s.svcLen ctx) / 16 + 1)).svcBus (s.svcKeyWord ctx)).svcIv ctx ++ [0#8, 0#8, 0#8, 1#8])) (blocks16 ((s.rdMem ((s.word .SVC_SRC (ctx % 32)).toNat) (s.svcLen ctx))))).length true = none) ∧
    (∃ (s : State) (o : Origin) (ctx : Nat) (k : List Byte), s.grants o .SVC_CTL (ctx % 32) = true ∧ o.ownsCtx (ctx % 32) = true ∧ (s.svcCtx (ctx % 32)).busy = false ∧ s.maskStopped = false ∧ (s.svcKey o (s.svcCtx (ctx % 32)) (s.svcKeyWord ctx)).toOption = some k ∧ s.svcDeny o ((s.word .SVC_SRC (ctx % 32)).toNat) (s.svcAad ctx + s.svcLen ctx) false = none ∧ s.svcDeny o ((s.word .SVC_DST (ctx % 32)).toNat) (gcmEnc k (beOctets 12 (BitVec.toNat (((s.svcCtx (ctx % 32)).under (ctxKeyId (s.svcKeyWord ctx) k)).ivFix ++ ((s.svcCtx (ctx % 32)).under (ctxKeyId (s.svcKeyWord ctx) k)).ivCnt))) ((s.rdMem ((s.word .SVC_SRC (ctx % 32)).toNat) (s.svcAad ctx + s.svcLen ctx)).take (s.svcAad ctx)) ((s.rdMem ((s.word .SVC_SRC (ctx % 32)).toNat) (s.svcAad ctx + s.svcLen ctx)).drop (s.svcAad ctx))).1.length true = none ∧ ((s.svcCtx (ctx % 32)).under (ctxKeyId (s.svcKeyWord ctx) k)).ivCnt ≠ 0#64) ∧
    (∃ (s : State) (o : Origin) (ctx : Nat) (k : List Byte), s.grants o .SVC_CTL (ctx % 32) = true ∧ o.ownsCtx (ctx % 32) = true ∧ (s.svcCtx (ctx % 32)).busy = false ∧ s.maskStopped = false ∧ (s.svcKey o (s.svcCtx (ctx % 32)) (s.svcKeyWord ctx)).toOption = some k ∧ s.svcDeny o ((s.word .SVC_SRC (ctx % 32)).toNat) (s.svcAad ctx + s.svcLen ctx) false = none ∧ s.svcDeny o ((s.word .SVC_DST (ctx % 32)).toNat) (gcmEnc k (beOctets 12 (BitVec.toNat (((((((s.drbgM ((s.svcAad ctx + s.svcLen ctx) / 16 + 1)).svcBus (s.svcKeyWord ctx)).drbgReq.draw).1.setWidth 32 : W32)) ++ 1#64 : BitVec 96)))) ((s.rdMem ((s.word .SVC_SRC (ctx % 32)).toNat) (s.svcAad ctx + s.svcLen ctx)).take (s.svcAad ctx)) ((s.rdMem ((s.word .SVC_SRC (ctx % 32)).toNat) (s.svcAad ctx + s.svcLen ctx)).drop (s.svcAad ctx))).1.length true = none ∧ ((s.svcCtx (ctx % 32)).under (ctxKeyId (s.svcKeyWord ctx) k)).ivCnt = 0#64 ∧ ((s.drbgM ((s.svcAad ctx + s.svcLen ctx) / 16 + 1)).svcBus (s.svcKeyWord ctx)).drbgKOk = true) ∧
    (∃ (s : State) (o : Origin) (ctx : Nat) (k : List Byte), s.grants o .SVC_CTL (ctx % 32) = true ∧ o.ownsCtx (ctx % 32) = true ∧ (s.svcCtx (ctx % 32)).busy = false ∧ s.maskStopped = false ∧ (s.svcKey o (s.svcCtx (ctx % 32)) (s.svcKeyWord ctx)).toOption = some k ∧ s.svcDeny o ((s.word .SVC_SRC (ctx % 32)).toNat) (s.svcAad ctx + s.svcLen ctx) false = none ∧ s.svcDeny o ((s.word .SVC_DST (ctx % 32)).toNat) (gcmDec k (((s.drbgM ((s.svcAad ctx + s.svcLen ctx) / 16 + 1)).svcBus (s.svcKeyWord ctx)).svcIv ctx) ((s.rdMem ((s.word .SVC_SRC (ctx % 32)).toNat) (s.svcAad ctx + s.svcLen ctx)).take (s.svcAad ctx)) ((s.rdMem ((s.word .SVC_SRC (ctx % 32)).toNat) (s.svcAad ctx + s.svcLen ctx)).drop (s.svcAad ctx)) (((s.drbgM ((s.svcAad ctx + s.svcLen ctx) / 16 + 1)).svcBus (s.svcKeyWord ctx)).svcTag ctx)).1.length true = none) ∧
    (∃ (s : State) (o : Origin) (ctx : Nat) (k : List Byte), s.grants o .SVC_CTL (ctx % 32) = true ∧ o.ownsCtx (ctx % 32) = true ∧ (s.svcCtx (ctx % 32)).busy = false ∧ s.maskStopped = false ∧ (s.svcKey o (s.svcCtx (ctx % 32)) (s.svcKeyWord ctx)).toOption = some k ∧ s.svcDeny o ((s.word .SVC_SRC (ctx % 32)).toNat) (s.svcLen ctx) false = none) ∧
    (∃ (s : State) (o : Origin) (ctx : Nat) (fromSlot : Bool) (k : List Byte), fromSlot = false ∧ s.grants o .SVC_CTL (ctx % 32) = true ∧ o.ownsCtx (ctx % 32) = true ∧ (s.svcCtx (ctx % 32)).busy = false ∧ s.maskStopped = false ∧ (s.svcKey o (s.svcCtx (ctx % 32)) (s.svcKeyWord ctx)).toOption = some k ∧ s.svcDeny o ((s.word .SVC_SRC (ctx % 32)).toNat) (s.svcLen ctx / 8 * 8) false = none ∧ s.svcDeny o ((s.word .SVC_DST (ctx % 32)).toNat) (keyWrap k (s.rdMem ((s.word .SVC_SRC (ctx % 32)).toNat) (s.svcLen ctx / 8 * 8))).length true = none) ∧
    (∃ (s : State) (o : Origin) (ctx : Nat) (fromSlot : Bool) (k : List Byte) (d : List Byte), fromSlot = true ∧ bits (s.svcKeyWord ctx) 31 29 ≠ 0 ∧ s.grants o .SVC_CTL (ctx % 32) = true ∧ o.ownsCtx (ctx % 32) = true ∧ (s.svcCtx (ctx % 32)).busy = false ∧ s.maskStopped = false ∧ (s.svcKey o (s.svcCtx (ctx % 32)) (s.svcKeyWord ctx)).toOption = some k ∧ ((((s.drbgM ((0) / 16 + 1)).svcBus (s.svcKeyWord ctx)).svcKey o ((s.svcCtx (ctx % 32)).under (ctxKeyId (s.svcKeyWord ctx) k)) ((if bits (((s.drbgM ((0) / 16 + 1)).svcBus (s.svcKeyWord ctx)).word .SVC_SRC (ctx % 32)) 31 29 = 0 then depo (((s.drbgM ((0) / 16 + 1)).svcBus (s.svcKeyWord ctx)).word .SVC_SRC (ctx % 32)) 31 29 1 else ((s.drbgM ((0) / 16 + 1)).svcBus (s.svcKeyWord ctx)).word .SVC_SRC (ctx % 32)))).toOption = some d) ∧ s.svcDeny o ((s.word .SVC_DST (ctx % 32)).toNat) (keyWrap k d).length true = none) ∧
    (∃ (s : State) (o : Origin) (ctx : Nat) (toSlot : Bool) (k : List Byte) (d : List Byte), toSlot = false ∧ bits (s.svcKeyWord ctx) 31 29 = 0 ∧ s.grants o .SVC_CTL (ctx % 32) = true ∧ o.ownsCtx (ctx % 32) = true ∧ (s.svcCtx (ctx % 32)).busy = false ∧ s.maskStopped = false ∧ (s.svcKey o (s.svcCtx (ctx % 32)) (s.svcKeyWord ctx)).toOption = some k ∧ s.svcDeny o ((s.word .SVC_SRC (ctx % 32)).toNat) (s.svcLen ctx) false = none ∧ s.svcDeny o ((s.word .SVC_DST (ctx % 32)).toNat) d.length true = none ∧ keyUnwrap k (s.rdMem ((s.word .SVC_SRC (ctx % 32)).toNat) (s.svcLen ctx)) = some d) ∧
    (∃ (s : State) (o : Origin) (ctx : Nat) (toSlot : Bool) (k : List Byte) (d : List Byte), toSlot = true ∧ ((s.drbgM ((s.svcLen ctx) / 16 + 1)).svcBus (s.svcKeyWord ctx)).svcDst o ctx = 0 ∧ (d.length = 16 ∨ d.length = 32) ∧ s.grants o .SVC_CTL (ctx % 32) = true ∧ o.ownsCtx (ctx % 32) = true ∧ (s.svcCtx (ctx % 32)).busy = false ∧ s.maskStopped = false ∧ (s.svcKey o (s.svcCtx (ctx % 32)) (s.svcKeyWord ctx)).toOption = some k ∧ s.svcDeny o ((s.word .SVC_SRC (ctx % 32)).toNat) (s.svcLen ctx) false = none ∧ keyUnwrap k (s.rdMem ((s.word .SVC_SRC (ctx % 32)).toNat) (s.svcLen ctx)) = some d) :=
  ⟨⟨sSvc, .core 0, 0, key0, by decide, by decide, by decide, by decide, by decide, by decide, by decide +kernel⟩,
    ⟨sSvc, .core 0, 0, key0, by decide, by decide, by decide, by decide, by decide, by decide, by decide +kernel⟩,
    ⟨sSvc, .core 0, 0, key0, by decide, by decide, by decide, by decide, by decide, by decide, by decide +kernel⟩,
    ⟨sSvc, .core 0, 0, key0, by decide, by decide, by decide, by decide, by decide, by decide, by decide +kernel⟩,
    ⟨sSvc, .core 0, 0, key0, by decide, by decide, by decide, by decide, by decide, by decide, by decide +kernel⟩,
    ⟨sSvcIv, .core 0, 0, key0, by decide, by decide, by decide, by decide, by decide, by decide, by decide +kernel, by decide +kernel⟩,
    ⟨sSvcZ, .core 0, 0, key0, by decide, by decide, by decide, by decide, by decide, by decide, by decide +kernel, by decide +kernel, by decide⟩,
    ⟨sSvc, .core 0, 0, key0, by decide, by decide, by decide, by decide, by decide, by decide, by decide +kernel⟩,
    ⟨sSvc, .core 0, 0, key0, by decide, by decide, by decide, by decide, by decide, by decide⟩,
    ⟨sSvc, .core 0, 0, false, key0, by decide, by decide, by decide, by decide, by decide, by decide, by decide, by decide +kernel⟩,
    ⟨sSvcSl, .core 0, 0, true, key0, key0, by decide, by decide, by decide, by decide, by decide, by decide, by decide, by decide +kernel, by decide +kernel⟩,
    ⟨sSvcWrap, .core 0, 0, false, key0, List.replicate 16 7#8, by decide, by decide, by decide, by decide, by decide, by decide, by decide, by decide, by decide, by decide +kernel⟩,
    ⟨sSvcWrapS, .core 0, 0, true, key0, List.replicate 16 7#8, by decide, by decide, by decide, by decide, by decide, by decide, by decide, by decide, by decide, by decide +kernel⟩⟩

theorem witness_ServiceCipherDerivesAndKeeps :
    (∃ (s : State) (o : Origin) (ctx : Nat) (toSlot : Bool) (k : List Byte), toSlot = false ∧ bits (s.svcKeyWord ctx) 31 29 = 0 ∧ s.grants o .SVC_CTL (ctx % 32) = true ∧ o.ownsCtx (ctx % 32) = true ∧ (s.svcCtx (ctx % 32)).busy = false ∧ s.maskStopped = false ∧ (s.svcKey o (s.svcCtx (ctx % 32)) (s.svcKeyWord ctx)).toOption = some k ∧ s.svcDeny o ((s.word .SVC_SRC (ctx % 32)).toNat) (s.svcAad ctx + s.svcLen ctx) false = none ∧ s.svcDeny o ((s.word .SVC_DST (ctx % 32)).toNat) (kdfOct k ((s.rdMem ((s.word .SVC_SRC (ctx % 32)).toNat) (s.svcAad ctx + s.svcLen ctx)).drop (s.svcAad ctx)) ((s.rdMem ((s.word .SVC_SRC (ctx % 32)).toNat) (s.svcAad ctx + s.svcLen ctx)).take (s.svcAad ctx)) k.length).length true = none) ∧
    (∃ (s : State) (o : Origin) (ctx : Nat) (toSlot : Bool) (k : List Byte), toSlot = true ∧ ((s.drbgM ((s.svcAad ctx + s.svcLen ctx) / 16 + 1)).svcBus (s.svcKeyWord ctx)).svcDst o ctx = 0 ∧ ((kdfOct k ((s.rdMem ((s.word .SVC_SRC (ctx % 32)).toNat) (s.svcAad ctx + s.svcLen ctx)).drop (s.svcAad ctx)) ((s.rdMem ((s.word .SVC_SRC (ctx % 32)).toNat) (s.svcAad ctx + s.svcLen ctx)).take (s.svcAad ctx)) k.length).length = 16 ∨ (kdfOct k ((s.rdMem ((s.word .SVC_SRC (ctx % 32)).toNat) (s.svcAad ctx + s.svcLen ctx)).drop (s.svcAad ctx)) ((s.rdMem ((s.word .SVC_SRC (ctx % 32)).toNat) (s.svcAad ctx + s.svcLen ctx)).take (s.svcAad ctx)) k.length).length = 32) ∧ s.grants o .SVC_CTL (ctx % 32) = true ∧ o.ownsCtx (ctx % 32) = true ∧ (s.svcCtx (ctx % 32)).busy = false ∧ s.maskStopped = false ∧ (s.svcKey o (s.svcCtx (ctx % 32)) (s.svcKeyWord ctx)).toOption = some k ∧ s.svcDeny o ((s.word .SVC_SRC (ctx % 32)).toNat) (s.svcAad ctx + s.svcLen ctx) false = none) ∧
    (∃ (s : State) (o : Origin) (ctx : Nat) (wrapped : Bool), (wrapped = false → bits (s.svcKeyWord ctx) 31 29 = 0) ∧ (wrapped = true → s.ctxKey.present = true) ∧ s.grants o .SVC_CTL (ctx % 32) = true ∧ o.ownsCtx (ctx % 32) = true ∧ (s.svcCtx (ctx % 32)).busy = false ∧ s.maskStopped = false ∧ (s.svcDeny o ((s.word .SVC_DST (ctx % 32)).toNat) ((if wrapped then keyWrap (s.drbgM (0 / 16 + 1)).ctxKeyOct ((s.svcCtx (ctx % 32)).save (s.svcKeyWord ctx)) else (s.svcCtx (ctx % 32)).save (s.svcKeyWord ctx))).length true = none)) ∧
    (∃ (s : State) (o : Origin) (ctx : Nat) (wrapped : Bool) (l : List Byte), (wrapped = false → bits (s.svcKeyWord ctx) 31 29 = 0) ∧ (wrapped = true → s.ctxKey.present = true) ∧ ((if wrapped then keyUnwrap (s.drbgM (((if wrapped then 104 else 96)) / 16 + 1)).ctxKeyOct (s.rdMem ((s.word .SVC_SRC (ctx % 32)).toNat) ((if wrapped then 104 else 96))) else some (s.rdMem ((s.word .SVC_SRC (ctx % 32)).toNat) ((if wrapped then 104 else 96)))) = some l) ∧ beAt l 1 4 = (s.svcKeyWord ctx).toNat ∧ s.grants o .SVC_CTL (ctx % 32) = true ∧ o.ownsCtx (ctx % 32) = true ∧ (s.svcCtx (ctx % 32)).busy = false ∧ s.maskStopped = false ∧ (s.svcDeny o ((s.word .SVC_SRC (ctx % 32)).toNat) ((if wrapped then 104 else 96)) false = none)) ∧
    (∃ (s : State) (o : Origin) (ctx : Nat) (toSlot : Bool), toSlot = false ∧ ((s.drbgM (0 / 16 + 1)).drbgTake (((s.drbgM (0 / 16 + 1)).svcLen ctx) / 512 + 1) ((s.drbgM (0 / 16 + 1)).svcLen ctx)).isSome = true ∧ s.grants o .SVC_CTL (ctx % 32) = true ∧ o.ownsCtx (ctx % 32) = true ∧ (s.svcCtx (ctx % 32)).busy = false ∧ s.maskStopped = false ∧ s.svcDeny o ((s.word .SVC_DST (ctx % 32)).toNat) ((((s.drbgM (0 / 16 + 1)).drbgTake (((s.drbgM (0 / 16 + 1)).svcLen ctx) / 512 + 1) ((s.drbgM (0 / 16 + 1)).svcLen ctx)).getD ([], s))).1.length true = none) ∧
    (∃ (s : State) (o : Origin) (ctx : Nat) (toSlot : Bool), toSlot = true ∧ (((s.drbgM (0 / 16 + 1)).drbgTake (((if (s.drbgM (0 / 16 + 1)).svcLen ctx = 16 then 16 else 32)) / 512 + 1) ((if (s.drbgM (0 / 16 + 1)).svcLen ctx = 16 then 16 else 32))).isSome = true) ∧ (((((s.drbgM (0 / 16 + 1)).drbgTake (((if (s.drbgM (0 / 16 + 1)).svcLen ctx = 16 then 16 else 32)) / 512 + 1) ((if (s.drbgM (0 / 16 + 1)).svcLen ctx = 16 then 16 else 32))).getD ([], s))).2.svcDst o ctx = 0) ∧ (((((s.drbgM (0 / 16 + 1)).drbgTake (((if (s.drbgM (0 / 16 + 1)).svcLen ctx = 16 then 16 else 32)) / 512 + 1) ((if (s.drbgM (0 / 16 + 1)).svcLen ctx = 16 then 16 else 32))).getD ([], s))).1.length = 16 ∨ ((((s.drbgM (0 / 16 + 1)).drbgTake (((if (s.drbgM (0 / 16 + 1)).svcLen ctx = 16 then 16 else 32)) / 512 + 1) ((if (s.drbgM (0 / 16 + 1)).svcLen ctx = 16 then 16 else 32))).getD ([], s))).1.length = 32) ∧ s.grants o .SVC_CTL (ctx % 32) = true ∧ o.ownsCtx (ctx % 32) = true ∧ (s.svcCtx (ctx % 32)).busy = false ∧ s.maskStopped = false) ∧
    (∃ (s : State) (o : Origin) (ctx : Nat), s.grants o .SVC_CTL (ctx % 32) = true ∧ o.ownsCtx (ctx % 32) = true ∧ (s.svcCtx (ctx % 32)).busy = false ∧ s.maskStopped = false ∧ (s.svcDeny o ((s.word .SVC_SRC (ctx % 32)).toNat) ((if s.svcLen ctx = 16 then 16 else 32)) false = none)) ∧
    (∃ (s : State) (ctx : Nat), (s.svcCtx (ctx % 32)).busy = true ∧ (s.svcCtx (ctx % 32)).resErr = 0 ∧ (s.svcCtx (ctx % 32)).resSlot = none) ∧
    (∃ (s : State) (ctx : Nat) (k : Nat) (key : List Byte), (s.svcCtx (ctx % 32)).busy = true ∧ (s.svcCtx (ctx % 32)).resErr = 0 ∧ (s.svcCtx (ctx % 32)).resMem = none ∧ (s.svcCtx (ctx % 32)).resTag = none ∧ (s.svcCtx (ctx % 32)).resIv = none ∧ (s.svcCtx (ctx % 32)).resSlot = some (k, key) ∧ s.zeroized = false ∧ (s.saSlot k).st = .held ∧ (s.saSlot k).klen = 0) :=
  ⟨⟨sSvc, .core 0, 0, false, key0, by decide, by decide, by decide, by decide, by decide, by decide, by decide, by decide, by decide +kernel⟩,
    ⟨sSvcDst, .core 0, 0, true, key0, by decide, by decide, by decide +kernel, by decide, by decide, by decide, by decide, by decide, by decide⟩,
    ⟨sSvc, .core 0, 0, false, by decide, by decide, by decide, by decide, by decide, by decide, by decide⟩,
    ⟨sSvc, .core 0, 0, false, zeros 96, by decide, by decide, by decide, by decide, by decide, by decide, by decide, by decide, by decide⟩,
    ⟨sSvc, .core 0, 0, false, by decide, by decide, by decide, by decide, by decide, by decide, by decide⟩,
    ⟨sSvcDst, .core 0, 0, true, by decide, by decide, by decide, by decide, by decide, by decide, by decide, by decide⟩,
    ⟨sSvc, .core 0, 0, by decide, by decide, by decide, by decide, by decide⟩,
    ⟨sSvcBusy, 0, by decide, by decide, by decide⟩,
    ⟨sSvcSlot, 0, 3, key0, by decide, by decide, by decide, by decide, by decide, by decide, by decide, by decide, by decide⟩⟩

theorem witness_EngineCommandsComplete :
    (∃ (s : State) (o : Origin), s.grants o .ENG_TPL_CMD = true) ∧
    (∃ (s : State) (o : Origin), s.grants o .ENG_TPL_CMD = true) ∧
    (∃ (s : State) (rx : Bool) (sc : Nat), ((s.scSet (if rx then 2048 + sc % 16384 else sc % 2048)).want ≠ 0) ∧ ((s.scSet (if rx then 2048 + sc % 16384 else sc % 2048)).want < (s.scSet (if rx then 2048 + sc % 16384 else sc % 2048)).engs.length)) ∧
    (∃ (s : State) (e : Nat), s.testBusy = false ∧ s.fld F.YRD_CTL_ROT_S ≠ 0 ∧ (((List.range 64).map (fun k => (s.yrd.lastRot + 1 + k) % 64)).find? (fun e => (s.eng e).mode == .inService) = some e)) ∧
    (∃ (s : State) (o : Origin) (op : Nat) (eng : Nat), s.grants o .YRD_TEST = true ∧ o.main = true ∧ s.testBusy = false ∧ op % 4 ≠ 0 ∧ (s.eng (eng % 64)).mode = .inService) ∧
    (∃ (s : State) (e : Nat), s.yrd.testSt = .deferred ∧ s.yrd.testEng = some e ∧ (s.eng e).mode = .inService ∧ s.testOk e = true) ∧
    (∃ (s : State), s.yrd.testSt = .deferred ∧ s.yrd.testReq = true) ∧
    (∃ (s : State), s.yrd.testSt = .deferred ∧ s.yrd.testReq = false) ∧
    (∃ (s : State) (eng : Nat), (s.eng (eng % 64)).mode = .draining ∧ (s.eng (eng % 64)).slots = []) ∧
    (∃ (s : State) (eng : Nat) (pass : Bool), (pass = true ∨ nbit s.yrd.testOp 0 = false) ∧ s.yrd.testSt = .running ∧ s.yrd.testEng = some (eng % 64) ∧ (s.eng (eng % 64)).mode = .test) ∧
    (∃ (s : State) (eng : Nat) (pass : Bool), pass = false ∧ nbit s.yrd.testOp 0 = true ∧ s.yrd.testSt = .running ∧ s.yrd.testEng = some (eng % 64) ∧ (s.eng (eng % 64)).mode = .test) ∧
    (∃ (s : State) (n : Nat), s.enginesKept = some n) ∧
    (∃ (s : State) (eng : Nat) (pace : Nat), (s.eng (eng % 64)).mode = .shedOff ∧ s.engineWanted = true ∧ 500 ≤ pace ∧ s.medianPace ≤ 4 * pace) ∧
    (∃ (s : State) (o : Origin), s.grants o .YRD_SCW_CMD = true) :=
  ⟨⟨sRun, .pf0, by decide⟩,
    ⟨sRun, .pf0, by decide⟩,
    ⟨sSet, false, 0, by decide, by decide⟩,
    ⟨sRun, 0, by decide, by decide, by decide⟩,
    ⟨sRun, .pf0, 3, 9, by decide, by decide, by decide, by decide, by decide⟩,
    ⟨sDefer, 5, by decide, by decide, by decide, by decide⟩,
    ⟨sDefer, by decide, by decide⟩,
    ⟨sDeferR, by decide, by decide⟩,
    ⟨sDrainE, 5, by decide, by decide⟩,
    ⟨sTestE, 5, true, by decide, by decide, by decide, by decide⟩,
    ⟨sTestE, 5, false, by decide, by decide, by decide, by decide, by decide⟩,
    ⟨sShed4, 64, by decide +kernel⟩,
    ⟨sWakeE, 5, 1250, by decide, by decide, by decide, by decide⟩,
    ⟨sSet, .pf0, by decide⟩⟩

theorem witness_TrafficManagerCommandsComplete :
    (∃ (s : State) (o : Origin), s.grants o .TMG_SHW_CMD = true ∧ s.shwIdx o.grp < shwSize (s.shwLvl o.grp)) ∧
    (∃ (s : State) (o : Origin), s.grants o .TMG_SHW_CMD = true ∧ o.main = true ∧ s.shwIdx o.grp < shwSize (s.shwLvl o.grp) ∧ shwOk (s.shwLvl o.grp) (s.word .TMG_SHW_DATA0 0 o.grp) (s.word .TMG_SHW_DATA1 0 o.grp) (s.word .TMG_SHW_DATA2 0 o.grp) = true) ∧
    (∃ (s : State) (o : Origin), s.grants o .TMG_SHW_CMD = true ∧ o.main = true ∧ s.shwIdx o.grp < shwSize (s.shwLvl o.grp) ∧ shwOk (s.shwLvl o.grp) (s.word .TMG_SHW_DATA0 0 o.grp) (s.word .TMG_SHW_DATA1 0 o.grp) (s.word .TMG_SHW_DATA2 0 o.grp) = true ∧ s.fld F.TMG_SHW_DATA6_EPOCH_NS 0 o.grp < 1000000000 ∧ s.timeT < (timeSNs (s.fld F.TMG_SHW_DATA5_EPOCH_S 0 o.grp * 2 ^ 32 + (s.word .TMG_SHW_DATA4 0 o.grp).toNat) (s.fld F.TMG_SHW_DATA6_EPOCH_NS 0 o.grp))) ∧
    (∃ (s : State) (o : Origin), s.grants o .TMG_QW_CMD = true) ∧
    (∃ (s : State) (o : Origin), s.grants o .TMG_QW_CMD = true ∧ o.main = true) ∧
    (∃ (s : State) (o : Origin), s.grants o .TMG_POLW_CMD = true) ∧
    (∃ (s : State) (o : Origin), s.grants o .TMG_POLW_CMD = true ∧ o.main = true ∧ polOk (s.word .TMG_POLW_DATA0 0 o.grp) (s.word .TMG_POLW_DATA1 0 o.grp) (s.word .TMG_POLW_DATA2 0 o.grp) = true) ∧
    (∃ (s : State) (o : Origin), s.grants o .TMG_GCW_CMD = true) ∧
    (∃ (s : State) (o : Origin), s.grants o .TMG_GCW_CMD = true ∧ s.presence = true ∧ 256 ≤ (s.fld F.TMG_GCW_DATA1_INTERVAL_NS 0 o.grp) ∧ (s.fld F.TMG_GCW_DATA1_INTERVAL_NS 0 o.grp) ≤ 1000000000) ∧
    (∃ (s : State) (o : Origin) (port : Nat), s.grants o .TMG_PORT_CFG (port % 128) = true ∧ s.presence = true) ∧
    (∃ (s : State) (port : Nat) (l : GateList) (t : Int), (s.gatePort (port % 128)).pend = some (l, t) ∧ t ≤ s.timeT) ∧
    (∃ (s : State) (port : Nat) (k : Nat) (f : Frame), s.pqHead (port % 64) (k % 2) = some f ∧ (f.launch.all (fun t => decide (t - launchLead ≤ s.timeT)) = true)) ∧
    (∃ (s : State) (port : Nat) (k : Nat) (f : Frame), s.pqHead ((64 + port % 64)) (k % 2) = some f ∧ (f.launch.all (fun t => decide (t - lineLead ≤ s.timeT)) = true) ∧ s.poisoned f = false ∧ ((f.launch.any (fun t => decide (t - lineLead + s.lateNs ((64 + port % 64)) < s.timeT))) = false ∨ s.flag F.TMG_PORT_CFG_LATE_DROP ((64 + port % 64)) = false)) ∧
    (∃ (s : State) (port : Nat) (k : Nat) (f : Frame), s.pqHead ((64 + port % 64)) (k % 2) = some f ∧ (f.launch.any (fun t => decide (t - lineLead + s.lateNs ((64 + port % 64)) < s.timeT)) = true) ∧ (f.launch.all (fun t => decide (t - lineLead ≤ s.timeT)) = true) ∧ s.poisoned f = false ∧ s.flag F.TMG_PORT_CFG_LATE_DROP ((64 + port % 64)) = true) ∧
    (∃ (s : State) (port : PortId) (k : Nat) (f : Frame) (t : Int), s.pqHead port.idx (k % 2) = some f ∧ f.launch = some t ∧ ((if port.idx < 64 then t else t - lineLead) + s.lateNs port.idx < s.timeT) ∧ f.lateCnt = false) ∧
    (∃ (s : State) (frame : Nat) (f : Frame) (d : Int), s.frame? frame = some f ∧ f.launch = some d ∧ d + 131072 < s.timeT + launchLead ∧ f.ptpDep = true ∧ f.stage ≠ .committed) :=
  ⟨⟨sRun, .pf0, by decide, by decide⟩,
    ⟨sShw, .pf0, by decide, by decide, by decide, by decide⟩,
    ⟨sShw, .pf0, by decide, by decide, by decide, by decide, by decide, by decide⟩,
    ⟨sRun, .pf0, by decide⟩,
    ⟨sRun, .pf0, by decide, by decide⟩,
    ⟨sRun, .pf0, by decide⟩,
    ⟨sRun, .pf0, by decide, by decide, by decide⟩,
    ⟨sRun, .pf0, by decide⟩,
    ⟨sGcw, .pf0, by decide, by decide, by decide, by decide⟩,
    ⟨sPres, .pf0, 3, by decide, by decide⟩,
    ⟨sGate, 3, gateL, 0, by decide, by decide⟩,
    ⟨sPq, 0, 0, fPq, by decide +kernel, by decide⟩,
    ⟨sPqL, 0, 0, fPqL, by decide +kernel, by decide, by decide, by decide⟩,
    ⟨sPqLate, 0, 0, { fPqL with launch := some 0 }, by decide +kernel, by decide +kernel, by decide, by decide, by decide⟩,
    ⟨sPqT, ⟨.host, 0⟩, 0, fPq, 0, by decide +kernel, by decide, by decide +kernel, by decide⟩,
    ⟨sPtpF, 0, fPtp, 0, by decide +kernel, by decide, by decide +kernel, by decide, by decide⟩⟩

theorem witness_CellarCommandsComplete :
    (∃ (s : State) (line : Nat) (r : Region), s.region? line = some r ∧ s.cel.keys.isNone = false ∧ s.stkUp (lineStk line) = true) ∧
    (∃ (s : State) (line : Nat), (s.region? line = none ∨ s.cel.keys.isNone = true ∨ s.stkUp (lineStk line) = false)) ∧
    (∃ (s : State) (line : Nat), s.cel.reads.contains line = true) ∧
    (∃ (s : State) (line : Nat), s.cel.reads.contains line = false) ∧
    (∃ (s : State) (line : Nat) (w : LineData) (r : Region), w.mask = BitVec.allOnes 64 ∧ s.region? line = some r ∧ s.cel.keys.isNone = false ∧ s.stkUp (lineStk line) = true ∧ s.prot r.kind = 0 ∧ (((((s.obsEvent .cellar 4 1 (lineStk line)).celHit (tagAddr (lineStk line) (lineIdx line))).celHit (hAddr (lineStk line) 1 (lineIdx line / 8))).fetchPath w.seen (lineStk line) (lineIdx line) 6 6)).2 ≠ .waiting ∧ ((((((s.obsEvent .cellar 4 1 (lineStk line)).celHit (tagAddr (lineStk line) (lineIdx line))).celHit (hAddr (lineStk line) 1 (lineIdx line / 8))).fetchPath w.seen (lineStk line) (lineIdx line) 6 6)).1.stk (lineStk line)).mode ≠ .lost) ∧
    (∃ (s : State) (line : Nat) (w : LineData) (r : Region), w.mask = BitVec.allOnes 64 ∧ s.region? line = some r ∧ s.cel.keys.isNone = false ∧ s.stkUp (lineStk line) = true ∧ s.prot r.kind = 1) ∧
    (∃ (s : State) (line : Nat) (w : LineData) (r : Region), w.mask = BitVec.allOnes 64 ∧ s.region? line = some r ∧ s.cel.keys.isNone = false ∧ s.stkUp (lineStk line) = true ∧ 2 ≤ s.prot r.kind) ∧
    (∃ (w : LineData), w.mask ≠ BitVec.allOnes 64) ∧
    (∃ (s : State) (line : Nat) (seen : List LineSeen) (h : Nat) (n : Nat) (c : Nat) (w : BitVec 512), lineKind (lineIdx line) = .node h n ∧ s.cel.restore.contains line = true ∧ s.copyAddr (lineStk line) (lineIdx line) = some c ∧ (s.readData seen c).2 = (.ok, some w) ∧ (s.readData seen c).1.lineTag line ((s.readData seen c).1.verOf (lineStk line) h n) 1 w = ((s.readData seen c).1.cel.check.look (s.readData seen c).1.checkDef line).toNat) ∧
    (∃ (level : Nat), 6 ≤ level ∧ level ≤ 9) ∧
    (∃ (s : State) (a : Nat) (t : List Nat), s.cel.dirty = a :: t) ∧
    (∃ (s : State), s.cel.dirty = []) ∧
    (∃ (s : State) (line : Nat) (d : Nat) (r : Region), s.cel.keys.isNone = false ∧ s.stkUp (lineStk line) = true ∧ lineKind (lineIdx line) = .data d ∧ s.region? line = some r) ∧
    (∃ (s : State) (line : Nat) (t : Nat), s.cel.keys.isNone = false ∧ s.stkUp (lineStk line) = true ∧ lineKind (lineIdx line) = .tag t ∧ s.cel.dirty.contains line = false) ∧
    (∃ (s : State) (line : Nat) (h : Nat) (n : Nat), s.cel.keys.isNone = false ∧ s.stkUp (lineStk line) = true ∧ lineKind (lineIdx line) = .node h n ∧ s.cel.dirty.contains line = false) ∧
    (∃ (s : State) (line : Nat), (s.cel.keys.isNone = true ∨ s.stkUp (lineStk line) = false ∨ lineKind (lineIdx line) = .spare)) ∧
    (∃ (s : State) (stack : Nat) (seen : List LineSeen) (f : Frame) (g : Nat) (p : Nat × State), (s.stk (stack % 4)).mode = .draining ∧ (s.frames.find? (fun f => f.pages.any (fun g => g / 2 ^ 30 == (stack % 4))) = some f) ∧ (f.pages.find? (fun g => g / 2 ^ 30 == (stack % 4)) = some g) ∧ s.takePage 4 s.tmg.nextStk = some p ∧ (p.2.moverRead seen (82 + g % 8) ((List.range 16).map (pageLine [g]))).2.1 = false) ∧
    (∃ (s : State) (stack : Nat) (f : Frame), (s.stk (stack % 4)).mode = .draining ∧ (s.frames.find? (fun f => f.pages.any (fun g => g / 2 ^ 30 == (stack % 4))) = some f) ∧ (s.takePage 4 s.tmg.nextStk).isNone = true) ∧
    (∃ (s : State) (stack : Nat) (r : Region) (n : Nat), (s.stk (stack % 4)).mode = .draining ∧ (s.frames.all (fun f => f.pages.all (fun g => g / 2 ^ 30 != (stack % 4))) = true) ∧ s.movePiece (stack % 4) = some (r, n)) ∧
    (∃ (s : State) (stack : Nat), (s.stk (stack % 4)).mode = .draining ∧ (s.frames.all (fun f => f.pages.all (fun g => g / 2 ^ 30 != (stack % 4))) = true) ∧ (s.movePiece (stack % 4)).isNone = true) ∧
    (∃ (s : State) (stack : Nat), ((s.stk (stack % 4)).mode ≠ .draining ∨ (s.movePiece (stack % 4)).isNone = false)) ∧
    (∃ (s : State) (stack : Nat) (pass : Bool), (s.stk (stack % 4)).mode = .waking ∧ pass = true) ∧
    (∃ (s : State) (stack : Nat) (pass : Bool), (s.stk (stack % 4)).mode = .waking ∧ pass = false) ∧
    (∃ (s : State) (stack : Nat), ((s.stk (stack % 4)).mode = .on ∨ (s.stk (stack % 4)).mode = .draining ∨ (s.stk (stack % 4)).mode = .waking)) ∧
    (∃ (s : State) (stack : Nat), ((s.stk (stack % 4)).mode = .lost ∨ (s.stk (stack % 4)).mode = .off ∨ (s.stk (stack % 4)).mode = .absent)) ∧
    (∃ (s : State) (stack : Nat), (s.stk (stack % 4)).partner.isSome = true ∧ (s.stk (stack % 4)).copyValid = false ∧ s.cel.keys.isSome = true) ∧
    (∃ (s : State) (pass : Bool), (pass = false ∨ s.flash.src = 0)) ∧
    (∃ (s : State) (pass : Bool) (r : Nat × Nat), s.cel.ovtBad = [r] ∧ pass = true ∧ s.flash.src ≠ 0 ∧ ((List.range (r.2 / 1024 + 2)).all (fun b => decide (r.1 + r.2 ≤ (r.1 / 1024 + b) * 1024) || s.flash.blockOk s.flash.digests s.flash.src (r.1 / 1024 + b)) = true)) ∧
    (∃ (s : State) (o : Origin) (r : Region) (rest : List Region), s.grants o .CEL_RGW_CMD = true ∧ (s.fld F.CEL_RGW_IDX_REGION 0 o.grp) ≤ 8 ∧ (s.cel.layout.filter (fun r => r.kind == (s.fld F.CEL_RGW_IDX_REGION 0 o.grp)) = r :: rest)) ∧
    (∃ (s : State) (o : Origin) (a : Nat), s.grants o .CEL_DGW_CMD = true ∧ o.main = true ∧ (s.fld F.CEL_DGW_OFF_LINE 0 o.grp) < s.diagLines ∧ placeOf s.cel.layout 8 (s.fld F.CEL_DGW_OFF_LINE 0 o.grp) = some a ∧ s.cel.keys.isNone = false) ∧
    (∃ (s : State) (o : Origin), s.grants o .CEL_DGW_CMD = true ∧ o.main = true ∧ s.diagLines ≤ s.fld F.CEL_DGW_OFF_LINE 0 o.grp) ∧
    (∃ (s : State) (o : Origin) (a : Nat), s.grants o .CEL_DGW_CMD = true ∧ o.main = true ∧ (s.fld F.CEL_DGW_OFF_LINE 0 o.grp) < s.diagLines ∧ placeOf s.cel.layout 8 (s.fld F.CEL_DGW_OFF_LINE 0 o.grp) = some a ∧ s.cel.keys.isNone = false) :=
  ⟨⟨sCelD, 5, ⟨8, 0, 0, 100⟩, by decide, by decide, by decide⟩,
    ⟨sRun, 5, by decide⟩,
    ⟨sCelRd, 5, by decide⟩,
    ⟨sRun, 5, by decide⟩,
    ⟨sCelW, 5, ⟨9#512, 0xFFFFFFFFFFFFFFFF#64, []⟩, ⟨1, 0, 0, 100⟩, by decide, by decide, by decide, by decide, by decide, by decide +kernel, by decide +kernel⟩,
    ⟨sCelD, 5, ⟨9#512, 0xFFFFFFFFFFFFFFFF#64, []⟩, ⟨8, 0, 0, 100⟩, by decide, by decide, by decide, by decide, by decide⟩,
    ⟨sCelD.setFld F.CEL_RCFG_DIAG_PROT 2, 5, ⟨9#512, 0xFFFFFFFFFFFFFFFF#64, []⟩, ⟨8, 0, 0, 100⟩, by decide, by decide, by decide, by decide, by decide⟩,
    ⟨⟨9#512, 3#64, []⟩, by decide⟩,
    ⟨sNode, hAddr 0 2 0, [], 2, 0, 2 ^ 38 + 0x252B015A, 0#512, by decide, by decide, by decide, by decide +kernel, by decide +kernel⟩,
    ⟨7, by decide, by decide⟩,
    ⟨sCelDirty, tagBase, [], by decide⟩,
    ⟨sRun, by decide⟩,
    ⟨sCelScrub, 5, 5, ⟨4, 0, 0, 100⟩, by decide, by decide, by decide, by decide⟩,
    ⟨sCelScrub, tagBase, 0, by decide, by decide, by decide, by decide⟩,
    ⟨sCelScrub, hAddr 0 2 0, 2, 0, by decide, by decide, by decide, by decide⟩,
    ⟨sRun, 5, by decide⟩,
    ⟨sMove, 1, [], fMove, 2 ^ 30, (sMove.takePage 4 0).getD (0, {}), by decide, by decide +kernel, by decide, by decide +kernel, by decide⟩,
    ⟨sMoveN, 1, fMove, by decide, by decide +kernel, by decide⟩,
    ⟨sMoveR, 1, ⟨1, 1, 0, 100⟩, 100, by decide, by decide, by decide⟩,
    ⟨sStkDr, 1, by decide, by decide, by decide⟩,
    ⟨sRun, 1, by decide⟩,
    ⟨sStkWk, 1, true, by decide, by decide⟩,
    ⟨sStkWk, 1, false, by decide, by decide⟩,
    ⟨sCelD, 0, by decide⟩,
    ⟨sCelD, 1, by decide⟩,
    ⟨sStkCp, 1, by decide, by decide, by decide⟩,
    ⟨sOvt, false, by decide⟩,
    ⟨sOvtF, true, (5, 1), by decide, by decide, by decide, ovtFlash_range⟩,
    ⟨sCelBuf, .pf0, ⟨0, 0, 7, 100⟩, [], by decide, by decide, by decide⟩,
    ⟨sDgw, .pf0, 0, by decide, by decide, by decide, by decide, by decide⟩,
    ⟨sRun, .pf0, by decide, by decide, by decide⟩,
    ⟨sDgw, .pf0, 0, by decide, by decide, by decide, by decide, by decide⟩⟩

theorem witness_TimeAdjustmentsComplete :
    (∃ (s : State), s.tim.refInt = false) ∧
    (∃ (s : State), s.tim.refInt = true) ∧
    (∃ (s : State) (o : Origin), s.grants o .TIM_ADJ_CMD = true) ∧
    (∃ (s : State) (o : Origin), s.grants o .TIM_ADJ_CMD = true) ∧
    (∃ (s : State) (o : Origin), s.grants o .TIM_ADJ_CMD = true) ∧
    (∃ (s : State) (o : Origin), s.grants o .TIM_ADJ_CMD = true) ∧
    (∃ (s : State) (o : Origin) (owner : Nat), s.grants o .TIM_CTL = true ∧ s.presence = true ∧ owner % 4 ≠ s.fld F.TIM_CTL_OWNER ∧ owner % 4 ≠ 3) ∧
    (∃ (s : State) (o : Origin) (owner : Nat), s.grants o .TIM_CTL = true ∧ (owner % 4 = s.fld F.TIM_CTL_OWNER ∨ s.presence = false ∨ owner % 4 = 3)) ∧
    (∃ (s : State) (o : Origin), s.grants o .TIM_SNAP = true) :=
  ⟨⟨sRun, by decide⟩,
    ⟨sRefInt, by decide⟩,
    ⟨sOwn, .pf0, by decide⟩,
    ⟨sOwn, .pf0, by decide⟩,
    ⟨sOwn, .pf0, by decide⟩,
    ⟨sOwn, .pf0, by decide⟩,
    ⟨sPres, .pf0, 1, by decide, by decide, by decide, by decide⟩,
    ⟨sRun, .pf0, 1, by decide, by decide⟩,
    ⟨sRun, .pf0, by decide⟩⟩

theorem witness_TimeSourcesAndPinsComplete :
    (∃ (s : State), s.ptpOn = true) ∧
    (∃ (s : State), s.ptpOn = false) ∧
    (∃ (s : State), s.ptpOn = true) ∧
    (∃ (s : State) (port : W64) (q : Nat) (t2 : Int), s.ptpOn = true ∧ s.tim.ptp.pendT1 = some (q, t2) ∧ s.tim.ptp.master = some port) ∧
    (∃ (s : State), s.ptpOn = true) ∧
    (∃ (s : State) (port : W64) (q : Nat) (t1 : Int) (t2 : Int) (t3 : Int), s.ptpOn = true ∧ s.flag F.TIM_CTL_PROFILE = false ∧ s.tim.ptp.master = some port ∧ s.tim.ptp.reqT3 = some (q, t3) ∧ s.tim.ptp.t12 = some (t1, t2)) ∧
    (∃ (s : State), s.ptpOn = true) ∧
    (∃ (s : State) (q : Nat) (t1 : Int), s.ptpOn = true ∧ s.flag F.TIM_CTL_PROFILE = true ∧ s.tim.ptp.reqT3 = some (q, t1)) ∧
    (∃ (s : State), s.ptpOn = false) ∧
    (∃ (s : State) (k : PtpTimer), s.ptpMaster = true ∧ k ≠ PtpTimer.delayReq) ∧
    (∃ (s : State) (k : PtpTimer), s.ptpOn = true ∧ (s.tim.ptp.master.isSome = true ∨ s.flag F.TIM_CTL_PROFILE = true) ∧ k = PtpTimer.delayReq) ∧
    (∃ (s : State), s.ptpOn = false) ∧
    (∃ (s : State) (m : W64), s.tim.ptp.master = some m) ∧
    (∃ (s : State), s.tim.ptp.master = none) ∧
    (∃ (s : State) (o : Origin), s.grants o .TIM_HOST = true) ∧
    (∃ (s : State), s.tim.mode ≠ .locked ∧ s.tim.mode ≠ .freeRun) ∧
    (∃ (s : State), (s.tim.mode = .locked ∨ s.tim.mode = .freeRun)) ∧
    (∃ (s : State) (pin : Nat), s.flag F.TIM_CAP_CFG_EN (pin % 5) = true ∧ ((pin % 5) = 0 ∨ s.flag F.TIM_CAP_CFG_OUT (pin % 5) = false)) ∧
    (∃ (s : State) (pin : Nat), s.flag F.TIM_CAP_CFG_EN (pin % 5) = false) ∧
    (∃ (s : State) (o : Origin) (pin : Nat) (t : Int) (c : Nat) (l : List (Int × Nat)), s.grants o .TIM_CAP_CFG (pin % 5) = true ∧ (s.cap (pin % 5)).fifo = (t, c) :: l) ∧
    (∃ (s : State) (o : Origin) (pin : Nat), s.grants o .TIM_CAP_CFG (pin % 5) = true ∧ (s.cap (pin % 5)).fifo = []) ∧
    (∃ (s : State) (pin : Nat) (t : Int), s.outOn (pin % 5) = true ∧ (s.outPin (pin % 5)).next = some t ∧ (s.outPin (pin % 5)).high = false) ∧
    (∃ (s : State) (pin : Nat) (t : Int), s.outOn (pin % 5) = true ∧ (s.outPin (pin % 5)).next = some t ∧ (s.outPin (pin % 5)).high = true ∧ t + ((s.fld F.TIM_OUT_WIDTH_NS (pin % 5) * 65536 : Nat) : Int) ≤ s.timeT) ∧
    (∃ (s : State) (pin : Nat), (s.outPin (pin % 5)).next = none) :=
  ⟨⟨sPtp, by decide⟩,
    ⟨sRun, by decide⟩,
    ⟨sPtp, by decide⟩,
    ⟨sPtpFu, 7#64, 3, 20, by decide, by decide, by decide⟩,
    ⟨sPtpM, by decide⟩,
    ⟨sPtpFu, 7#64, 4, 1, 2, 3, by decide, by decide, by decide, by decide, by decide⟩,
    ⟨sPtp, by decide⟩,
    ⟨sPtpFu.setFld F.TIM_CTL_PROFILE 1, 4, 3, by decide, by decide, by decide⟩,
    ⟨sRun, by decide⟩,
    ⟨sPtpM, .sync, by decide, by decide⟩,
    ⟨sPtp, .delayReq, by decide, by decide, by decide⟩,
    ⟨sRun, by decide⟩,
    ⟨sPtp, 7#64, by decide⟩,
    ⟨sRun, by decide⟩,
    ⟨sHostT, .pf0, by decide⟩,
    ⟨sHostT, by decide, by decide⟩,
    ⟨sRun, by decide⟩,
    ⟨sCap, 1, by decide, by decide⟩,
    ⟨sRun, 1, by decide⟩,
    ⟨sCap2, .pf0, 1, 5, 6, [], by decide, by decide⟩,
    ⟨sRun, .pf0, 1, by decide, by decide⟩,
    ⟨sOut, 0, 0, by decide, by decide, by decide⟩,
    ⟨sOutH, 0, 0, by decide, by decide, by decide, by decide +kernel⟩,
    ⟨sRun, 0, by decide⟩⟩

theorem witness_PairPadEdgesComplete :
    (∃ (s : State), s.par.conflict = true ∧ s.par.keepClaim = true ∧ s.par.actIn = true ∧ s.leaseValid = true) ∧
    (∃ (s : State), (s.par.conflict = false ∨ s.par.keepClaim = false ∨ s.par.actIn = false ∨ s.leaseValid = false)) ∧
    (∃ (s : State), s.pairRuns = true) ∧
    (∃ (s : State), s.pairRuns = false) :=
  ⟨⟨sConf, by decide, by decide, by decide, by decide⟩,
    ⟨sRun, by decide⟩,
    ⟨sRun, by decide⟩,
    ⟨sFen, by decide⟩⟩

theorem witness_PairTimersComplete :
    (∃ (s : State), s.isActive = true ∧ s.hasStandby = true ∧ s.leaseValid = true) ∧
    (∃ (s : State), s.isActive = true ∧ s.hasStandby = false ∧ s.par.resync = true) ∧
    (∃ (s : State), s.isActive = false) ∧
    (∃ (s : State), s.onTether = true ∧ s.soloRuns = false ∧ s.par.st = .start ∧ s.par.keyedRx = false ∧ s.drbgKOk = true) ∧
    (∃ (s : State), (s.par.st ≠ .start ∨ s.par.keyedRx = true ∨ s.soloRuns = true)) ∧
    (∃ (s : State), s.mayTether = true) ∧
    (∃ (s : State), s.mayTether = false) ∧
    (∃ (s : State), s.par.st = .start ∧ s.pairRuns = true ∧ s.soloRuns = false ∧ (s.par.keyedRx = false ∨ s.par.ptSt.isAct = false)) ∧
    (∃ (s : State), (s.par.st ≠ .start ∨ s.soloRuns = true)) ∧
    (∃ (s : State) (role : PairState), s.par.handing = some (role, 0)) ∧
    (∃ (s : State), s.par.handing = none) :=
  ⟨⟨sActS, by decide, by decide, by decide⟩,
    ⟨{ sAct with par := { sAct.par with resync := true } }, by decide, by decide, by decide⟩,
    ⟨sRun, by decide⟩,
    ⟨sPairSt, by decide, by decide, by decide, by decide, by decide⟩,
    ⟨sAct, by decide⟩,
    ⟨sAct, by decide⟩,
    ⟨sRun, by decide⟩,
    ⟨sPairSt, by decide, by decide, by decide, by decide⟩,
    ⟨sAct, by decide⟩,
    ⟨sHand, .active, by decide⟩,
    ⟨sRun, by decide⟩⟩

theorem witness_PairCommandsComplete :
    (∃ (s : State) (o : Origin), s.grants o .PAR_CMD = true) ∧
    (∃ (s : State) (o : Origin), s.grants o .PAR_CMD = true) ∧
    (∃ (s : State) (o : Origin), s.grants o .PAR_CMD = true) ∧
    (∃ (s : State) (o : Origin), s.grants o .PAR_CMD = true) :=
  ⟨⟨sActS, .pf0, by decide⟩,
    ⟨sTest, .pf0, by decide⟩,
    ⟨sTest, .pf0, by decide⟩,
    ⟨sActS, .pf0, by decide⟩⟩

theorem witness_TetherRecordsComplete :
    (∃ (s : State) (seq : Nat) (tag : TTag), s.onTether = true ∧ s.tetherKeyed = true ∧ tag = .ok ∧ seq = s.par.rxSeq + 1) ∧
    (∃ (tag : TTag), tag = .zero) ∧
    (∃ (s : State) (seq : Nat) (tag : TTag), s.onTether = true ∧ s.tetherKeyed = true ∧ tag = .ok ∧ seq = s.par.rxSeq + 1) ∧
    (∃ (s : State) (tag : TTag), s.onTether = true ∧ s.tetherKeyed = true ∧ tag ≠ .ok) ∧
    (∃ (s : State) (seq : Nat) (tag : TTag), s.onTether = true ∧ s.tetherKeyed = true ∧ tag = .ok ∧ seq ≠ s.par.rxSeq + 1) ∧
    (∃ (s : State), (s.onTether = false ∨ s.tetherKeyed = false)) ∧
    (∃ (s : State) (seq : Nat) (tag : TTag), s.onTether = true ∧ s.tetherKeyed = true ∧ tag = .ok ∧ seq = s.par.rxSeq + 1) ∧
    (∃ (s : State) (seq : Nat) (tag : TTag), s.onTether = true ∧ s.tetherKeyed = true ∧ tag = .ok ∧ seq = s.par.rxSeq + 1) ∧
    (∃ (s : State) (seq : Nat) (tag : TTag) (op : Nat), s.onTether = true ∧ s.tetherKeyed = true ∧ tag = .ok ∧ seq = s.par.rxSeq + 1 ∧ s.isActive = false ∧ op = 4) ∧
    (∃ (s : State) (seq : Nat) (tag : TTag) (op : Nat), s.onTether = true ∧ s.tetherKeyed = true ∧ tag = .ok ∧ seq = s.par.rxSeq + 1 ∧ s.isActive = false ∧ op ≠ 4 ∧ op ≠ 5) ∧
    (∃ (s : State) (seq : Nat) (tag : TTag) (op : Nat), s.onTether = true ∧ s.tetherKeyed = true ∧ tag = .ok ∧ seq = s.par.rxSeq + 1 ∧ s.isActive = false ∧ op = 5) ∧
    (∃ (s : State) (seq : Nat) (tag : TTag), s.onTether = true ∧ s.tetherKeyed = true ∧ tag = .ok ∧ seq = s.par.rxSeq + 1 ∧ s.isActive = true) ∧
    (∃ (s : State) (seq : Nat) (tag : TTag), s.onTether = true ∧ s.tetherKeyed = true ∧ tag = .ok ∧ seq = s.par.rxSeq + 1 ∧ s.isActive = false) ∧
    (∃ (s : State) (seq : Nat) (tag : TTag), s.onTether = true ∧ s.tetherKeyed = true ∧ tag = .ok ∧ seq = s.par.rxSeq + 1 ∧ s.isActive = true) ∧
    (∃ (s : State) (seq : Nat) (tag : TTag), s.onTether = true ∧ s.tetherKeyed = true ∧ tag = .ok ∧ seq = s.par.rxSeq + 1 ∧ s.isActive = false) ∧
    (∃ (s : State) (seq : Nat) (tag : TTag), s.onTether = true ∧ s.tetherKeyed = true ∧ tag = .ok ∧ seq = s.par.rxSeq + 1 ∧ s.isActive = true) :=
  ⟨⟨sKeyed, 1, .ok, by decide, by decide, by decide, by decide⟩,
    ⟨.zero, by decide⟩,
    ⟨sKeyed, 1, .ok, by decide, by decide, by decide, by decide⟩,
    ⟨sKeyed, .bad, by decide, by decide, by decide⟩,
    ⟨sKeyed, 7, .ok, by decide, by decide, by decide, by decide⟩,
    ⟨sRun, by decide⟩,
    ⟨sKeyed, 1, .ok, by decide, by decide, by decide, by decide⟩,
    ⟨sKeyed, 1, .ok, by decide, by decide, by decide, by decide⟩,
    ⟨sKeyed, 1, .ok, 4, by decide, by decide, by decide, by decide, by decide, by decide⟩,
    ⟨sKeyed, 1, .ok, 3, by decide, by decide, by decide, by decide, by decide, by decide, by decide⟩,
    ⟨sKeyed, 1, .ok, 5, by decide, by decide, by decide, by decide, by decide, by decide⟩,
    ⟨sKeyedA, 1, .ok, by decide, by decide, by decide, by decide, by decide⟩,
    ⟨sKeyed, 1, .ok, by decide, by decide, by decide, by decide, by decide⟩,
    ⟨sKeyedA, 1, .ok, by decide, by decide, by decide, by decide, by decide⟩,
    ⟨sKeyed, 1, .ok, by decide, by decide, by decide, by decide, by decide⟩,
    ⟨sKeyedA, 1, .ok, by decide, by decide, by decide, by decide, by decide⟩⟩

theorem witness_MirrorRecordsComplete :
    (∃ (s : State) (seq : Nat) (tag : TTag), s.onTether = true ∧ s.tetherKeyed = true ∧ tag = .ok ∧ seq = s.par.rxSeq + 1 ∧ s.isActive = false) ∧
    (∃ (s : State) (seq : Nat) (tag : TTag), s.onTether = true ∧ s.tetherKeyed = true ∧ tag = .ok ∧ seq = s.par.rxSeq + 1 ∧ s.isActive = true) ∧
    (∃ (s : State) (seq : Nat) (tag : TTag), s.onTether = true ∧ s.tetherKeyed = true ∧ tag = .ok ∧ seq = s.par.rxSeq + 1 ∧ s.isActive = false) ∧
    (∃ (s : State) (seq : Nat) (tag : TTag), s.onTether = true ∧ s.tetherKeyed = true ∧ tag = .ok ∧ seq = s.par.rxSeq + 1 ∧ s.isActive = true) ∧
    (∃ (s : State) (seq : Nat) (tag : TTag) (ca : Nat) (mi : BitVec 96) (live : Bool), s.onTether = true ∧ s.tetherKeyed = true ∧ tag = .ok ∧ seq = s.par.rxSeq + 1 ∧ s.isActive = false ∧ live = false ∧ ((s.ca (ca % 2048)).peers.find? (fun p => p.mi == mi) = none)) ∧
    (∃ (s : State) (seq : Nat) (tag : TTag) (ca : Nat) (mi : BitVec 96) (live : Bool) (p : Peer), s.onTether = true ∧ s.tetherKeyed = true ∧ tag = .ok ∧ seq = s.par.rxSeq + 1 ∧ s.isActive = false ∧ ((s.ca (ca % 2048)).peers.find? (fun p => p.mi == mi) = some p) ∧ (p.rsc.isSome = true ∨ live = false)) ∧
    (∃ (s : State) (seq : Nat) (tag : TTag), s.onTether = true ∧ s.tetherKeyed = true ∧ tag = .ok ∧ seq = s.par.rxSeq + 1 ∧ s.isActive = true) ∧
    (∃ (s : State) (seq : Nat) (tag : TTag), s.onTether = true ∧ s.tetherKeyed = true ∧ tag = .ok ∧ seq = s.par.rxSeq + 1 ∧ s.isActive = false) ∧
    (∃ (s : State) (seq : Nat) (tag : TTag), s.onTether = true ∧ s.tetherKeyed = true ∧ tag = .ok ∧ seq = s.par.rxSeq + 1 ∧ s.isActive = true) ∧
    (∃ (s : State) (seq : Nat) (tag : TTag), s.onTether = true ∧ s.tetherKeyed = true ∧ tag = .ok ∧ seq = s.par.rxSeq + 1 ∧ s.isActive = false) ∧
    (∃ (s : State) (seq : Nat) (tag : TTag), s.onTether = true ∧ s.tetherKeyed = true ∧ tag = .ok ∧ seq = s.par.rxSeq + 1 ∧ s.isActive = true) ∧
    (∃ (s : State) (seq : Nat) (tag : TTag) (klen : Nat) (wrap : List Byte) (key : List Byte), s.onTether = true ∧ s.tetherKeyed = true ∧ tag = .ok ∧ seq = s.par.rxSeq + 1 ∧ s.isActive = false ∧ wrap.length = klen + 8 ∧ keyUnwrap s.mirKey wrap = some key) ∧
    (∃ (s : State) (seq : Nat) (tag : TTag) (klen : Nat) (wrap : List Byte), s.onTether = true ∧ s.tetherKeyed = true ∧ tag = .ok ∧ seq = s.par.rxSeq + 1 ∧ (s.isActive = true ∨ wrap.length ≠ klen + 8)) ∧
    (∃ (s : State) (seq : Nat) (tag : TTag), s.onTether = true ∧ s.tetherKeyed = true ∧ tag = .ok ∧ seq = s.par.rxSeq + 1 ∧ s.isActive = false) ∧
    (∃ (s : State) (seq : Nat) (tag : TTag), s.onTether = true ∧ s.tetherKeyed = true ∧ tag = .ok ∧ seq = s.par.rxSeq + 1 ∧ s.isActive = true) :=
  ⟨⟨sKeyed, 1, .ok, by decide, by decide, by decide, by decide, by decide⟩,
    ⟨sKeyedA, 1, .ok, by decide, by decide, by decide, by decide, by decide⟩,
    ⟨sKeyed, 1, .ok, by decide, by decide, by decide, by decide, by decide⟩,
    ⟨sKeyedA, 1, .ok, by decide, by decide, by decide, by decide, by decide⟩,
    ⟨sKeyed, 1, .ok, 0, 5, false, by decide, by decide, by decide, by decide, by decide, by decide, by decide⟩,
    ⟨sKeyP, 1, .ok, 0, 5, false, kp5, by decide, by decide, by decide, by decide, by decide, by decide, by decide⟩,
    ⟨sKeyedA, 1, .ok, by decide, by decide, by decide, by decide, by decide⟩,
    ⟨sKeyed, 1, .ok, by decide, by decide, by decide, by decide, by decide⟩,
    ⟨sKeyedA, 1, .ok, by decide, by decide, by decide, by decide, by decide⟩,
    ⟨sKeyed, 1, .ok, by decide, by decide, by decide, by decide, by decide⟩,
    ⟨sKeyedA, 1, .ok, by decide, by decide, by decide, by decide, by decide⟩,
    ⟨sKeyed, 1, .ok, 16, wrapMir, key0, by decide, by decide, by decide, by decide, by decide, by decide, by decide +kernel⟩,
    ⟨sKeyed, 1, .ok, 16, [], by decide, by decide, by decide, by decide, by decide⟩,
    ⟨sKeyed, 1, .ok, by decide, by decide, by decide, by decide, by decide⟩,
    ⟨sKeyedA, 1, .ok, by decide, by decide, by decide, by decide, by decide⟩⟩

theorem witness_ResetsAndFirstStepsComplete :
    (∃ (s : State), s.start.held = true ∧ s.par.fenceIn = false ∧ s.suppliesOk = true) ∧
    (∃ (s : State), (s.start.held = false ∨ s.par.fenceIn = true ∨ s.suppliesOk = false)) ∧
    (∃ (s : State), s.inStep 1 = true) ∧
    (∃ (s : State), s.inStep 1 = false) ∧
    (∃ (s : State), s.inStep 2 = true) ∧
    (∃ (s : State), s.inStep 2 = false) ∧
    (∃ (s : State), s.inStep 3 = true) ∧
    (∃ (s : State), s.inStep 3 = false) ∧
    (∃ (s : State), s.inStep 4 = true ∧ (s.flash.sfdp = false ∨ (s.flash.blank 1 = true ∧ s.flash.blank 2 = true))) ∧
    (∃ (s : State), s.inStep 4 = true ∧ s.flash.sfdp = true ∧ (s.flash.blank 1 = false ∨ s.flash.blank 2 = false)) ∧
    (∃ (s : State), s.inStep 4 = false) ∧
    (∃ (s : State), s.inStep 5 = true) ∧
    (∃ (s : State), s.inStep 5 = false) :=
  ⟨⟨({} : State), by decide, by decide, by decide⟩,
    ⟨sRun, by decide⟩,
    ⟨sStep 1, by decide⟩,
    ⟨sRun, by decide⟩,
    ⟨sStep 2, by decide⟩,
    ⟨sRun, by decide⟩,
    ⟨sStep 3, by decide⟩,
    ⟨sRun, by decide⟩,
    ⟨sStep 4, by decide, by decide⟩,
    ⟨{ sStep 4 with flash := { cells := (List.range 256).map (fun i => (i, 0#8)) } }, by decide, by decide, by decide⟩,
    ⟨sRun, by decide⟩,
    ⟨sStep 5, by decide⟩,
    ⟨sRun, by decide⟩⟩

theorem witness_LaterStartStepsComplete :
    (∃ (s : State), s.inStep 6 = true) ∧
    (∃ (s : State), s.inStep 6 = false) ∧
    (∃ (s : State), s.inStep 7 = true) ∧
    (∃ (s : State), s.inStep 7 = false) ∧
    (∃ (s : State), s.inStep 8 = true) ∧
    (∃ (s : State), s.inStep 8 = false) ∧
    (∃ (s : State), s.inStep 9 = true) ∧
    (∃ (s : State), s.inStep 9 = false) ∧
    (∃ (s : State) (coefs : List (Nat × W32)) (failing : List Nat), s.inStep 10 = true ∧ (s.usedLanes.filter (fun k => (s.laneCoef coefs failing k).isNone) = [])) ∧
    (∃ (s : State) (coefs : List (Nat × W32)) (failing : List Nat) (l : List Nat) (k : Nat), s.inStep 10 = true ∧ (s.usedLanes.filter (fun k => (s.laneCoef coefs failing k).isNone) = k :: l)) ∧
    (∃ (s : State), s.inStep 10 = false) ∧
    (∃ (s : State), s.inStep 11 = true) ∧
    (∃ (s : State), s.inStep 11 = false) ∧
    (∃ (s : State), s.inStep 12 = true) ∧
    (∃ (s : State), s.inStep 12 = false) ∧
    (∃ (s : State), s.inStep 13 = true) ∧
    (∃ (s : State), s.inStep 13 = false) ∧
    (∃ (s : State), s.inStep 14 = true) ∧
    (∃ (s : State), s.inStep 14 = false) :=
  ⟨⟨sStep 6, by decide⟩,
    ⟨sRun, by decide⟩,
    ⟨sStep 7, by decide⟩,
    ⟨sRun, by decide⟩,
    ⟨sStep 8, by decide⟩,
    ⟨sRun, by decide⟩,
    ⟨sStep 9, by decide⟩,
    ⟨sRun, by decide⟩,
    ⟨sStep 10, [], [], by decide, by decide⟩,
    ⟨sStep 10, [], [128], [], 128, by decide, by decide⟩,
    ⟨sRun, by decide⟩,
    ⟨sStep 11, by decide⟩,
    ⟨sRun, by decide⟩,
    ⟨sStepP 12, by decide⟩,
    ⟨sRun, by decide⟩,
    ⟨sStepL, by decide⟩,
    ⟨sRun, by decide⟩,
    ⟨sStep 14, by decide⟩,
    ⟨sRun, by decide⟩⟩

theorem witness_StartDeadlinesAndCommandsComplete :
    (∃ (s : State), s.inStep 12 = true) ∧
    (∃ (s : State), s.inStep 12 = false) ∧
    (∃ (s : State), s.inStep 13 = true) ∧
    (∃ (s : State), s.inStep 13 = false) ∧
    (∃ (s : State) (o : Origin), s.grants o .STA_CMD = true ∧ o ≠ .pf1 ∧ o.isCore = false ∧ s.presence = true) ∧
    (∃ (s : State) (o : Origin), s.grants o .STA_CMD = true ∧ (o = .pf1 ∨ o.isCore = true ∨ s.presence = false)) ∧
    (∃ (s : State) (o : Origin), s.grants o .STA_CMD = true ∧ o ≠ .pf1 ∧ o.isCore = false ∧ s.presence = true) ∧
    (∃ (s : State) (o : Origin), s.grants o .STA_CMD = true ∧ (o = .pf1 ∨ o.isCore = true ∨ s.presence = false)) ∧
    (∃ (s : State) (o : Origin), s.grants o .STA_CMD = true ∧ o ≠ .pf1 ∧ o.isCore = false ∧ s.presence = true) ∧
    (∃ (s : State) (o : Origin), s.grants o .STA_CMD = true ∧ (o = .pf1 ∨ o.isCore = true ∨ s.presence = false)) ∧
    (∃ (s : State) (o : Origin), s.grants o .STA_CMD = true ∧ o ≠ .pf1 ∧ o.isCore = false ∧ s.presence = true) ∧
    (∃ (s : State) (o : Origin), s.grants o .STA_CMD = true ∧ (o = .pf1 ∨ o.isCore = true ∨ s.presence = false)) ∧
    (∃ (s : State) (o : Origin) (r : StartRec), s.grants o .STA_LOGW_CMD = true ∧ s.ledger.log[s.fld F.STA_LOGW_IDX_AGE 0 o.grp]? = some r) ∧
    (∃ (s : State) (o : Origin), s.grants o .STA_LOGW_CMD = true ∧ s.ledger.log[s.fld F.STA_LOGW_IDX_AGE 0 o.grp]? = none) :=
  ⟨⟨sStep 12, by decide⟩,
    ⟨sRun, by decide⟩,
    ⟨sStep 13, by decide⟩,
    ⟨sRun, by decide⟩,
    ⟨sPres, .pf0, by decide, by decide, by decide, by decide⟩,
    ⟨sRun, .pf0, by decide, by decide⟩,
    ⟨sPres, .pf0, by decide, by decide, by decide, by decide⟩,
    ⟨sRun, .pf0, by decide, by decide⟩,
    ⟨sHoldP, .pf0, by decide, by decide, by decide, by decide⟩,
    ⟨sRun, .pf0, by decide, by decide⟩,
    ⟨sPres, .pf0, by decide, by decide, by decide, by decide⟩,
    ⟨sRun, .pf0, by decide, by decide⟩,
    ⟨sLog, .pf0, { num := 5, kind := 0, cause := 0, ts := 0 }, by decide, by decide⟩,
    ⟨sRun, .pf0, by decide, by decide⟩⟩

theorem witness_FlashCommandsComplete :
    (∃ (s : State) (o : Origin), s.grants o .STA_XSPI_CMD = true ∧ s.flash.op = none ∧ o ≠ .pf1 ∧ o.isCore = false) ∧
    (∃ (s : State) (o : Origin), s.grants o .STA_XSPI_CMD = true ∧ (s.flash.op.isSome = true ∨ o = .pf1 ∨ o.isCore = true)) ∧
    (∃ (s : State) (o : Origin), s.grants o .STA_XSPI_CMD = true ∧ s.flash.op = none ∧ o ≠ .pf1 ∧ o.isCore = false) ∧
    (∃ (s : State) (o : Origin), s.grants o .STA_XSPI_CMD = true ∧ (s.flash.op.isSome = true ∨ o = .pf1 ∨ o.isCore = true)) ∧
    (∃ (s : State) (o : Origin), s.grants o .STA_XSPI_CMD = true ∧ s.flash.op = none ∧ o ≠ .pf1 ∧ o.isCore = false) ∧
    (∃ (s : State) (o : Origin), s.grants o .STA_XSPI_CMD = true ∧ (s.flash.op.isSome = true ∨ o = .pf1 ∨ o.isCore = true)) ∧
    (∃ (s : State) (o : Origin), s.grants o .STA_XSPI_CMD = true ∧ s.flash.op = none ∧ o ≠ .pf1 ∧ o.isCore = false) ∧
    (∃ (s : State) (o : Origin), s.grants o .STA_XSPI_CMD = true ∧ (s.flash.op.isSome = true ∨ o = .pf1 ∨ o.isCore = true)) ∧
    (∃ (s : State) (g : Nat) (op : Nat) (a : Nat), s.flash.op = some (g, op, a)) ∧
    (∃ (s : State), s.flash.op = none) :=
  ⟨⟨sRun, .pf0, by decide, by decide, by decide, by decide⟩,
    ⟨sXspi, .pf0, by decide, by decide⟩,
    ⟨sPres, .pf0, by decide, by decide, by decide, by decide⟩,
    ⟨sXspi, .pf0, by decide, by decide⟩,
    ⟨sPres, .pf0, by decide, by decide, by decide, by decide⟩,
    ⟨sXspi, .pf0, by decide, by decide⟩,
    ⟨sRun, .pf0, by decide, by decide, by decide, by decide⟩,
    ⟨sXspi, .pf0, by decide, by decide⟩,
    ⟨sXspi, 1, 1, 0, by decide⟩,
    ⟨sRun, by decide⟩⟩

theorem witness_SuppliesAndShedComplete :
    (∃ (supply : Nat) (mv : Nat), mv ≤ supMax (supply % 10)) ∧
    (∃ (supply : Nat) (mv : Nat), supMax (supply % 10) < mv) ∧
    (∃ (s : State) (o : Origin) (stage : Nat), s.grants o .PWR_CTL = true ∧ s.legal o .PWR_CTL 0 (depo (s.word .PWR_CTL) 31 29 stage) = true) ∧
    (∃ (s : State) (o : Origin) (stage : Nat), s.grants o .PWR_CTL = true ∧ s.presence = false ∧ s.accepts o .PWR_CTL 0 = true ∧ stage % 8 ≠ s.fld F.PWR_CTL_FORCE_STAGE ∧ stage % 8 < 7) :=
  ⟨⟨1, 850, by decide⟩,
    ⟨0, 901, by decide⟩,
    ⟨sPres, .pf0, 2, by decide, by decide⟩,
    ⟨sRun, .pf0, 2, by decide, by decide, by decide, by decide, by decide⟩⟩

theorem witness_MonitorsComplete :
    (∃ (s : State) (ref : Nat), ref < 7 ∧ (ref ≠ 5 ∨ s.start.refT = true) ∧ s.stimulated 12 = false) ∧
    (∃ (s : State) (ref : Nat), (7 ≤ ref ∨ (ref = 5 ∧ s.start.refT = false) ∨ s.stimulated 12 = true)) ∧
    (∃ (src : Nat), src < 26) ∧
    (∃ (src : Nat), 26 ≤ src) :=
  ⟨⟨sRun, 3, by decide, by decide, by decide⟩,
    ⟨sRun, 9, by decide⟩,
    ⟨3, by decide⟩,
    ⟨30, by decide⟩⟩

theorem witness_TackCommandsComplete :
    (∃ (s : State) (o : Origin), s.grants o .TCK_CMD = true ∧ o ≠ .pf1 ∧ o.isCore = false) ∧
    (∃ (s : State) (o : Origin), s.grants o .TCK_CMD = true ∧ (o = .pf1 ∨ o.isCore = true)) ∧
    (∃ (s : State) (o : Origin), s.grants o .TCK_CMD = true ∧ o ≠ .pf1 ∧ o.isCore = false) ∧
    (∃ (s : State) (o : Origin), s.grants o .TCK_CMD = true ∧ (o = .pf1 ∨ o.isCore = true)) ∧
    (∃ (s : State) (o : Origin), s.grants o .TCK_CMD = true ∧ o ≠ .pf1 ∧ o.isCore = false) ∧
    (∃ (s : State) (o : Origin), s.grants o .TCK_CMD = true ∧ (o = .pf1 ∨ o.isCore = true)) ∧
    (∃ (s : State), s.tck.stimSt = 1) ∧
    (∃ (s : State), s.tck.stimSt ≠ 1) ∧
    (∃ (s : State) (o : Origin), s.grants o .TCK_FLAG = true) ∧
    (∃ (s : State) (o : Origin) (src : Nat) (win : Bool) (v : W32), (s.grants o ((if win then Reg.TCK_RESP_WIN else Reg.TCK_RESP)) src = true) ∧ src < 26 ∧ s.presence = true ∧ (s.legal o ((if win then Reg.TCK_RESP_WIN else Reg.TCK_RESP)) src v = true) ∧ (win = true ∨ bits (s.wouldBe o ((if win then Reg.TCK_RESP_WIN else Reg.TCK_RESP)) src 0 v) 28 28 = 0 ∨ bits (s.wouldBe o ((if win then Reg.TCK_RESP_WIN else Reg.TCK_RESP)) src 0 v) 27 25 ≠ 0)) ∧
    (∃ (s : State) (o : Origin) (e : TckEnt), s.grants o .TCK_LOGW_CMD = true ∧ s.tck.log[s.fld F.TCK_LOGW_IDX_AGE 0 o.grp]? = some e) ∧
    (∃ (s : State) (o : Origin), s.grants o .TCK_LOGW_CMD = true ∧ s.tck.log[s.fld F.TCK_LOGW_IDX_AGE 0 o.grp]? = none) :=
  ⟨⟨sAck, .pf0, by decide, by decide, by decide⟩,
    ⟨sRun, .core 0, by decide, by decide⟩,
    ⟨sPres, .pf0, by decide, by decide, by decide⟩,
    ⟨sRun, .core 0, by decide, by decide⟩,
    ⟨sRun, .pf0, by decide, by decide, by decide⟩,
    ⟨sRun, .core 0, by decide, by decide⟩,
    ⟨sStim, by decide⟩,
    ⟨sRun, by decide⟩,
    ⟨sFlag, .pf0, by decide⟩,
    ⟨sPres, .pf0, 3, true, 0x03000064#32, by decide, by decide, by decide, by decide, by decide⟩,
    ⟨sTLog, .pf0, { ts := 1, kind := 4, seq := 1 }, by decide, by decide⟩,
    ⟨sRun, .pf0, by decide, by decide⟩⟩

theorem witness_RegisterWritesComplete :
    (∃ (s : State) (o : Origin) (addr : Nat) (v : W32) (x : RegInfo) (i : Nat), ((o ≠ .pf0 ∧ o ≠ .pf1) ∨ addr < 0x3000000) ∧ s.acuKind o addr true = 0 ∧ coreMem addr = false ∧ findReg addr = some (x, i) ∧ isCmd x.reg = false ∧ x.reg.within .OBS_CTL .OBS_CEL_CNT_HI = false ∧ x.reg.within .TIM_OUT_CFG .TIM_OUT_WIDTH = false ∧ [Reg.PWR_CTL, .TCK_FLAG, .TCK_RESP, .TCK_RESP_WIN, .TIM_CTL, .TIM_HOST, .TIM_CAP_CFG, .HPT_CFG, .LPT_CFG, .HPT_MAX_FRAME, .HPT_FC_THR, .HPT_DORMANT, .LPT_DORMANT, .HPT_RECAL, .LPT_RECAL, .CLS_AGE, .CLS_LP_MODE, .SEC_CTL, .SEC_SECY_CFG, .SEC_SECY_WIN, .YRD_TEST, .MKA_TIME0, .MKA_TIME1, .MKA_TIME2, .MKA_TIME3, .KEY_ZERO, .KEY_PROV_CMD, .KEY_PROV_DATA, .SVC_CTL, .TMG_PORT_CFG, .PCI_IVEC, .HFR_TX_BASE_LO, .HFR_TX_BASE_HI, .HFR_TX_CTL, .HFR_TX_TAIL, .HFR_RX_BASE_LO, .HFR_RX_BASE_HI, .HFR_RX_CTL, .HFR_RX_TAIL].contains x.reg = false ∧ s.legal o x.reg i v = true) ∧
    (∃ (s : State) (o : Origin) (addr : Nat), (o ≠ .pf0 ∧ o ≠ .pf1) ∧ s.acuKind o addr true = 0 ∧ coreMem addr = true) ∧
    (∃ (o : Origin) (addr : Nat), (o = .pf0 ∨ o = .pf1) ∧ 0x3000000 ≤ addr ∧ addr < 0x3000400 ∧ addr % 4 = 0) ∧
    (∃ (s : State) (o : Origin) (addr : Nat), ((o ≠ .pf0 ∧ o ≠ .pf1) ∨ addr < 0x3000000 ∨ 0x3001008 ≤ addr) ∧ s.acuKind o addr true ≠ 0) ∧
    (∃ (s : State) (o : Origin) (addr : Nat), ((o ≠ .pf0 ∧ o ≠ .pf1) ∨ addr < 0x3000000 ∨ 0x3001008 ≤ addr) ∧ s.acuKind o addr true = 0 ∧ coreMem addr = false ∧ findReg addr = none) ∧
    (∃ (s : State) (o : Origin) (addr : Nat) (x : RegInfo) (i : Nat), ((o ≠ .pf0 ∧ o ≠ .pf1) ∨ addr < 0x3000000 ∨ 0x3001008 ≤ addr) ∧ s.acuKind o addr true = 0 ∧ coreMem addr = false ∧ findReg addr = some (x, i)) :=
  ⟨⟨sRun, .pf0, 0x4F004, 5#32, enInfo, 0, by decide, by decide, by decide, by decide, by decide, by decide, by decide, by decide, by decide⟩,
    ⟨sCoreM, .core 1, 0x30000100, by decide, by decide, by decide⟩,
    ⟨.pf1, 0x300000C, by decide, by decide, by decide, by decide⟩,
    ⟨sRun, .pf1, 0x100000, by decide, by decide⟩,
    ⟨sRun, .pf0, 0x4F800, by decide, by decide, by decide, by decide⟩,
    ⟨sRun, .pf0, 0x4F004, enInfo, 0, by decide, by decide, by decide, by decide⟩⟩

theorem witness_HostRingsComplete :
    (∃ (s : State) (ring : Nat) (d : TxDesc), s.flag F.HFR_TX_CTL_EN (ring % 8) = true ∧ (s.ring (ring % 8)).fetch ≠ s.fld F.HFR_TX_TAIL_IDX (ring % 8) ∧ s.dscBad (ring % 8) d = false ∧ d.readOk = true) ∧
    (∃ (s : State) (ring : Nat) (d : TxDesc), s.flag F.HFR_TX_CTL_EN (ring % 8) = true ∧ (s.ring (ring % 8)).fetch ≠ s.fld F.HFR_TX_TAIL_IDX (ring % 8) ∧ (s.dscBad (ring % 8) d = true ∨ d.readOk = false)) ∧
    (∃ (s : State) (ring : Nat), (s.flag F.HFR_TX_CTL_EN (ring % 8) = false ∨ (s.ring (ring % 8)).fetch = s.fld F.HFR_TX_TAIL_IDX (ring % 8))) ∧
    (∃ (s : State) (ring : Nat) (d : Nat) (t : Int) (res : Nat) (irq : Bool), ((s.ring (ring % 8)).done.find? (fun e => decide (e.1 = (s.ring (ring % 8)).head)) = some (d, t, res, irq))) ∧
    (∃ (s : State) (ring : Nat), (s.ring (ring % 8)).done = []) ∧
    (∃ (s : State) (ring : Nat) (b : List Byte) (port : BitVec 8) (flags : BitVec 8) (trap : Nat) (ts : Int) (l : List (List Byte × BitVec 8 × BitVec 8 × Nat × Int)), (s.ring (8 + ring % 8)).rxq = (b, port, flags, trap, ts) :: l) ∧
    (∃ (s : State) (ring : Nat), (s.ring (8 + ring % 8)).rxq = []) ∧
    (∃ (s : State) (o : Origin) (tx : Bool) (ring : Nat), o = .pf0 ∧ (s.grants o ((if tx then Reg.HFR_TX_CTL else Reg.HFR_RX_CTL)) (ring % 8) = true)) ∧
    (∃ (s : State) (o : Origin) (tx : Bool) (ring : Nat), o ≠ .pf0 ∧ (s.grants o (if tx then Reg.HFR_TX_CTL else Reg.HFR_RX_CTL) (ring % 8) = true)) ∧
    (∃ (s : State) (o : Origin) (tx : Bool) (ring : Nat), o = .pf0 ∧ (s.grants o ((if tx then Reg.HFR_TX_CTL else Reg.HFR_RX_CTL)) (ring % 8) = true)) ∧
    (∃ (s : State) (o : Origin) (tx : Bool) (ring : Nat), o ≠ .pf0 ∧ (s.grants o (if tx then Reg.HFR_TX_CTL else Reg.HFR_RX_CTL) (ring % 8) = true)) ∧
    (∃ (s : State) (o : Origin) (tx : Bool) (ring : Nat), o = .pf0 ∧ (s.grants o ((if tx then Reg.HFR_TX_TAIL else Reg.HFR_RX_TAIL)) (ring % 8) = true)) ∧
    (∃ (s : State) (o : Origin) (tx : Bool) (ring : Nat), o ≠ .pf0 ∧ (s.grants o (if tx then Reg.HFR_TX_TAIL else Reg.HFR_RX_TAIL) (ring % 8) = true)) :=
  ⟨⟨sTxRing, 2, txD, by decide, by decide, by decide, by decide⟩,
    ⟨sTxRing, 2, { txD with readOk := false }, by decide, by decide, by decide⟩,
    ⟨sRun, 2, by decide⟩,
    ⟨sTxDone, 0, 0, 0, 0, false, by decide⟩,
    ⟨sRun, 0, by decide⟩,
    ⟨sRx, 1, frameA, 5#8, 0#8, 0, 0, [], by decide +kernel⟩,
    ⟨sRun, 1, by decide⟩,
    ⟨sUp, .pf0, false, 3, by decide, by decide⟩,
    ⟨sUp, .smbus, true, 3, by decide, by decide⟩,
    ⟨sTxRing, .pf0, true, 2, by decide, by decide⟩,
    ⟨sUp, .smbus, true, 3, by decide, by decide⟩,
    ⟨sUp, .pf0, true, 3, by decide, by decide⟩,
    ⟨sUp, .smbus, true, 3, by decide, by decide⟩⟩

theorem witness_SmbusAndIaholtComplete :
    (∃ (pec : Bool), pec = true) ∧
    (∃ (pec : Bool), pec = false) ∧
    (∃ (s : State) (nonce : List Byte) (k : Nat), (firstIdx (fun j => !(s.sess.look (fun _ => {}) j).open_) 0 4 = some k) ∧ s.flag F.MGT_CFG_IAH_EN = true ∧ (s.cakKey 1022 ≠ [] ∨ s.presence = true) ∧ nonce.length = 16 ∧ s.drbgKOk = true) ∧
    (∃ (s : State) (nonce : List Byte), (s.flag F.MGT_CFG_IAH_EN = false ∨ (s.cakKey 1022 = [] ∧ s.presence = false) ∨ nonce.length ≠ 16)) ∧
    (∃ (s : State) (h : IahHdr) (k : Nat) (x : IahSess), s.sessOf h.session = some (k, x) ∧ s.flag F.MGT_CFG_IAH_EN = true ∧ h.tagOk = true ∧ x.seq < h.seq) ∧
    (∃ (s : State) (h : IahHdr), (s.sessOf h.session = none ∨ (s.flag F.MGT_CFG_IAH_EN = true ∧ h.tagOk = false))) ∧
    (∃ (s : State) (h : IahHdr) (k : Nat) (x : IahSess), s.sessOf h.session = some (k, x) ∧ s.flag F.MGT_CFG_IAH_EN = true ∧ h.tagOk = true ∧ x.seq < h.seq) ∧
    (∃ (s : State) (h : IahHdr) (k : Nat) (x : IahSess), s.sessOf h.session = some (k, x) ∧ s.flag F.MGT_CFG_IAH_EN = true ∧ (h.tagOk = false ∨ h.seq ≤ x.seq)) ∧
    (∃ (s : State) (h : IahHdr) (k : Nat) (x : IahSess), s.sessOf h.session = some (k, x) ∧ s.flag F.MGT_CFG_IAH_EN = true ∧ h.tagOk = true ∧ x.seq < h.seq) :=
  ⟨⟨true, by decide⟩,
    ⟨false, by decide⟩,
    ⟨sIah, List.replicate 16 0#8, 0, by decide, by decide, by decide, by decide, by decide⟩,
    ⟨sRun, [], by decide⟩,
    ⟨sSess, ⟨9#32, 1, true⟩, 0, sess9, by decide, by decide, by decide, by decide⟩,
    ⟨sRun, ⟨9#32, 1, true⟩, by decide⟩,
    ⟨sSess, ⟨9#32, 1, true⟩, 0, sess9, by decide, by decide, by decide, by decide⟩,
    ⟨sSess, ⟨9#32, 0, true⟩, 0, sess9, by decide, by decide, by decide⟩,
    ⟨sSess, ⟨9#32, 1, true⟩, 0, sess9, by decide, by decide, by decide, by decide⟩⟩

theorem witness_CommitsAndTapInstructionsComplete :
    (∃ (s : State) (o : Origin) (acu : Nat), s.grants o .ACU_CTL ((acu % 91)) = true ∧ acuMaster o ((acu % 91)) = true ∧ (((acu % 91) ≠ 80 ∧ (acu % 91) ≠ 81) ∨ s.presence = true) ∧ (s.acu ((acu % 91))).drained = true ∧ rulesOk (s.acuShadow ((acu % 91))) = true) ∧
    (∃ (s : State) (o : Origin) (acu : Nat), s.grants o .ACU_CTL ((acu % 91)) = true ∧ (acuMaster o ((acu % 91)) = false ∨ (s.acu ((acu % 91))).drained = false ∨ rulesOk (s.acuShadow ((acu % 91))) = false) ∧ (((acu % 91) ≠ 80 ∧ (acu % 91) ≠ 81) ∨ s.presence = true)) ∧
    (∃ (s : State), s.presence = true) ∧
    (∃ (s : State), s.presence = false) ∧
    (∃ (s : State), s.presence = true) ∧
    (∃ (s : State), s.presence = false) ∧
    (∃ (s : State), s.presence = true) ∧
    (∃ (s : State), s.presence = false) ∧
    (∃ (s : State), s.presence = true) ∧
    (∃ (s : State), s.presence = false) ∧
    (∃ (s : State), s.presence = true) ∧
    (∃ (s : State), s.presence = false) :=
  ⟨⟨sRun, .core 1, 5, by decide, by decide, by decide, by decide, by decide⟩,
    ⟨sRun, .pf0, 5, by decide, by decide, by decide⟩,
    ⟨sPres, by decide⟩,
    ⟨sRun, by decide⟩,
    ⟨sPres, by decide⟩,
    ⟨sRun, by decide⟩,
    ⟨sPres, by decide⟩,
    ⟨sRun, by decide⟩,
    ⟨sPres, by decide⟩,
    ⟨sRun, by decide⟩,
    ⟨sPres, by decide⟩,
    ⟨sRun, by decide⟩⟩

theorem witness_DebugCommandsComplete :
    (∃ (s : State), s.drbgKOk = true) ∧
    (∃ (s : State), s.drbgKOk = false) ∧
    (∃ (s : State) (pub : List Byte) (n : List Byte), s.jtag.nonce = some n ∧ s.presence = true ∧ sha384 pub = s.fuses.keyHash) ∧
    (∃ (s : State), (s.presence = false ∨ s.jtag.nonce = none)) ∧
    (∃ (s : State) (k : DbgKind) (c : Nat), s.jtag.unlocked = true ∧ (k = DbgKind.halt c ∨ k = DbgKind.resume c)) ∧
    (∃ (s : State), s.jtag.unlocked = false) ∧
    (∃ (s : State) (k : DbgKind) (c : Nat) (a : Nat), s.jtag.unlocked = true ∧ k = DbgKind.read c a) ∧
    (∃ (s : State) (k : DbgKind) (c : Nat) (a : Nat) (v : W32), s.jtag.unlocked = true ∧ k = DbgKind.write c a v) ∧
    (∃ (s : State) (k : DbgKind) (c : Nat), s.jtag.unlocked = true ∧ k = DbgKind.step c) ∧
    (∃ (s : State) (k : DbgKind), s.jtag.unlocked = true ∧ k = DbgKind.scan) :=
  ⟨⟨sRun, by decide⟩,
    ⟨sNoRng, by decide⟩,
    ⟨sDbg, gPub, [], by decide, by decide, by decide +kernel⟩,
    ⟨sRun, by decide⟩,
    ⟨sUnl, .halt 3, 3, by decide, by decide⟩,
    ⟨sRun, by decide⟩,
    ⟨sUnlH, .read 3 0x30000000, 3, 0x30000000, by decide, by decide⟩,
    ⟨sUnlH, .write 3 0x30000000 7#32, 3, 0x30000000, 7#32, by decide, by decide⟩,
    ⟨sUnl, .step 3, 3, by decide, by decide⟩,
    ⟨sUnl, .scan, by decide, by decide⟩⟩

theorem witness_ObservationCommandsComplete :
    (∃ (s : State) (u : ObsUnit) (cnt : Nat) (w : Nat × Nat), (s.obs.wrapped.find? (fun e => e.1 == obsKey u cnt) = some w) ∧ s.obs.on = true) ∧
    (∃ (s : State) (u : ObsUnit) (cnt : Nat), (s.obs.wrapped.find? (fun e => e.1 == obsKey u cnt) = none ∨ s.obs.on = false)) ∧
    (∃ (s : State) (o : Origin), s.grants o .OBS_SMPW_CMD = true ∧ s.accepts o .OBS_SMPW_CMD 0 = true) ∧
    (∃ (s : State) (o : Origin), s.grants o .OBS_SMPW_CMD = true ∧ s.accepts o .OBS_SMPW_CMD 0 = false) ∧
    (∃ (s : State) (o : Origin) (on : Bool), s.grants o .OBS_CTL = true ∧ (s.legal o .OBS_CTL 0 (depo (s.word .OBS_CTL) 31 31 (if on then 1 else 0)) = true)) ∧
    (∃ (s : State) (x : LogPend), nextLog s.obs.pend = some x) ∧
    (∃ (s : State), nextLog s.obs.pend = none) ∧
    (∃ (s : State) (o : Origin), s.grants o .OBS_LOGW_CMD = true ∧ s.accepts o .OBS_LOGW_CMD 0 = true) ∧
    (∃ (s : State) (o : Origin), s.grants o .OBS_LOGW_CMD = true ∧ s.accepts o .OBS_LOGW_CMD 0 = false) :=
  ⟨⟨sWrap, .core 2, 1, (obsKey (.core 2) 1, 0), by decide, by decide⟩,
    ⟨sRun, .core 2, 1, by decide⟩,
    ⟨sSmp, .pf0, by decide, by decide⟩,
    ⟨sPf1W, .pf1, by decide, by decide⟩,
    ⟨sRun, .pf0, true, by decide, by decide⟩,
    ⟨sPendL, pend1, by decide⟩,
    ⟨sRun, by decide⟩,
    ⟨sOLog, .pf0, by decide, by decide⟩,
    ⟨sPf1W, .pf1, by decide, by decide⟩⟩

theorem witness_ClosedWindowRefusesGatedCommands :
    (∃ (s : State) (o : Origin), s.grants o .CLS_BANK = true ∧ (s.presence = false)) ∧
    (∃ (s : State) (o : Origin), s.grants o .KEY_CAKW_CMD = true ∧ (o = .pf0 ∨ o = .iaholt) ∧ (s.presence = false)) ∧
    (∃ (s : State) (o : Origin), s.grants o .KEY_PROV_CMD = true ∧ (o = .pf0 ∨ o = .iaholt) ∧ (s.presence = false)) ∧
    (∃ (s : State) (o : Origin), s.grants o .KEY_PROV_CMD = true ∧ (o = .pf0 ∨ o = .iaholt) ∧ (s.presence = false)) ∧
    (∃ (s : State) (o : Origin) (v : W32), s.grants o .KEY_ZERO = true ∧ (s.presence = false) ∧ v = 0x5A3C#32) ∧
    (∃ (s : State) (o : Origin), s.grants o .MKA_CAW_CMD = true ∧ (s.presence = false)) ∧
    (∃ (s : State) (o : Origin), s.grants o .TMG_GCW_CMD = true ∧ (s.presence = false)) ∧
    (∃ (s : State) (o : Origin), s.grants o .PAR_CMD = true ∧ (o = .pf0 ∨ o = .iaholt) ∧ (s.presence = false)) ∧
    (∃ (s : State) (o : Origin), s.grants o .PAR_CMD = true ∧ (o = .pf0 ∨ o = .iaholt) ∧ (s.presence = false)) ∧
    (∃ (s : State) (o : Origin), s.grants o .PAR_CMD = true ∧ (o = .pf0 ∨ o = .iaholt) ∧ (s.presence = false)) ∧
    (∃ (s : State) (o : Origin), s.grants o .STA_CMD = true ∧ (o = .pf0 ∨ o = .iaholt ∨ o = .smbus) ∧ (s.presence = false)) ∧
    (∃ (s : State) (o : Origin), s.grants o .STA_CMD = true ∧ (o = .pf0 ∨ o = .iaholt ∨ o = .smbus) ∧ (s.presence = false)) ∧
    (∃ (s : State) (o : Origin), s.grants o .TCK_CMD = true ∧ (o = .pf0 ∨ o = .iaholt ∨ o = .smbus) ∧ (s.presence = false)) ∧
    (∃ (s : State) (o : Origin) (owner : Nat), s.grants o .TIM_CTL = true ∧ owner % 4 ≠ s.fld F.TIM_CTL_OWNER ∧ (s.presence = false)) ∧
    (∃ (s : State) (o : Origin) (v : W32), s.grants o .TCK_FLAG = true ∧ (s.tck.flags &&& v.setWidth 26) ≠ s.tck.flags ∧ (s.presence = false)) :=
  ⟨⟨sRun, .pf0, by decide, by decide⟩,
    ⟨sRun, .pf0, by decide, by decide, by decide⟩,
    ⟨sRun, .pf0, by decide, by decide, by decide⟩,
    ⟨sRun, .pf0, by decide, by decide, by decide⟩,
    ⟨sRun, .pf0, 0x5A3C#32, by decide, by decide, by decide⟩,
    ⟨sRun, .pf0, by decide, by decide⟩,
    ⟨sRun, .pf0, by decide, by decide⟩,
    ⟨sRun, .pf0, by decide, by decide, by decide⟩,
    ⟨sRun, .pf0, by decide, by decide, by decide⟩,
    ⟨sRun, .pf0, by decide, by decide, by decide⟩,
    ⟨sRun, .pf0, by decide, by decide, by decide⟩,
    ⟨sRun, .pf0, by decide, by decide, by decide⟩,
    ⟨sRun, .pf0, by decide, by decide, by decide⟩,
    ⟨sRun, .pf0, 1, by decide, by decide, by decide⟩,
    ⟨sFlagNP, .pf0, 0#32, by decide, by decide, by decide⟩⟩

theorem witness_CommandsTurnedAwayLeaveTheirTargets :
    (∃ (s : State) (o : Origin), s.grants o .TIM_ADJ_CMD = true ∧ s.par.st ≠ .standby ∧ s.ownsTime o = false) ∧
    (∃ (s : State) (o : Origin), s.grants o .TIM_ADJ_CMD = true ∧ s.par.st ≠ .standby ∧ s.ownsTime o = false) ∧
    (∃ (s : State) (o : Origin), s.grants o .TIM_ADJ_CMD = true ∧ s.par.st ≠ .standby ∧ s.ownsTime o = false) ∧
    (∃ (s : State) (o : Origin), s.grants o .TIM_ADJ_CMD = true ∧ s.par.st = .standby) ∧
    (∃ (s : State) (h : IahHdr) (k : Nat) (x : IahSess), s.sessOf h.session = some (k, x) ∧ s.flag F.MGT_CFG_IAH_EN = true ∧ (h.tagOk = false ∨ h.seq ≤ x.seq)) ∧
    (∃ (s : State) (h : IahHdr) (k : Nat) (x : IahSess), s.sessOf h.session = some (k, x) ∧ s.flag F.MGT_CFG_IAH_EN = true ∧ (h.tagOk = false ∨ h.seq ≤ x.seq)) ∧
    (∃ (s : State) (h : IahHdr) (k : Nat) (x : IahSess), s.sessOf h.session = some (k, x) ∧ s.flag F.MGT_CFG_IAH_EN = true ∧ (h.tagOk = false ∨ h.seq ≤ x.seq)) ∧
    (∃ (s : State) (o : Origin), s.grants o .YRD_TEST = true ∧ o.main = true ∧ s.testBusy = true) ∧
    (∃ (s : State), s.presence = false) ∧
    (∃ (s : State), s.presence = false) ∧
    (∃ (s : State), s.presence = false) ∧
    (∃ (s : State) (o : Origin) (tx : Bool) (ring : Nat) (v : W32), o = .pf0 ∧ (s.grants o ((if tx then Reg.HFR_TX_TAIL else Reg.HFR_RX_TAIL)) (ring % 8) = true) ∧ (2 ^ (6 + bits (s.word (if tx then Reg.HFR_TX_CTL else Reg.HFR_RX_CTL) (ring % 8)) 3 0) ≤ bits v 15 0)) :=
  ⟨⟨sOwn, .core 1, by decide, by decide, by decide⟩,
    ⟨sOwn, .core 1, by decide, by decide, by decide⟩,
    ⟨sOwn, .core 1, by decide, by decide, by decide⟩,
    ⟨sSby, .pf0, by decide, by decide⟩,
    ⟨sSess, ⟨9#32, 0, true⟩, 0, sess9, by decide, by decide, by decide⟩,
    ⟨sSess, ⟨9#32, 1, false⟩, 0, sess9, by decide, by decide, by decide⟩,
    ⟨sSess, ⟨9#32, 0, true⟩, 0, sess9, by decide, by decide, by decide⟩,
    ⟨sTestE, .pf0, by decide, by decide, by decide⟩,
    ⟨sRun, by decide⟩,
    ⟨sRun, by decide⟩,
    ⟨sRun, by decide⟩,
    ⟨sUp, .pf0, true, 3, 64#32, by decide, by decide, by decide⟩⟩

/-! ## What WellFormed refuses: one ill-formed term for each check -/

def h0 : IahHdr := ⟨0, 0, true⟩


theorem test_wf_refuses_1 : ([
    .hostFrameReceived 64 ⟨[], 1, 1⟩, .lineFrameReceived 64 ⟨[], 1, 1⟩, .pauseRefresh 64, .parityRepair 4 1,
    .parkedFrameDrop 2048, .coldSaFetchDone 73728 .clean, .demotionWritebackDone 73728, .transmitSelection ⟨.line, 64⟩,
    .engineFault 64 1, .engineStall 64, .linkUp ⟨.line, 64⟩ 1 1, .linkUp ⟨.host, 1⟩ 12 1, .linkUp ⟨.host, 1⟩ 1 4,
    .linkDown ⟨.line, 64⟩, .trainingRestart ⟨.line, 64⟩, .forcedFormProbe ⟨.line, 64⟩ true,
    .recalReq (.core 16) ⟨.host, 1⟩ true, .recalReq (.task 16 0) ⟨.host, 1⟩ true,
    .recalReq (.task 0 2048) ⟨.host, 1⟩ true, .recalReq .pf0 ⟨.line, 64⟩ true, .recalDone ⟨.line, 64⟩ [],
    .maxFrameWrite (.core 16) 1 0, .maxFrameWrite .pf0 64 0, .fcThrWrite (.core 16) 1 0
    ] : List Instr).all (fun c => !c.wf) = true := by decide

theorem test_wf_refuses_2 : ([
    .fcThrWrite .pf0 64 0, .pauseFrameReceived ⟨.line, 64⟩ 1, .pfcFrameReceived ⟨.line, 64⟩ 0 [],
    .pauseExpired ⟨.line, 64⟩ none, .pauseStorm ⟨.line, 64⟩, .pauseStormQuiet ⟨.line, 64⟩, .portDormant ⟨.line, 64⟩,
    .beacon ⟨.line, 64⟩, .portWake ⟨.line, 64⟩, .wakeEnergyQualified ⟨.line, 64⟩, .dormantWake (.core 16) ⟨.host, 1⟩,
    .dormantWake .pf0 ⟨.line, 64⟩, .statSnap (.core 16) ⟨.host, 1⟩, .statSnap .pf0 ⟨.line, 64⟩, .bankSwitch (.core 16),
    .ageWrite (.core 16) 0, .twRead (.core 16) 1 1 1, .twRead .pf0 4 1 1, .twRead .pf0 1 11 1, .twRead .pf0 1 1 2,
    .twWrite (.core 16) 1 1 1, .twWrite .pf0 4 1 1, .twWrite .pf0 1 11 1, .twWrite .pf0 1 1 2
    ] : List Instr).all (fun c => !c.wf) = true := by decide

theorem test_wf_refuses_3 : ([
    .twInsert (.core 16) 1, .twInsert .pf0 4, .twDelete (.core 16) 1, .twDelete .pf0 4, .twFlushLport (.core 16) 1,
    .twFlushLport .pf0 4, .twFlushPeer (.core 16) 1, .twFlushPeer .pf0 4, .lpModeWrite (.core 16) 1 0,
    .lpModeWrite .pf0 64 0, .sawRead (.core 16), .sawInstall (.core 16), .sawRetire (.core 16), .sawRaise (.core 16),
    .sawArm (.core 16) 0, .sawDisarm (.core 16), .sawSwitch (.core 16), .rscwRead (.core 16), .rscwInstall (.core 16),
    .rscwRemove (.core 16), .saDrained 73728, .keySwitchEpoch 2048, .secyCfgWrite (.core 16) .ctl 0,
    .secyCfgWrite .pf0 (.cfg 2048) 0
    ] : List Instr).all (fun c => !c.wf) = true := by decide

theorem test_wf_refuses_4 : ([
    .secyCfgWrite .pf0 (.win 2048) 0, .loRegisterCapture (.core 16) 1, .loRegisterCapture .pf0 (2 ^ 32),
    .minMaxRead (.core 16) 1, .minMaxRead .pf0 (2 ^ 32), .mkpduReceived 64 mkpdu0, .mkaHelloTimer 2048,
    .peerTimeout 2048 0, .sakLifetimeExpired 2048, .sakSlotRetry 2048, .rxRetainExpired 2048, .caSaRetire 2048,
    .caStart 2048, .cawReadCa (.core 16), .cawReadPeer (.core 16), .cawRekey (.core 16), .cawRestart (.core 16),
    .mkaTimeWrite (.core 16) 1 0, .mkaTimeWrite .pf0 4 0, .commitReceived (.line 64) 0 [],
    .revealReceived (.line 64) 0 [] [], .confirmReceived (.line 64) 0 [], .slotwReadStatus (.core 16),
    .slotwAllocate (.core 16)
    ] : List Instr).all (fun c => !c.wf) = true := by decide

theorem test_wf_refuses_5 : ([
    .slotwRelease (.core 16), .slotwGen128 (.core 16), .slotwGen256 (.core 16), .cakwRead (.core 16),
    .cakwErase (.core 16), .provBegin (.core 16) 1, .provBegin .pf0 1024, .provCommit (.core 16),
    .provAbort (.core 16), .provDataAccess (.core 16) true 0, .keyZero (.core 16) 0, .svcEcbEncrypt (.core 16) 1,
    .svcEcbEncrypt .pf0 32, .svcEcbDecrypt (.core 16) 1, .svcEcbDecrypt .pf0 32, .svcCbcEncrypt (.core 16) 1,
    .svcCbcEncrypt .pf0 32, .svcCbcDecrypt (.core 16) 1, .svcCbcDecrypt .pf0 32, .svcCtr (.core 16) 1, .svcCtr .pf0 32,
    .svcGcmEncrypt (.core 16) 1, .svcGcmEncrypt .pf0 32, .svcGcmDecrypt (.core 16) 1
    ] : List Instr).all (fun c => !c.wf) = true := by decide

theorem test_wf_refuses_6 : ([
    .svcGcmDecrypt .pf0 32, .svcCmac (.core 16) 1, .svcCmac .pf0 32, .svcKeyWrap (.core 16) 1 true,
    .svcKeyWrap .pf0 32 true, .svcKeyUnwrap (.core 16) 1 true, .svcKeyUnwrap .pf0 32 true, .svcKdf (.core 16) 1 true,
    .svcKdf .pf0 32 true, .svcContextSave (.core 16) 1 true, .svcContextSave .pf0 32 true,
    .svcContextRestore (.core 16) 1 true, .svcContextRestore .pf0 32 true, .svcDrbgOutput (.core 16) 1 true,
    .svcDrbgOutput .pf0 32 true, .svcLoadContextKey (.core 16) 1, .svcLoadContextKey .pf0 32, .svcOperationDone 32,
    .tplRead (.core 16), .tplWrite (.core 16), .setShrink true 16384, .testRequest (.core 16) 1 1,
    .testRequest .pf0 1 64, .engineDrained 64
    ] : List Instr).all (fun c => !c.wf) = true := by decide

theorem test_wf_refuses_7 : ([
    .engineTestDone 64 true 1 1, .engineWakeDone 64 1, .scwRead (.core 16), .shwRead (.core 16), .shwWrite (.core 16),
    .shwWriteAtEpoch (.core 16), .qwRead (.core 16), .qwWrite (.core 16), .polwRead (.core 16), .polwWrite (.core 16),
    .gcwRead (.core 16), .gcwWrite (.core 16), .configChange (.core 16) 1, .configChange .pf0 128, .gateListChange 128,
    .gateEntryAdvance 128, .launchDue 64 1, .launchDue 1 2, .launchRelease 64 1, .launchRelease 1 2,
    .launchLate ⟨.line, 64⟩ 1, .launchLate ⟨.host, 1⟩ 2, .pageMove 4 [], .stackDrained 4
    ] : List Instr).all (fun c => !c.wf) = true := by decide

theorem test_wf_refuses_8 : ([
    .stackWakeDone 4 true, .stackLost 4, .copyRebuildDone 4, .rgwRead (.core 16), .dgwRead (.core 16),
    .dgwWrite (.core 16), .adjRate (.core 16), .adjStep (.core 16), .adjRateAndStep (.core 16), .adjSet (.core 16),
    .ownerWrite (.core 16) 1, .ownerWrite .pf0 3, .timeSnapshot (.core 16), .hostLockWrite (.core 16) true,
    .captureEdge 5, .capturePop (.core 16) 1, .capturePop .pf0 5, .outputEdge 5,
    .helloReceived 1 .zero 0 2 .solo 1 [] 0 [] true true, .statusReceived 1 .zero .solo 7 true true,
    .sakRecord 1 .zero 2048 [] 1 0 1 [] 0, .sakRecord 1 .zero 1 [] 1 0 4 [] 0, .saCommandRecord 1 .zero 1 73728 1,
    .pnLeaseRecord 1 .zero 73728 1
    ] : List Instr).all (fun c => !c.wf) = true := by decide

theorem test_wf_refuses_9 : ([
    .mkaStateRecord 1 .zero 2048 0 true 0 0 1 1, .mkaStateRecord 1 .zero 1 0 true 0 0 4 1,
    .mkaStateRecord 1 .zero 1 0 true 0 0 1 4, .mnLeaseRecord 1 .zero 2048 1, .mkaPeerRecord 1 .zero 2048 0 1 0 true,
    .epochRecord 1 .zero 2048 1 0 none, .epochRecord 1 .zero 1 4 0 none, .cakRecord 1 .zero 1024 [] 1 [],
    .parTest (.core 16), .parExit (.core 16), .parSwitch (.core 16), .parAcceptDigest (.core 16),
    .staResetWarm (.core 16), .staResetCold (.core 16), .clearHold (.core 16), .clearAlt (.core 16),
    .staLogwRead (.core 16), .xspiRead (.core 16) 1, .xspiProgram (.core 16), .xspiErase (.core 16),
    .xspiVerify (.core 16), .supplyCrossing 10 1, .forceStageWrite (.core 16) 1, .forceStageWrite .pf0 8
    ] : List Instr).all (fun c => !c.wf) = true := by decide

theorem test_wf_refuses_10 : ([
    .clockMonitorWindow 7 .inRange, .clockGlitch 7, .supplyGlitch 10, .alarmHoldExpired 26, .ack (.core 16),
    .close (.core 16), .stim (.core 16) 1, .stim .pf0 26, .flagClear (.core 16) 0,
    .responseRecordWrite (.core 16) 1 true 0, .responseRecordWrite .pf0 26 true 0, .tckLogwRead (.core 16),
    .registerWrite (.core 16) 1 0, .registerWrite .pf0 (2 ^ 32) 0, .txDescriptor 8 txD, .txWriteback 8,
    .rxWriteback 8 0, .rxCoalesce 8, .ringEnable (.core 16) true 1, .ringEnable .pf0 true 8,
    .ringDisable (.core 16) true 1, .ringDisable .pf0 true 8, .tailWrite (.core 16) true 1 0, .tailWrite .pf0 true 8 0
    ] : List Instr).all (fun c => !c.wf) = true := by decide

theorem test_wf_refuses_11 : ([
    .smbAddr true (2 ^ 32), .iaholtRead h0 1 0, .iaholtRead h0 1 65, .iaholtIdleClose 4, .acuCommit (.core 16) 1,
    .acuCommit .pf0 91, .acuFenceDrained 91, .debugAccess (.halt 16), .debugAccess (.resume 16),
    .debugAccess (.step 16), .debugAccess (.read 16 0), .debugAccess (.read 0 4294967296),
    .debugAccess (.write 16 0 0), .debugAccess (.write 0 4294967296 0), .counterWrapSample (.engine 64) 1 0 0,
    .counterWrapSample (.port 128) 1 0 0, .counterWrapSample (.core 16) 1 0 0, .counterWrapSample .cellar 8 0 0,
    .smpwPop (.core 16), .freeze (.core 16) true, .obsLogwRead (.core 16), .iaholtRead ⟨0, 2 ^ 64, true⟩ 0 1,
    .iaholtWrite ⟨0, 2 ^ 64, true⟩ [(0, 0)], .iaholtWrite h0 []
    ] : List Instr).all (fun c => !c.wf) = true := by decide

theorem test_wf_refuses_12 : ([
    .iaholtWrite h0 (List.replicate 65 (0, 0)), .iaholtClose ⟨0, 2 ^ 64, true⟩
    ] : List Instr).all (fun c => !c.wf) = true := by decide

/-! ## Worked examples and tables of spec/, and the test vectors of the standards the spec names -/

/-- The octets of a hexadecimal number, n of them. -/
def hex (n v : Nat) : List Byte := beOctets n v

/-- What a command leaves; the state itself where it stops. -/
def after (c : Instr) (s : State) : State :=
  match exec c s with
  | .next t => t
  | _ => s

/-- FIPS 197, appendices C.1 and C.3. -/
theorem test_aes128 : aesEnc (hex 16 0x000102030405060708090a0b0c0d0e0f) (hex 16 0x00112233445566778899aabbccddeeff) =
    hex 16 0x69c4e0d86a7b0430d8cdb78070b4c55a := by decide +kernel

theorem test_aes256 : aesEnc (hex 32 0x000102030405060708090a0b0c0d0e0f101112131415161718191a1b1c1d1e1f)
    (hex 16 0x00112233445566778899aabbccddeeff) = hex 16 0x8ea2b7ca516745bfeafc49904b496089 := by decide +kernel

theorem test_aes128_inverse : aesDec (hex 16 0x000102030405060708090a0b0c0d0e0f) (hex 16 0x69c4e0d86a7b0430d8cdb78070b4c55a) =
    hex 16 0x00112233445566778899aabbccddeeff := by decide +kernel

/-- RFC 4493, example 1. -/
theorem test_cmac : cmac (hex 16 0x2b7e151628aed2a6abf7158809cf4f3c) [] = hex 16 0xbb1d6929e95937287fa37d129b756746 := by decide +kernel

/-- The GCM specification, test case 2. -/
theorem test_gcm : gcmEnc (zeros 16) (zeros 12) [] (zeros 16) =
    (hex 16 0x0388dace60b6a392f328c2b971b2fe78, hex 16 0xab6e47d42cec13bdf53a67b21257bddf) := by decide +kernel

/-- FIPS 180-4, the digest of "abc". -/
theorem test_sha384 : sha384 [0x61#8, 0x62#8, 0x63#8] =
    hex 48 0xcb00753f45a35e8bb5a03d699ac65007272c32ab0eded1631a8b605a43ff5bed8086072ba1e7cc2358baeca134c825a7 := by decide +kernel

/-- The CRC-32 check value of "123456789", sent lowest octet first. -/
theorem test_fcs : fcs [0x31#8, 0x32#8, 0x33#8, 0x34#8, 0x35#8, 0x36#8, 0x37#8, 0x38#8, 0x39#8] = [0x26#8, 0x39#8, 0xF4#8, 0xCB#8] := by
  decide +kernel

/-- R25's examples (01_the_secured_path.md): 96 and 1,550 octets of ciphertext, and the voice-alarm frame's 204. -/
theorem test_frame_cost : [96, 1550, 204].map frameCost = [8, 99, 15] := by decide

/-- The IV of the worked example of 04_secy_frame_protection.md. -/
theorem test_xpn_iv : gcmIv true 0x063C914000000008 1 0x4B7C19E0D2A63F580C91E744 0x18E3A0B12 =
    hex 12 0x4B7C19E1D2A63F5982ABEC56 := by decide

/-- The SecTAG of the same example. -/
theorem test_sectag : secTag 2 0 0 0x18E3A0B12 (some 0x063C914000000008) = hex 16 0x88E52E008E3A0B12063C914000000008 := by decide

/-- 18_register_map.md: TMG_PORT_STATUS of LP8 and SEC_SECY_TX of SecY 7. -/
theorem test_register_addresses : regAddr .TMG_PORT_STATUS 72 = 0x702220 ∧ regAddr .SEC_SECY_TX 7 = 0x3100F0 := by decide

/-- 09_cellar.md: the path of line index 0x0123_4567 of M1. -/
theorem test_node_path :
    ((tagAddr 1 0x1234567 :: (List.range 6).map (fun k => hAddr 1 (k + 1) (0x1234567 / 8 ^ (k + 1)))).map lineIdx) =
      [0x25FC68AC, 0x2AB768AC, 0x2F528D15, 0x2FE5F1A2, 0x2FF85E34, 0x2FFAABC6, 0x2FFAF578] ∧
    (List.range 4).map (fun k => 0x1234567 / 8 ^ (k + 7)) = [9, 1, 0, 0] := by decide

/-- The copy of its level-3 line, on M0. -/
theorem test_node_copy : (sRun.setStk 1 { partner := some 0, copyValid := true }).copyAddr 1 0x2FF85E34 = some 0x25D55F8E := by decide

/-- 08_traffic_manager.md, the debt of queue 32: a debit of 1,532 octets, a refill at 4,000, one at the pending 1,000, and the
clamp at the new burst. -/
theorem test_bucket_debt :
    let b : Bucket := { tokens := 1000, rate := 4000, burst := 8, eff := 4000 }
    let c := b.debit 1532
    c.tokens = -11416 ∧ (c.refill 0 none).tokens = -7416 ∧
      ({ c.refill 0 none with pend := some (1000, 4, 20, 0, 1) }.refill 0 none).tokens = -6416 ∧
      ({ b with tokens := 7584, rate := 1000, burst := 4 }.refill 0 none).tokens = 8192 := by decide

/-- 10_time.md: the UDP checksum after PTPCF adds 1,000 ns. -/
theorem test_checksum_fix : csumStep 0x1A2B 0x0000 0x03E8 = 0x1643 := by decide

/-- 16_host_interfaces_and_access.md: the launch time of descriptor 37. -/
theorem test_stamp : stamp (timeSNs 1760000000 250000000) = 0x1A39DE000EE6B280#64 := by decide

/-- 03_classification_and_peer_tables.md: the walk of 10.72.18.40 ends at result 3. -/
theorem test_trie_walk :
    ((((sRun.setClsWord 0 0 sRun.bank 2632 0x40000400#32).setClsWord 0 1 0 1042 0x40000200#32).setClsWord 0 2 0 552
      0x27000003#32).walk 0 0 0x0A48 [0x12, 0x28]).2 = some 3 := by decide

/-- 14_power_and_shedding.md: 0.700 V is VW1, 0.670 V VW2, 0.640 V VW3. -/
theorem test_vcore_demands : [701, 699, 669, 639].map (fun mv => (after (.supplyCrossing 0 mv) sRun).pwr.dVcore) = [0, 2, 4, 5] := by
  decide +kernel

/-- 14, R290: +115 °C is S2 and +140 °C S6. -/
theorem test_tj_demands : [459, 460, 560].map (fun x => (after (.tjSample [x] 0) sRun).pwr.dTj) = [0, 2, 6] := by decide +kernel

/-- R77: a PN is issued and the next one follows. -/
theorem test_pn_issue : ((after (.pnIssue 0) sTx).sa 0).pn = 2 ∧ ((after (.pnIssue 0) sTx).frame? 0).map (fun f => f.pn) = some 1 := by
  decide +kernel

/-- R361, R366: GLB_DEV_ID read by SMBus. -/
theorem test_read_dev_id : (after (.loRegisterCapture .pf0 (regAddr .GLB_DEV_ID 0)) sRun).out.contains (.readData .pf0 0 0x64085F1A#32) = true := by
  decide +kernel

/-- R340, R344: a user task that no region covers is denied, kind 1. -/
theorem test_acu_denial : (after (.rgwRead (.task 2 0)) sRun).acuKind (.task 2 0) (regAddr .CEL_RGW_CMD 0) true = 1 ∧
    ((after (.rgwRead (.task 2 0)) sRun).acu (Origin.task 2 0).acu).faultCnt = 1 := by decide +kernel

/-- R366: a write of a read-only register changes nothing and is a fault of kind 4. -/
theorem test_read_only : (after (.registerWrite .pf0 (regAddr .GLB_DEV_ID 0) 0#32) sRun).regView .GLB_DEV_ID 0 0 = 0x64085F1A#32 := by
  decide +kernel

end Sys2Proof.Tests
end

section
/-!
PROOFS. What the provers share: a register command that its ACU grants, a legal register write, what the port and ledger
operations leave alone.
-/

namespace Sys2Proof.Machine

/-! ## Granted commands and legal writes (R8, R10, R340) -/

/-- A command that is a write of one register, granted by its origin's ACU, ends in the state of its effect. -/
theorem exec_granted {c : Instr} {s : State} {o : Origin} {r : Reg} {i : Nat} {f : State → State}
    (hc : exec c s = .next (s.done (s.hostWrite o r i f))) (hg : s.grants o r i = true) :
    exec c s = .next (s.done (f s)) := by
  rw [hc, State.hostWrite_granted s o r i f hg]

/-- A legal write that meets the register's own rule stores its word and does nothing else. -/
theorem State.putReg_legal {s : State} {o : Origin} {r : Reg} {i : Nat} {v : W32} {ok : W32 → Bool}
    (hl : s.legal o r i v = true) (hok : ok (s.wouldBe o r i (copyOf o r) v) = true) :
    s.putReg o r i v ok = s.written o r i v := by
  simp only [State.legal, Bool.and_eq_true, Bool.not_eq_true', beq_iff_eq, Bool.or_eq_true] at hl
  obtain ⟨⟨⟨hacc, hgate⟩, hrange⟩, hfault⟩ := hl
  have hopen : (presGated r i && !s.presence) = false := by
    rcases hgate with h | h <;> simp [h]
  simp [State.putReg, hacc, hopen, hrange, hfault, hok, State.written]

/-! ## Register words beside the tables -/

@[simp] theorem State.port_setWord (s : State) (r : Reg) (w : W32) (i g p : Nat) :
    (s.setWord r w i g).port p = s.port p := by simp [State.port]

@[simp] theorem State.port_setFld (s : State) (f : FieldRef) (v i g p : Nat) :
    (s.setFld f v i g).port p = s.port p := State.port_setWord ..

/-! ## Frames of the port and ledger operations -/

theorem State.portInt_frame (s : State) (p b : Nat) :
    ∃ g w c o, s.portInt p b = { s with regs := g, obs := w, pci := c, out := o } := by
  unfold State.portInt
  split
  · exact State.setInt_frame ..
  · exact State.setInt_frame ..

/-- A retired block changes the ledger and reports itself (R259). -/
theorem State.retireBlock_frame (s : State) (b : Nat) :
    ∃ l g w c o, s.retireBlock b = { s with ledger := l, regs := g, obs := w, pci := c, out := o } := by
  unfold State.retireBlock
  dsimp only
  split
  · obtain ⟨g, w, c, o, h⟩ := State.setInt_frame { s with ledger := { s.ledger with ro := true } } .STA_INT_STAT 4 0
    exact ⟨_, g, w, c, o, h⟩
  · generalize Ledger.addEvent _ _ = l
    obtain ⟨g, w, c, o, h⟩ := State.setInt_frame { s with ledger := l } .STA_INT_STAT 3 0
    rw [h]
    split
    · obtain ⟨g', w', c', o', h'⟩ :=
        State.setInt_frame { s with ledger := l, regs := g, obs := w, pci := c, out := o } .STA_INT_STAT 5 0
      exact ⟨l, g', w', c', o', h'⟩
    · exact ⟨l, g, w, c, o, rfl⟩

theorem State.wearBlock_frame (s : State) (b : Nat) :
    ∃ l g w c o, s.wearBlock b = { s with ledger := l, regs := g, obs := w, pci := c, out := o } := by
  unfold State.wearBlock
  dsimp only
  generalize Tab.put _ s.ledger.wear _ _ = wear
  split
  · obtain ⟨l, g, w, c, o, h⟩ := State.retireBlock_frame { s with ledger := { s.ledger with wear := wear } } b
    exact ⟨l, g, w, c, o, h⟩
  · split
    · exact ⟨_, s.regs, s.obs, s.pci, s.out, rfl⟩
    · split
      · split
        · exact ⟨_, s.regs, s.obs, s.pci, s.out, rfl⟩
        · exact ⟨_, s.regs, s.obs, s.pci, s.out, rfl⟩
      · exact ⟨_, s.regs, s.obs, s.pci, s.out, rfl⟩

theorem State.ledgerPut_frame (s : State) (b : Nat) (f : Ledger → Ledger) :
    ∃ l g w c o, s.ledgerPut b f = { s with ledger := l, regs := g, obs := w, pci := c, out := o } := by
  unfold State.ledgerPut
  split
  · exact ⟨s.ledger, s.regs, s.obs, s.pci, s.out, rfl⟩
  · generalize f s.ledger = l
    obtain ⟨l', g, w, c, o, h⟩ := State.wearBlock_frame { s with ledger := l } b
    exact ⟨l', g, w, c, o, h⟩

/-- A lane's coefficients go to the ledger and nowhere else (R258). -/
theorem State.storeLane_frame (s : State) (k : Nat) (v : W32) :
    ∃ l g w c o, s.storeLane k v = { s with ledger := l, regs := g, obs := w, pci := c, out := o } := by
  unfold State.storeLane
  dsimp only
  split
  · exact ⟨s.ledger, s.regs, s.obs, s.pci, s.out, rfl⟩
  · exact State.ledgerPut_frame ..

end Sys2Proof.Machine
end

section
/-!
PROOFS. Ports (02): recalibration, dormancy and waking, snapshots, the checked writes of MAX_FRAME and FC_THR.
-/

namespace Sys2Proof.Machine

/-! ## Recalibration (R33) -/

/-- What a request does when no recalibration of the port runs. -/
theorem State.recalReq_not_running {s : State} {p : Nat} (queue : Bool) (h : (s.port p).recal ≠ .running) :
    s.recalReq p queue =
      if (s.port p).link = false then s.setPort p { s.port p with recal := .running }
      else if queue then s.setPort p { s.port p with recal := .queued }
      else (s.setPort p { s.port p with recal := .rejected }).portInt p 4 := by
  simp [State.recalReq, h]

/-- The coefficients of one lane take effect and go to the ledger: e is the lane and its place among the given coefficients. -/
def State.setLane (coefs : List W32) (s : State) (e : Nat × Nat) : State :=
  (s.setPort e.1 { s.port e.1 with coef := coefs.getD e.2 (s.port e.1).coef }).storeLane e.1
    (coefs.getD e.2 (s.port e.1).coef)

/-- The lanes of a form of n lanes on port p take their coefficients. -/
def State.setLanes (s : State) (coefs : List W32) (p n : Nat) : State :=
  ((List.range n).map (fun k => (p + k, k))).foldl (State.setLane coefs) s

theorem State.zipIdx_lanesOf (s : State) (p : Nat) :
    (s.lanesOf p).zipIdx = (List.range (s.lanesOf p).length).map (fun k => (p + k, k)) := by
  apply List.ext_getElem
  · simp
  · intro k h1 h2
    simp [State.lanesOf]

theorem State.recalDone_running {s : State} {p : Nat} (coefs : List W32) (h : (s.port p).recal = .running) :
    s.recalDone p coefs =
      ((s.setPort p { s.port p with recal := .idle }).setLanes coefs p (s.lanesOf p).length).portInt p 4 := by
  unfold State.setLanes
  rw [← State.zipIdx_lanesOf]
  simp only [State.recalDone, h, beq_self_eq_true, if_true]
  rfl

theorem State.setLane_frame (coefs : List W32) (s : State) (e : Nat × Nat) :
    ∃ l g w c o, s.setLane coefs e =
      { s with ports := (s.setPort e.1 { s.port e.1 with coef := coefs.getD e.2 (s.port e.1).coef }).ports,
               ledger := l, regs := g, obs := w, pci := c, out := o } :=
  State.storeLane_frame ..

theorem State.port_setLane (coefs : List W32) (s : State) (e : Nat × Nat) (j : Nat) :
    (s.setLane coefs e).port j =
      if j = e.1 then { s.port j with coef := coefs.getD e.2 (s.port j).coef } else s.port j := by
  obtain ⟨l, g, w, c, o, h⟩ := State.setLane_frame coefs s e
  rw [h]
  by_cases hj : j = e.1
  · subst hj
    rw [if_pos rfl]
    exact State.port_setPort ..
  · rw [if_neg hj]
    exact State.port_setPort_ne s _ hj

theorem State.setLanes_succ (s : State) (coefs : List W32) (p n : Nat) :
    s.setLanes coefs p (n + 1) = (s.setLanes coefs p n).setLane coefs (p + n, n) := by
  simp [State.setLanes, List.range_succ]

/-- Each of the lanes has the coefficients given for it, or its own where none were; every other port is as it was. -/
theorem State.port_setLanes (s : State) (coefs : List W32) (p n j : Nat) :
    (s.setLanes coefs p n).port j =
      if p ≤ j ∧ j < p + n then { s.port j with coef := coefs.getD (j - p) (s.port j).coef } else s.port j := by
  induction n with
  | zero =>
    rw [if_neg (by omega)]
    rfl
  | succ n ih =>
    rw [State.setLanes_succ, State.port_setLane, ih]
    by_cases hj : j = p + n
    · subst hj
      simp
    · have hlane : (p ≤ j ∧ j < p + (n + 1)) ↔ (p ≤ j ∧ j < p + n) := by omega
      simp only [hj, hlane, if_false]

/-- New coefficients touch ports, the ledger, and what the ledger reports. -/
theorem State.setLanes_frame (s : State) (coefs : List W32) (p n : Nat) :
    ∃ q l g w c o, s.setLanes coefs p n =
      { s with ports := q, ledger := l, regs := g, obs := w, pci := c, out := o } := by
  induction n with
  | zero => exact ⟨s.ports, s.ledger, s.regs, s.obs, s.pci, s.out, rfl⟩
  | succ n ih =>
    obtain ⟨q, l, g, w, c, o, h⟩ := ih
    obtain ⟨l', g', w', c', o', h'⟩ := State.setLane_frame coefs (s.setLanes coefs p n) (p + n, n)
    rw [State.setLanes_succ, h']
    generalize (State.setPort _ _ _).ports = q'
    exact ⟨q', l', g', w', c', o', by rw [h]⟩

/-- The ports after a recalibration: idle on its port, the given coefficients on its lanes. -/
theorem State.port_recalDone {s : State} {p : Nat} (coefs : List W32) (h : (s.port p).recal = .running) (j : Nat) :
    (s.recalDone p coefs).port j =
      ((s.setPort p { s.port p with recal := .idle }).setLanes coefs p (s.lanesOf p).length).port j := by
  rw [State.recalDone_running coefs h]
  generalize State.setLanes _ _ _ _ = t
  obtain ⟨g, w, c, o, ht⟩ := State.portInt_frame t p 4
  rw [ht]
  rfl

theorem State.recalDone_idle {s : State} {p : Nat} (coefs : List W32) (h : (s.port p).recal = .running) :
    ((s.recalDone p coefs).port p).recal = .idle := by
  rw [State.port_recalDone coefs h, State.port_setLanes, State.port_setPort]
  split <;> rfl

theorem State.recalDone_coef {s : State} {p : Nat} (coefs : List W32) (h : (s.port p).recal = .running) {k : Nat}
    (hk : k < (s.lanesOf p).length) :
    ((s.recalDone p coefs).port (p + k)).coef = coefs.getD k (s.port (p + k)).coef := by
  have hsame : ((s.setPort p { s.port p with recal := .idle }).port (p + k)).coef = (s.port (p + k)).coef := by
    by_cases h0 : p + k = p
    · rw [h0, State.port_setPort]
    · rw [State.port_setPort_ne s _ h0]
  rw [State.port_recalDone coefs h, State.port_setLanes, if_pos (by omega), Nat.add_sub_cancel_left]
  exact congrArg (coefs.getD k) hsame

/-- Beside ports and the ledger a recalibration changes what reports it. -/
theorem State.recalDone_frame {s : State} {p : Nat} (coefs : List W32) (h : (s.port p).recal = .running) :
    ∃ q l g w c o, s.recalDone p coefs =
      { s with ports := q, ledger := l, regs := g, obs := w, pci := c, out := o } := by
  obtain ⟨q, l, g, w, c, o, hlanes⟩ := State.setLanes_frame (s.setPort p { s.port p with recal := .idle }) coefs p
    (s.lanesOf p).length
  obtain ⟨g', w', c', o', hint⟩ := State.portInt_frame
    ((s.setPort p { s.port p with recal := .idle }).setLanes coefs p (s.lanesOf p).length) p 4
  rw [State.recalDone_running coefs h, hint, hlanes]
  exact ⟨q, l, g', w', c', o', rfl⟩

theorem State.recalDone_keeps {s : State} {p : Nat} (coefs : List W32) (h : (s.port p).recal = .running) :
    (s.recalDone p coefs).tmg = s.tmg ∧ (s.recalDone p coefs).sas = s.sas ∧
      (s.recalDone p coefs).frames = s.frames ∧ (s.recalDone p coefs).mem = s.mem := by
  obtain ⟨q, l, g, w, c, o, hr⟩ := State.recalDone_frame coefs h
  rw [hr]
  exact ⟨rfl, rfl, rfl, rfl⟩

/-! ## Dormancy and waking (R43, R44) -/

theorem State.goDormant_idle {s : State} {p : Nat} (hlink : (s.port p).link = false) (hd : (s.port p).dormant = false)
    (hen : s.portEn p = true) (hst : s.par.st ≠ .standby)
    (hcfg : (if p < 64 then s.flag F.HPT_CFG_DORMANT_EN p else s.flag F.LPT_CFG_DORMANT_EN (p - 64)) = true) :
    s.goDormant p false = s.setPort p { s.port p with dormant := true, dormByS3 := false, phase := .off } := by
  simp [State.goDormant, hlink, hd, hen, hst, hcfg]

theorem State.beacon_dormant {s : State} {p : Nat} (hd : (s.port p).dormant = true) :
    s.beacon p = s.emit (.beacon (portAt p) (s.anEn p) ((s.formOf p).getD 0)) := by
  simp [State.beacon, hd]

theorem State.wakeDormant_dormant {s : State} {p : Nat} (hd : (s.port p).dormant = true) (hen : s.portEn p = true)
    (hk : s.kept p = true) :
    s.wakeDormant p =
      (((s.setPort p { s.port p with dormant := false, dormByS3 := false }).portInt p 1).portCnt p 33).bringUp p := by
  simp [State.wakeDormant, State.wakePort, hd, hen, hk]

/-! ## Snapshots (R47) -/

/-- The first n snapshot words of a port take the values of v. -/
theorem State.look_snapFold (s : State) (p : Nat) (v : Nat → W64) {n k : Nat} (hk : k < n) :
    ((List.range n).foldl (fun (t : State) k =>
      { t with snaps := t.snaps.put (fun _ => 0#64) (p * 64 + k) (v k) }) s).snaps.look (fun _ => 0#64) (p * 64 + k) = v k := by
  induction n with
  | zero => omega
  | succ n ih =>
    simp only [List.range_succ, List.foldl_append, List.foldl_cons, List.foldl_nil, Tab.look_put]
    by_cases hkn : k = n
    · simp [hkn]
    · rw [if_neg (by omega)]
      exact ih (by omega)

theorem State.look_statSnap (s : State) (p : Nat) {k : Nat} (hk : k < 35) :
    (s.statSnap p).snaps.look (fun _ => 0#64) (p * 64 + k) =
      if p < 64 then s.cnt .hpt 0 p k else s.cnt .lpt 0 (p - 64) k :=
  State.look_snapFold s p (fun k => if p < 64 then s.cnt .hpt 0 p k else s.cnt .lpt 0 (p - 64) k) hk

/-! ## Checked writes (R22, R36, R40) -/

theorem State.writeMaxFrame_legal {s : State} {o : Origin} {p : Nat} {v : W32} (hl : s.legal o .HPT_MAX_FRAME p v = true)
    (hmax : s.maxFrameOk p (bits (s.wouldBe o .HPT_MAX_FRAME p (copyOf o .HPT_MAX_FRAME) v) 13 0) = true) :
    s.writeMaxFrame o p v = s.written o .HPT_MAX_FRAME p v :=
  State.putReg_legal hl hmax

theorem State.writeFcThr_legal {s : State} {o : Origin} {p : Nat} {v : W32} (hl : s.legal o .HPT_FC_THR p v = true)
    (hlow : bits (s.wouldBe o .HPT_FC_THR p (copyOf o .HPT_FC_THR) v) 8 0 <
      bits (s.wouldBe o .HPT_FC_THR p (copyOf o .HPT_FC_THR) v) 17 9)
    (hhigh : bits (s.wouldBe o .HPT_FC_THR p (copyOf o .HPT_FC_THR) v) 17 9 ≤
      bits (s.wouldBe o .HPT_FC_THR p (copyOf o .HPT_FC_THR) v) 26 18) :
    s.writeFcThr o p v = s.written o .HPT_FC_THR p v :=
  State.putReg_legal hl (by rw [decide_eq_true hlow, decide_eq_true hhigh]; rfl)

/-! ## The commands -/

/-- A granted request: QUEUE is stored, then the request takes its course (R33). -/
theorem exec_recalReq {s : State} {o : Origin} {port : PortId} (queue : Bool)
    (hg : s.grants o (port.reg .HPT_RECAL .LPT_RECAL) (port.n % 64) = true) (hr : (s.port port.idx).recal ≠ .running) :
    exec (.recalReq o port queue) s = .next (s.done
      (let t := s.setFld (if port.side = Side.host then F.HPT_RECAL_QUEUE else F.LPT_RECAL_QUEUE) (b2n queue) (port.n % 64)
       if (s.port port.idx).link = false then t.setPort port.idx { s.port port.idx with recal := .running }
       else if queue then t.setPort port.idx { s.port port.idx with recal := .queued }
       else (t.setPort port.idx { s.port port.idx with recal := .rejected }).portInt port.idx 4)) := by
  rw [exec_granted (c := .recalReq o port queue) rfl hg, State.recalReq_not_running queue (by simpa using hr)]
  simp only [State.port_setFld, beq_iff_eq]

/-- Settles O27: recalibration, dormancy, snapshots and the checked writes, each by its operation's own rule once the ACU grants
the write. -/
theorem lanesSleepAndWake : Obligations.LanesSleepAndWake := by
  refine ⟨?recalReq, ?recalDone, ?portDormant, ?beacon, ?portWake, ?wakeEnergy, ?dormantWake, ?statSnap, ?maxFrame, ?fcThr⟩
  case recalReq => exact fun s o port queue hg hr => exec_recalReq queue hg hr
  case recalDone =>
    intro s port coefs hr
    exact ⟨_, rfl, State.recalDone_idle coefs hr, fun k hk => State.recalDone_coef coefs hr hk,
      State.recalDone_keeps coefs hr⟩
  case portDormant =>
    intro s port hlink hd hen hst hcfg
    rw [← State.goDormant_idle hlink hd hen hst hcfg]
    rfl
  case beacon =>
    intro s port hd
    rw [← State.beacon_dormant hd]
    rfl
  case portWake =>
    intro s port hd hen hk
    rw [← State.wakeDormant_dormant hd hen hk]
    rfl
  case wakeEnergy =>
    intro s port hd hen hk
    rw [← State.wakeDormant_dormant hd hen hk]
    rfl
  case dormantWake =>
    intro s o port hg hd hen hk
    rw [exec_granted (c := .dormantWake o port) rfl hg, State.wakeDormant_dormant hd hen hk]
  case statSnap =>
    intro s o port hg
    exact ⟨_, exec_granted (c := .statSnap o port) rfl hg, fun k hk => State.look_statSnap s port.idx hk⟩
  case maxFrame =>
    intro s o port v hg hl hmax
    rw [exec_granted (c := .maxFrameWrite o port v) rfl hg, State.writeMaxFrame_legal hl hmax]
  case fcThr =>
    intro s o port v hg hl hlow hhigh
    rw [exec_granted (c := .fcThrWrite o port v) rfl hg, State.writeFcThr_legal hl hlow hhigh]

end Sys2Proof.Machine
end

section
/-!
PROOFS. The classifier's commands (03): bank switch, ageing, the table window, flushes, the checked writes of CLS_LP_MODE and
CLS_AGE.
-/

namespace Sys2Proof.Machine

/-! ## Bank switch and ageing (R60, R64) -/

theorem State.bankSwitch_drained {s : State} (o : Origin) (hp : s.presence = true) (hd : s.cls.drained = true) :
    s.bankSwitch o = ({ s with cls := { s.cls with active := !s.cls.active, drained := false } } : State).repin s := by
  simp [State.bankSwitch, hp, hd]

theorem State.ageingSweep_due {s : State} {n : Nat} (ha : s.cls.sweepAt = some n) (hn : n ≤ s.nowNs) :
    s.ageingSweep = { s.sweep with cls := { s.sweep.cls with sweepAt := some (n + s.sweep.sweepPeriod) } } := by
  simp [State.ageingSweep, ha, Nat.not_lt.mpr hn]

theorem State.writeAge_legal {s : State} {o : Origin} {v : W32} (hl : s.legal o .CLS_AGE 0 v = true)
    (hage : bits (s.wouldBe o .CLS_AGE 0 (copyOf o .CLS_AGE) v) 15 0 = 0 ∨
      30 ≤ bits (s.wouldBe o .CLS_AGE 0 (copyOf o .CLS_AGE) v) 15 0) :
    s.writeAge o v = (s.written o .CLS_AGE 0 v).schedule :=
  congrArg State.schedule (State.putReg_legal hl (by simpa using hage))

theorem State.writeLpMode_legal {s : State} {o : Origin} {p : Nat} {v : W32} (hl : s.legal o .CLS_LP_MODE p v = true)
    (hmode : bits (s.wouldBe o .CLS_LP_MODE p (copyOf o .CLS_LP_MODE) v) 31 30 ≠ 3) :
    s.writeLpMode o p v = s.written o .CLS_LP_MODE p v :=
  State.putReg_legal hl (by simpa using hmode)

/-! ## A window's CMD register leaves the tables alone (R70) -/

@[simp] theorem State.twBegin_cls (s : State) (g slice table bank : Nat) : (s.twBegin g slice table bank).cls = s.cls :=
  State.setWord_cls ..

@[simp] theorem State.twHold_cls (s : State) (g : Nat) (b : Bool) : (s.twHold g b).cls = s.cls := State.setWord_cls ..

/-- With no flush in its slice a command on a MAC table is carried out at once (R65). -/
theorem State.twRun_twBegin {s : State} (g slice table bank : Nat) {c : TwCmd} (hf : s.flushing c.slice = false) :
    (s.twBegin g slice table bank).twRun c = (s.twBegin g slice table bank).twApply c := by
  have hf' : (s.twBegin g slice table bank).flushing c.slice = false := by simpa [State.flushing] using hf
  simp [State.twRun, hf']

/-! ## Window reads and writes (R60, R68, R70) -/

theorem State.twRead_word {s : State} {o : Origin} {table : Nat} (slice bank : Nat) (hb : s.twBusy o.grp = false)
    (ha : s.fld F.CLS_TW_ADDR_ADDR 0 o.grp < tableSize table) (ht : table ≠ 10) :
    s.twRead o slice table bank = (s.twBegin o.grp slice table bank).setWord .CLS_TW_DATA
      ((s.twBegin o.grp slice table bank).clsWord (slice % 4) table (if banked table then bank % 2 else 0)
        (s.fld F.CLS_TW_ADDR_ADDR 0 o.grp)) 0 o.grp := by
  simp [State.twRead, hb, Nat.not_le.mpr ha, ht]

theorem State.twRead_mac {s : State} {o : Origin} {slice : Nat} (bank : Nat) (hb : s.twBusy o.grp = false)
    (ha : s.fld F.CLS_TW_ADDR_ADDR 0 o.grp < tableSize 10) (hf : s.flushing (slice % 4) = false) :
    s.twRead o slice 10 bank = ((s.twBegin o.grp slice 10 bank).twHold o.grp false).setWords .CLS_TW_DATA
      [wordOf (s.macEnt (slice % 4) (s.fld F.CLS_TW_ADDR_ADDR 0 o.grp)).toNat 0,
       wordOf (s.macEnt (slice % 4) (s.fld F.CLS_TW_ADDR_ADDR 0 o.grp)).toNat 1,
       wordOf (s.macEnt (slice % 4) (s.fld F.CLS_TW_ADDR_ADDR 0 o.grp)).toNat 2] o.grp := by
  simp [State.twRead, hb, Nat.not_le.mpr ha, State.twRun_twBegin, hf, State.twApply, State.macEnt]

/-- A write of a table of the switched bank goes to the drained inactive bank of all slices. -/
theorem State.twWrite_banked {s : State} {o : Origin} {table bank : Nat} (slice : Nat) (hb : s.twBusy o.grp = false)
    (hp : s.presence = true) (ht : table < 9) (hbk : banked table = true)
    (ha : s.fld F.CLS_TW_ADDR_ADDR 0 o.grp < tableSize table) (hin : bank % 2 ≠ s.bank) (hd : s.cls.drained = true)
    (hq : table = 7 →
      s.qbaseOk (bank % 2) (s.fld F.CLS_TW_ADDR_ADDR 0 o.grp) (s.word .CLS_TW_DATA 0 o.grp).toNat = true) :
    s.twWrite o slice table bank = (s.twBegin o.grp slice table bank).setClsAll table (bank % 2)
      (s.fld F.CLS_TW_ADDR_ADDR 0 o.grp) (withP (s.word .CLS_TW_DATA 0 o.grp).toNat) := by
  have h10 : table ≠ 10 := by omega
  have hpeer : ¬ (table = 7 ∧
      s.qbaseOk (bank % 2) (s.fld F.CLS_TW_ADDR_ADDR 0 o.grp) (s.word .CLS_TW_DATA 0 o.grp).toNat = false) :=
    fun h => by simp [hq h.1] at h
  simp only [State.twWrite, hb, hp, h10, Nat.not_le.mpr ht, hbk, Nat.not_le.mpr ha, hin, hd, hpeer, Bool.not_eq_true',
    Bool.not_true, Bool.false_eq_true, if_false, if_true, or_self]

/-- A write of a table without banks goes to all slices unless a drained bank is awaited that reaches its entry. -/
theorem State.twWrite_unbanked {s : State} {o : Origin} {table : Nat} (slice bank : Nat) (hb : s.twBusy o.grp = false)
    (hp : s.presence = true) (ht : table < 9) (hbk : banked table = false)
    (ha : s.fld F.CLS_TW_ADDR_ADDR 0 o.grp < tableSize table)
    (hd : s.cls.drained = true ∨ s.reaches table (s.fld F.CLS_TW_ADDR_ADDR 0 o.grp) = false) :
    s.twWrite o slice table bank = (s.twBegin o.grp slice table bank).setClsAll table 0
      (s.fld F.CLS_TW_ADDR_ADDR 0 o.grp) (withP (s.word .CLS_TW_DATA 0 o.grp).toNat) := by
  have h10 : table ≠ 10 := by omega
  have hfree : (!s.cls.drained && s.reaches table (s.fld F.CLS_TW_ADDR_ADDR 0 o.grp)) = false := by
    rcases hd with h | h <;> simp [h]
  simp [State.twWrite, hb, hp, h10, Nat.not_le.mpr ht, hbk, Nat.not_le.mpr ha, hfree]

theorem State.twWrite_mac {s : State} {o : Origin} {slice : Nat} (bank : Nat) (hb : s.twBusy o.grp = false)
    (hm : o.main = true) (ha : s.fld F.CLS_TW_ADDR_ADDR 0 o.grp < tableSize 10) (hf : s.flushing (slice % 4) = false) :
    s.twWrite o slice 10 bank = ((s.twBegin o.grp slice 10 bank).twHold o.grp false).setMacEnt (slice % 4)
      (s.fld F.CLS_TW_ADDR_ADDR 0 o.grp) (storedMac (s.twEntry o.grp)) := by
  simp [State.twWrite, hb, hm, Nat.not_le.mpr ha, State.twRun_twBegin, hf, State.twApply]

/-! ## Commands by key and flushes (R65, R70) -/

/-- A command by key, or a flush, that nothing refuses or delays is carried out. -/
theorem State.twKey_apply {s : State} {o : Origin} {slice : Nat} (op : Nat) (hb : s.twBusy o.grp = false)
    (hm : o.main = true) (hf : s.flushing (slice % 4) = false) :
    s.twKey o slice op = (s.twBegin o.grp slice (s.fld F.CLS_TW_CMD_TABLE 0 o.grp)
      (s.fld F.CLS_TW_CMD_BANK 0 o.grp)).twApply ⟨o.grp, op, slice % 4, 0, s.twEntry o.grp⟩ := by
  simp [State.twKey, State.twMac, hb, hm, State.twRun_twBegin, hf]

theorem State.twApply_insert {s : State} {g k a : Nat} {e : BitVec 96}
    (hi : ((s.twHold g false).macInsert k
      (storedMac (mkMac (meMac e) (meLport e) (mePeer e) (meAge e) (meStatic e)))).2 = true) :
    s.twApply ⟨g, 3, k, a, e⟩ = ((s.twHold g false).macInsert k
      (storedMac (mkMac (meMac e) (meLport e) (mePeer e) (meAge e) (meStatic e)))).1 := by
  simp only [State.twApply]
  split
  next t ht => rw [ht]
  next t ht => rw [ht] at hi; cases hi

theorem State.twApply_delete {s : State} {g k a i : Nat} {e : BitVec 96}
    (hi : (s.twHold g false).macFind k (meLport e) (meMac e) = some i) :
    s.twApply ⟨g, 4, k, a, e⟩ = (s.twHold g false).dropMac k i := by
  simp [State.twApply, hi]

/-- A flush starts: BUSY set, its walk after those that run (R65). -/
def State.startFlush (s : State) (f : Flush) : State :=
  { s.twHold f.window true with cls := { s.cls with flushes := s.cls.flushes ++ [f] } }

theorem State.twApply_flushLport (s : State) (g k a : Nat) (e : BitVec 96) :
    s.twApply ⟨g, 5, k, a, e⟩ = (s.twHold g false).startFlush ⟨k, false, meLport e, g⟩ := rfl

theorem State.twApply_flushPeer (s : State) (g k a : Nat) (e : BitVec 96) :
    s.twApply ⟨g, 6, k, a, e⟩ = (s.twHold g false).startFlush ⟨k, true, mePeer e, g⟩ := rfl

/-- The flush that began first ends: its walk, BUSY clear, then the commands that waited (R65). -/
theorem State.flushDone_cons {s : State} {f : Flush} {rest : List Flush} (h : s.cls.flushes = f :: rest) :
    s.flushDone = (({ ((s.flushWalk f).twHold f.window false) with
        cls := { ((s.flushWalk f).twHold f.window false).cls with flushes := rest } } : State)).twDrain f.slice
      ((s.flushWalk f).twHold f.window false).cls.waiting := by
  simp only [State.flushDone, h]

/-! ## The commands -/

/-- A granted command by key, or flush, that nothing refuses or delays (R65, R70). -/
theorem exec_twKey {c : Instr} {s : State} {o : Origin} {slice op : Nat}
    (hc : exec c s = .next (s.done (s.hostWrite o .CLS_TW_CMD 0 (fun t => t.twKey o slice op))))
    (hg : s.grants o .CLS_TW_CMD = true) (hb : s.twBusy o.grp = false) (hm : o.main = true)
    (hf : s.flushing (slice % 4) = false) :
    exec c s = .next (s.done ((s.twBegin o.grp slice (s.fld F.CLS_TW_CMD_TABLE 0 o.grp)
      (s.fld F.CLS_TW_CMD_BANK 0 o.grp)).twApply ⟨o.grp, op, slice % 4, 0, s.twEntry o.grp⟩)) := by
  rw [exec_granted hc hg, State.twKey_apply op hb hm hf]

/-- Settles O28: each command of the classifier by its operation's own rule once the ACU grants the write. -/
theorem classifierCommandsComplete : Obligations.ClassifierCommandsComplete := by
  refine ⟨?bankSwitch, ?bankDrained, ?ageingSweep, ?ageWrite, ?readWord, ?readMac, ?writeBanked, ?writeUnbanked, ?writeMac,
    ?insert, ?delete, ?flushLport, ?flushPeer, ?flushDone, ?lpMode⟩
  case bankSwitch =>
    intro s o hg hp hd
    rw [exec_granted (c := .bankSwitch o) rfl hg, State.bankSwitch_drained o hp hd]
  case bankDrained => exact fun s => rfl
  case ageingSweep =>
    intro s n ha hn
    rw [← State.ageingSweep_due ha hn]
    rfl
  case ageWrite =>
    intro s o v hg hl hage
    rw [exec_granted (c := .ageWrite o v) rfl hg, State.writeAge_legal hl hage]
  case readWord =>
    intro s o slice table bank hg hb ha ht
    rw [exec_granted (c := .twRead o slice table bank) rfl hg, State.twRead_word slice bank hb ha ht]
  case readMac =>
    intro s o slice table bank hg hb ha ht hf
    subst ht
    rw [exec_granted (c := .twRead o slice 10 bank) rfl hg, State.twRead_mac bank hb ha hf]
  case writeBanked =>
    intro s o slice table bank hg hb hp ht hbk ha hin hd h7 hq
    rw [exec_granted (c := .twWrite o slice table bank) rfl hg,
      State.twWrite_banked slice hb hp ht hbk ha hin hd (fun _ => hq)]
  case writeUnbanked =>
    intro s o slice table bank hg hb hp ht hbk ha hd
    rw [exec_granted (c := .twWrite o slice table bank) rfl hg, State.twWrite_unbanked slice bank hb hp ht hbk ha hd]
  case writeMac =>
    intro s o slice table bank hg hb hm ht ha hf
    subst ht
    rw [exec_granted (c := .twWrite o slice 10 bank) rfl hg, State.twWrite_mac bank hb hm ha hf]
  case insert =>
    intro s o slice hg hb hm hf hi
    rw [exec_twKey (c := .twInsert o slice) rfl hg hb hm hf, State.twApply_insert hi]
  case delete =>
    intro s o slice i hg hb hm hf hi
    rw [exec_twKey (c := .twDelete o slice) rfl hg hb hm hf, State.twApply_delete hi]
  case flushLport =>
    intro s o slice hg hb hm hf
    rw [exec_twKey (c := .twFlushLport o slice) rfl hg hb hm hf, State.twApply_flushLport, State.startFlush]
  case flushPeer =>
    intro s o slice hg hb hm hf
    rw [exec_twKey (c := .twFlushPeer o slice) rfl hg hb hm hf, State.twApply_flushPeer, State.startFlush]
  case flushDone =>
    intro s f rest h
    exact congrArg (fun t => Host.Outcome.next (s.done t)) (State.flushDone_cons h)
  case lpMode =>
    intro s o port v hg hl hmode
    rw [exec_granted (c := .lpModeWrite o port v) rfl hg, State.writeLpMode_legal hl hmode]

end Sys2Proof.Machine
end

section
/-!
PROOFS. Arrival and flow control (01, 02): good frames into the ingress FIFO, received and sent pause and PFC frames, the
pause-storm guard.
-/

namespace Sys2Proof.Machine

/-! ## Port counters (R49) -/

theorem State.portCnt_frame (s : State) (p c n : Nat) : ∃ x, s.portCnt p c n = { s with cnts := x } := by
  unfold State.portCnt
  split <;> exact ⟨_, rfl⟩

@[simp] theorem State.port_portCnt (s : State) (p c n j : Nat) : (s.portCnt p c n).port j = s.port j := by
  obtain ⟨x, h⟩ := State.portCnt_frame s p c n
  rw [h]
  rfl

/-- A good frame of n octets is counted at its port: frames and octets received. -/
def State.countIn (s : State) (p n : Nat) : State := (s.portCnt p 2).portCnt p 3 n

theorem State.countIn_frame (s : State) (p n : Nat) : ∃ x, s.countIn p n = { s with cnts := x } := by
  obtain ⟨x, hx⟩ := State.portCnt_frame s p 2 1
  obtain ⟨y, hy⟩ := State.portCnt_frame (s.portCnt p 2) p 3 n
  exact ⟨y, by rw [State.countIn, hy, hx]⟩

@[simp] theorem State.fifoFill_countIn (s : State) (p n q : Nat) : (s.countIn p n).fifoFill q = s.fifoFill q := by
  obtain ⟨x, h⟩ := State.countIn_frame s p n
  rw [h]
  rfl

@[simp] theorem State.port_countIn (s : State) (p n j : Nat) : (s.countIn p n).port j = s.port j := by
  simp [State.countIn]

/-! ## Arrival (R11, R23, R36) -/

theorem State.goodFrame_iff (s : State) (p : Nat) (o : List Byte) :
    s.goodFrame p o = true ↔
      fcsOk o = true ∧ 64 ≤ o.length ∧ o.length ≤ s.maxFrame p ∧ beAt o 12 2 ≠ 0x8808 := by
  simp [State.goodFrame, and_assoc]

/-- What a serving part does with octets that reach a receiving port. -/
theorem State.arriveAt_receiving {s : State} {p : Nat} (o : List Byte) (hs : s.serving = true) (hr : s.receives p = true) :
    s.arriveAt p o = s.arrive p o := by
  simp [State.arriveAt, hs, hr]

/-- A frame enters the ingress FIFO of port p under the next id and the path is pumped. -/
def State.enterFifo (s : State) (p : Nat) (f : Frame) : State :=
  (({ s with nextId := s.nextId + 1, frames := s.frames ++ [f] } : State).noteFill p).pumpAll.costWaiting f.id

/-- The frame that octets o arriving at port p make: its id, its path, its ports and its times. -/
def State.newFrame (s : State) (p lp : Nat) (o : List Byte) : Frame :=
  { id := s.nextId, enc := decide (p < 64), src := if p < 64 then .hostPort p else .linePort (p - 64), octets := o,
    stage := .fifo, lport := lp, hport := if p < 64 then some p else none, arrived := s.counter, inTime := s.rxStamp p }

/-- A good frame that its port accepts and its FIFO has room for is counted and enters the FIFO. -/
theorem State.arrive_good {s : State} {p : Nat} {o : List Byte} (hg : s.goodFrame p o = true)
    (hst : p < 64 → s.par.st ≠ .standby) (hfill : s.fifoFill p + o.length ≤ 131072) :
    s.arrive p o = (s.countIn p o.length).enterFifo p
      ((s.countIn p o.length).newFrame p (if p < 64 then (s.lineOf p).getD 0 else p - 64) o) := by
  obtain ⟨hfcs, hrunt, hcut, htype⟩ := (State.goodFrame_iff s p o).mp hg
  have hsquelch : (decide (p < 64) && s.par.st == .standby) = false := by simpa using hst
  have hroom : ¬ 131072 < (s.countIn p o.length).fifoFill p + o.length := by simpa using hfill
  unfold State.countIn at hroom
  simp only [State.arrive, hfcs, Nat.not_lt.mpr hrunt, Nat.not_lt.mpr hcut, htype, hsquelch, hroom, decide_false,
    Bool.not_false, Bool.and_self, Bool.or_self, Bool.false_eq_true, if_true, if_false]
  rfl

/-! ## Pause and PFC frames sent again (R39) -/

theorem State.pauseRefresh_pause {s : State} {p : Nat} (hm : s.fld F.HPT_FC_MODE p = 1) (hq : (s.port p).pauseSent = true)
    (hn : s.fld F.HPT_FC_THR_XOFF_HIGH p * 256 ≤ s.fifoFill p) : s.pauseRefresh p = s.sendPause p := by
  simp [State.pauseRefresh, hm, hq, hn]

theorem State.pauseRefresh_pfc {s : State} {p : Nat} (hm : s.fld F.HPT_FC_MODE p = 2) (hq : (s.port p).pfcSent ≠ 0#8) :
    s.pauseRefresh p =
      let s1 := if s.fld F.HPT_FC_THR_XOFF_LOW p * 256 ≤ s.fifoFill p then s.sendPfc p (s.fld F.HPT_FC_PFC_LOW p) else s
      if s.fld F.HPT_FC_THR_XOFF_HIGH p * 256 ≤ s.fifoFill p then s1.sendPfc p (s.fld F.HPT_FC_PFC_EN p) else s1 := by
  simp [State.pauseRefresh, hm, hq]

/-! ## Pause and PFC frames received (R37, R38) -/

/-- A port obeys the pause and PFC frames it receives: RX_OBEY of its side. -/
def State.obeys (s : State) (p : Nat) : Bool :=
  if p < 64 then s.flag F.HPT_FC_RX_OBEY p else s.flag F.LPT_FC_RX_OBEY (p - 64)

@[simp] theorem State.obeys_countIn (s : State) (p n q : Nat) : (s.countIn p n).obeys q = s.obeys q := by
  obtain ⟨x, h⟩ := State.countIn_frame s p n
  rw [h]
  rfl

theorem State.rxPause_obeyed {s : State} {p : Nat} (quanta : Nat) (ho : s.obeys p = true)
    (hs : (s.port p).storm = false) :
    s.rxPause p quanta = (s.portCnt p 8).setPort p { s.port p with paused := quanta != 0 } := by
  unfold State.obeys at ho
  simp [State.rxPause, ho, hs]

/-- A PFC frame is counted for each priority it enables. -/
def State.countPfc (s : State) (p : Nat) (en : BitVec 8) : State :=
  (List.range 8).foldl (fun (u : State) k => if en.getLsbD k then u.portCnt p (10 + k) else u) s

@[simp] theorem State.port_countPfc (s : State) (p : Nat) (en : BitVec 8) (j : Nat) :
    (s.countPfc p en).port j = s.port j := by
  unfold State.countPfc
  induction List.range 8 generalizing s with
  | nil => rfl
  | cons k l ih =>
    rw [List.foldl_cons, ih]
    split
    · exact State.port_portCnt ..
    · rfl

/-- The number with the bits below n that b names, as a sum of powers of two. -/
def bitSum (b : Nat → Bool) (n : Nat) : Nat := (List.range n).foldl (fun a k => if b k then a + 2 ^ k else a) 0

theorem bitSum_succ (b : Nat → Bool) (n : Nat) :
    bitSum b (n + 1) = if b n then bitSum b n + 2 ^ n else bitSum b n := by
  simp [bitSum, List.range_succ]

theorem bitSum_lt (b : Nat → Bool) (n : Nat) : bitSum b n < 2 ^ n := by
  induction n with
  | zero => exact Nat.one_pos
  | succ n ih =>
    rw [bitSum_succ, Nat.pow_succ]
    split <;> omega

theorem testBit_bitSum (b : Nat → Bool) {n k : Nat} (hk : k < n) : (bitSum b n).testBit k = b k := by
  induction n with
  | zero => omega
  | succ n ih =>
    rw [bitSum_succ]
    rcases Nat.lt_succ_iff_lt_or_eq.mp hk with hlt | rfl
    · split
      · rw [Nat.add_comm, Nat.testBit_two_pow_add_gt hlt, ih hlt]
      · exact ih hlt
    · have hclear : (bitSum b k).testBit k = false := Nat.testBit_lt_two_pow (bitSum_lt b k)
      cases hb : b k with
      | true => rw [if_pos rfl, Nat.add_comm, Nat.testBit_two_pow_add_eq, hclear]; rfl
      | false => simpa using hclear

/-- Whether a PFC frame leaves a priority paused: by its time where the frame enables it, as it was elsewhere. -/
def pfcLeaves (en : BitVec 8) (times : List Nat) (old : BitVec 8) (k : Nat) : Bool :=
  if en.getLsbD k then times.getD k 0 != 0 else old.getLsbD k

theorem State.rxPfc_obeyed {s : State} {p : Nat} (en : BitVec 8) (times : List Nat) (ho : s.obeys p = true)
    (hs : (s.port p).storm = false) :
    s.rxPfc p en times = (s.countPfc p en).setPort p
      { s.port p with pfcPaused := BitVec.ofNat 8 (bitSum (pfcLeaves en times (s.port p).pfcPaused) 8) } := by
  have hport : ((List.range 8).foldl (fun (u : State) k => if en.getLsbD k then u.portCnt p (10 + k) else u) s).port p =
      s.port p := State.port_countPfc s p en p
  have hsum : (fun (a k : Nat) => if en.getLsbD k then (if times.getD k 0 = 0 then a else a + 2 ^ k)
      else if (s.port p).pfcPaused.getLsbD k then a + 2 ^ k else a) =
      fun a k => if pfcLeaves en times (s.port p).pfcPaused k then a + 2 ^ k else a := by
    funext a k
    unfold pfcLeaves
    cases en.getLsbD k <;> simp
  unfold State.obeys at ho
  simp only [State.rxPfc, hport, ho, hs, hsum, Bool.not_false, Bool.and_self, if_true]
  rfl

theorem getLsbD_bitSum (b : Nat → Bool) {k : Nat} (hk : k < 8) : (BitVec.ofNat 8 (bitSum b 8)).getLsbD k = b k := by
  rw [BitVec.getLsbD_ofNat, testBit_bitSum b hk, decide_eq_true hk, Bool.true_and]

/-- The pause-storm guard acts on a paused port with a guard time that is not in STORM. -/
theorem State.pauseStorm_paused {s : State} {p : Nat} (hms : s.stormMs p ≠ 0) (hp : s.stormPaused p = true)
    (hs : (s.port p).storm = false) :
    s.pauseStorm p =
      ((s.setPort p { s.port p with storm := true, paused := false, pfcPaused := 0#8 }).portInt p 2).raise 20 := by
  simp [State.pauseStorm, hms, hp, hs]

/-! ## The commands -/

theorem exec_hostFrameReceived (port : Nat) (rx : RxFrame) (s : State) :
    exec (.hostFrameReceived port rx) s =
      .next (s.done ((s.codewords (port % 64) rx.corr rx.unc).arriveAt (port % 64) rx.octets)) := rfl

theorem exec_lineFrameReceived (port : Nat) (rx : RxFrame) (s : State) :
    exec (.lineFrameReceived port rx) s =
      .next (s.done ((s.codewords (64 + port % 64) rx.corr rx.unc).arriveAt (64 + port % 64) rx.octets)) := rfl

theorem exec_pauseFrameReceived {s : State} {port : PortId} (quanta : Nat) (hr : s.receives port.idx = true) :
    exec (.pauseFrameReceived port quanta) s = .next (s.done ((s.countIn port.idx 64).rxPause port.idx quanta)) :=
  congrArg (fun t => Host.Outcome.next (s.done t)) (if_pos hr)

theorem exec_pfcFrameReceived {s : State} {port : PortId} (en : BitVec 8) (times : List Nat)
    (hr : s.receives port.idx = true) :
    exec (.pfcFrameReceived port en times) s = .next (s.done ((s.countIn port.idx 64).rxPfc port.idx en times)) :=
  congrArg (fun t => Host.Outcome.next (s.done t)) (if_pos hr)

/-- Settles O24: arrival by the good frame's way into its FIFO, flow control by what an obeying port does with each frame. -/
theorem framesArriveOnPorts : Obligations.FramesArriveOnPorts := by
  refine ⟨?host, ?line, ?refreshPause, ?refreshPfc, ?pause, ?pfc, ?expired, ?storm, ?quiet⟩
  case host =>
    intro s port rx hs hr hg hst hfill
    have hp : port % 64 < 64 := Nat.mod_lt _ (by decide)
    rw [exec_hostFrameReceived, State.arriveAt_receiving _ hs hr, State.arrive_good hg (fun _ => hst) hfill]
    simp only [State.newFrame, hp, decide_true, if_true]
    rfl
  case line =>
    intro s port rx hs hr hg hfill
    have hp : ¬ 64 + port % 64 < 64 := by omega
    rw [exec_lineFrameReceived, State.arriveAt_receiving _ hs hr, State.arrive_good hg (fun h => absurd h hp) hfill]
    simp only [State.newFrame, hp, decide_false, if_false, Nat.add_sub_cancel_left]
    rfl
  case refreshPause =>
    intro s port hm hq hn
    rw [← State.pauseRefresh_pause hm hq hn]
    rfl
  case refreshPfc =>
    intro s port hm hq
    exact congrArg (fun t => Host.Outcome.next (s.done t)) (State.pauseRefresh_pfc hm hq)
  case pause =>
    intro s port quanta hr ho hs
    rw [exec_pauseFrameReceived quanta hr,
      State.rxPause_obeyed quanta ((State.obeys_countIn ..).trans ho) (by simpa using hs), State.port_countIn]
    rfl
  case pfc =>
    intro s port en times hr ho hs
    refine ⟨_, exec_pfcFrameReceived en times hr, ?_⟩
    rw [State.rxPfc_obeyed en times ((State.obeys_countIn ..).trans ho) (by simpa using hs), State.port_setPort,
      State.port_countIn]
    exact ⟨fun k hk => getLsbD_bitSum _ hk, rfl⟩
  case expired =>
    intro s port pri
    refine ⟨_, rfl, ?_, ?_⟩
    · rintro rfl
      rfl
    · rintro k rfl
      rfl
  case storm =>
    intro s port hms hp hs
    rw [← State.pauseStorm_paused hms hp hs]
    rfl
  case quiet => exact fun s port => rfl

end Sys2Proof.Machine
end

section
/-!
PROOFS. The secured path (01): stage 3 keeps the frames of an ingress port in order, so that a bound frame of a cold SA does not
always start its fetch.
-/

namespace Sys2Proof.Machine

/-! ## Stage 3 in order (R16, R23) -/

/-- A frame behind an earlier frame of its port that waits at stage 3 is not dispatched. -/
theorem State.dispatch_behind {s : State} {f : Frame} (hb : s.behind f = true) : s.dispatch f = s := by
  simp [State.dispatch, hb]

theorem exec_dispatch_behind {s : State} {frame : Nat} {f : Frame} (hf : s.frame? frame = some f)
    (hb : s.behind f = true) : exec (.dispatch frame) s = .next (s.done s.pumpAll) := by
  have hstay : s.onFrame frame (fun t f => if f.stage == .dispatch then t.dispatch f else t) = s := by
    simp [State.onFrame, hf, State.dispatch_behind hb]
  change Host.Outcome.next (s.done (s.onFrame frame _).pumpAll) = _
  rw [hstay]

/-! ## Two frames of one port under a cold SA -/

/-- A frame of host port 0 at stage 3, bound to SA 0. -/
def boundFrame (id : Nat) : Frame :=
  { id := id, enc := true, src := .hostPort 0, octets := List.replicate 64 0#8, stage := .dispatch, hport := some 0,
    sa := some 0, pn := BitVec.ofNat 64 (id + 1), seqNo := id }

/-- A serving part with SA 0 installed but cold, and two frames of host port 0 bound to it at stage 3. -/
def twoBehindCold : State :=
  ({ start := { step := 15, held := false }, frames := [boundFrame 0, boundFrame 1], nextId := 2 } : State).setSa 0
    { installed := true, pn := 3, lease := 100 }

/-- Where a frame is, if it is in the part. -/
def State.stageOf (s : State) (id : Nat) : Option Stage := (s.frame? id).map Frame.stage

theorem twoBehindCold_stays : (twoBehindCold.done twoBehindCold.pumpAll).stageOf 1 = some .dispatch := by decide

theorem twoBehindCold_fetch :
    (twoBehindCold.done (((twoBehindCold.setFrame { boundFrame 1 with stage := .fetching }).count .yrd 0 0 0).pumpAll)).stageOf 1 =
      some .fetching := by decide

/-- Refutes O25: its second clause has every bound frame of a cold SA start the fetch, but the second of two frames of one port
stays at stage 3 behind the first, which waits there (R16, R23). -/
theorem not_framesCrossThePath : ¬ Obligations.FramesCrossThePath := by
  rintro ⟨-, hcold, -⟩
  have hfetch := hcold twoBehindCold 1 (boundFrame 1) 0 (by decide) rfl rfl rfl (by decide)
  rw [exec_dispatch_behind (f := boundFrame 1) (by decide) (by decide)] at hfetch
  have hstage := congrArg (fun t => t.stageOf 1) (Host.Outcome.next.inj hfetch)
  simp only [twoBehindCold_stays, twoBehindCold_fetch] at hstage
  cases hstage

end Sys2Proof.Machine
end

section
/-!
PROOFS. Register words after a write, a set interrupt bit and a recorded fault: which of them change (R326, R342, R361).
-/

namespace Sys2Proof.Machine

/-- Words of different registers stand at different places. -/
theorem regKey_ne {r q : Reg} {i j g h : Nat} (hr : r.ctorIdx ≠ q.ctorIdx) (hi : i < 2 ^ 20) (hj : j < 2 ^ 20) (hg : g < 4)
    (hh : h < 4) : regKey r i g ≠ regKey q j h := by
  unfold regKey
  omega

theorem State.word_setWord_ne (s : State) {r q : Reg} {i j g h : Nat} (w : W32) (hk : regKey r i g ≠ regKey q j h) :
    (s.setWord q w j h).word r i g = s.word r i g :=
  Tab.look_put_ne _ _ _ hk

/-- A set interrupt bit changes its own register word and no other (R326). -/
theorem State.setInt_regs (s : State) (r : Reg) (b i : Nat) :
    (s.setInt r b i).regs = (s.setWord r (s.word r i ||| BitVec.ofNat 32 (2 ^ b)) i).regs := by
  unfold State.setInt
  dsimp only
  generalize State.setWord _ _ _ _ _ = t
  generalize LogPend.mk _ _ _ _ _ _ = l
  obtain ⟨p, o, h⟩ := State.irq_frame { t with obs := { t.obs with pend := t.obs.pend ++ [l] } } (intInfo r).1
  rw [h]

theorem State.word_of_regs {s t : State} (h : t.regs = s.regs) (r : Reg) (i g : Nat) : t.word r i g = s.word r i g :=
  congrArg (fun m : Tab W32 => m.look regDflt (regKey r i g)) h

@[simp] theorem State.word_setInt (s : State) (r : Reg) (b i : Nat) :
    (s.setInt r b i).word r i = s.word r i ||| BitVec.ofNat 32 (2 ^ b) := by
  rw [State.word_of_regs (State.setInt_regs s r b i), State.word_setWord]

theorem State.word_setInt_ne (s : State) {r q : Reg} {b i j g : Nat} (hk : regKey r i g ≠ regKey q j 0) :
    (s.setInt q b j).word r i g = s.word r i g := by
  rw [State.word_of_regs (State.setInt_regs s q b j), State.word_setWord_ne s _ hk]

/-- A recorded fault writes its ACU's entry, then ACU_EVT and the FAULT bit (R342). -/
theorem State.noteFault_updates (s : State) (acu code a : Nat) (wr : Bool) (kind : Nat) :
    ∃ v w, s.noteFault acu code a wr kind = ((s.setAcu acu v).setWord .ACU_EVT w).setInt .ACU_INT_STAT 0 := by
  unfold State.noteFault
  exact ⟨_, _, rfl⟩

/-- Among the register words a recorded fault changes ACU_EVT and ACU_INT_STAT alone (R342). -/
theorem State.word_noteFault (s : State) (acu code a : Nat) (wr : Bool) (kind : Nat) {r : Reg} {i g : Nat}
    (he : regKey r i g ≠ regKey .ACU_EVT 0 0) (hs : regKey r i g ≠ regKey .ACU_INT_STAT 0 0) :
    (s.noteFault acu code a wr kind).word r i g = s.word r i g := by
  obtain ⟨v, w, h⟩ := State.noteFault_updates s acu code a wr kind
  rw [h, State.word_setInt_ne _ hs, State.word_setWord_ne _ _ he]
  exact State.word_of_regs (State.setAcu_regs ..) r i g

@[simp] theorem State.word_obsEvent (s : State) (u : ObsUnit) (code n stack : Nat) (r : Reg) (i g : Nat) :
    (s.obsEvent u code n stack).word r i g = s.word r i g := by
  obtain ⟨w, h⟩ := State.obsEvent_frame s u code n stack
  rw [h]
  rfl

theorem State.word_recordFault (s : State) (o : Origin) (a : Nat) (wr : Bool) (kind : Nat) {r : Reg} {i g : Nat}
    (he : regKey r i g ≠ regKey .ACU_EVT 0 0) (hs : regKey r i g ≠ regKey .ACU_INT_STAT 0 0) :
    (s.recordFault o a wr kind).word r i g = s.word r i g := by
  have hnote := State.word_noteFault s o.acu o.code a wr kind he hs
  unfold State.recordFault
  dsimp only
  split
  · exact (State.word_obsEvent ..).trans hnote
  · exact (State.word_obsEvent ..).trans hnote
  · exact hnote

/-! ## Fields of a word -/

/-- Words whose low n bits agree have the same fields below bit n. -/
theorem bits_congr {v w : W32} {n hi lo : Nat} (h : v.toNat % 2 ^ n = w.toNat % 2 ^ n) (hn : hi < n) (hlo : lo ≤ hi) :
    bits v hi lo = bits w hi lo := by
  have hfield : ∀ u : W32, bits u hi lo = u.toNat % 2 ^ n % 2 ^ (hi + 1) / 2 ^ lo := by
    intro u
    rw [bits, ← Nat.mod_mul_right_div_self, ← Nat.pow_add, show lo + (hi + 1 - lo) = hi + 1 by omega,
      Nat.mod_mod_of_dvd _ (Nat.pow_dvd_pow 2 hn)]
  rw [hfield, hfield, h]

theorem bits_one (w : W32) (b : Nat) : bits w b b = (w.getLsbD b).toNat := by
  rw [BitVec.getLsbD, Nat.toNat_testBit, bits, show b + 1 - b = 1 by omega, Nat.pow_one]

/-- A bit that has been set reads as 1. -/
theorem bits_or_twoPow (w : W32) {b : Nat} (hb : b < 32) : bits (w ||| BitVec.ofNat 32 (2 ^ b)) b b = 1 := by
  have hset : (BitVec.ofNat 32 (2 ^ b)).getLsbD b = true := by
    rw [BitVec.getLsbD_ofNat, decide_eq_true hb, Nat.testBit_two_pow_self, Bool.true_and]
  rw [bits_one, BitVec.getLsbD_or, hset, Bool.or_true, Bool.toNat_true]

/-! ## Writes that a register accepts (R8-R10) -/

/-- The kind of access fault that a write of v to register r makes by its fields, 0 for none (R9, R10, R342). -/
def State.writeKind (s : State) (o : Origin) (r : Reg) (i : Nat) (v : W32) : Nat :=
  s.writeFault (fieldsFor o r) (ignored r) (s.regView r i (copyOf o r)) v

/-- A write has made an access fault of kind k, none for 0. -/
def State.noteWrite (s : State) (o : Origin) (r : Reg) (i k : Nat) : State :=
  if k = 0 then s else s.recordFault o (regAddr r i) true k

/-- A write in range that a register accepts is stored where the register's own rule holds, and refused elsewhere; its fault is
recorded either way. -/
theorem State.putReg_accepted {s : State} {o : Origin} {r : Reg} {i : Nat} {v : W32} (ok : W32 → Bool)
    (hacc : s.accepts o r i = true) (hgate : presGated r i = false) (hrange : s.outOfRange (fieldsFor o r) v = false) :
    s.putReg o r i v ok =
      (if ok (s.wouldBe o r i (copyOf o r) v) then s.written o r i v else s.cfgRej r i).noteWrite o r i
        (s.writeKind o r i v) := by
  unfold State.putReg State.noteWrite State.writeKind State.written
  cases hok : ok (s.wouldBe o r i (copyOf o r) v) <;> simp [hacc, hgate, hrange, hok]

theorem State.noteWrite_frame (s : State) (o : Origin) (r : Reg) (i k : Nat) :
    ∃ c g w p x, s.noteWrite o r i k = { s with acus := c, regs := g, obs := w, pci := p, out := x } := by
  unfold State.noteWrite
  split
  · exact ⟨s.acus, s.regs, s.obs, s.pci, s.out, rfl⟩
  · exact State.recordFault_frame ..

theorem State.word_noteWrite (s : State) (o : Origin) (q : Reg) (j k : Nat) {r : Reg} {i g : Nat}
    (he : regKey r i g ≠ regKey .ACU_EVT 0 0) (hs : regKey r i g ≠ regKey .ACU_INT_STAT 0 0) :
    (s.noteWrite o q j k).word r i g = s.word r i g := by
  unfold State.noteWrite
  split
  · rfl
  · exact State.word_recordFault s o _ true k he hs

end Sys2Proof.Machine
end

section
/-!
PROOFS. Ports (02): a write of FC_THR is kept in the order of its thresholds, or refused with CFG_REJ.
-/

namespace Sys2Proof.Machine

/-! ## FC_THR (R40) -/

/-- A written FC_THR holds the written thresholds and keeps its reserved bits. -/
theorem State.wouldBe_fcThr_toNat (s : State) (o : Origin) (p : Nat) (v : W32) :
    (s.wouldBe o .HPT_FC_THR p (copyOf o .HPT_FC_THR) v).toNat % 2 ^ 27 = v.toNat % 2 ^ 27 := by
  change (depo (depo (depo (s.word .HPT_FC_THR p 0) 26 18 (bits v 26 18)) 17 9 (bits v 17 9)) 8 0
    (bits v 8 0)).toNat % 2 ^ 27 = _
  simp only [depo, bits, BitVec.toNat_ofNat]
  omega

/-- The thresholds of an FC_THR word stand in the order XON < XOFF_LOW ≤ XOFF_HIGH. -/
def thrOrdered (w : W32) : Bool := decide (bits w 8 0 < bits w 17 9) && decide (bits w 17 9 ≤ bits w 26 18)

theorem thrOrdered_iff (w : W32) : thrOrdered w = true ↔ bits w 8 0 < bits w 17 9 ∧ bits w 17 9 ≤ bits w 26 18 := by
  simp [thrOrdered]

theorem State.bits_wouldBe_fcThr (s : State) (o : Origin) (p : Nat) (v : W32) {hi lo : Nat} (hn : hi < 27) (hlo : lo ≤ hi) :
    bits (s.wouldBe o .HPT_FC_THR p (copyOf o .HPT_FC_THR) v) hi lo = bits v hi lo :=
  bits_congr (State.wouldBe_fcThr_toNat s o p v) hn hlo

theorem State.thrOrdered_wouldBe (s : State) (o : Origin) (p : Nat) (v : W32) :
    thrOrdered (s.wouldBe o .HPT_FC_THR p (copyOf o .HPT_FC_THR) v) = thrOrdered v := by
  unfold thrOrdered
  simp (disch := decide) only [State.bits_wouldBe_fcThr]

theorem State.accepts_fcThr (s : State) (o : Origin) (p : Nat) : s.accepts o .HPT_FC_THR p = true := by
  cases o <;> rfl

/-- A write of FC_THR stores its word when the thresholds are in order, and sets CFG_REJ otherwise (R40). -/
theorem State.writeFcThr_eq (s : State) (o : Origin) (p : Nat) (v : W32) :
    s.writeFcThr o p v = (if thrOrdered v then s.written o .HPT_FC_THR p v else s.setInt .HPT_INT_STAT 3 p).noteWrite o
      .HPT_FC_THR p (s.writeKind o .HPT_FC_THR p v) := by
  have hput := State.putReg_accepted (s := s) (i := p) (v := v) thrOrdered (State.accepts_fcThr s o p) rfl rfl
  rw [State.thrOrdered_wouldBe] at hput
  exact hput

theorem State.word_writeFcThr (s : State) (o : Origin) {p : Nat} (v : W32) (hp : p < 64) {r : Reg}
    (he : r.ctorIdx ≠ Reg.ACU_EVT.ctorIdx) (hs : r.ctorIdx ≠ Reg.ACU_INT_STAT.ctorIdx) :
    (s.writeFcThr o p v).word r p =
      (if thrOrdered v then s.written o .HPT_FC_THR p v else s.setInt .HPT_INT_STAT 3 p).word r p := by
  rw [State.writeFcThr_eq]
  exact State.word_noteWrite _ o _ p _ (regKey_ne he (by omega) (by decide) (by decide) (by decide))
    (regKey_ne hs (by omega) (by decide) (by decide) (by decide))

/-- A refused write changes what records and reports it, and nothing of the path. -/
theorem State.writeFcThr_refused_frame (s : State) (o : Origin) (p : Nat) {v : W32} (h : thrOrdered v = false) :
    ∃ c g w q x, s.writeFcThr o p v = { s with acus := c, regs := g, obs := w, pci := q, out := x } := by
  obtain ⟨g, w, q, x, hint⟩ := State.setInt_frame s .HPT_INT_STAT 3 p
  obtain ⟨c, g', w', q', x', hnote⟩ :=
    State.noteWrite_frame (s.setInt .HPT_INT_STAT 3 p) o .HPT_FC_THR p (s.writeKind o .HPT_FC_THR p v)
  refine ⟨c, g', w', q', x', ?_⟩
  rw [State.writeFcThr_eq, h, if_neg Bool.false_ne_true, hnote, hint]

theorem exec_fcThrWrite {s : State} {o : Origin} {port : Nat} (v : W32) (hg : s.grants o .HPT_FC_THR (port % 64) = true) :
    exec (.fcThrWrite o port v) s = .next (s.done (s.writeFcThr o (port % 64) v)) := by
  rw [exec_granted (c := .fcThrWrite o port v) rfl hg]

/-- Settles O7: a write in order stores the word that holds its thresholds, any other sets CFG_REJ alone; a reserved bit adds its
access fault to either, which touches neither register. -/
theorem thresholdOrderIsKept : Obligations.ThresholdOrderIsKept := by
  intro s o port v p hg
  have hp : p < 64 := Nat.mod_lt _ (by decide)
  have hkey : regKey .HPT_INT_STAT p 0 ≠ regKey .HPT_FC_THR p 0 :=
    regKey_ne (by decide) (by omega) (by omega) (by decide) (by decide)
  have hthr := State.word_writeFcThr s o v hp (r := .HPT_FC_THR) (by decide) (by decide)
  have hint := State.word_writeFcThr s o v hp (r := .HPT_INT_STAT) (by decide) (by decide)
  refine ⟨fun hord => ⟨_, exec_fcThrWrite v hg, ?_⟩, fun hord => ⟨_, exec_fcThrWrite v hg, ?_⟩⟩
  · rw [if_pos ((thrOrdered_iff v).mpr hord)] at hthr hint
    rw [hthr, hint]
    exact ⟨(congrArg (bits · 26 0) (State.word_setWord ..)).trans
      (State.bits_wouldBe_fcThr s o p v (by decide) (by decide)), State.word_setWord_ne s _ hkey⟩
  · have hbad : thrOrdered v = false := Bool.eq_false_iff.mpr (hord ∘ (thrOrdered_iff v).mp)
    obtain ⟨c, g, w, q, x, hframe⟩ := State.writeFcThr_refused_frame s o p hbad
    rw [hbad, if_neg Bool.false_ne_true] at hthr hint
    rw [hthr, hint, State.word_setInt_ne s hkey.symm, State.word_setInt]
    refine ⟨rfl, bits_or_twoPow _ (by decide), ?_⟩
    rw [hframe]
    exact ⟨rfl, rfl, rfl, rfl⟩

end Sys2Proof.Machine
end

section
/-!
PROOFS. Ports (02): the snapshot of a port's counters changes the snapshot alone. The state after reset (R36, R365, R366).
-/

namespace Sys2Proof.Machine

/-! ## Snapshots (R47) -/

/-- The counters of a port, as STAT_SNAP copies them. -/
def State.portCounter (s : State) (p k : Nat) : W64 := if p < 64 then s.cnt .hpt 0 p k else s.cnt .lpt 0 (p - 64) k

/-- Word k of a port's snapshot takes a value. -/
def State.snapWord (v : Nat → W64) (p : Nat) (t : State) (k : Nat) : State :=
  { t with snaps := t.snaps.put (fun _ => 0#64) (p * 64 + k) (v k) }

theorem State.statSnap_eq (s : State) (p : Nat) :
    s.statSnap p = (List.range 35).foldl (State.snapWord (s.portCounter p) p) s := rfl

/-- Taking a snapshot changes snapshots alone. -/
theorem State.foldl_snapWord_frame (s : State) (v : Nat → W64) (p : Nat) (l : List Nat) :
    ∃ x, l.foldl (State.snapWord v p) s = { s with snaps := x } := by
  induction l generalizing s with
  | nil => exact ⟨s.snaps, rfl⟩
  | cons k l ih =>
    obtain ⟨x, h⟩ := ih (s.snapWord v p k)
    exact ⟨x, h⟩

/-- The words of other snapshots stay. -/
theorem State.look_snapWord_ne (s : State) (v : Nat → W64) (p : Nat) {l : List Nat} {j : Nat}
    (hj : ∀ k ∈ l, j ≠ p * 64 + k) :
    (l.foldl (State.snapWord v p) s).snaps.look (fun _ => 0#64) j = s.snaps.look (fun _ => 0#64) j := by
  induction l generalizing s with
  | nil => rfl
  | cons k l ih =>
    rw [List.foldl_cons, ih _ (fun m hm => hj m (List.mem_cons_of_mem k hm))]
    exact Tab.look_put_ne _ _ _ (hj k List.mem_cons_self)

/-- Settles O15: the 35 words of the port's snapshot take its counters, and the fold that writes them touches nothing else. -/
theorem snapshotCopiesEveryCounter : Obligations.SnapshotCopiesEveryCounter := by
  intro s o port hg
  refine ⟨_, exec_granted (c := .statSnap o port) rfl hg, fun k hk => State.look_statSnap s port.idx hk, fun j hj => ?_, ?_⟩
  · rw [State.statSnap_eq]
    exact State.look_snapWord_ne s _ _ (fun k hk => hj k (List.mem_range.mp hk))
  · obtain ⟨x, h⟩ := State.foldl_snapWord_frame s (s.portCounter port.idx) port.idx (List.range 35)
    rw [State.statSnap_eq, h]
    exact ⟨rfl, rfl, rfl, rfl⟩

/-! ## The state after reset (R365, R366) -/

/-- After reset a register reads its reset word. -/
theorem State.word_reset {r : Reg} (hr : regList[r.ctorIdx]? = some r) {i g : Nat} (hi : i < 2 ^ 20) (hg : g < 4) :
    State.reset.word r i g = r.rst i := by
  have hreg : regKey r i g / 2 ^ 22 = r.ctorIdx := by
    unfold regKey
    omega
  have helem : regKey r i g % 2 ^ 20 = i := by
    unfold regKey
    omega
  change regDflt (regKey r i g) = r.rst i
  rw [regDflt, hreg, hr, helem]

/-- After reset every host port's MAX_FRAME shows 9,216 and every line port's 9,252 (R36). -/
theorem State.maxFrame_reset {p : Nat} (hp : p < 64) :
    State.reset.regView .HPT_MAX_FRAME p 0 = 9216#32 ∧ State.reset.regView .LPT_MAX_FRAME p 0 = 9252#32 :=
  ⟨State.word_reset (r := .HPT_MAX_FRAME) rfl (by omega) (by decide),
    State.word_reset (r := .LPT_MAX_FRAME) rfl (by omega) (by decide)⟩

theorem State.acu_reset_drained {u : Nat} : (State.reset.acu u).drained = true := by
  change (acuDflt u).drained = true
  unfold acuDflt
  split
  · rfl
  · rfl

/-- Settles O21: the reset state's fields as they stand, its registers by their reset words. -/
theorem resetState : Obligations.ResetState :=
  ⟨rfl, by decide, rfl, rfl, rfl, rfl, rfl, rfl, rfl, by decide, fun _ hp => State.maxFrame_reset hp,
    fun _ _ => State.acu_reset_drained⟩

end Sys2Proof.Machine
end

section
/-!
PROOFS. What the key store and the yard leave alone: an SA, a receive SC or a SecY that comes or goes changes no port.
-/

namespace Sys2Proof.Machine

/-! ## Ports through folds -/

/-- What every step of a fold keeps, the fold keeps. -/
theorem foldl_keeps {α β γ : Type} (g : β → γ) (f : β → α → β) {l : List α} (h : ∀ t, ∀ a ∈ l, g (f t a) = g t) (s : β) :
    g (l.foldl f s) = g s := by
  induction l generalizing s with
  | nil => rfl
  | cons a l ih =>
    rw [List.foldl_cons, ih (fun t b hb => h t b (List.mem_cons_of_mem a hb)), h s a List.mem_cons_self]

theorem State.foldl_ports {α : Type} (f : State → α → State) (l : List α) (h : ∀ t a, (f t a).ports = t.ports) (s : State) :
    (l.foldl f s).ports = s.ports :=
  foldl_keeps State.ports f (fun t a _ => h t a) s

theorem State.port_of_ports {s t : State} (h : t.ports = s.ports) (p : Nat) : t.port p = s.port p := by
  rw [State.port, State.port, h]

/-! ## Slots, records and counters -/

@[simp] theorem State.setInt_ports (s : State) (r : Reg) (b i : Nat) : (s.setInt r b i).ports = s.ports := by
  obtain ⟨g, w, c, o, h⟩ := State.setInt_frame s r b i
  rw [h]

@[simp] theorem State.obsEvent_ports (s : State) (u : ObsUnit) (code n stack : Nat) :
    (s.obsEvent u code n stack).ports = s.ports := by
  obtain ⟨w, h⟩ := State.obsEvent_frame s u code n stack
  rw [h]

@[simp] theorem State.setFld_ports (s : State) (f : FieldRef) (v i g : Nat) : (s.setFld f v i g).ports = s.ports :=
  State.setWord_ports ..

theorem State.drbgM_frame (s : State) (n : Nat) : ∃ r, s.drbgM n = { s with rng := r } := ⟨_, rfl⟩

theorem State.draw_frame (s : State) : ∃ r, s.draw.2 = { s with rng := r } := ⟨_, rfl⟩

/-- A draw after a request of DRBG-M changes the random sources alone (R134). -/
@[simp] theorem State.drawM_ports (s : State) (n : Nat) : (s.drbgM n).draw.2.ports = s.ports := by
  obtain ⟨r, h⟩ := State.drbgM_frame s n
  obtain ⟨r', h'⟩ := State.draw_frame (s.drbgM n)
  rw [h', h]

@[simp] theorem State.setScSet_ports (s : State) (k : Nat) (v : ScSet) : (s.setScSet k v).ports = s.ports := rfl

theorem State.setClsWord_ports (s : State) (slice table bank a : Nat) (w : W32) :
    (s.setClsWord slice table bank a w).ports = s.ports := by
  unfold State.setClsWord
  generalize s.cls.mem.put _ _ _ = m
  rfl

@[simp] theorem State.setClsAll_ports (s : State) (table bank a : Nat) (w : W32) :
    (s.setClsAll table bank a w).ports = s.ports :=
  State.foldl_ports _ _ (fun t k => State.setClsWord_ports t k table bank a w) s

@[simp] theorem State.wipeSlot_ports (s : State) (k : Nat) : (s.wipeSlot k).ports = s.ports :=
  State.drawM_ports s 1

@[simp] theorem State.reapSlot_ports (s : State) (k : Nat) : (s.reapSlot k).ports = s.ports := by
  unfold State.reapSlot
  split
  · exact State.wipeSlot_ports ..
  · rfl

@[simp] theorem State.releaseSlot_ports (s : State) (k : Nat) : (s.releaseSlot k).ports = s.ports := by
  simp [State.releaseSlot]

@[simp] theorem State.remaskSa_ports (s : State) (k : Nat) : (s.remaskSa k).ports = s.ports :=
  State.drawM_ports s 1

@[simp] theorem State.busLoad_ports (s : State) (k : Nat) : (s.busLoad k).ports = s.ports := by
  unfold State.busLoad
  split <;> simp

@[simp] theorem State.sendRec_ports (s : State) (kind : Nat) (body : TBody) : (s.sendRec kind body).ports = s.ports := by
  simp [State.sendRec]

@[simp] theorem State.tellSa_ports (s : State) (op k : Nat) : (s.tellSa op k).ports = s.ports := by
  unfold State.tellSa State.tell
  split
  · exact State.sendRec_ports ..
  · rfl

/-! ## Engine sets and placement (R139, R147) -/

@[simp] theorem State.dropKeys_ports (s : State) (e : Nat) : (s.dropKeys e).ports = s.ports :=
  State.setEng_ports ..

@[simp] theorem State.leaveSet_ports (s : State) (k e : Nat) : (s.leaveSet k e).ports = s.ports := by
  simp [State.leaveSet]

@[simp] theorem State.trimKeys_ports (s : State) (k : Nat) : (s.trimKeys k).ports = s.ports :=
  State.foldl_ports _ _ State.dropKeys_ports s

@[simp] theorem State.loadKeys_ports (s : State) (e : Nat) (l : List Nat) : (s.loadKeys e l).ports = s.ports := by
  unfold State.loadKeys
  dsimp only
  rw [State.obsEvent_ports, State.foldl_ports _ _ State.busLoad_ports, State.setEng_ports]

@[simp] theorem State.keyInto_ports (s : State) (k e slot : Nat) : (s.keyInto k e slot).ports = s.ports := by
  unfold State.keyInto
  split
  · rfl
  · split <;> simp

@[simp] theorem State.warm_ports (s : State) (k : Nat) : (s.warm k).ports = s.ports :=
  State.foldl_ports _ _ (fun t e => State.keyInto_ports t _ e _) s

@[simp] theorem State.demote_ports (s : State) (r : Nat) : (s.demote r).ports = s.ports := by
  unfold State.demote
  split <;> simp

@[simp] theorem State.pinHot_ports (s : State) (k : Nat) : (s.pinHot k).ports = s.ports := by
  simp only [State.pinHot, apply_ite State.ports, State.warm_ports, State.setSa_ports, State.demote_ports, ite_self]

@[simp] theorem State.pinNext_ports (s : State) : s.pinNext.ports = s.ports := by
  unfold State.pinNext
  split
  · rfl
  · split <;> simp

/-! ## SAs, receive SCs and SecYs (R71, R76, R92) -/

@[simp] theorem State.freeSa_ports (s : State) (k : Nat) : (s.freeSa k).ports = s.ports := by
  simp only [State.freeSa, State.reapSlot_ports, apply_ite State.ports, State.pinNext_ports, State.trimKeys_ports,
    State.setSa_ports, ite_self]

@[simp] theorem State.retireSa_ports (s : State) (k : Nat) : (s.retireSa k).ports = s.ports := by
  simp only [State.retireSa, apply_ite State.ports, State.freeSa_ports, State.tellSa_ports, State.setSecy_ports,
    State.setSa_ports, ite_self]

@[simp] theorem State.removeRsc_ports (s : State) (r : Nat) : (s.removeRsc r).ports = s.ports := by
  simp [State.removeRsc]

/-- A line port that loses its place takes down its SecY and CA and no port. -/
@[simp] theorem State.unconfigure_ports (s : State) (n : Nat) : (s.unconfigure n).ports = s.ports := by
  have hleave : ∀ (t : State) (r : Nat),
      (if t.rscBusy r then t.setRsc r { t.rsc r with leaving := true } else t.removeRsc r).ports = t.ports := by
    intro t r
    split <;> simp
  unfold State.unconfigure
  split
  · rfl
  · dsimp only
    rw [State.setSecy_ports, State.setCa_ports, State.foldl_ports _ _ hleave, State.foldl_ports _ _ State.releaseSlot_ports,
      State.foldl_ports _ _ State.retireSa_ports]

@[simp] theorem State.configure_ports (s : State) (n : Nat) : (s.configure n).ports = s.ports := by
  unfold State.configure
  split <;> simp

@[simp] theorem State.mapGroup_ports (s : State) (n : Nat) : (s.mapGroup n).ports = s.ports :=
  State.foldl_ports _ _ (fun t k => State.setFld_ports t _ _ k 0) s

@[simp] theorem State.resolved_ports (s : State) (n : Nat) : (s.resolved n).ports = s.ports := by
  unfold State.resolved
  dsimp only
  rw [State.mapGroup_ports, State.configure_ports, State.foldl_ports _ _ State.unconfigure_ports]

@[simp] theorem State.rateHold_ports (s : State) (lp n : Nat) : (s.rateHold lp n).ports = s.ports := by
  simp only [State.rateHold, apply_ite State.ports, State.setInt_ports, State.setSecy_ports, ite_self]

end Sys2Proof.Machine
end

section
/-!
PROOFS. Links, engines and parity repair (02, 03, 07): where a link comes up, goes down and is trained or probed again, the
repair of a bad word, an engine that leaves service.
-/

namespace Sys2Proof.Machine

/-! ## A link that comes up (R28, R29, R31-R33) -/

/-- The form a port comes up in: its own, the one offered where it is AUTO. -/
def State.upForm (s : State) (p form : Nat) : Nat := if s.portCfgForm p = 0 then form else s.portCfgForm p

/-- Port p with its link up in form fm. -/
def State.upPort (s : State) (p fm fec : Nat) : Port :=
  { s.port p with
    link := true, phase := .off, present := s.portCfgForm p == 0
    formAct := BitVec.ofNat 4 fm, fecAct := BitVec.ofNat 2 (linkFec fm (s.portCfgFec p) fec) }

/-- A live port without a link or a running recalibration comes up in a form it may take. -/
theorem State.linkUp_may {s : State} {p form : Nat} (fec : Nat) (hlive : s.portLive p = true)
    (hdown : (s.port p).link = false) (hidle : (s.port p).recal ≠ .running) (hmay : s.mayCome p (s.upForm p form) = true) :
    s.linkUp p form fec = ((s.setPort p (s.upPort p (s.upForm p form) fec)).displace p).portInt p 0 := by
  unfold State.upForm at hmay
  simp [State.linkUp, hlive, hdown, hidle, hmay, State.upPort, State.upForm]

@[simp] theorem State.portInt_ports (s : State) (p b : Nat) : (s.portInt p b).ports = s.ports := by
  obtain ⟨g, w, c, o, h⟩ := State.portInt_frame s p b
  rw [h]

/-- The ports that lose their place to a port are others of its group (R71). -/
theorem State.port_displace (s : State) (p : Nat) : (s.displace p).port p = s.port p := by
  refine foldl_keeps (State.port · p) _ (fun t q hq => ?_) s
  have hqp : q ≠ p := by simpa using (List.mem_filter.mp hq).2
  split
  · exact State.port_setPort_ne t _ hqp.symm
  · rfl

theorem State.port_linkUp {s : State} {p form : Nat} (fec : Nat) (hlive : s.portLive p = true)
    (hdown : (s.port p).link = false) (hidle : (s.port p).recal ≠ .running) (hmay : s.mayCome p (s.upForm p form) = true) :
    (s.linkUp p form fec).port p = s.upPort p (s.upForm p form) fec := by
  rw [State.linkUp_may fec hlive hdown hidle hmay, State.port_of_ports (State.portInt_ports ..), State.port_displace,
    State.port_setPort]

theorem State.foldl_rateHold_ports (s : State) (lp : Nat) :
    ((List.range 2048).foldl (fun t n => t.rateHold lp n) s).ports = s.ports :=
  State.foldl_ports _ _ (fun t n => State.rateHold_ports t lp n) s

/-- What follows a link on a line port, its SecYs and the holds by rate, leaves the ports as the link made them (R71, R76). -/
theorem State.linkCame_ports {s : State} (p form fec : Nat) (hrun : s.linksRun = true) :
    (s.linkCame p form fec).ports = (s.linkUp p form fec).ports := by
  simp only [State.linkCame, hrun, Bool.not_true, Bool.false_eq_true, if_false, apply_ite State.ports,
    State.foldl_rateHold_ports, State.resolved_ports, ite_self]

theorem State.probed_ports {s : State} (p : Nat) (reached : Bool) (hrun : s.linksRun = true) :
    (s.probed p reached).ports = (s.probe p reached).ports := by
  simp only [State.probed, hrun, Bool.not_true, Bool.false_eq_true, if_false, apply_ite State.ports,
    State.foldl_rateHold_ports, State.resolved_ports, ite_self]

theorem State.linkCame_host {s : State} {p : Nat} (form fec : Nat) (hrun : s.linksRun = true) (hp : p < 64) :
    s.linkCame p form fec = s.linkUp p form fec := by
  simp [State.linkCame, hrun, hp]

theorem PortId.idx_host {port : PortId} (h : port.side = .host) : port.idx < 64 := by
  rw [PortId.idx, h]
  exact Nat.mod_lt _ (by decide)

/-! ## A link that goes down, training and probes (R31-R33) -/

theorem State.linkDown_up {s : State} {p : Nat} (h : (s.port p).link = true) :
    s.linkDown p =
      let t := (((s.setPort p { s.port p with
        link := false, txBusy := false
        recal := if (s.port p).recal = .queued then .running else (s.port p).recal }).portInt p 0).portCnt p 32).discardDown p
      if t.portLive p then t.bringUp p else t := by
  simp [State.linkDown, h]

theorem State.trainAgain_down {s : State} {p : Nat} (hrun : s.linksRun = true) (hdown : (s.port p).link = false)
    (hlive : s.portLive p = true) (hlt : s.ltEn p = true) : s.trainAgain p = s.bringUp p := by
  simp [State.trainAgain, hrun, hdown, hlive, hlt]

/-- A probe that did not reach its form leaves the next one to be probed. -/
theorem State.probed_missed {s : State} {p : Nat} (hrun : s.linksRun = true) (himg : s.image = false)
    (hauto : s.portCfgForm p = 0) (hdown : (s.port p).link = false) (hlive : s.portLive p = true) (hturn : s.itsTurn p = true) :
    s.probed p false =
      s.setPort p { s.port p with probe := s.nextProbe p (s.nextProbe p (s.port p).probe + 1) } := by
  simp [State.probed, State.probe, hrun, himg, hauto, hdown, hlive, hturn]

/-- The form and FEC that port p probes now. -/
def State.probeForm (s : State) (p : Nat) : Nat × Nat := probeForms.getD (s.nextProbe p (s.port p).probe) (1, 1)

theorem State.probe_reached {s : State} {p : Nat} (himg : s.image = false) (hauto : s.portCfgForm p = 0)
    (hdown : (s.port p).link = false) (hlive : s.portLive p = true) (hturn : s.itsTurn p = true) :
    s.probe p true = s.linkUp p (s.probeForm p).1 (s.probeForm p).2 := by
  simp [State.probe, State.probeForm, himg, hauto, hdown, hlive, hturn]

/-! ## Parity repair (R67) -/

/-- A search for a pair by its parts finds it. -/
theorem find?_pair {l : List (Nat × Nat)} {a b : Nat} (h : (a, b) ∈ l) :
    l.find? (fun e => e.1 == a && e.2 == b) = some (a, b) := by
  cases hf : l.find? (fun e => e.1 == a && e.2 == b) with
  | none => exact absurd (List.find?_eq_none.mp hf _ h) (by simp)
  | some e =>
    obtain ⟨h1, h2⟩ : e.1 = a ∧ e.2 = b := by simpa using List.find?_some hf
    rw [← h1, ← h2]

/-- A repair that is awaited copies the next slice's good word. -/
theorem State.parityRepair_good {s : State} {slice word : Nat} (hr : s.cls.repairs.contains (slice % 4, word) = true)
    (hw : evenW (s.cls.mem.look clsDflt ((slice % 4 + 1) % 4 * 2 ^ 27 + word % 2 ^ 27)) = true) :
    s.parityRepair slice word = { s with cls := { s.cls with
      mem := s.cls.mem.put clsDflt (slice % 4 * 2 ^ 27 + word % 2 ^ 27)
        (s.cls.mem.look clsDflt ((slice % 4 + 1) % 4 * 2 ^ 27 + word % 2 ^ 27))
      repairs := s.cls.repairs.filter (fun x => x != (slice % 4, word)) } } := by
  simp only [State.parityRepair, find?_pair (List.contains_iff_mem.mp hr), hw, if_true]

/-! ## Engine faults (R153, R154) -/

/-- An engine in service fails with a cause that is real there: 1, 2, or 4 when its pace is a fault. -/
theorem State.engineFault_inService {s : State} {e cause : Nat} (hm : (s.eng e).mode = .inService)
    (hc : cause = 1 ∨ cause = 2 ∨ (cause = 4 ∧ (s.eng e).slow s.nowNs s.medianPace = true)) :
    s.engineFault e cause = s.failEngine e cause := by
  have hreal : (cause == 1 || cause == 2 || (cause == 4 && (s.eng e).slow s.nowNs s.medianPace)) = true := by
    rcases hc with rfl | rfl | ⟨rfl, hslow⟩
    · rfl
    · rfl
    · rw [hslow]
      rfl
  simp only [State.engineFault, hm, hreal, if_true]

/-- A handshake that has stalled in an engine in service is its fault of cause 2. -/
theorem State.engineStall_inService {s : State} {e : Nat} (hslots : (s.eng e).slots ≠ []) (hm : (s.eng e).mode = .inService) :
    s.engineStall e = s.failEngine e 2 := by
  have hbusy : (s.eng e).slots.isEmpty = false := by simpa using hslots
  rw [State.engineStall, hbusy, if_neg Bool.false_ne_true, State.engineFault_inService hm (Or.inr (Or.inl rfl))]

/-! ## The commands -/

/-- Settles O26: each command by its operation's own rule; on a line port what follows the link leaves the port as it came up. -/
theorem portsAndLinksRun : Obligations.PortsAndLinksRun := by
  refine ⟨?repair, ?fault, ?stall, ?hostUp, ?up, ?down, ?restart, ?missed, ?reached⟩
  case repair =>
    intro s slice word hr hw
    rw [← State.parityRepair_good hr hw]
    rfl
  case fault =>
    intro s eng cause hm hc
    rw [← State.engineFault_inService hm hc]
    rfl
  case stall =>
    intro s eng hslots hm
    rw [← State.engineStall_inService hslots hm]
    rfl
  case hostUp =>
    intro s port form fec hside hrun hlive hdown hidle hmay
    have hup := State.linkUp_may fec hlive hdown hidle hmay
    rw [← State.linkCame_host form fec hrun (PortId.idx_host hside)] at hup
    exact congrArg (fun t => Host.Outcome.next (s.done t)) hup
  case up =>
    intro s port form fec hrun hlive hdown hidle hmay
    have hport : (s.linkCame port.idx form fec).port port.idx = s.upPort port.idx (s.upForm port.idx form) fec := by
      rw [State.port_of_ports (State.linkCame_ports _ _ _ hrun), State.port_linkUp fec hlive hdown hidle hmay]
    refine ⟨_, rfl, ?_⟩
    rw [hport]
    exact ⟨rfl, rfl, rfl, rfl⟩
  case down =>
    intro s port hlink
    exact congrArg (fun t => Host.Outcome.next (s.done t)) (State.linkDown_up hlink)
  case restart =>
    intro s port hrun hdown hlive hlt
    rw [← State.trainAgain_down hrun hdown hlive hlt]
    rfl
  case missed =>
    intro s port reached hreached hrun himg hauto hdown hlive hturn
    subst hreached
    rw [← State.probed_missed hrun himg hauto hdown hlive hturn]
    rfl
  case reached =>
    intro s port reached hreached hrun himg hauto hdown hidle hlive hturn hmay
    subst hreached
    have hform : s.upForm port.idx (s.probeForm port.idx).1 = (s.probeForm port.idx).1 := if_pos hauto
    have hport : (s.probed port.idx true).port port.idx =
        s.upPort port.idx (s.probeForm port.idx).1 (s.probeForm port.idx).2 := by
      rw [State.port_of_ports (State.probed_ports _ _ hrun), State.probe_reached himg hauto hdown hlive hturn,
        State.port_linkUp _ hlive hdown hidle (by rw [hform]; exact hmay), hform]
    refine ⟨_, rfl, ?_⟩
    rw [hport]
    exact ⟨rfl, rfl⟩

end Sys2Proof.Machine
end

section
/-!
PROOFS. Replay (04): the PN recovered from a frame's PN field and the lowest acceptable PN of its SA.
-/

namespace Sys2Proof.Machine

/-! ## PN recovery (R87) -/

/-- How far the first number with low half p from l on lies above l. -/
def pnGap (l p : Nat) : Nat := (p + 2 ^ 32 - l % 2 ^ 32) % 2 ^ 32

theorem pnGap_lt (l p : Nat) : pnGap l p < 2 ^ 32 := Nat.mod_lt _ (by decide)

theorem pnGap_of_le {l p : Nat} (hle : l % 2 ^ 32 ≤ p) (hp : p < 2 ^ 32) : pnGap l p = p - l % 2 ^ 32 := by
  unfold pnGap
  omega

theorem pnGap_of_lt {l p : Nat} (hlt : p < l % 2 ^ 32) : pnGap l p = p + 2 ^ 32 - l % 2 ^ 32 := by
  unfold pnGap
  omega

/-- The number so far above l has p as its low half. -/
theorem add_pnGap_mod (l : Nat) {p : Nat} (hp : p < 2 ^ 32) : (l + pnGap l p) % 2 ^ 32 = p := by
  unfold pnGap
  omega

theorem recoverPn_nonXpn (l p : Nat) : recoverPn false l p = p := if_neg Bool.false_ne_true

/-- A field at or above the low half of l keeps the high half of l. -/
theorem recoverPn_xpn_of_le {l p : Nat} (hle : l % 2 ^ 32 ≤ p) : recoverPn true l p = l / 2 ^ 32 * 2 ^ 32 + p :=
  if_pos hle

/-- A field below the low half of l takes the next high half, counted in 32 bits. -/
theorem recoverPn_xpn_of_lt {l p : Nat} (hlt : p < l % 2 ^ 32) :
    recoverPn true l p = (l / 2 ^ 32 + 1) % 2 ^ 32 * 2 ^ 32 + p :=
  if_neg (Nat.not_le.mpr hlt)

/-- Both branches of R87 count up from l by the gap, modulo 2^64. -/
theorem recoverPn_xpn_eq_add_pnGap {l p : Nat} (hl : l < 2 ^ 64) (hp : p < 2 ^ 32) :
    recoverPn true l p = (l + pnGap l p) % 2 ^ 64 := by
  obtain hle | hlt := le_or_gt (l % 2 ^ 32) p
  · rw [recoverPn_xpn_of_le hle, pnGap_of_le hle hp]
    omega
  · rw [recoverPn_xpn_of_lt hlt, pnGap_of_lt hlt]
    omega

theorem recoverPn_xpn_mod {l p : Nat} (hl : l < 2 ^ 64) (hp : p < 2 ^ 32) : recoverPn true l p % 2 ^ 32 = p := by
  rw [recoverPn_xpn_eq_add_pnGap hl hp, Nat.mod_mod_of_dvd _ (Nat.pow_dvd_pow 2 (by decide)), add_pnGap_mod l hp]

/-- With 2^32 numbers left from l on, the count does not pass 2^64 - 1. -/
theorem recoverPn_xpn_eq_add_of_room {l p : Nat} (hroom : l + 2 ^ 32 ≤ 2 ^ 64) (hp : p < 2 ^ 32) :
    recoverPn true l p = l + pnGap l p := by
  have hgap := pnGap_lt l p
  rw [recoverPn_xpn_eq_add_pnGap (by omega) hp, Nat.mod_eq_of_lt (by omega)]

/-- Settles O11: the recovered PN counts up from the lowest acceptable one by a gap below 2^32. -/
theorem recoveredPnIsInWindow : Obligations.RecoveredPnIsInWindow := by
  refine ⟨fun l p hl hp => ⟨recoverPn_xpn_mod hl hp, recoverPn_xpn_eq_add_pnGap hl hp, fun hroom => ?_⟩, recoverPn_nonXpn⟩
  rw [recoverPn_xpn_eq_add_of_room hroom hp]
  exact ⟨Nat.le_add_right l _, Nat.add_lt_add_left (pnGap_lt l p) l⟩

end Sys2Proof.Machine
end

section
/-!
PROOFS. Presence pairing (05, R116 to R118): the counted press, the three messages of a session, its timers and the display of its
code.
-/

namespace Sys2Proof.Machine

/-- A command ends in the state that its operation is shown to give. -/
theorem exec_of_effect {c : Instr} {s t u : State} (hc : exec c s = .next (s.done t)) (h : t = u) :
    exec c s = .next (s.done u) := h ▸ hc

/-! ## The press (R319) -/

/-- A press after a release, with SEAL intact and its source not raised, opens the window and serves pairing. -/
theorem State.press_counted {s : State} (hp : s.tck.pressed = false) (hs : s.tck.sealBad = false)
    (hr : s.tck.raised.getLsbD 0 = false) :
    s.press = (({ s with tck := { s.tck with
      pressed := true, pressWin := some (s.tck.ts + s.fld F.TCK_CTL_WIN_MIN * 60 * 32768) } } : State).presLook
        s.presence).pairPress := by
  simp only [State.press, hp, hs, hr, Bool.or_self, Bool.false_eq_true, if_false]

/-! ## The messages of a session (R117) -/

/-- The first COMMIT is kept and answered with REVEAL. -/
theorem State.pairCommit_first {s : State} {ch : PairCh} {pid : W64} (cm : List Byte)
    (hch : PairCh.isTether ch = s.pairing.tether) (hpid : pid ≠ s.pairing.pid) (hst : s.pairing.st = .committing)
    (hpeer : s.pairing.peerId = none) :
    s.pairCommit ch pid cm = ({ s with pairing :=
      { s.pairing with peerId := some pid, commit := cm, reveal := true } } : State).pairSend 3 := by
  simp [State.pairCommit, hch, hpid, hst, hpeer]

/-- A REVEAL that meets its commitment, with a public key that gives a shared secret, derives. -/
theorem State.pairReveal_opens {s : State} {ch : PairCh} {pid : W64} {nonce pub z : List Byte}
    (hch : PairCh.isTether ch = s.pairing.tether) (hst : s.pairing.st = .committing) (hpeer : s.pairing.peerId = some pid)
    (hcommit : sha384 (pub ++ nonce) = s.pairing.commit) (hz : ecdh s.pairing.priv pub = some z) :
    s.pairReveal ch pid nonce pub = { s with pairing := s.pairing.derive pid nonce pub z } := by
  simp [State.pairReveal, hch, hst, hpeer, hcommit, hz]

/-- A CONFIRM with the peer's tag is held, and stores where the part's own second press was made. -/
theorem State.pairConfirm_valid {s : State} {ch : PairCh} {pid : W64} {tag : List Byte}
    (hch : PairCh.isTether ch = s.pairing.tether) (hd : s.pairing.derived = true) (hpeer : s.pairing.peerId = some pid)
    (hst : s.pairing.st = .showing ∨ s.pairing.st = .confirmed)
    (htag : tag = cmac s.pairing.kconf (s.pairing.t ++ beOctets 8 pid.toNat)) :
    s.pairConfirm ch pid tag =
      if s.pairing.press2 then ({ s with pairing := { s.pairing with held := true } } : State).pairStore
      else { s with pairing := { s.pairing with held := true } } := by
  have hwait : (s.pairing.st != .showing && s.pairing.st != .confirmed) = false := by
    rcases hst with h | h <;> simp [h]
  simp [State.pairConfirm, hch, hd, hpeer, hwait, ← htag]

/-! ## Timers (R116, R117) -/

/-- Each state of a session sends again what it has sent. -/
theorem State.pairTimer_open {s : State}
    (hst : s.pairing.st = .committing ∨ s.pairing.st = .showing ∨ s.pairing.st = .confirmed) :
    s.pairTimer =
      if s.pairing.st = .committing then (if s.pairing.reveal then (s.pairSend 2).pairSend 3 else s.pairSend 2)
      else if s.pairing.st = .showing then (s.pairSend 2).pairSend 3
      else ((s.pairSend 2).pairSend 3).pairSend 4 := by
  rcases hst with h | h | h <;> simp [State.pairTimer, h]

theorem State.pairWindowEnd_committing {s : State} (hst : s.pairing.st = .committing) : s.pairWindowEnd = s.pairFail :=
  if_pos hst

theorem State.pairConfEnd_shown {s : State} (hst : s.pairing.st = .showing ∨ s.pairing.st = .confirmed) :
    s.pairConfEnd = s.pairFail :=
  if_pos hst

/-! ## The display (R118) -/

theorem State.pairSymbol_shown {s : State} (hst : s.pairing.st = .showing ∨ s.pairing.st = .confirmed) :
    s.pairSymbol = { s with pairing := { s.pairing with sym := (s.pairing.sym + 1) % 8 } } := by
  rcases hst with h | h <;> simp [State.pairSymbol, h]

/-- The display of a stored or failed session counts its seconds and ends with the fifth. -/
theorem State.pairSymbol_ended {s : State} (hst : s.pairing.st = .stored ∨ s.pairing.st = .failed) :
    s.pairSymbol = { s with pairing :=
      if 5 ≤ s.pairing.sym + 1 then { s.pairing with st := .idle, sym := 0 }
      else { s.pairing with sym := (s.pairing.sym + 1) % 8 } } := by
  rcases hst with h | h <;> simp [State.pairSymbol, h]

/-! ## The commands -/

/-- Settles O31: each command of pairing by its operation's own rule in the session state that takes it. -/
theorem presencePairingCompletes : Obligations.PresencePairingCompletes := by
  refine ⟨?press, ?commit, ?reveal, ?confirm, ?timer, ?window, ?confEnd, ?symbol, ?ended⟩
  case press => exact fun s hp hs hr => exec_of_effect rfl (State.press_counted hp hs hr)
  case commit =>
    exact fun s ch pid cm hch hpid hst hpeer => exec_of_effect rfl (State.pairCommit_first cm hch hpid hst hpeer)
  case reveal =>
    exact fun s ch pid nonce pub z hch hst hpeer hcommit hz =>
      exec_of_effect rfl (State.pairReveal_opens hch hst hpeer hcommit hz)
  case confirm =>
    exact fun s ch pid tag hch hd hpeer hst htag => exec_of_effect rfl (State.pairConfirm_valid hch hd hpeer hst htag)
  case timer => exact fun s hst => exec_of_effect rfl (State.pairTimer_open hst)
  case window => exact fun s hst => exec_of_effect rfl (State.pairWindowEnd_committing hst)
  case confEnd => exact fun s hst => exec_of_effect rfl (State.pairConfEnd_shown hst)
  case symbol => exact fun s hst => exec_of_effect rfl (State.pairSymbol_shown hst)
  case ended => exact fun s hst => exec_of_effect rfl (State.pairSymbol_ended hst)

end Sys2Proof.Machine
end

section
/-!
PROOFS. What a key that is loaded, moved or wiped leaves alone, and what becomes of an SA's record when it is retired (06, 07).
-/

namespace Sys2Proof.Machine

/-! ## The state beside the keys (R123, R124, R139) -/

/-- The state without the random sources, the SA key slots, the block counters, the engines and their sets, and observation: all that a
key that is loaded, moved or wiped may change. -/
def State.besideKeys (s : State) : State :=
  { s with rng := {}, saSlots := [], cnts := [], engs := [], yrd := {}, obs := {} }

theorem State.sas_of_besideKeys {s t : State} (h : t.besideKeys = s.besideKeys) : t.sas = s.sas :=
  show t.besideKeys.sas = s.besideKeys.sas by rw [h]

theorem State.foldl_besideKeys {α : Type} (f : State → α → State) (l : List α) (h : ∀ t a, (f t a).besideKeys = t.besideKeys)
    (s : State) : (l.foldl f s).besideKeys = s.besideKeys :=
  foldl_keeps State.besideKeys f (fun t a _ => h t a) s

@[simp] theorem State.count_besideKeys (s : State) (b : CntBlk) (kd i c n : Nat) :
    (s.count b kd i c n).besideKeys = s.besideKeys := rfl

@[simp] theorem State.setEng_besideKeys (s : State) (k : Nat) (v : Eng) : (s.setEng k v).besideKeys = s.besideKeys := rfl

@[simp] theorem State.setScSet_besideKeys (s : State) (k : Nat) (v : ScSet) : (s.setScSet k v).besideKeys = s.besideKeys := rfl

@[simp] theorem State.setSaSlot_besideKeys (s : State) (k : Nat) (v : SaSlot) :
    (s.setSaSlot k v).besideKeys = s.besideKeys := rfl

theorem State.drawM_besideKeys (s : State) (n : Nat) : (s.drbgM n).draw.2.besideKeys = s.besideKeys := by
  obtain ⟨r, h⟩ := State.drbgM_frame s n
  obtain ⟨r', h'⟩ := State.draw_frame (s.drbgM n)
  rw [h', h]
  rfl

@[simp] theorem State.remaskSa_besideKeys (s : State) (k : Nat) : (s.remaskSa k).besideKeys = s.besideKeys :=
  State.drawM_besideKeys s 1

@[simp] theorem State.wipeSlot_besideKeys (s : State) (k : Nat) : (s.wipeSlot k).besideKeys = s.besideKeys :=
  State.drawM_besideKeys s 1

@[simp] theorem State.reapSlot_besideKeys (s : State) (k : Nat) : (s.reapSlot k).besideKeys = s.besideKeys := by
  unfold State.reapSlot
  split
  · exact State.wipeSlot_besideKeys ..
  · rfl

@[simp] theorem State.releaseSlot_besideKeys (s : State) (k : Nat) : (s.releaseSlot k).besideKeys = s.besideKeys := by
  simp [State.releaseSlot]

@[simp] theorem State.busLoad_besideKeys (s : State) (k : Nat) : (s.busLoad k).besideKeys = s.besideKeys := by
  unfold State.busLoad
  split <;> simp

@[simp] theorem State.obsEvent_besideKeys (s : State) (u : ObsUnit) (code n stack : Nat) :
    (s.obsEvent u code n stack).besideKeys = s.besideKeys := by
  obtain ⟨w, h⟩ := State.obsEvent_frame s u code n stack
  rw [h]
  rfl

@[simp] theorem State.dropKeys_besideKeys (s : State) (e : Nat) : (s.dropKeys e).besideKeys = s.besideKeys :=
  State.setEng_besideKeys ..

@[simp] theorem State.leaveSet_besideKeys (s : State) (k e : Nat) : (s.leaveSet k e).besideKeys = s.besideKeys := by
  simp [State.leaveSet]

@[simp] theorem State.trimKeys_besideKeys (s : State) (k : Nat) : (s.trimKeys k).besideKeys = s.besideKeys :=
  State.foldl_besideKeys _ _ State.dropKeys_besideKeys s

@[simp] theorem State.loadKeys_besideKeys (s : State) (e : Nat) (l : List Nat) : (s.loadKeys e l).besideKeys = s.besideKeys := by
  unfold State.loadKeys
  dsimp only
  rw [State.obsEvent_besideKeys, State.foldl_besideKeys _ _ State.busLoad_besideKeys, State.setEng_besideKeys]

@[simp] theorem State.keyInto_besideKeys (s : State) (k e slot : Nat) : (s.keyInto k e slot).besideKeys = s.besideKeys := by
  unfold State.keyInto
  split
  · rfl
  · split <;> simp

@[simp] theorem State.warm_besideKeys (s : State) (k : Nat) : (s.warm k).besideKeys = s.besideKeys :=
  State.foldl_besideKeys _ _ (fun t e => State.keyInto_besideKeys t _ e _) s

/-! ## Which SAs are installed (R91, R92, R147) -/

/-- An SA is installed. -/
def State.installedAt (s : State) (j : Nat) : Bool := (s.sa j).installed

theorem State.installedAt_of_sas {s t : State} (h : t.sas = s.sas) (j : Nat) : t.installedAt j = s.installedAt j := by
  simp [State.installedAt, State.sa, h]

theorem State.installedAt_of_besideKeys {s t : State} (h : t.besideKeys = s.besideKeys) (j : Nat) :
    t.installedAt j = s.installedAt j :=
  State.installedAt_of_sas (State.sas_of_besideKeys h) j

theorem State.installedAt_setSa (s : State) (k : Nat) (v : Sa) (j : Nat) :
    (s.setSa k v).installedAt j = if j = k then v.installed else s.installedAt j := by
  unfold State.installedAt
  split
  next h => rw [h, State.sa_setSa]
  next h => rw [State.sa_setSa_ne s v h]

/-- A changed record that is installed as before. -/
theorem State.installedAt_setSa_same (s : State) {k : Nat} {v : Sa} (h : v.installed = (s.sa k).installed) (j : Nat) :
    (s.setSa k v).installedAt j = s.installedAt j := by
  rw [State.installedAt_setSa, h]
  split
  next hj => rw [hj, State.installedAt]
  next => rfl

@[simp] theorem State.installedAt_demote (s : State) (r j : Nat) : (s.demote r).installedAt j = s.installedAt j := by
  unfold State.demote
  split
  · exact (State.installedAt_of_sas (State.count_sas ..) j).trans (State.installedAt_setSa_same s (by rfl) j)
  · rfl

@[simp] theorem State.installedAt_warm (s : State) (k j : Nat) : (s.warm k).installedAt j = s.installedAt j :=
  State.installedAt_of_besideKeys (State.warm_besideKeys ..) j

theorem State.installedAt_pinHot (s : State) (k j : Nat) : (s.pinHot k).installedAt j = s.installedAt j := by
  have hpin : ∀ t : State, (t.setSa k { t.sa k with hot := true, pinned := true, demoting := false }).installedAt j =
      t.installedAt j := fun t => State.installedAt_setSa_same t (by rfl) j
  simp only [State.pinHot, apply_ite (State.installedAt · j), State.installedAt_warm, hpin, State.installedAt_demote, ite_self]

theorem State.installedAt_pinNext (s : State) (j : Nat) : s.pinNext.installedAt j = s.installedAt j := by
  unfold State.pinNext
  split
  · rfl
  · split
    · exact State.installedAt_pinHot ..
    · rfl

/-- A placed state that goes leaves the record installed or not as it was. -/
theorem State.installedAt_freeSa (s : State) (k j : Nat) : (s.freeSa k).installedAt j = s.installedAt j := by
  have htrim : ((s.setSa k { s.sa k with hot := false, pinned := false, demoting := false }).trimKeys (saSc k)).installedAt j =
      s.installedAt j :=
    (State.installedAt_of_besideKeys (State.trimKeys_besideKeys ..) j).trans (State.installedAt_setSa_same s (by rfl) j)
  unfold State.freeSa
  dsimp only
  rw [State.installedAt_of_besideKeys (State.reapSlot_besideKeys ..)]
  split
  · rw [State.installedAt_pinNext, htrim]
  · exact htrim

/-- A record that goes to the partner changes the pair, its counter and what leaves the part (R233). -/
theorem State.tell_frame (s : State) (kind : Nat) (body : TBody) :
    ∃ p c o, s.tell kind body = { s with par := p, cnts := c, out := o } := by
  unfold State.tell
  split
  · exact ⟨_, _, _, rfl⟩
  · exact ⟨s.par, s.cnts, s.out, rfl⟩

@[simp] theorem State.tell_sas (s : State) (kind : Nat) (body : TBody) : (s.tell kind body).sas = s.sas := by
  obtain ⟨p, c, o, h⟩ := State.tell_frame s kind body
  rw [h]

/-- A retired SA is not installed, every other SA is as it was (R92). -/
theorem State.installedAt_retireSa (s : State) (k j : Nat) :
    (s.retireSa k).installedAt j = (s.installedAt j && j != k) := by
  unfold State.retireSa
  dsimp only
  split
  next hin =>
    have hset : ∀ v : Sa, v.installed = false → (s.setSa k v).installedAt j = (s.installedAt j && j != k) := by
      intro v hv
      rw [State.installedAt_setSa, hv]
      by_cases hj : j = k <;> simp [hj]
    have htold : ∀ (b : Bool) (t : State) (y : Secy),
        ((if b then t.setSecy (k / 4) y else t).tellSa 3 k).installedAt j = t.installedAt j := by
      intro b t y
      refine (State.installedAt_of_sas (State.tell_sas ..) j).trans ?_
      cases b <;> rfl
    split
    · exact (htold ..).trans (hset _ rfl)
    · exact (State.installedAt_freeSa ..).trans ((htold ..).trans (hset _ rfl))
  next hout =>
    by_cases hj : j = k
    · subst hj
      simp [State.installedAt, hout]
    · simp [hj]

end Sys2Proof.Machine
end

section
/-!
PROOFS. The words of an indirect window: what its DATA registers hold after a read, which words the read changes (R361, R363).
-/

namespace Sys2Proof.Machine

/-! ## Tables under a filter -/

theorem Tab.filter_drop {α : Type} (t : Tab α) {k : Nat} {p : Nat × α → Bool} (h : ∀ v, p (k, v) = false) :
    (t.drop k).filter p = t.filter p := by
  induction t with
  | nil => rfl
  | cons e r ih =>
    obtain ⟨i, w⟩ := e
    by_cases hi : i = k
    · simp [Tab.drop, hi, h, ih]
    · simp [Tab.drop, hi, List.filter_cons, ih]

theorem Tab.filter_ins {α : Type} (t : Tab α) {k : Nat} (v : α) {p : Nat × α → Bool} (h : ∀ v, p (k, v) = false) :
    (t.ins k v).filter p = t.filter p := by
  induction t with
  | nil => simp [Tab.ins, h]
  | cons e r ih =>
    obtain ⟨i, w⟩ := e
    by_cases hlt : i < k
    · simp [Tab.ins, hlt, List.filter_cons, ih]
    · by_cases hi : i = k
      · simp [Tab.ins, hi, h]
      · simp [Tab.ins, hlt, hi, h]

/-- A filter that leaves out an index does not see what is written there. -/
theorem Tab.filter_put {α : Type} [DecidableEq α] (d : Nat → α) (t : Tab α) {k : Nat} (v : α) {p : Nat × α → Bool}
    (h : ∀ v, p (k, v) = false) : (t.put d k v).filter p = t.filter p := by
  unfold Tab.put
  split
  · exact Tab.filter_drop t h
  · exact Tab.filter_ins t v h

/-! ## Only the words of a window change (R363) -/

theorem State.onlyWords_self (s : State) (l : List Reg) (g : Nat) : s.onlyWords s l g = true := by
  simp [State.onlyWords]

/-- A word of register r in copy g stands in the part of the map that belongs to r and g. -/
theorem regKey_div (r : Reg) {i : Nat} (g : Nat) (hi : i < 2 ^ 20) : regKey r i g / 2 ^ 20 = 4 * r.ctorIdx + g := by
  unfold regKey
  omega

theorem State.regsOutside_setWord (s : State) {l : List Reg} {r : Reg} (hr : r ∈ l) {i : Nat} (hi : i < 2 ^ 20) (w : W32)
    (g : Nat) : (s.setWord r w i g).regsOutside l g = s.regsOutside l g := by
  refine Tab.filter_put regDflt s.regs w fun v => ?_
  rw [regKey_div r g hi, Bool.not_eq_false', List.any_eq_true]
  exact ⟨r, hr, decide_eq_true rfl⟩

theorem State.onlyWords_setWord {s t : State} {l : List Reg} {g : Nat} (h : s.onlyWords t l g = true) {r : Reg} (hr : r ∈ l)
    {i : Nat} (hi : i < 2 ^ 20) (w : W32) : s.onlyWords (t.setWord r w i g) l g = true := by
  simp only [State.onlyWords, Bool.and_eq_true, decide_eq_true_eq] at h ⊢
  obtain ⟨hregs, hout⟩ := h
  exact ⟨congrArg (fun u => u.setWord r w i g) hregs, (State.regsOutside_setWord t hr hi w g).trans hout⟩

theorem State.onlyWords_setWords {s t : State} {l : List Reg} {g : Nat} (h : s.onlyWords t l g = true) {r : Reg} (hr : r ∈ l)
    {n : Nat} (ws : List W32) (hn : n + ws.length ≤ 2 ^ 20) : s.onlyWords (t.setWords r ws g n) l g = true := by
  induction ws generalizing t n with
  | nil => exact h
  | cons w ws ih =>
    rw [List.length_cons] at hn
    exact ih (State.onlyWords_setWord h hr (by omega) w) (by omega)

theorem State.cas_of_onlyWords {s t : State} {l : List Reg} {g : Nat} (h : s.onlyWords t l g = true) : t.cas = s.cas := by
  simp only [State.onlyWords, Bool.and_eq_true, decide_eq_true_eq] at h
  rw [h.1]

/-! ## The words after a window read -/

theorem regKey_index_ne (r : Reg) {i j : Nat} (g : Nat) (h : i ≠ j) : regKey r i g ≠ regKey r j g := by
  unfold regKey
  omega

/-- Words below the first that is written are as they were. -/
theorem State.word_setWords_of_lt (s : State) (r : Reg) (l : List W32) (g : Nat) {n i : Nat} (h : i < n) :
    (s.setWords r l g n).word r i g = s.word r i g := by
  induction l generalizing s n with
  | nil => rfl
  | cons w l ih => rw [State.setWords, ih _ (by omega), State.word_setWord_ne s w (regKey_index_ne r g (by omega))]

/-- Words n.. of the register are the list's, and past its end as they were. -/
theorem State.word_setWords_add (s : State) (r : Reg) (l : List W32) (g n j : Nat) :
    (s.setWords r l g n).word r (n + j) g = l.getD j (s.word r (n + j) g) := by
  induction l generalizing s n j with
  | nil => rfl
  | cons w l ih =>
    rw [State.setWords]
    cases j with
    | zero => exact (State.word_setWords_of_lt _ r l g (Nat.lt_succ_self n)).trans (State.word_setWord ..)
    | succ j =>
      rw [show n + (j + 1) = n + 1 + j by omega, ih, State.word_setWord_ne s w (regKey_index_ne r g (by omega)),
        List.getD_cons_succ]

/-! ## Fields of a word that is put together (R361) -/

theorem bits_ofNat (d : Nat) {hi : Nat} (lo : Nat) (h : hi < 32) (hlo : lo ≤ hi) :
    bits (BitVec.ofNat 32 d) hi lo = d / 2 ^ lo % 2 ^ (hi + 1 - lo) := by
  rw [bits, BitVec.toNat_ofNat]
  have hsplit : (2 : Nat) ^ 32 = 2 ^ lo * 2 ^ (32 - lo) := by rw [← Nat.pow_add]; congr 1; omega
  rw [hsplit, Nat.mod_mul_right_div_self, Nat.mod_mod_of_dvd _ (Nat.pow_dvd_pow 2 (by omega))]

theorem b2n_lt (b : Bool) : b2n b < 2 := by
  cases b <;> decide

theorem wordOf_zero_toNat (n : Nat) : (wordOf n 0).toNat = n % 2 ^ 32 := by
  simp [wordOf]

end Sys2Proof.Machine
end

section
/-!
PROOFS. Key agreement (05): a received MKPDU, hellos, timers, starts, and the end of an abandoned CA's SAs.
-/

namespace Sys2Proof.Machine

/-! ## A received MKPDU (R99, R113) -/

/-- An MKPDU counts at its CA, as received and as ignored in part where it is. -/
def State.countMkpdu (s : State) (n : Nat) (m : Mkpdu) : State :=
  if m.ignored then (s.mkaCnt n 1).mkaCnt n 5 else s.mkaCnt n 1

/-- The active member takes an MKPDU whole, another follows its MN (R113). -/
def State.acceptMkpdu (s : State) (n : Nat) (m : Mkpdu) : State :=
  if s.isActive then s.takeMkpdu n m
  else s.setCa n { s.ca n with
    peers := (s.ca n).peers.map (fun (p : Peer) => if p.mi == m.mi then { p with mn := m.mn } else p) }

/-- A well-formed and new MKPDU of another member, with its ICV good, is counted and taken by the CA its CKN names. -/
theorem State.mkpduIn_accepted {s : State} {lp : Nat} {m : Mkpdu} {n : Nat}
    (hca : ((List.range 2048).filter (fun n => s.caValid n && s.caLine n == lp)).find?
      (fun n => (s.ca n).active && (s.cakSlot (s.caCak n)).ckn == m.ckn) = some n)
    (hwf : m.wellFormed = true) (hmask : s.maskStopped = false) (hicv : m.icvOk = true)
    (hnew : ((s.busCak (s.caCak n) 1).ca n).peers.any (fun p => p.mi == m.mi && decide (m.mn ≤ p.mn)) = false)
    (hmi : m.mi ≠ ((s.busCak (s.caCak n) 1).ca n).mi) :
    s.mkpduIn lp m = ((s.busCak (s.caCak n) 1).countMkpdu n m).acceptMkpdu n m := by
  unfold State.mkpduIn
  generalize List.range 2048 = l at hca
  simp only [hca, hwf, hmask, hicv, hnew, hmi, Bool.not_true, Bool.false_eq_true, if_false]
  rfl

theorem exec_mkpduReceived {s : State} {port : Nat} (m : Mkpdu) (hs : s.serving = true)
    (hr : s.receives (64 + port % 64) = true) :
    exec (.mkpduReceived port m) s = .next (s.done (s.mkpduIn (port % 64) m)) :=
  exec_of_effect rfl (if_pos (by rw [hs, hr]; rfl))

/-! ## Sending (R103) -/

/-- A CA whose MKPDU waits for nothing, with MNs left, sends it. -/
theorem State.sendMkpdu_ready {s : State} {n : Nat} (hact : (s.ca n).active = true) (hval : s.caValid n = true)
    (hlead : s.isActive = true) (hmn : (s.ca n).mn < 0xFFFFFFFF) (hready : s.mkpduReady n = true) :
    s.sendMkpdu n = s.putMkpdu n := by
  simp only [State.sendMkpdu, hact, hval, hlead, hready, Nat.not_le.mpr hmn, decide_false, Bool.not_true, Bool.or_self,
    Bool.false_eq_true, if_false]

theorem State.hello_active {s : State} {n : Nat} (hact : (s.ca n).active = true) :
    s.hello n = ((s.ca n).peers.foldl (fun (t : State) p => t.tellPeer n p) (s.takeTimes n)).sendMkpdu n := by
  simp [State.hello, hact]

/-! ## Timers and starts (R97, R101, R104, R105, R110) -/

theorem State.peerTimeout_known {s : State} {n : Nat} {mi : BitVec 96} {p : Peer} (hlead : s.isActive = true)
    (hp : (s.ca n).peers.find? (fun p => p.mi == mi) = some p) : s.peerTimeout n mi = (s.dropPeer n p).pollCa n := by
  simp [State.peerTimeout, hlead, hp]

theorem State.sakLife_limited {s : State} {n : Nat} (hlife : (s.timesOf n).sakLife ≠ 0) (hsak : (s.ca n).hasSak = true) :
    s.sakLife n = (s.trigger n).pollCa n := by
  simp [State.sakLife, hlife, hsak]

theorem State.slotRetry_wanted {s : State} {n : Nat} (hwant : (s.ca n).wantSak = true) (hks : (s.ca n).isKs = true)
    (hlive : (s.ca n).live ≠ []) (hlead : s.isActive = true) : s.slotRetry n = (s.startDist n).pollCa n := by
  simp [State.slotRetry, hwant, hks, hlive, hlead]

/-- The oldest retention still running ends. -/
theorem State.rxRetained_first {s : State} {n : Nat} {o : OldSak} (ho : (s.ca n).olds.find? (fun o => !o.done) = some o) :
    s.rxRetained n = (s.setCa n { s.ca n with
      olds := (s.ca n).olds.map (fun x => if x == o then { o with done := true } else x) }).retireOld n := by
  simp [State.rxRetained, ho]

theorem State.caStart_ready {s : State} {n : Nat} (hval : s.caValid n = true) (hcak : (s.cakSlot (s.caCak n)).klen ≠ 0)
    (hidle : (s.ca n).active = false) (hlead : s.isActive = true) :
    s.caStart n = ((s.beginCa n).due n).sendIfDue n := by
  simp [State.caStart, hval, hcak, hidle, hlead]

/-! ## An abandoned CA (R115) -/

/-- After all SAs of a list are retired none of them is installed. -/
theorem State.installedAt_retireSas (s : State) (l : List Nat) (j : Nat) :
    (l.foldl (fun (t : State) k => t.retireSa k) s).installedAt j = (s.installedAt j && !l.contains j) := by
  induction l generalizing s with
  | nil => simp
  | cons k l ih =>
    rw [List.foldl_cons, ih, State.installedAt_retireSa, List.contains_cons, Bool.not_or, Bool.and_assoc]
    rfl

theorem State.setClsWord_sas (s : State) (slice table bank a : Nat) (w : W32) :
    (s.setClsWord slice table bank a w).sas = s.sas := by
  unfold State.setClsWord
  generalize s.cls.mem.put _ _ _ = m
  rfl

@[simp] theorem State.removeRsc_sas (s : State) (r : Nat) : (s.removeRsc r).sas = s.sas :=
  foldl_keeps State.sas _ (fun t k _ => State.setClsWord_sas t k 9 0 r 0#32) (s.setRsc r {})

@[simp] theorem State.releaseSlot_sas (s : State) (k : Nat) : (s.releaseSlot k).sas = s.sas :=
  State.sas_of_besideKeys (State.releaseSlot_besideKeys ..)

/-- An MKA interrupt changes register words, the log's waiting entries and what its source sends (R119). -/
theorem State.mkaInt_frame (s : State) (b n : Nat) :
    ∃ g w p o, s.mkaInt b n = { s with regs := g, obs := w, pci := p, out := o } := by
  unfold State.mkaInt State.setWord
  generalize s.regs.put regDflt _ _ = x
  exact State.setInt_frame { s with regs := x } .MKA_INT_STAT b 0

@[simp] theorem State.mkaInt_sas (s : State) (b n : Nat) : (s.mkaInt b n).sas = s.sas := by
  obtain ⟨g, w, p, o, h⟩ := State.mkaInt_frame s b n
  rw [h]

@[simp] theorem State.mkaInt_ca (s : State) (b n k : Nat) : (s.mkaInt b n).ca k = s.ca k := by
  obtain ⟨g, w, p, o, h⟩ := State.mkaInt_frame s b n
  rw [h]
  rfl

@[simp] theorem State.noteSecured_sas (s : State) (n : Nat) : (s.noteSecured n).sas = s.sas := by
  simp [State.noteSecured, apply_ite State.sas]

/-- Whether its SecY is secured is all that a CA notes (R119). -/
theorem State.ca_noteSecured (s : State) (n : Nat) : ∃ b, (s.noteSecured n).ca n = { s.ca n with secured := b } := by
  unfold State.noteSecured
  dsimp only
  split
  · exact ⟨_, rfl⟩
  · exact ⟨_, (State.mkaInt_ca ..).trans (State.ca_setCa ..)⟩

@[simp] theorem State.disarmSa_sas (s : State) (k : Nat) : (s.disarmSa k).sas = s.sas :=
  State.tell_sas ..

@[simp] theorem State.tellEpoch_sas (s : State) (n : Nat) (e : Option Int) : (s.tellEpoch n e).sas = s.sas :=
  State.tell_sas ..

@[simp] theorem State.disarmCa_sas (s : State) (n : Nat) : (s.disarmCa n).sas = s.sas := by
  simp [State.disarmCa, apply_ite State.sas]

/-- The SAs under the four ANs of a SecY. -/
def State.sasOfSecy (s : State) (y : Nat) : List Nat := (([0, 1, 2, 3] : List Nat).map (fun a => s.sasOf y a)).flatten

/-- A CA that has given up its SAKs (R115). -/
def Ca.abandoned (c : Ca) : Ca :=
  { c with hasSak := false, slot := none, oldSlot := none, pend := none, toSwitch := false, dist := false, distSak := false,
           wantSak := false, olds := [], lastPeerLost := false }

/-- An abandoned CA gives up its SAKs in a state where none of its SecY's SAs is installed. -/
theorem State.caSaRetire_abandoned {s : State} {n : Nat} (hlost : (s.ca n).lastPeerLost = true) (hlive : (s.ca n).live = []) :
    ∃ u : State, s.caSaRetire n = (u.setCa n (u.ca n).abandoned).noteSecured n ∧
      ∀ k ∈ s.sasOfSecy (s.caSecy n), u.installedAt k = false := by
  have hgo : (!(s.ca n).lastPeerLost || !(s.ca n).live.isEmpty) = false := by rw [hlost, hlive]; rfl
  refine ⟨_, if_neg (ne_true_of_eq_false hgo), fun k hk => ?_⟩
  have hretired : ((s.sasOfSecy (s.caSecy n)).foldl (fun (t : State) k => t.retireSa k) (s.disarmCa n)).installedAt k = false := by
    rw [State.installedAt_retireSas, List.contains_iff_mem.mpr hk, Bool.not_true, Bool.and_false]
  refine (State.installedAt_of_sas ((foldl_keeps State.sas _ ?slots _).trans (foldl_keeps State.sas _ ?rscs _)) k).trans hretired
  case slots =>
    intro t e _
    cases e with
    | none => rfl
    | some k => exact State.releaseSlot_sas t k
  case rscs =>
    intro t r _
    simp [apply_ite State.sas]

theorem State.caSaRetire_ca {s : State} {n : Nat} (hlost : (s.ca n).lastPeerLost = true) (hlive : (s.ca n).live = []) :
    ∃ (u : State) (b : Bool), (s.caSaRetire n).ca n = { (u.ca n).abandoned with secured := b } := by
  obtain ⟨u, hu, -⟩ := State.caSaRetire_abandoned hlost hlive
  obtain ⟨b, hb⟩ := State.ca_noteSecured (u.setCa n (u.ca n).abandoned) n
  exact ⟨u, b, by rw [hu, hb, State.ca_setCa]⟩

theorem State.installedAt_caSaRetire {s : State} {n k : Nat} (hlost : (s.ca n).lastPeerLost = true)
    (hlive : (s.ca n).live = []) (hk : k ∈ s.sasOfSecy (s.caSecy n)) : (s.caSaRetire n).installedAt k = false := by
  obtain ⟨u, hu, hsas⟩ := State.caSaRetire_abandoned hlost hlive
  rw [hu, State.installedAt_of_sas (State.noteSecured_sas ..)]
  exact hsas k hk

end Sys2Proof.Machine
end

section
/-!
PROOFS. The CA window and the timing registers of MKA (R119, R120), and the commands of key agreement (05).
-/

namespace Sys2Proof.Machine

/-! ## Reads through the CA window (R120) -/

/-- DATA0 of a CA read: ACTIVE, KS, SECURED, ARMED, the task's core, the live and the potential peers, the latest and the old AN. -/
def State.caStatus (s : State) (n : Nat) : Nat :=
  fw 31 31 (b2n (s.ca n).active) + fw 30 30 (b2n (s.ca n).isKs) + fw 29 29 (b2n (s.curSa (s.caSecy n)).isSome) +
    fw 28 28 (b2n (s.secy (s.caSecy n)).pendValid) + fw 27 24 (n % 16) + fw 23 16 (s.ca n).live.length +
    fw 15 8 ((s.ca n).peers.length - (s.ca n).live.length) + fw 7 6 (s.ca n).latestAn + fw 5 4 (s.ca n).oldAn

/-- The DATA words of a CA read. -/
def State.caWords (s : State) (n : Nat) : List W32 :=
  [BitVec.ofNat 32 (s.caStatus n), (s.ca n).kn, wordOf (s.ca n).mi.toNat 0, wordOf (s.ca n).mi.toNat 1,
    wordOf (s.ca n).mi.toNat 2, wordOf (s.ca n).mn 0, wordOf (s.ca n).mnLease 0, wordOf (s.ca n).ksSci.toNat 0,
    wordOf (s.ca n).ksSci.toNat 1]

theorem State.cawReadCa_valid {s : State} {o : Origin} (hval : s.caValid (s.fld F.MKA_CAW_IDX_CA 0 o.grp) = true) :
    s.cawReadCa o = (s.cawErr o.grp 0).setWords .MKA_CAW_DATA (s.caWords (s.fld F.MKA_CAW_IDX_CA 0 o.grp)) o.grp := by
  simp only [State.cawReadCa, hval, Bool.not_true, Bool.false_eq_true, if_false]
  rfl

theorem State.cawReadPeer_known {s : State} {o : Origin} {p : Peer}
    (hval : s.caValid (s.fld F.MKA_CAW_IDX_CA 0 o.grp) = true)
    (hp : (s.ca (s.fld F.MKA_CAW_IDX_CA 0 o.grp)).peers[s.fld F.MKA_CAW_IDX_PEER 0 o.grp]? = some p) :
    s.cawReadPeer o = ((((s.cawErr o.grp 0).setWord .MKA_CAW_DATA (BitVec.ofNat 32 (fw 31 31 (b2n p.live))) 0 o.grp).setWords
      .MKA_CAW_DATA [wordOf p.mi.toNat 0, wordOf p.mi.toNat 1, wordOf p.mi.toNat 2, wordOf p.mn 0] o.grp 2).setWords
      .MKA_CAW_DATA [wordOf p.sci.toNat 0, wordOf p.sci.toNat 1] o.grp 7) := by
  simp only [State.cawReadPeer, hval, hp, Bool.not_true, Bool.false_eq_true, if_false]

/-- A fresh result of the window's CMD register changes that register alone. -/
theorem State.onlyWords_cawErr (s : State) (g e : Nat) :
    s.onlyWords (s.cawErr g e) [.MKA_CAW_CMD, .MKA_CAW_DATA] g = true :=
  State.onlyWords_setWord (State.onlyWords_self ..) (by decide) (by decide) _

theorem State.onlyWords_cawReadCa {s : State} {o : Origin} (hval : s.caValid (s.fld F.MKA_CAW_IDX_CA 0 o.grp) = true) :
    s.onlyWords (s.cawReadCa o) [.MKA_CAW_CMD, .MKA_CAW_DATA] o.grp = true := by
  rw [State.cawReadCa_valid hval]
  exact State.onlyWords_setWords (State.onlyWords_cawErr ..) (by decide) (State.caWords ..) (by simp [State.caWords])

theorem State.onlyWords_cawReadPeer {s : State} {o : Origin} {p : Peer}
    (hval : s.caValid (s.fld F.MKA_CAW_IDX_CA 0 o.grp) = true)
    (hp : (s.ca (s.fld F.MKA_CAW_IDX_CA 0 o.grp)).peers[s.fld F.MKA_CAW_IDX_PEER 0 o.grp]? = some p) :
    s.onlyWords (s.cawReadPeer o) [.MKA_CAW_CMD, .MKA_CAW_DATA] o.grp = true := by
  rw [State.cawReadPeer_known hval hp]
  have hlive := State.onlyWords_setWord (State.onlyWords_cawErr s o.grp 0) (r := .MKA_CAW_DATA) (by decide) (i := 0) (by decide)
    (BitVec.ofNat 32 (fw 31 31 (b2n p.live)))
  exact State.onlyWords_setWords (State.onlyWords_setWords hlive (by decide) _ (by simp)) (by decide) _ (by simp)

/-- The DATA words after a CA read are the CA's. -/
theorem State.word_cawReadCa {s : State} {o : Origin} (hval : s.caValid (s.fld F.MKA_CAW_IDX_CA 0 o.grp) = true) (i : Nat) :
    (s.cawReadCa o).word .MKA_CAW_DATA i o.grp =
      (s.caWords (s.fld F.MKA_CAW_IDX_CA 0 o.grp)).getD i ((s.cawErr o.grp 0).word .MKA_CAW_DATA i o.grp) := by
  simpa [State.cawReadCa_valid hval] using State.word_setWords_add (s.cawErr o.grp 0) .MKA_CAW_DATA (s.caWords _) o.grp 0 i

theorem State.word_cawReadCa_mi {s : State} {o : Origin} (hval : s.caValid (s.fld F.MKA_CAW_IDX_CA 0 o.grp) = true) {j : Nat}
    (hj : j < 3) : (s.cawReadCa o).word .MKA_CAW_DATA (2 + j) o.grp =
      wordOf (s.ca (s.fld F.MKA_CAW_IDX_CA 0 o.grp)).mi.toNat j := by
  rw [State.word_cawReadCa hval]
  match j, hj with
  | 0, _ | 1, _ | 2, _ => rfl

/-- The DATA words after a peer read. -/
theorem State.word_cawReadPeer {s : State} {o : Origin} {p : Peer}
    (hval : s.caValid (s.fld F.MKA_CAW_IDX_CA 0 o.grp) = true)
    (hp : (s.ca (s.fld F.MKA_CAW_IDX_CA 0 o.grp)).peers[s.fld F.MKA_CAW_IDX_PEER 0 o.grp]? = some p) :
    (s.cawReadPeer o).word .MKA_CAW_DATA 0 o.grp = BitVec.ofNat 32 (fw 31 31 (b2n p.live)) ∧
      (∀ j, j < 3 → (s.cawReadPeer o).word .MKA_CAW_DATA (2 + j) o.grp = wordOf p.mi.toNat j) ∧
      (s.cawReadPeer o).word .MKA_CAW_DATA 5 o.grp = wordOf p.mn 0 ∧
      (∀ j, j < 2 → (s.cawReadPeer o).word .MKA_CAW_DATA (7 + j) o.grp = wordOf p.sci.toNat j) := by
  rw [State.cawReadPeer_known hval hp]
  refine ⟨?live, fun j hj => ?mi, ?mn, fun j hj => ?sci⟩
  case live => rw [State.word_setWords_of_lt _ _ _ _ (by decide), State.word_setWords_of_lt _ _ _ _ (by decide), State.word_setWord]
  case mi =>
    rw [State.word_setWords_of_lt _ _ _ _ (by omega), State.word_setWords_add]
    match j, hj with
    | 0, _ | 1, _ | 2, _ => rfl
  case mn => rw [State.word_setWords_of_lt _ _ _ _ (by decide), State.word_setWords_add _ _ _ _ 2 3]; rfl
  case sci =>
    rw [State.word_setWords_add]
    match j, hj with
    | 0, _ | 1, _ => rfl

/-! ## The fields of DATA0 -/

theorem bits_caStatus_active (s : State) (n : Nat) :
    bits (BitVec.ofNat 32 (s.caStatus n)) 31 31 = b2n (s.ca n).active := by
  have hact := b2n_lt (s.ca n).active
  rw [bits_ofNat _ _ (by decide) (by decide)]
  simp only [State.caStatus, fw, Nat.reduceAdd, Nat.reduceSub, Nat.reducePow]
  omega

theorem bits_caStatus_isKs (s : State) (n : Nat) : bits (BitVec.ofNat 32 (s.caStatus n)) 30 30 = b2n (s.ca n).isKs := by
  have hks := b2n_lt (s.ca n).isKs
  rw [bits_ofNat _ _ (by decide) (by decide)]
  simp only [State.caStatus, fw, Nat.reduceAdd, Nat.reduceSub, Nat.reducePow]
  omega

theorem bits_caStatus_latestAn (s : State) (n : Nat) :
    bits (BitVec.ofNat 32 (s.caStatus n)) 7 6 = (s.ca n).latestAn % 4 := by
  rw [bits_ofNat _ _ (by decide) (by decide)]
  simp only [State.caStatus, fw, Nat.reduceAdd, Nat.reduceSub, Nat.reducePow]
  omega

theorem bits_fw_top (b : Bool) : bits (BitVec.ofNat 32 (fw 31 31 (b2n b))) 31 31 = b2n b := by
  cases b <;> decide

/-! ## Commands through the window and the timing registers (R98, R104, R119) -/

theorem State.cawRekey_main {s : State} {o : Origin} (hmain : o.main = true)
    (hval : s.caValid (s.fld F.MKA_CAW_IDX_CA 0 o.grp) = true) :
    s.cawRekey o = ((s.cawErr o.grp 0).trigger (s.fld F.MKA_CAW_IDX_CA 0 o.grp)).pollCa (s.fld F.MKA_CAW_IDX_CA 0 o.grp) := by
  simp [State.cawRekey, hmain, hval]

theorem State.cawRestart_present {s : State} {o : Origin} (hpres : s.presence = true)
    (hval : s.caValid (s.fld F.MKA_CAW_IDX_CA 0 o.grp) = true) :
    s.cawRestart o = (s.cawErr o.grp 0).restartCa (s.fld F.MKA_CAW_IDX_CA 0 o.grp) := by
  simp [State.cawRestart, hpres, hval]

/-- A legal write of a timing register stores its word, of MKA_TIME0 with LIFE at least three times HELLO. -/
theorem State.writeMkaTime_legal {s : State} {o : Origin} {k : Nat} {v : W32} (hl : s.legal o (mkaTimeReg k) 0 v = true)
    (hlife : k % 4 = 0 → 3 * bits (s.wouldBe o (mkaTimeReg k) 0 (copyOf o (mkaTimeReg k)) v) 15 0 ≤
      bits (s.wouldBe o (mkaTimeReg k) 0 (copyOf o (mkaTimeReg k)) v) 31 16) :
    s.writeMkaTime o k v = s.written o (mkaTimeReg k) 0 v := by
  have hk : k % 4 < 4 := Nat.mod_lt k (by decide)
  unfold State.writeMkaTime mkaTimeReg at *
  generalize k % 4 = j at *
  match j, hk with
  | 0, _ => exact State.putReg_legal hl (decide_eq_true (hlife rfl))
  | 1, _ | 2, _ | 3, _ => exact State.putReg_legal hl rfl

/-! ## The commands -/

/-- Settles O30: each command of key agreement by its operation's own rule in the state that lets it complete. -/
theorem keyAgreementCommandsComplete : Obligations.KeyAgreementCommandsComplete := by
  refine ⟨?received, ?hello, ?peerTimeout, ?sakLife, ?slotRetry, ?rxRetain, ?caSaRetire, ?caStart, ?readCa, ?readPeer, ?rekey,
    ?restart, ?time⟩
  case received =>
    intro s port m n hs hr hca hwf hmask hicv hnew hmi
    rw [exec_mkpduReceived m hs hr, State.mkpduIn_accepted hca hwf hmask hicv hnew hmi]
    rfl
  case hello =>
    intro s ca hact hact' hval hlead hmn hready
    exact exec_of_effect rfl ((State.hello_active hact).trans (State.sendMkpdu_ready hact' hval hlead hmn hready))
  case peerTimeout => exact fun s ca mi p hlead hp => exec_of_effect rfl (State.peerTimeout_known hlead hp)
  case sakLife => exact fun s ca hlife hsak => exec_of_effect rfl (State.sakLife_limited hlife hsak)
  case slotRetry =>
    exact fun s ca hwant hks hlive hlead => exec_of_effect rfl (State.slotRetry_wanted hwant hks hlive hlead)
  case rxRetain => exact fun s ca o ho => exec_of_effect rfl (State.rxRetained_first ho)
  case caSaRetire =>
    intro s ca hlost hlive
    obtain ⟨u, b, hca⟩ := State.caSaRetire_ca hlost hlive
    refine ⟨_, rfl, ?_⟩
    rw [hca]
    refine ⟨rfl, rfl, rfl, rfl, rfl, rfl, rfl, rfl, List.all_eq_true.mpr fun k hk => ?_⟩
    rw [Bool.not_eq_true']
    exact State.installedAt_caSaRetire hlost hlive hk
  case caStart =>
    exact fun s ca hval hcak hidle hlead => exec_of_effect rfl (State.caStart_ready hval hcak hidle hlead)
  case readCa =>
    intro s o hg hval
    have hword := State.word_cawReadCa hval
    have honly := State.onlyWords_cawReadCa hval
    refine ⟨_, exec_granted (c := .cawReadCa o) rfl hg, hword 1, ?mn, ?active, ?isKs, ?latestAn,
      fun j hj => State.word_cawReadCa_mi hval hj, State.cas_of_onlyWords honly, honly⟩
    case mn => exact (congrArg BitVec.toNat (hword 5)).trans (wordOf_zero_toNat _)
    case active => exact (congrArg (bits · 31 31) (hword 0)).trans (bits_caStatus_active ..)
    case isKs => exact (congrArg (bits · 30 30) (hword 0)).trans (bits_caStatus_isKs ..)
    case latestAn => exact (congrArg (bits · 7 6) (hword 0)).trans (bits_caStatus_latestAn ..)
  case readPeer =>
    intro s o p hg hval hp
    obtain ⟨hlive, hmi, hmn, hsci⟩ := State.word_cawReadPeer hval hp
    have honly := State.onlyWords_cawReadPeer hval hp
    refine ⟨_, exec_granted (c := .cawReadPeer o) rfl hg, ?mn, hmi, hsci, ?live, State.cas_of_onlyWords honly, honly⟩
    case mn => rw [hmn, wordOf_zero_toNat]
    case live => rw [hlive, bits_fw_top]
  case rekey =>
    intro s o hg hmain hval
    rw [exec_granted (c := .cawRekey o) rfl hg, State.cawRekey_main hmain hval, State.cawErr]
  case restart =>
    intro s o hg hpres hval
    rw [exec_granted (c := .cawRestart o) rfl hg, State.cawRestart_present hpres hval, State.cawErr]
  case time =>
    intro s o k v hg hl hk hlife
    rw [exec_granted (c := .mkaTimeWrite o k v) rfl hg, State.writeMkaTime_legal hl (fun _ => hlife)]

end Sys2Proof.Machine
end

section
/-!
PROOFS. Re-masking (R121, R123): fresh random data XORed into both shares of a key leaves the key, its slot's record and all
beside the shares as they were.
-/

namespace Sys2Proof.Machine

/-! ## What two shares hold (R121) -/

theorem xor_remask (a b m : BitVec 256) : (a ^^^ m) ^^^ (b ^^^ m) = a ^^^ b := by
  rw [BitVec.xor_comm b m, BitVec.xor_assoc, ← BitVec.xor_assoc m m b, BitVec.xor_self, BitVec.zero_xor]

/-- The slot with its key in one piece. -/
def SaSlot.unmasked (x : SaSlot) : SaSlot := { x with sh0 := x.sh0 ^^^ x.sh1, sh1 := 0 }

/-- The slot with its CAK, ICK and CA KEK each in one piece. -/
def CakSlot.unmasked (x : CakSlot) : CakSlot :=
  { x with sh0 := x.sh0 ^^^ x.sh1, sh1 := 0, ick0 := x.ick0 ^^^ x.ick1, ick1 := 0, kek0 := x.kek0 ^^^ x.kek1, kek1 := 0 }

/-- The key in one piece. -/
def Shares.unmasked (x : Shares) : Shares := { x with sh0 := x.sh0 ^^^ x.sh1, sh1 := 0 }

theorem SaSlot.key_of_unmasked {x y : SaSlot} (h : x.unmasked = y.unmasked) :
    x.sh0 ^^^ x.sh1 = y.sh0 ^^^ y.sh1 ∧ x.klen = y.klen ∧ x.st = y.st ∧ x.owner = y.owner := by
  simp only [SaSlot.unmasked, SaSlot.mk.injEq] at h
  tauto

theorem CakSlot.key_of_unmasked {x y : CakSlot} (h : x.unmasked = y.unmasked) :
    x.sh0 ^^^ x.sh1 = y.sh0 ^^^ y.sh1 ∧ x.klen = y.klen ∧ x.ckn = y.ckn ∧ x.ick0 ^^^ x.ick1 = y.ick0 ^^^ y.ick1 ∧
      x.kek0 ^^^ x.kek1 = y.kek0 ^^^ y.kek1 := by
  simp only [CakSlot.unmasked, CakSlot.mk.injEq] at h
  tauto

theorem Shares.key_of_unmasked {x y : Shares} (h : x.unmasked = y.unmasked) :
    x.sh0 ^^^ x.sh1 = y.sh0 ^^^ y.sh1 ∧ x.present = y.present := by
  simp only [Shares.unmasked, Shares.mk.injEq] at h
  tauto

@[simp] theorem Shares.unmasked_remask (x : Shares) (m : BitVec 256) : (x.remask m).unmasked = x.unmasked := by
  simp [Shares.unmasked, Shares.remask, xor_remask]

/-- The key store as its keys have it: slots j, the tether key, the context key and the KEK without their masks. -/
def State.keysAt (s : State) (j : Nat) : SaSlot × CakSlot × Shares × Shares × Shares :=
  ((s.saSlot j).unmasked, (s.cakSlot j).unmasked, s.tetherKey.unmasked, s.ctxKey.unmasked, s.tck.kek.unmasked)

/-- The state without the random sources and everything that is held in shares. -/
def State.besideShares (s : State) : State :=
  { s with rng := {}, saSlots := [], cakSlots := [], tetherKey := {}, ctxKey := {}, tck := { s.tck with kek := {} } }

theorem State.fields_of_besideShares {s t : State} (h : t.besideShares = s.besideShares) :
    t.regs = s.regs ∧ t.sas = s.sas ∧ t.cas = s.cas ∧ t.frames = s.frames ∧ t.mem = s.mem := by
  simp only [State.besideShares, State.mk.injEq] at h
  tauto

/-! ## One key re-masked (R123) -/

@[simp] theorem State.remaskSa_keysAt (s : State) (k j : Nat) : (s.remaskSa k).keysAt j = s.keysAt j := by
  have hslot : ((s.remaskSa k).saSlot j).unmasked = (s.saSlot j).unmasked := by
    by_cases hj : j = k
    · subst hj
      refine (congrArg SaSlot.unmasked (State.saSlot_setSaSlot ..)).trans ?_
      simp only [SaSlot.unmasked, xor_remask]
      rfl
    · exact congrArg SaSlot.unmasked (State.saSlot_setSaSlot_ne _ _ hj)
  exact Prod.ext hslot rfl

@[simp] theorem State.remaskSa_besideShares (s : State) (k : Nat) : (s.remaskSa k).besideShares = s.besideShares := rfl

@[simp] theorem State.remaskPart_keysAt (s : State) (k part j : Nat) : (s.remaskPart k part).keysAt j = s.keysAt j := by
  have hslot : ((s.remaskPart k part).cakSlot j).unmasked = (s.cakSlot j).unmasked := by
    by_cases hj : j = k
    · subst hj
      refine (congrArg CakSlot.unmasked (State.cakSlot_setCakSlot ..)).trans ?_
      split <;> simp only [CakSlot.unmasked, xor_remask] <;> rfl
    · exact congrArg CakSlot.unmasked (State.cakSlot_setCakSlot_ne _ _ hj)
  exact Prod.ext rfl (Prod.ext hslot rfl)

@[simp] theorem State.remaskPart_besideShares (s : State) (k part : Nat) :
    (s.remaskPart k part).besideShares = s.besideShares := rfl

@[simp] theorem State.remaskPart_saSlots (s : State) (k part : Nat) : (s.remaskPart k part).saSlots = s.saSlots := rfl

/-! ## The sweep, key by key (R123) -/

/-- Every occupied SA slot re-masked. -/
def State.remaskSas (s : State) : State := ((s.saSlots.filter (fun e => e.2.klen != 0)).map (·.1)).foldl State.remaskSa s

/-- A CAK slot, its ICK and its CA KEK re-masked. -/
def State.remaskCak (s : State) (k : Nat) : State := ([0, 1, 2] : List Nat).foldl (fun u n => u.remaskPart k n) s

/-- Every occupied CAK slot re-masked with what is derived from it. -/
def State.remaskCaks (s : State) : State := ((s.cakSlots.filter (fun e => e.2.klen != 0)).map (·.1)).foldl State.remaskCak s

/-- The tether key re-masked where there is one. -/
def State.remaskTether (s : State) : State := if s.tetherKey.present then s.remaskTt else s

/-- The context key and the KEK re-masked where there are any. -/
def State.remaskShared (s : State) : State :=
  let (r, t) := (s.drbgM 1).draw
  { t with
    ctxKey := if t.ctxKey.present then t.ctxKey.remask (r.setWidth 256) else t.ctxKey
    tck := { t.tck with kek := if t.tck.kek.present then t.tck.kek.remask ((r >>> 256).setWidth 256) else t.tck.kek } }

theorem State.remaskSweep_stopped {s : State} (h : s.maskStopped = true) : s.remaskSweep = s := if_pos h

theorem State.remaskSweep_running {s : State} (h : s.maskStopped = false) :
    s.remaskSweep = s.remaskSas.remaskCaks.remaskTether.remaskShared := by
  simp only [State.remaskSweep, h, Bool.false_eq_true, if_false]
  rfl

@[simp] theorem State.remaskSas_keysAt (s : State) (j : Nat) : s.remaskSas.keysAt j = s.keysAt j :=
  foldl_keeps (State.keysAt · j) _ (fun t k _ => State.remaskSa_keysAt t k j) s

@[simp] theorem State.remaskSas_besideShares (s : State) : s.remaskSas.besideShares = s.besideShares :=
  foldl_keeps State.besideShares _ (fun t k _ => State.remaskSa_besideShares t k) s

@[simp] theorem State.remaskCaks_keysAt (s : State) (j : Nat) : s.remaskCaks.keysAt j = s.keysAt j :=
  foldl_keeps (State.keysAt · j) _
    (fun t k _ => foldl_keeps (State.keysAt · j) _ (fun u n _ => State.remaskPart_keysAt u k n j) t) s

@[simp] theorem State.remaskCaks_besideShares (s : State) : s.remaskCaks.besideShares = s.besideShares :=
  foldl_keeps State.besideShares _
    (fun t k _ => foldl_keeps State.besideShares _ (fun u n _ => State.remaskPart_besideShares u k n) t) s

@[simp] theorem State.remaskCaks_saSlots (s : State) : s.remaskCaks.saSlots = s.saSlots :=
  foldl_keeps State.saSlots _ (fun t k _ => foldl_keeps State.saSlots _ (fun u n _ => State.remaskPart_saSlots u k n) t) s

@[simp] theorem State.remaskTether_keysAt (s : State) (j : Nat) : s.remaskTether.keysAt j = s.keysAt j := by
  unfold State.remaskTether
  split
  · have htether : s.remaskTt.tetherKey.unmasked = s.tetherKey.unmasked := Shares.unmasked_remask ..
    exact Prod.ext rfl (Prod.ext rfl (Prod.ext htether rfl))
  · rfl

@[simp] theorem State.remaskTether_besideShares (s : State) : s.remaskTether.besideShares = s.besideShares := by
  unfold State.remaskTether
  split <;> rfl

@[simp] theorem State.remaskTether_saSlots (s : State) : s.remaskTether.saSlots = s.saSlots := by
  unfold State.remaskTether
  split <;> rfl

@[simp] theorem State.remaskTether_cakSlots (s : State) : s.remaskTether.cakSlots = s.cakSlots := by
  unfold State.remaskTether
  split <;> rfl

theorem Shares.unmasked_remaskWhere (x : Shares) (b : Bool) (m : BitVec 256) :
    (if b then x.remask m else x).unmasked = x.unmasked := by
  cases b
  · rfl
  · exact Shares.unmasked_remask x m

@[simp] theorem State.remaskShared_keysAt (s : State) (j : Nat) : s.remaskShared.keysAt j = s.keysAt j :=
  Prod.ext rfl (Prod.ext rfl (Prod.ext rfl
    (Prod.ext (Shares.unmasked_remaskWhere s.ctxKey _ _) (Shares.unmasked_remaskWhere s.tck.kek _ _))))

@[simp] theorem State.remaskShared_besideShares (s : State) : s.remaskShared.besideShares = s.besideShares := rfl

@[simp] theorem State.remaskShared_saSlots (s : State) : s.remaskShared.saSlots = s.saSlots := rfl

@[simp] theorem State.remaskShared_cakSlots (s : State) : s.remaskShared.cakSlots = s.cakSlots := rfl

/-! ## The whole sweep -/

theorem State.remaskSweep_keysAt (s : State) (j : Nat) : s.remaskSweep.keysAt j = s.keysAt j := by
  cases h : s.maskStopped with
  | true => rw [State.remaskSweep_stopped h]
  | false => simp [State.remaskSweep_running h]

theorem State.remaskSweep_besideShares (s : State) : s.remaskSweep.besideShares = s.besideShares := by
  cases h : s.maskStopped with
  | true => rw [State.remaskSweep_stopped h]
  | false => simp [State.remaskSweep_running h]

/-- The SA slots are those that their own stage leaves. -/
theorem State.remaskSweep_saSlots {s : State} (h : s.maskStopped = false) : s.remaskSweep.saSlots = s.remaskSas.saSlots := by
  simp [State.remaskSweep_running h]

/-- The CAK slots are those that their own stage leaves. -/
theorem State.remaskSweep_cakSlots {s : State} (h : s.maskStopped = false) :
    s.remaskSweep.cakSlots = s.remaskSas.remaskCaks.cakSlots := by
  simp [State.remaskSweep_running h]

/-- Settles O16: no stage of the sweep changes the key store without its masks, nor anything beside the shares. -/
theorem remaskingKeepsEveryKey : Obligations.RemaskingKeepsEveryKey := by
  intro s
  have hkeys := State.remaskSweep_keysAt s
  simp only [State.keysAt, Prod.mk.injEq] at hkeys
  obtain ⟨-, -, htether, hctx, hkek⟩ := hkeys 0
  obtain ⟨ht, htp⟩ := Shares.key_of_unmasked htether
  obtain ⟨hc, hcp⟩ := Shares.key_of_unmasked hctx
  obtain ⟨hk, hkp⟩ := Shares.key_of_unmasked hkek
  refine ⟨s.remaskSweep, rfl, fun k => ?sa, fun k => ?cak, ht, htp, hc, hcp, hk, hkp, State.remaskSweep_stopped,
    State.fields_of_besideShares (State.remaskSweep_besideShares s)⟩
  case sa =>
    obtain ⟨hsa, -⟩ := hkeys k
    exact SaSlot.key_of_unmasked hsa
  case cak =>
    obtain ⟨-, hcak, -⟩ := hkeys k
    obtain ⟨hkey, hklen, hckn, hick, hkek⟩ := CakSlot.key_of_unmasked hcak
    exact ⟨by rw [State.cakKey, State.cakKey, sharedKey, sharedKey, hkey, hklen], hckn, hick, hkek⟩

end Sys2Proof.Machine
end

section
/-!
PROOFS. The windows of the key store (R124, R128, R136): what a status read shows, and where a slot is allocated, filled,
released or erased.
-/

namespace Sys2Proof.Machine

/-! ## The SA slot window (R124, R136) -/

/-- The state of an SA slot as DATA0 shows it: 0 FREE, 1 HELD, 2 RELEASING. -/
def SlotSt.code (x : SlotSt) : Nat :=
  match x with
  | .free => 0
  | .held => 1
  | .releasing => 2

/-- DATA0 of a slot read: the slot's state, its key's length in units of 16 octets, REFS, the owner. -/
def State.slotStatus (s : State) (k : Nat) : Nat :=
  fw 31 30 (s.saSlot k).st.code + fw 29 28 ((s.saSlot k).klen / 16) + fw 19 11 (s.refs k) + fw 10 0 (s.saSlot k).owner

theorem State.slotwRead_eq (s : State) (o : Origin) :
    s.slotwRead o = (s.cmdErr .KEY_SLOTW_CMD o.grp 0).setWord .KEY_SLOTW_DATA0
      (BitVec.ofNat 32 (s.slotStatus (s.fld F.KEY_SLOTW_IDX_SLOT 0 o.grp))) 0 o.grp := rfl

@[simp] theorem State.word_slotwRead (s : State) (o : Origin) :
    (s.slotwRead o).word .KEY_SLOTW_DATA0 0 o.grp =
      BitVec.ofNat 32 (s.slotStatus (s.fld F.KEY_SLOTW_IDX_SLOT 0 o.grp)) := by
  rw [State.slotwRead_eq, State.word_setWord]

theorem bits_slotStatus_st (s : State) (k : Nat) :
    bits (BitVec.ofNat 32 (s.slotStatus k)) 31 30 = (s.saSlot k).st.code := by
  have hst : (s.saSlot k).st.code < 4 := by cases (s.saSlot k).st <;> decide
  rw [bits_ofNat _ _ (by decide) (by decide)]
  simp only [State.slotStatus, fw, Nat.reduceAdd, Nat.reduceSub, Nat.reducePow]
  omega

theorem bits_slotStatus_klen (s : State) (k : Nat) :
    bits (BitVec.ofNat 32 (s.slotStatus k)) 29 28 = (s.saSlot k).klen / 16 % 4 := by
  rw [bits_ofNat _ _ (by decide) (by decide)]
  simp only [State.slotStatus, fw, Nat.reduceAdd, Nat.reduceSub, Nat.reducePow]
  omega

/-- A fresh result of a window's CMD register changes that register alone. -/
theorem State.onlyWords_cmdErr (s : State) {l : List Reg} {r : Reg} (hr : r ∈ l) (g e : Nat) :
    s.onlyWords (s.cmdErr r g e) l g = true :=
  State.onlyWords_setWord (State.onlyWords_self ..) hr (by decide) _

theorem State.onlyWords_slotwRead (s : State) (o : Origin) :
    s.onlyWords (s.slotwRead o) [.KEY_SLOTW_CMD, .KEY_SLOTW_DATA0] o.grp = true :=
  State.onlyWords_setWord (State.onlyWords_cmdErr s (by decide) o.grp 0) (by decide) (by decide) _

/-- A slot that a service core names as its own and that is HELD is released. -/
theorem State.slotwRelease_held {s : State} {o : Origin} (hcore : o.isCore = true)
    (hst : (s.saSlot (s.fld F.KEY_SLOTW_IDX_SLOT 0 o.grp)).st = .held)
    (hown : s.ownsSlot o (s.fld F.KEY_SLOTW_IDX_SLOT 0 o.grp) = true) :
    s.slotwRelease o = (s.cmdErr .KEY_SLOTW_CMD o.grp 0).releaseSlot (s.fld F.KEY_SLOTW_IDX_SLOT 0 o.grp) := by
  simp [State.slotwRelease, hcore, hst, hown]

/-- The CA that a slot is allocated to: the task's own, or the one that the window names. -/
def State.slotCa (s : State) (o : Origin) : Nat :=
  match o with
  | .task _ ca => ca % 2048
  | _ => s.fld F.KEY_SLOTW_IDX_CA 0 o.grp

/-- The lowest FREE slot goes to the CA of a service core. -/
theorem State.slotwAllocate_free {s : State} {o : Origin} {k : Nat} (hcore : o.isCore = true) (hfree : s.freeSlot = some k) :
    s.slotwAllocate o = ((s.setSaSlot k { s.saSlot k with st := .held, klen := 0, owner := s.slotCa o }).cmdErr .KEY_SLOTW_CMD
      o.grp 0).setFld F.KEY_SLOTW_IDX_SLOT k 0 o.grp := by
  simp only [State.slotwAllocate, State.allocSlot, hcore, hfree, Bool.not_true, Bool.false_eq_true, if_false]
  rfl

/-- A key of n octets is drawn into a HELD empty slot of the origin's own while DRBG-K gives requests. -/
theorem State.slotwGen_empty {s : State} {o : Origin} (n : Nat) (hcore : o.isCore = true)
    (hst : (s.saSlot (s.fld F.KEY_SLOTW_IDX_SLOT 0 o.grp)).st = .held)
    (hown : s.ownsSlot o (s.fld F.KEY_SLOTW_IDX_SLOT 0 o.grp) = true) (hz : s.zeroized = false)
    (hempty : (s.saSlot (s.fld F.KEY_SLOTW_IDX_SLOT 0 o.grp)).klen = 0) (hdrbg : s.drbgKOk = true) :
    s.slotwGen o n = (s.cmdErr .KEY_SLOTW_CMD o.grp 0).genSlot (s.fld F.KEY_SLOTW_IDX_SLOT 0 o.grp) n := by
  simp [State.slotwGen, hcore, hst, hown, hz, hempty, hdrbg]

/-! ## The CAK window (R128, R136) -/

/-- DATA0 of a CAK slot read: FILLED, LEDGER, the CAK's length in units of 16 octets, the CKN's length. -/
def State.cakStatus (s : State) (k : Nat) : Nat :=
  fw 31 31 (b2n ((s.cakSlot k).klen != 0)) + fw 30 30 (b2n (s.cakSlot k).ledger) + fw 29 28 ((s.cakSlot k).klen / 16) +
    fw 5 0 (s.cakSlot k).ckn.length

theorem State.cakwRead_eq (s : State) (o : Origin) :
    s.cakwRead o = ((s.cmdErr .KEY_CAKW_CMD o.grp 0).setWord .KEY_CAKW_DATA0
      (BitVec.ofNat 32 (s.cakStatus (s.fld F.KEY_CAKW_IDX_SLOT 0 o.grp))) 0 o.grp).setWords .KEY_CAKW_DATA1
      (octWords 8 (s.cakSlot (s.fld F.KEY_CAKW_IDX_SLOT 0 o.grp)).ckn) o.grp := rfl

/-- Words of another register are as they were. -/
theorem State.word_setWords_ne (s : State) {r q : Reg} {i g : Nat} (l : List W32) (hr : r.ctorIdx ≠ q.ctorIdx)
    (hi : i < 2 ^ 20) (hg : g < 4) {n : Nat} (hn : n + l.length ≤ 2 ^ 20) :
    (s.setWords q l g n).word r i g = s.word r i g := by
  induction l generalizing s n with
  | nil => rfl
  | cons w l ih =>
    rw [List.length_cons] at hn
    rw [State.setWords, ih _ (by omega), State.word_setWord_ne s w (regKey_ne hr hi (by omega) hg hg)]

theorem Origin.grp_lt (o : Origin) : o.grp < 4 := by
  unfold Origin.grp
  split <;> decide

theorem length_octWords (n : Nat) (l : List Byte) : (octWords n l).length = n := by
  simp [octWords]

@[simp] theorem State.word_cakwRead (s : State) (o : Origin) :
    (s.cakwRead o).word .KEY_CAKW_DATA0 0 o.grp = BitVec.ofNat 32 (s.cakStatus (s.fld F.KEY_CAKW_IDX_SLOT 0 o.grp)) := by
  rw [State.cakwRead_eq, State.word_setWords_ne _ _ (by decide) (by decide) (Origin.grp_lt o) (by rw [length_octWords]; decide),
    State.word_setWord]

theorem bits_cakStatus_filled (s : State) (k : Nat) :
    bits (BitVec.ofNat 32 (s.cakStatus k)) 31 31 = b2n ((s.cakSlot k).klen != 0) := by
  have hfilled := b2n_lt ((s.cakSlot k).klen != 0)
  rw [bits_ofNat _ _ (by decide) (by decide)]
  simp only [State.cakStatus, fw, Nat.reduceAdd, Nat.reduceSub, Nat.reducePow]
  omega

theorem bits_cakStatus_ledger (s : State) (k : Nat) :
    bits (BitVec.ofNat 32 (s.cakStatus k)) 30 30 = b2n (s.cakSlot k).ledger := by
  have hledger := b2n_lt (s.cakSlot k).ledger
  rw [bits_ofNat _ _ (by decide) (by decide)]
  simp only [State.cakStatus, fw, Nat.reduceAdd, Nat.reduceSub, Nat.reducePow]
  omega

theorem State.onlyWords_cakwRead (s : State) (o : Origin) :
    s.onlyWords (s.cakwRead o) [.KEY_CAKW_CMD, .KEY_CAKW_DATA0, .KEY_CAKW_DATA1] o.grp = true := by
  rw [State.cakwRead_eq]
  exact State.onlyWords_setWords (State.onlyWords_setWord (State.onlyWords_cmdErr s (by decide) o.grp 0) (by decide) (by decide) _)
    (by decide) _ (by rw [length_octWords]; decide)

/-- What a read through a window leaves alone. -/
theorem State.slots_of_onlyWords {s t : State} {l : List Reg} {g : Nat} (h : s.onlyWords t l g = true) :
    t.saSlots = s.saSlots ∧ t.cakSlots = s.cakSlots := by
  simp only [State.onlyWords, Bool.and_eq_true, decide_eq_true_eq] at h
  rw [h.1]
  exact ⟨rfl, rfl⟩

/-- Inside a presence window a ledger record is erased, and its slot empties where no image record fills it. -/
theorem State.cakwErase_recorded {s : State} {o : Origin} (hpf : o.pfIa = true) (hpres : s.presence = true)
    (hrec : s.ledger.caks.any (fun r => r.1 == s.fld F.KEY_CAKW_IDX_SLOT 0 o.grp) = true)
    (himg : (((s.cmdErr .KEY_CAKW_CMD o.grp 0).eraseCak (s.fld F.KEY_CAKW_IDX_SLOT 0 o.grp)).cakSlot
      (s.fld F.KEY_CAKW_IDX_SLOT 0 o.grp)).image = false) :
    s.cakwErase o = (((s.cmdErr .KEY_CAKW_CMD o.grp 0).eraseCak (s.fld F.KEY_CAKW_IDX_SLOT 0 o.grp)).emptyCak
      (s.fld F.KEY_CAKW_IDX_SLOT 0 o.grp)).notice (.cakSlot (s.fld F.KEY_CAKW_IDX_SLOT 0 o.grp)) := by
  simp only [State.cakwErase, hpf, hpres, hrec, himg, Bool.not_true, Bool.false_eq_true, if_false]

/-! ## The commands -/

/-- Settles O32: the sweep by its stages, each window command by its operation's own rule. -/
theorem keyStoreCommandsComplete : Obligations.KeyStoreCommandsComplete := by
  refine ⟨?sweep, ?slotRead, ?allocate, ?release, ?gen128, ?gen256, ?cakRead, ?erase⟩
  case sweep =>
    intro s hm
    have hkeys : s.remaskSweep.keysAt 0 = s.remaskSas.remaskCaks.keysAt 0 := by simp [State.remaskSweep_running hm]
    have hown := State.remaskSweep_keysAt s 0
    simp only [State.keysAt, Prod.mk.injEq] at hkeys hown
    obtain ⟨-, -, htether, -, -⟩ := hkeys
    obtain ⟨-, -, -, hctx, hkek⟩ := hown
    refine ⟨s.remaskSweep, rfl, State.remaskSweep_saSlots hm, State.remaskSweep_cakSlots hm,
      (Shares.key_of_unmasked htether).1, (Shares.key_of_unmasked hkek).1, (Shares.key_of_unmasked hctx).1⟩
  case slotRead =>
    intro s o hg
    have honly := State.onlyWords_slotwRead s o
    refine ⟨_, exec_granted (c := .slotwReadStatus o) rfl hg, ?st, ?klen, (State.slots_of_onlyWords honly).1, honly⟩
    case st =>
      rw [State.word_slotwRead, bits_slotStatus_st]
      rfl
    case klen => rw [State.word_slotwRead, bits_slotStatus_klen]
  case allocate =>
    intro s o k hg hcore hfree
    rw [exec_granted (c := .slotwAllocate o) rfl hg, State.slotwAllocate_free hcore hfree]
    rfl
  case release =>
    intro s o hg hcore hst hown
    rw [exec_granted (c := .slotwRelease o) rfl hg, State.slotwRelease_held hcore hst hown]
  case gen128 =>
    intro s o hg hcore hst hown hz hempty hdrbg
    rw [exec_granted (c := .slotwGen128 o) rfl hg, State.slotwGen_empty 16 hcore hst hown hz hempty hdrbg]
  case gen256 =>
    intro s o hg hcore hst hown hz hempty hdrbg
    rw [exec_granted (c := .slotwGen256 o) rfl hg, State.slotwGen_empty 32 hcore hst hown hz hempty hdrbg]
  case cakRead =>
    intro s o hg
    have honly := State.onlyWords_cakwRead s o
    refine ⟨_, exec_granted (c := .cakwRead o) rfl hg, ?filled, ?ledger, (State.slots_of_onlyWords honly).2, honly⟩
    case filled => rw [State.word_cakwRead, bits_cakStatus_filled]
    case ledger => rw [State.word_cakwRead, bits_cakStatus_ledger]
  case erase =>
    intro s o hg hpf hpres hrec himg
    rw [exec_granted (c := .cakwErase o) rfl hg, State.cakwErase_recorded hpf hpres hrec himg]

end Sys2Proof.Machine
end

section
/-!
PROOFS. Provisioning (R128), zeroization (R129) and the entropy source (R134, R135): each command inside its presence window or
state.
-/

namespace Sys2Proof.Machine

/-! ## Provisioning (R128) -/

/-- A provisioning command of a master that may give it, inside a presence window. -/
theorem State.provCmd_present {s : State} {o : Origin} (f : State → State) (hpf : o.pfIa = true) (hpres : s.presence = true) :
    s.provCmd o f = f s := by
  simp [State.provCmd, hpf, hpres]

theorem State.provEnd_active {s : State} (e : Nat) (hact : s.prov.active = true) :
    s.provEnd e = (({ s with prov := {} } : State).provErr e s.prov.window).count .key 0 0 7 := if_pos hact

/-- BEGIN draws the part's ephemeral key while DRBG-K gives requests. -/
theorem State.provBegin_drawn {s : State} {o : Origin} (slot : Nat) (hpf : o.pfIa = true) (hpres : s.presence = true)
    (hdrbg : s.drbgKOk = true) :
    s.provBegin o slot = (({ s.drbgReq.draw.2 with prov := {
        active := true, slot := slot % 1024, window := o.grp, priv := privOf s.drbgReq.draw.1,
        pub := ecPub (privOf s.drbgReq.draw.1) } } : State).setFld F.KEY_PROV_CMD_SLOT (slot % 1024) 0 o.grp).provErr 0 o.grp := by
  rw [State.provBegin, State.provCmd_present _ hpf hpres]
  simp only [hdrbg, Bool.not_true, Bool.false_eq_true, if_false]

/-- COMMIT of a record that passes every check and that the ledger takes. -/
theorem State.provCommit_stored {s : State} {o : Origin} {key ckn : List Byte} (hpf : o.pfIa = true)
    (hpres : s.presence = true) (hact : s.prov.active = true) (hz : s.zeroized = false)
    (hcheck : s.prov.check = some (key, ckn)) (hstore : (s.storeCak s.prov.slot key ckn).2 = true) :
    s.provCommit o = (((({ (s.storeCak s.prov.slot key ckn).1 with prov := {
        result := (s.storeCak s.prov.slot key ckn).1.serialOct ++
          ((s.storeCak s.prov.slot key ckn).1.wrapCak s.prov.slot key ckn).getD [] } } : State).provErr 0 o.grp).notice
        (.cakSlot s.prov.slot)).setInt .KEY_INT_STAT 4) := by
  rw [State.provCommit, State.provCmd_present _ hpf hpres]
  simp only [hact, hz, hcheck, Bool.not_true, Bool.false_eq_true, if_false]
  generalize s.storeCak s.prov.slot key ckn = p at hstore ⊢
  obtain ⟨t, b⟩ := p
  obtain rfl : b = true := hstore
  rfl

/-- The octet port takes a word of an active session. -/
theorem State.provData_write {s : State} {o : Origin} (v : W32) (hpres : s.presence = true) (hpf : o.pfIa = true)
    (hact : s.prov.active = true) :
    s.provData o true v = { s with prov := { s.prov with inp := s.prov.inp ++ beOctets 4 v.toNat } } := by
  simp [State.provData, hpres, hpf, hact]

/-- The octet port gives the next word of the part's public key, or of the result once there is one. -/
theorem State.provData_read (s : State) (o : Origin) (v : W32) :
    s.provData o false v = ({ s with prov := { s.prov with rdPos := s.prov.rdPos + 4 } } : State).emit
      (.readData o (regAddr .KEY_PROV_DATA 0) (BitVec.ofNat 32 (beNat
        ((((if s.prov.result = [] then s.prov.pub else s.prov.result) ++ zeros (s.prov.rdPos + 4)).drop s.prov.rdPos).take 4)))) := by
  simp only [State.provData, List.isEmpty_iff, Bool.false_eq_true, if_false]

/-! ## A granted access -/

theorem State.hostAccess_written {s : State} {o : Origin} {r : Reg} (f : State → State) (hg : s.grants o r = true) :
    s.hostAccess o r 0 true f = f s :=
  if_pos (by simpa [State.grants] using hg)

theorem State.hostAccess_read {s : State} {o : Origin} {r : Reg} (f : State → State) (hr : s.readable o r = true) :
    s.hostAccess o r 0 false f = f s :=
  if_pos (by simpa [State.readable] using hr)

/-! ## Zeroization (R129) -/

/-- KEY_ZERO has one field, for its pattern, that a presence window opens. -/
theorem fieldsFor_keyZero (o : Origin) : fieldsFor o .KEY_ZERO = [⟨15, 0, .rwp, []⟩] := rfl

/-- A write that changes no refused field and no reserved bit makes no access fault. -/
theorem State.writeFault_none {s : State} {l : List FieldDef} {ign v : W32} (cur : W32) (hopen : ∀ f ∈ l, s.refused f = false)
    (hres : v &&& ~~~(fieldMask l ||| ign) = 0#32) : s.writeFault l ign cur v = 0 := by
  have hbad : ∀ p : Bool, l.any (fun f => s.refused f && (f.acc == .rwp) == p && bits v f.hi f.lo != bits cur f.hi f.lo) =
      false := fun p => List.any_eq_false.mpr fun f hf => by simp [hopen f hf]
  simp only [State.writeFault, hbad, hres, Bool.false_eq_true, if_false, Bool.false_or, bne_self_eq_false]

/-- KEY_ZERO's pattern inside a presence window zeroizes. -/
theorem State.keyZero_pattern {s : State} (o : Origin) (hpres : s.presence = true) : s.keyZero o 0x5A3C#32 = s.zeroize := by
  have hopen : ∀ f ∈ fieldsFor o .KEY_ZERO, s.refused f = false := by simp [fieldsFor_keyZero, State.refused, hpres]
  have hres : 0x5A3C#32 &&& ~~~(fieldMask (fieldsFor o .KEY_ZERO) ||| ignored .KEY_ZERO) = 0#32 := by
    rw [fieldsFor_keyZero]
    decide
  have hfault := State.writeFault_none (s.regView .KEY_ZERO 0 (copyOf o .KEY_ZERO)) hopen hres
  simp [State.keyZero, State.countOnce, hfault, hpres, show bits 0x5A3C#32 15 0 = 0x5A3C by rfl]

/-! ## The entropy source (R134, R135) -/

theorem State.drbgReseed_healthy {s : State} (k : Bool) (hok : s.rng.esFail = false) :
    s.drbgReseed k = { s with rng := if k then { s.rng with k := {} } else { s.rng with m := {} } } := by
  simp [State.drbgReseed, hok]

/-- A first failed continuous test has the start-up test rerun. -/
theorem State.entropyFail_first {s : State} (hok : s.rng.esFail = false) (hlast : s.rng.lastFail = none) :
    s.entropyFail = { s with rng := { s.rng with retest := true, lastFail := some s.counter } } := by
  simp [State.entropyFail, hok, hlast]

/-- A second one raises the entropy alarm where it comes within 1 s of the last. -/
theorem State.entropyFail_again {s : State} {t : Nat} (hok : s.rng.esFail = false) (hlast : s.rng.lastFail = some t) :
    s.entropyFail = if s.counter < t + 65536000000000 then s.entropyFailed
      else { s with rng := { s.rng with retest := true, lastFail := some s.counter } } := by
  simp [State.entropyFail, hok, hlast]

theorem State.entropyRetest_running {s : State} (test : StartUp) (hrun : s.rng.retest = true) :
    s.entropyRetest test = if startUpOk test then
        (({ s with rng := { s.rng with retest := false } } : State).count .key 0 0 4).setInt .KEY_INT_STAT 2
      else s.entropyFailed := by
  simp [State.entropyRetest, hrun]

/-! ## The commands -/

/-- Settles O33: each command by its operation's own rule inside its presence window or state. -/
theorem provisioningAndEntropyComplete : Obligations.ProvisioningAndEntropyComplete := by
  refine ⟨?begin, ?commit, ?abort, ?dataIn, ?dataOut, ?timeout, ?zero, ?reseed, ?first, ?again, ?retest⟩
  case begin =>
    intro s o slot hg hpf hpres hdrbg
    rw [exec_granted (c := .provBegin o slot) rfl hg, State.provBegin_drawn slot hpf hpres hdrbg]
  case commit =>
    intro s o key ckn hg hpf hpres hact hz hcheck hstore
    rw [exec_granted (c := .provCommit o) rfl hg, State.provCommit_stored hpf hpres hact hz hcheck hstore]
  case abort =>
    intro s o hg hpf hpres hact
    rw [exec_granted (c := .provAbort o) rfl hg, State.provAbort, State.provCmd_present _ hpf hpres, State.provEnd_active 0 hact]
  case dataIn =>
    rintro s o write v hg rfl hpres hpf hact
    exact exec_of_effect rfl ((State.hostAccess_written _ hg).trans (State.provData_write v hpres hpf hact))
  case dataOut =>
    rintro s o write v hr rfl
    exact exec_of_effect rfl ((State.hostAccess_read _ hr).trans (State.provData_read s o v))
  case timeout => exact fun s hact => exec_of_effect rfl (State.provEnd_active 4 hact)
  case zero =>
    rintro s o v hg hpres rfl
    rw [exec_granted (c := .keyZero o _) rfl hg, State.keyZero_pattern o hpres]
  case reseed => exact fun s k hok => exec_of_effect rfl (State.drbgReseed_healthy k hok)
  case first => exact fun s hok hlast => exec_of_effect rfl (State.entropyFail_first hok hlast)
  case again => exact fun s t hok hlast => exec_of_effect rfl (State.entropyFail_again hok hlast)
  case retest => exact fun s test hrun => exec_of_effect rfl (State.entropyRetest_running test hrun)

end Sys2Proof.Machine
end

section
/-!
PROOFS. The service cipher (R130-R133): an operation that may start leaves its context busy with the result held.
-/

namespace Sys2Proof.Machine

/-! ## What a draw and a load of the key bus leave alone (R123, R134) -/

theorem State.svcBus_regs (s : State) (w : W32) : (s.svcBus w).regs = s.regs := by
  have hbus : ∀ t : State, t.regs = s.regs → ((if s.maskStopped then s else t).count .key 0 0 0).regs = s.regs := by
    intro t ht
    cases s.maskStopped
    · exact ht
    · rfl
  unfold State.svcBus
  split
  · rfl
  all_goals exact hbus _ rfl

theorem State.svcKeyWord_svcBus (s : State) (w : W32) (ctx : Nat) : (s.svcBus w).svcKeyWord ctx = s.svcKeyWord ctx :=
  State.word_of_regs (State.svcBus_regs s w) ..

/-! ## The start of an operation (R130, R131) -/

/-- An operation of context ctx that origin o may start: CTL granted, the context the core's own and not busy, DRBG-M running. -/
structure State.SvcMay (s : State) (o : Origin) (ctx : Nat) : Prop where
  granted : s.grants o .SVC_CTL (ctx % 32) = true
  owned : o.ownsCtx (ctx % 32) = true
  idle : (s.svcCtx (ctx % 32)).busy = false
  running : s.maskStopped = false

/-- The context's busy state with the results of operation op held. -/
def SvcCtx.holding (x : SvcCtx) (op dst : Nat) (r : SvcOut) : SvcCtx :=
  { x with
    mode := op, busy := true, resErr := r.err, resMem := r.mem.map (fun l => (dst, l)), resTag := r.tag, resIv := r.iv
    resSlot := r.slot.map (fun k => (dst % 65536, k)) }

/-- STATUS.ERR cleared, the context held busy, the operation counted as waited for. -/
def State.svcStarted (t : State) (o : Origin) (ctx : Nat) (x : SvcCtx) : State :=
  ((t.setSvc (ctx % 32) x).setWord .SVC_STATUS (depo (t.word .SVC_STATUS (ctx % 32)) 30 28 0) (ctx % 32)).obsEvent
    (.core o.acu) 4

/-- The address that SVC_SRC or SVC_DST gives. -/
def State.svcAddr (s : State) (r : Reg) (ctx : Nat) : Nat := (s.word r (ctx % 32)).toNat

/-- An operation that may start, with a source its ACU lets it read, a result and a destination its ACU lets it write. -/
theorem State.svcOp_starts {s t : State} {o : Origin} {ctx op nsrc : Nat} {x : SvcCtx} {r : SvcOut}
    {f : State → SvcCtx → List Byte → Except Nat (State × SvcCtx × SvcOut)} (hmay : s.SvcMay o ctx) (hop : op < 12)
    (hsrc : s.svcDeny o (s.svcAddr .SVC_SRC ctx) nsrc false = none)
    (hf : f (s.drbgM (nsrc / 16 + 1)) (s.svcCtx (ctx % 32)) (s.rdMem (s.svcAddr .SVC_SRC ctx) nsrc) = .ok (t, x, r))
    (hdst : r.mem.bind (fun l => s.svcDeny o (s.svcAddr .SVC_DST ctx) l.length true) = none) :
    s.svcOp o ctx op nsrc f = t.svcStarted o ctx (x.holding op (s.svcAddr .SVC_DST ctx) r) := by
  have hmode : ¬ (op = 12 ∨ op = 13) := by omega
  unfold State.svcAddr at hsrc hf hdst
  rw [State.svcOp, State.hostWrite_granted s o _ _ _ hmay.granted]
  simp only [hmay.owned, hmay.idle, hmay.running, hsrc, hf, hdst, hmode, Bool.not_true, Bool.false_eq_true, if_false]
  rfl

/-- The state in which a keyed operation works: randomness asked for, its key moved. -/
def State.svcFed (s : State) (ctx nsrc : Nat) : State := (s.drbgM (nsrc / 16 + 1)).svcBus (s.svcKeyWord ctx)

/-- The context under key k. -/
def State.svcUnder (s : State) (ctx : Nat) (k : List Byte) : SvcCtx :=
  (s.svcCtx (ctx % 32)).under (ctxKeyId (s.svcKeyWord ctx) k)

/-- The n octets at SVC_SRC. -/
def State.svcSrc (s : State) (ctx n : Nat) : List Byte := s.rdMem (s.svcAddr .SVC_SRC ctx) n

/-- A keyed operation of n source octets that may start, with key k. -/
structure State.SvcKeyedMay (s : State) (o : Origin) (ctx n : Nat) (k : List Byte) : Prop extends s.SvcMay o ctx where
  key : (s.svcKey o (s.svcCtx (ctx % 32)) (s.svcKeyWord ctx)).toOption = some k
  source : s.svcDeny o (s.svcAddr .SVC_SRC ctx) n false = none

theorem ok_of_toOption {ε α : Type} {e : Except ε α} {a : α} (h : e.toOption = some a) : e = .ok a := by
  cases e with
  | error x => cases h
  | ok b => exact congrArg Except.ok (Option.some.inj h)

/-- A keyed operation starts with what its work f gives. -/
theorem State.svcKeyed_starts {s t : State} {o : Origin} {ctx op n : Nat} {k : List Byte} {x : SvcCtx} {r : SvcOut}
    {f : State → SvcCtx → List Byte → List Byte → Except Nat (State × SvcCtx × SvcOut)} (hmay : s.SvcKeyedMay o ctx n k)
    (hop : op < 12) (hf : f (s.svcFed ctx n) (s.svcUnder ctx k) k (s.svcSrc ctx n) = .ok (t, x, r))
    (hdst : r.mem.bind (fun l => s.svcDeny o (s.svcAddr .SVC_DST ctx) l.length true) = none) :
    s.svcKeyed o ctx op n f = t.svcStarted o ctx (x.holding op (s.svcAddr .SVC_DST ctx) r) := by
  have hkey : (s.drbgM (n / 16 + 1)).svcKey o (s.svcCtx (ctx % 32)) ((s.drbgM (n / 16 + 1)).svcKeyWord ctx) = .ok k :=
    ok_of_toOption hmay.key
  refine State.svcOp_starts hmay.toSvcMay hop hmay.source ?_ hdst
  simp only [hkey]
  exact hf

/-! ## Block modes, CTR and CMAC (R130) -/

/-- The whole blocks at SVC_SRC. -/
def State.svcBlocks (s : State) (ctx : Nat) : List (List Byte) :=
  blocks16 ((s.svcSrc ctx (s.svcLen ctx)).take ((s.svcSrc ctx (s.svcLen ctx)).length / 16 * 16))

theorem State.svcEcb_starts {s : State} {o : Origin} {ctx : Nat} {k : List Byte} (enc : Bool)
    (hmay : s.SvcKeyedMay o ctx (s.svcLen ctx) k)
    (hdst : s.svcDeny o (s.svcAddr .SVC_DST ctx)
      ((s.svcBlocks ctx).map (fun b => if enc then aesEnc k b else aesDec k b)).flatten.length true = none) :
    s.svcEcb o ctx enc = (s.svcFed ctx (s.svcLen ctx)).svcStarted o ctx
      ((s.svcUnder ctx k).holding (if enc then 1 else 2) (s.svcAddr .SVC_DST ctx)
        { mem := some ((s.svcBlocks ctx).map (fun b => if enc then aesEnc k b else aesDec k b)).flatten }) := by
  unfold State.svcEcb
  exact State.svcKeyed_starts hmay (by cases enc <;> decide) rfl hdst

/-- What CBC makes of the blocks at SVC_SRC: the text and the last chaining block. -/
def State.svcChained (s : State) (ctx : Nat) (k : List Byte) (enc : Bool) : List Byte × List Byte :=
  let iv := (s.svcFed ctx (s.svcLen ctx)).svcIv ctx ++ zeros 4
  if enc then cbcEnc k iv (s.svcBlocks ctx) else cbcDec k iv (s.svcBlocks ctx)

theorem State.svcCbc_starts {s : State} {o : Origin} {ctx : Nat} {k : List Byte} (enc : Bool)
    (hmay : s.SvcKeyedMay o ctx (s.svcLen ctx) k)
    (hdst : s.svcDeny o (s.svcAddr .SVC_DST ctx) (s.svcChained ctx k enc).1.length true = none) :
    s.svcCbc o ctx enc = (s.svcFed ctx (s.svcLen ctx)).svcStarted o ctx
      (({ s.svcUnder ctx k with chain := blkBits (s.svcChained ctx k enc).2 } : SvcCtx).holding (if enc then 3 else 4)
        (s.svcAddr .SVC_DST ctx) { mem := some (s.svcChained ctx k enc).1 }) := by
  unfold State.svcCbc
  exact State.svcKeyed_starts hmay (by cases enc <;> decide) rfl hdst

/-- The first counter block of CTR. -/
def State.svcCounter (s : State) (ctx : Nat) : BitVec 128 :=
  blkBits ((s.svcFed ctx (s.svcLen ctx)).svcIv ctx ++ [0#8, 0#8, 0#8, 1#8])

theorem State.svcCtrOp_starts {s : State} {o : Origin} {ctx : Nat} {k : List Byte}
    (hmay : s.SvcKeyedMay o ctx (s.svcLen ctx) k)
    (hdst : s.svcDeny o (s.svcAddr .SVC_DST ctx)
      (ctrMode k (s.svcCounter ctx) (blocks16 (s.svcSrc ctx (s.svcLen ctx)))).length true = none) :
    s.svcCtrOp o ctx = (s.svcFed ctx (s.svcLen ctx)).svcStarted o ctx
      (({ s.svcUnder ctx k with
          chain := s.svcCounter ctx + BitVec.ofNat 128 (((s.svcSrc ctx (s.svcLen ctx)).length + 15) / 16) } : SvcCtx).holding 5
        (s.svcAddr .SVC_DST ctx) { mem := some (ctrMode k (s.svcCounter ctx) (blocks16 (s.svcSrc ctx (s.svcLen ctx)))) }) := by
  unfold State.svcCtrOp
  exact State.svcKeyed_starts hmay (by decide) rfl hdst

theorem State.svcCmacOp_starts {s : State} {o : Origin} {ctx : Nat} {k : List Byte}
    (hmay : s.SvcKeyedMay o ctx (s.svcLen ctx) k) :
    s.svcCmacOp o ctx = (s.svcFed ctx (s.svcLen ctx)).svcStarted o ctx
      (({ s.svcUnder ctx k with ghash := blkBits (cmac k (s.svcSrc ctx (s.svcLen ctx))) } : SvcCtx).holding 8
        (s.svcAddr .SVC_DST ctx) { tag := some (blkBits (cmac k (s.svcSrc ctx (s.svcLen ctx)))) }) := by
  unfold State.svcCmacOp
  exact State.svcKeyed_starts hmay (by decide) rfl rfl

/-! ## GCM encryption (R132) -/

theorem State.svcNextIv_counting (s : State) {x : SvcCtx} (h : x.ivCnt ≠ 0#64) :
    s.svcNextIv x = .ok (s, { x with ivCnt := x.ivCnt + 1 }, x.ivFix ++ x.ivCnt) := if_neg h

/-- A key's first IV: its fixed field is drawn and its counter is 1. -/
theorem State.svcNextIv_first {s : State} {x : SvcCtx} (h : x.ivCnt = 0#64) (hdrbg : s.drbgKOk = true) :
    s.svcNextIv x = .ok (s.drbgReq.draw.2, { x with ivFix := s.drbgReq.draw.1.setWidth 32, ivCnt := 2#64 },
      s.drbgReq.draw.1.setWidth 32 ++ 1#64) := by
  simp only [State.svcNextIv, h, hdrbg, Bool.not_true, Bool.false_eq_true, if_true, if_false]

/-- Ciphertext and tag of the octets at SVC_SRC, the first of them additional. -/
def State.svcGcm (s : State) (ctx : Nat) (k : List Byte) (iv : BitVec 96) : List Byte × List Byte :=
  gcmEnc k (beOctets 12 iv.toNat) ((s.svcSrc ctx (s.svcAad ctx + s.svcLen ctx)).take (s.svcAad ctx))
    ((s.svcSrc ctx (s.svcAad ctx + s.svcLen ctx)).drop (s.svcAad ctx))

theorem State.svcGcmEnc_starts {s t : State} {o : Origin} {ctx : Nat} {k : List Byte} {x : SvcCtx} {iv : BitVec 96}
    (hmay : s.SvcKeyedMay o ctx (s.svcAad ctx + s.svcLen ctx) k)
    (hiv : (s.svcFed ctx (s.svcAad ctx + s.svcLen ctx)).svcNextIv (s.svcUnder ctx k) = .ok (t, x, iv))
    (hdst : s.svcDeny o (s.svcAddr .SVC_DST ctx) (s.svcGcm ctx k iv).1.length true = none) :
    s.svcGcmEnc o ctx = t.svcStarted o ctx
      (({ x with ghash := ghashState k (beOctets 12 iv.toNat) (s.svcGcm ctx k iv).2 } : SvcCtx).holding 6
        (s.svcAddr .SVC_DST ctx)
        { mem := some (s.svcGcm ctx k iv).1, tag := some (blkBits (s.svcGcm ctx k iv).2), iv := some iv }) := by
  unfold State.svcGcmEnc
  refine State.svcKeyed_starts hmay (by decide) ?_ hdst
  simp only [hiv]
  rfl

/-! ## GCM decryption (R130) -/

/-- Plaintext of the octets at SVC_SRC and whether the tag checks. -/
def State.svcOpened (s : State) (ctx : Nat) (k : List Byte) : List Byte × Bool :=
  let n := s.svcAad ctx + s.svcLen ctx
  gcmDec k ((s.svcFed ctx n).svcIv ctx) ((s.svcSrc ctx n).take (s.svcAad ctx)) ((s.svcSrc ctx n).drop (s.svcAad ctx))
    ((s.svcFed ctx n).svcTag ctx)

/-- The context after a GCM decryption. -/
def State.svcDecrypting (s : State) (ctx : Nat) (k : List Byte) : SvcCtx :=
  let n := s.svcAad ctx + s.svcLen ctx
  let iv := (s.svcFed ctx n).svcIv ctx
  { s.svcUnder ctx k with
    ghash := ghashState k iv (gcmTag k iv ((s.svcSrc ctx n).take (s.svcAad ctx)) ((s.svcSrc ctx n).drop (s.svcAad ctx))) }

/-- The plaintext is held where the tag checks, error 4 where it does not. -/
theorem State.svcGcmDec_starts {s : State} {o : Origin} {ctx : Nat} {k : List Byte}
    (hmay : s.SvcKeyedMay o ctx (s.svcAad ctx + s.svcLen ctx) k)
    (hdst : s.svcDeny o (s.svcAddr .SVC_DST ctx) (s.svcOpened ctx k).1.length true = none) :
    s.svcGcmDec o ctx = (s.svcFed ctx (s.svcAad ctx + s.svcLen ctx)).svcStarted o ctx
      { (s.svcDecrypting ctx k).holding 7 (s.svcAddr .SVC_DST ctx) { err := if (s.svcOpened ctx k).2 then 0 else 4 } with
        resMem := if (s.svcOpened ctx k).2 then some (s.svcAddr .SVC_DST ctx, (s.svcOpened ctx k).1) else none } := by
  unfold State.svcGcmDec
  cases h : (s.svcOpened ctx k).2 with
  | true =>
    exact State.svcKeyed_starts (x := s.svcDecrypting ctx k) (r := { mem := some (s.svcOpened ctx k).1 }) hmay (by decide)
      (if_pos h) hdst
  | false =>
    exact State.svcKeyed_starts (x := s.svcDecrypting ctx k) (r := { err := 4 }) hmay (by decide)
      (if_neg (ne_true_of_eq_false h)) rfl

/-! ## Key wraps (R130, R131) -/

/-- The key source that SVC_SRC names, in SVC_KEY's layout: KSRC 0 is read as an SA slot. -/
def State.wrapSource (s : State) (ctx : Nat) : W32 :=
  if bits (s.word .SVC_SRC (ctx % 32)) 31 29 = 0 then depo (s.word .SVC_SRC (ctx % 32)) 31 29 1 else s.word .SVC_SRC (ctx % 32)

/-- A slot's key is wrapped under a protected key. -/
theorem State.svcWrap_fromSlot {s : State} {o : Origin} {ctx : Nat} {k d : List Byte} (hprot : bits (s.svcKeyWord ctx) 31 29 ≠ 0)
    (hmay : s.SvcKeyedMay o ctx 0 k)
    (hd : ((s.svcFed ctx 0).svcKey o (s.svcUnder ctx k) ((s.svcFed ctx 0).wrapSource ctx)).toOption = some d)
    (hdst : s.svcDeny o (s.svcAddr .SVC_DST ctx) (keyWrap k d).length true = none) :
    s.svcWrap o ctx true = ((s.svcFed ctx 0).svcBus ((s.svcFed ctx 0).wrapSource ctx)).svcStarted o ctx
      ((s.svcUnder ctx k).holding 9 (s.svcAddr .SVC_DST ctx) { mem := some (keyWrap k d) }) := by
  have hsame : (s.svcFed ctx 0).svcKeyWord ctx = s.svcKeyWord ctx := State.svcKeyWord_svcBus ..
  have hsrc := ok_of_toOption hd
  unfold State.wrapSource at hsrc
  refine State.svcKeyed_starts hmay (by decide) ?_ hdst
  simp only [hsame, hprot, hsrc, if_true, if_false]
  rfl

/-- Memory is wrapped in whole units of 8 octets. -/
theorem State.svcWrap_fromMemory {s : State} {o : Origin} {ctx : Nat} {k : List Byte}
    (hmay : s.SvcKeyedMay o ctx (s.svcLen ctx / 8 * 8) k)
    (hdst : s.svcDeny o (s.svcAddr .SVC_DST ctx) (keyWrap k (s.svcSrc ctx (s.svcLen ctx / 8 * 8))).length true = none) :
    s.svcWrap o ctx false = (s.svcFed ctx (s.svcLen ctx / 8 * 8)).svcStarted o ctx
      ((s.svcUnder ctx k).holding 9 (s.svcAddr .SVC_DST ctx)
        { mem := some (keyWrap k (s.svcSrc ctx (s.svcLen ctx / 8 * 8))) }) := by
  unfold State.svcWrap
  exact State.svcKeyed_starts hmay (by decide) rfl hdst

/-- A key unwrapped under a clear context key goes to memory. -/
theorem State.svcUnwrap_toMemory {s : State} {o : Origin} {ctx : Nat} {k d : List Byte} (hclear : bits (s.svcKeyWord ctx) 31 29 = 0)
    (hmay : s.SvcKeyedMay o ctx (s.svcLen ctx) k) (hd : keyUnwrap k (s.svcSrc ctx (s.svcLen ctx)) = some d)
    (hdst : s.svcDeny o (s.svcAddr .SVC_DST ctx) d.length true = none) :
    s.svcUnwrap o ctx false = (s.svcFed ctx (s.svcLen ctx)).svcStarted o ctx
      ((s.svcUnder ctx k).holding 10 (s.svcAddr .SVC_DST ctx) { mem := some d }) := by
  have hsame : (s.svcFed ctx (s.svcLen ctx)).svcKeyWord ctx = s.svcKeyWord ctx := State.svcKeyWord_svcBus ..
  refine State.svcKeyed_starts hmay (by decide) ?_ hdst
  simp only [hsame, hclear, hd, bne_self_eq_false, Bool.and_false, Bool.false_eq_true, if_false]
  rfl

/-- An unwrapped key of 16 or 32 octets goes to a slot that may be filled. -/
theorem State.svcUnwrap_toSlot {s : State} {o : Origin} {ctx : Nat} {k d : List Byte}
    (hslot : (s.svcFed ctx (s.svcLen ctx)).svcDst o ctx = 0) (hlen : d.length = 16 ∨ d.length = 32)
    (hmay : s.SvcKeyedMay o ctx (s.svcLen ctx) k) (hd : keyUnwrap k (s.svcSrc ctx (s.svcLen ctx)) = some d) :
    s.svcUnwrap o ctx true = (s.svcFed ctx (s.svcLen ctx)).svcStarted o ctx
      ((s.svcUnder ctx k).holding 10 (s.svcAddr .SVC_DST ctx) { slot := some d }) := by
  refine State.svcKeyed_starts hmay (by decide) ?_ rfl
  simp only [hd, State.svcKeyOut, hslot, hlen, Bool.not_true, Bool.false_and, Bool.false_eq_true, ne_eq, not_true_eq_false,
    if_true, if_false]

/-! ## The commands -/

/-- Settles O34: each operation starts with what its own work gives under the key. -/
theorem serviceCipherStarts : Obligations.ServiceCipherStarts := by
  refine ⟨?ecbEnc, ?ecbDec, ?cbcEnc, ?cbcDec, ?ctr, ?gcmNext, ?gcmFirst, ?gcmDec, ?cmac, ?wrapMemory, ?wrapSlot, ?unwrapMemory,
    ?unwrapSlot⟩
  case ecbEnc =>
    intro s o ctx k hg ho hb hm hk hsrc hdst
    exact exec_of_effect rfl (State.svcEcb_starts true ⟨⟨hg, ho, hb, hm⟩, hk, hsrc⟩ hdst)
  case ecbDec =>
    intro s o ctx k hg ho hb hm hk hsrc hdst
    exact exec_of_effect rfl (State.svcEcb_starts false ⟨⟨hg, ho, hb, hm⟩, hk, hsrc⟩ hdst)
  case cbcEnc =>
    intro s o ctx k hg ho hb hm hk hsrc hdst
    exact exec_of_effect rfl (State.svcCbc_starts true ⟨⟨hg, ho, hb, hm⟩, hk, hsrc⟩ hdst)
  case cbcDec =>
    intro s o ctx k hg ho hb hm hk hsrc hdst
    exact exec_of_effect rfl (State.svcCbc_starts false ⟨⟨hg, ho, hb, hm⟩, hk, hsrc⟩ hdst)
  case ctr =>
    intro s o ctx k hg ho hb hm hk hsrc hdst
    exact exec_of_effect rfl (State.svcCtrOp_starts ⟨⟨hg, ho, hb, hm⟩, hk, hsrc⟩ hdst)
  case gcmNext =>
    intro s o ctx k hg ho hb hm hk hsrc hdst hcnt
    have hiv := State.svcNextIv_counting (s.svcFed ctx (s.svcAad ctx + s.svcLen ctx)) (x := s.svcUnder ctx k) hcnt
    have hstart := State.svcGcmEnc_starts ⟨⟨hg, ho, hb, hm⟩, hk, hsrc⟩ hiv hdst
    exact exec_of_effect rfl hstart
  case gcmFirst =>
    intro s o ctx k hg ho hb hm hk hsrc hdst hcnt hdrbg
    have hiv := State.svcNextIv_first (s := s.svcFed ctx (s.svcAad ctx + s.svcLen ctx)) (x := s.svcUnder ctx k) hcnt hdrbg
    have hstart := State.svcGcmEnc_starts ⟨⟨hg, ho, hb, hm⟩, hk, hsrc⟩ hiv hdst
    exact exec_of_effect rfl hstart
  case gcmDec =>
    intro s o ctx k hg ho hb hm hk hsrc hdst
    exact exec_of_effect rfl (State.svcGcmDec_starts ⟨⟨hg, ho, hb, hm⟩, hk, hsrc⟩ hdst)
  case cmac =>
    intro s o ctx k hg ho hb hm hk hsrc
    exact exec_of_effect rfl (State.svcCmacOp_starts ⟨⟨hg, ho, hb, hm⟩, hk, hsrc⟩)
  case wrapMemory =>
    rintro s o ctx fromSlot k rfl hg ho hb hm hk hsrc hdst
    exact exec_of_effect rfl (State.svcWrap_fromMemory ⟨⟨hg, ho, hb, hm⟩, hk, hsrc⟩ hdst)
  case wrapSlot =>
    rintro s o ctx fromSlot k d rfl hprot hg ho hb hm hk hd hdst
    exact exec_of_effect rfl (State.svcWrap_fromSlot hprot ⟨⟨hg, ho, hb, hm⟩, hk, rfl⟩ hd hdst)
  case unwrapMemory =>
    rintro s o ctx toSlot k d rfl hclear hg ho hb hm hk hsrc hdst hd
    exact exec_of_effect rfl (State.svcUnwrap_toMemory hclear ⟨⟨hg, ho, hb, hm⟩, hk, hsrc⟩ hd hdst)
  case unwrapSlot =>
    rintro s o ctx toSlot k d rfl hslot hlen hg ho hb hm hk hsrc hd
    exact exec_of_effect rfl (State.svcUnwrap_toSlot hslot hlen ⟨⟨hg, ho, hb, hm⟩, hk, hsrc⟩ hd)

end Sys2Proof.Machine
end

section
/-!
PROOFS. Engines and placement (07): shedding keeps its count of engines for S6 in the yardmaster's record, beside the engines that it
switches off (R155).
-/

namespace Sys2Proof.Machine

/-! ## Shedding (R155) -/

/-- The engines in service beyond the n best ones go off. -/
def State.shedBeyond (s : State) (n : Nat) : State :=
  (s.inService.filter (fun e => decide (n ≤ (s.inService.filter (fun x => s.betterEng x e)).length))).foldl State.shedEngine s

/-- The count of engines kept as it is on record for S6: from S5 on the one just computed. -/
def State.noteKept (s : State) (n : Nat) : State :=
  { s with yrd := { s.yrd with keptS5 := if s.pwr.stage < 5 then none else some n } }

/-- With a lowest pace of 0 all engines are kept. -/
theorem State.engsFor_unmeasured {s : State} (num d : Nat) (hpace : s.lowPace = 0) : s.engsFor num d = 64 := by
  simp only [State.engsFor, hpace, Nat.zero_mul, if_true]

theorem State.shedEngines_kept {s : State} {n : Nat} (hkept : s.enginesKept = some n) :
    s.shedEngines = (s.noteKept n).shedBeyond n := by
  simp only [State.shedEngines, hkept]
  rfl

/-! ## The first shedding at S5 -/

/-- A serving part that has reached S5, with no count of engines on record yet. -/
def firstShedAtS5 : State := { start := { step := 15, held := false }, pwr := { stage := 5 } }

theorem firstShedAtS5_paces :
    firstShedAtS5.inService.map (fun e => (firstShedAtS5.eng e).pace) = List.replicate 64 0 := by decide

theorem firstShedAtS5_lowPace : firstShedAtS5.lowPace = 0 := by
  simp [State.lowPace, firstShedAtS5_paces, minOf]

theorem firstShedAtS5_keeps : firstShedAtS5.enginesKept = some 64 :=
  congrArg some (State.engsFor_unmeasured 110 _ firstShedAtS5_lowPace)

theorem firstShedAtS5_recorded :
    (firstShedAtS5.done ((firstShedAtS5.noteKept 64).shedBeyond 64)).yrd.keptS5 = some 64 := by decide

theorem firstShedAtS5_unrecorded : (firstShedAtS5.done (firstShedAtS5.shedBeyond 64)).yrd.keptS5 = none := by decide

/-- Refutes O36: its shedding clause has the recomputed count switch engines off and nothing else, but at S5 the count is also put on
record, for S6 to keep (R155). -/
theorem not_engineCommandsComplete : ¬ Obligations.EngineCommandsComplete := by
  rintro ⟨-, -, -, -, -, -, -, -, -, -, -, -, -, -, hshed, -⟩
  have hclaim : exec .shedEngineRecompute firstShedAtS5 = .next (firstShedAtS5.done (firstShedAtS5.shedBeyond 64)) :=
    hshed firstShedAtS5 64 firstShedAtS5_keeps
  have hmodel : exec .shedEngineRecompute firstShedAtS5 =
      .next (firstShedAtS5.done ((firstShedAtS5.noteKept 64).shedBeyond 64)) :=
    exec_of_effect rfl (State.shedEngines_kept firstShedAtS5_keeps)
  have hkept := congrArg (fun t => t.yrd.keptS5) (Host.Outcome.next.inj (hmodel.symm.trans hclaim))
  simp only [firstShedAtS5_recorded, firstShedAtS5_unrecorded] at hkept
  cases hkept

end Sys2Proof.Machine
end

section
/-!
PROOFS. Commands turned away (R150, R204, R205, R334, R336, R337, R346): adjustments of time, Iaholt datagrams, a test request while
another test is in hand, gated instructions of the TAP, a TAIL beyond its ring.
-/

namespace Sys2Proof.Machine

/-- A command that its origin's ACU grants ends in the state that its operation is shown to give. -/
theorem exec_of_granted_effect {c : Instr} {s u : State} {o : Origin} {r : Reg} {i : Nat} {f : State → State}
    (hc : exec c s = .next (s.done (s.hostWrite o r i f))) (hg : s.grants o r i = true) (h : f s = u) :
    exec c s = .next (s.done u) :=
  h ▸ exec_granted hc hg

/-! ## Adjustments of time (R204, R205) -/

@[simp] theorem State.adjRefuse_tim (s : State) (g e : Nat) : (s.adjRefuse g e).tim = s.tim := by
  obtain ⟨r, w, p, o, h⟩ := State.setInt_frame ((s.cmdErr .TIM_ADJ_CMD g e).count .tim 0 0 4) .TIM_INT_STAT 7 0
  rw [State.adjRefuse, h, State.count_tim]
  exact State.setWord_tim ..

/-- The standby takes no adjustment. -/
theorem State.adjust_standby {s : State} (o : Origin) (rated jump : Bool) (f : Tim → Tim) (hst : s.par.st = .standby) :
    s.adjust o rated jump f = s.adjRefuse o.grp 4 := by
  simp only [State.adjust, hst, beq_self_eq_true, if_true]

/-- A master that does not own time adjusts nothing. -/
theorem State.adjust_notOwner {s : State} {o : Origin} (rated jump : Bool) (f : Tim → Tim) (hst : s.par.st ≠ .standby)
    (hown : s.ownsTime o = false) : s.adjust o rated jump f = s.adjRefuse o.grp 1 := by
  simp only [State.adjust, beq_false_of_ne hst, hown, Bool.not_false, Bool.false_eq_true, if_false, if_true]

/-- Where the time unit is as it was, no time record is sent. -/
theorem State.mirrorTime_same {s t : State} (h : t.tim = s.tim) : s.mirrorTime t = t := by
  simp only [State.mirrorTime, h, bne_self_eq_false, Bool.false_and, Bool.false_eq_true, if_false]

/-- A granted adjustment that is refused leaves its error, its count and its interrupt only. -/
theorem exec_adjRefused {c : Instr} {s : State} {o : Origin} {rated jump : Bool} {f : State → Tim → Tim} {e : Nat}
    (hc : exec c s = .next (s.done (s.mirrorTime (s.hostWrite o .TIM_ADJ_CMD 0 (fun t => t.adjust o rated jump (f t))))))
    (hg : s.grants o .TIM_ADJ_CMD = true) (h : s.adjust o rated jump (f s) = s.adjRefuse o.grp e) :
    exec c s = .next (s.done (s.adjRefuse o.grp e)) := by
  rw [hc, State.hostWrite_granted s o .TIM_ADJ_CMD 0 _ hg, h, State.mirrorTime_same (State.adjRefuse_tim s o.grp e)]

/-! ## Datagrams (R336) -/

/-- A datagram with a bad tag, or with a sequence number not above the last accepted one, is discarded and counted. -/
theorem State.iahTake_discards {s : State} {h : IahHdr} {k : Nat} {x : IahSess} (f : State → Nat → State)
    (hsess : s.sessOf h.session = some (k, x)) (hen : s.flag F.MGT_CFG_IAH_EN = true) (hbad : h.tagOk = false ∨ h.seq ≤ x.seq) :
    s.iahTake h f = { s with iahDrop := s.iahDrop + 1 } := by
  have hdrop : (!h.tagOk || decide (h.seq ≤ x.seq)) = true := by
    rcases hbad with hb | hb <;> simp [hb]
  simp only [State.iahTake, hsess, hen, hdrop, Bool.not_true, Bool.false_eq_true, if_false, if_true]

/-! ## Test requests (R150) -/

/-- A request while another test is in hand stores its operands only. -/
theorem State.testRequest_busy {s : State} {o : Origin} (op eng : Nat) (hmain : o.main = true) (hbusy : s.testBusy = true) :
    s.testRequest o op eng = (s.setFld F.YRD_TEST_OP op).setFld F.YRD_TEST_ENGINE eng := by
  simp only [State.testRequest, hmain, hbusy, Bool.not_true, Bool.false_eq_true, true_or, if_false, if_true]

/-! ## The TAP (R346) -/

/-- Outside a presence window a gated instruction is taken as BYPASS. -/
theorem State.gatedIr_closed {s : State} (c : BitVec 8) (f : State → State) (hpres : s.presence = false) :
    s.gatedIr c f = s.ir 0xFF := by
  simp only [State.gatedIr, hpres, Bool.false_eq_true, if_false]

/-! ## Rings (R334) -/

/-- A TAIL beyond the ring is a fault of kind 6 and nothing else. -/
theorem State.tailWrite_beyond {s : State} {tx : Bool} {ring : Nat} {v : W32}
    (hbeyond : 2 ^ (6 + bits (s.word (ringCtl tx) (ring % 8)) 3 0) ≤ bits v 15 0) :
    s.tailWrite .pf0 tx ring v = s.recordFault .pf0 (regAddr (ringTail tx) (ring % 8)) true 6 := by
  simp only [State.tailWrite, State.ringCmd, hbeyond, beq_self_eq_true, if_true]

/-! ## The commands -/

/-- Settles O60: each command by what turns it away. -/
theorem commandsTurnedAwayLeaveTheirTargets : Obligations.CommandsTurnedAwayLeaveTheirTargets := by
  refine ⟨?rate, ?step, ?both, ?set, ?read, ?write, ?close, ?busy, ?extest, ?clamp, ?highz, ?tail⟩
  case rate => exact fun s o hg hst hown => exec_adjRefused (c := .adjRate o) rfl hg (State.adjust_notOwner _ _ _ hst hown)
  case step => exact fun s o hg hst hown => exec_adjRefused (c := .adjStep o) rfl hg (State.adjust_notOwner _ _ _ hst hown)
  case both => exact fun s o hg hst hown => exec_adjRefused (c := .adjRateAndStep o) rfl hg (State.adjust_notOwner _ _ _ hst hown)
  case set => exact fun s o hg hst => exec_adjRefused (c := .adjSet o) rfl hg (State.adjust_standby o _ _ _ hst)
  case read =>
    exact fun s h start count k x hsess hen hbad => exec_of_effect rfl (State.iahTake_discards _ hsess hen hbad)
  case write =>
    exact fun s h pairs k x hsess hen hbad =>
      exec_of_effect rfl (congrArg State.firmware (State.iahTake_discards _ hsess hen hbad))
  case close => exact fun s h k x hsess hen hbad => exec_of_effect rfl (State.iahTake_discards _ hsess hen hbad)
  case busy =>
    exact fun s o op eng hg hmain hbusy =>
      exec_of_granted_effect (c := .testRequest o op eng) rfl hg (State.testRequest_busy op eng hmain hbusy)
  case extest => exact fun s hpres => exec_of_effect rfl (State.gatedIr_closed _ _ hpres)
  case clamp => exact fun s hpres => exec_of_effect rfl (State.gatedIr_closed _ _ hpres)
  case highz => exact fun s hpres => exec_of_effect rfl (State.gatedIr_closed _ _ hpres)
  case tail =>
    rintro s o tx ring v rfl hg hbeyond
    exact exec_of_granted_effect (c := .tailWrite .pf0 tx ring v) rfl hg (State.tailWrite_beyond hbeyond)

end Sys2Proof.Machine
end

section
/-!
PROOFS. The traffic manager (08): the refill, the windows of shapers, queues, policers and gates, gate lists, launch times and
missed PTP departures. That a queue's fill reads in whole KiB, rounded down, is the model's choice (log entry 34).
-/

namespace Sys2Proof.Machine

/-! ## The windows (R174) -/

/-- Within one copy a word of another register is as it was. -/
theorem State.word_setWord_other (s : State) {r q : Reg} (w : W32) (g : Nat) (hr : r.ctorIdx ≠ q.ctorIdx) :
    (s.setWord q w 0 g).word r 0 g = s.word r 0 g :=
  State.word_setWord_ne s w (by unfold regKey; omega)

/-- A fresh result of a window's CMD register leaves the window's other fields. -/
theorem State.fld_cmdErr_other (s : State) {f : FieldRef} {q : Reg} (g e : Nat) (hr : f.reg.ctorIdx ≠ q.ctorIdx) :
    (s.cmdErr q g e).fld f 0 g = s.fld f 0 g :=
  congrArg (fun w => bits w f.hi f.lo) (State.word_setWord_other s _ g hr)

theorem State.word_cmdErr_other (s : State) {r q : Reg} (g e : Nat) (hr : r.ctorIdx ≠ q.ctorIdx) :
    (s.cmdErr q g e).word r 0 g = s.word r 0 g :=
  State.word_setWord_other s _ g hr

theorem State.timeT_cmdErr (s : State) (r : Reg) (g e : Nat) : (s.cmdErr r g e).timeT = s.timeT := by
  simp only [State.timeT, State.counter, State.cmdErr, State.setWord_tim]

theorem State.queue_cmdErr (s : State) (r : Reg) (g e k : Nat) : (s.cmdErr r g e).queue k = s.queue k := by
  simp only [State.queue, State.cmdErr, State.setWord_tmg]

theorem State.policer_cmdErr (s : State) (r : Reg) (g e k : Nat) : (s.cmdErr r g e).policer k = s.policer k := by
  simp only [State.policer, State.cmdErr, State.setWord_tmg]

theorem State.tmg_of_onlyWords {s t : State} {l : List Reg} {g : Nat} (h : s.onlyWords t l g = true) : t.tmg = s.tmg := by
  simp only [State.onlyWords, Bool.and_eq_true, decide_eq_true_eq] at h
  rw [h.1]

/-- A write of a master that may write, within the window, starts from a fresh result. -/
theorem State.tmgWrite_permitted {s : State} {o : Origin} {r : Reg} {idx : Bool} (f : State → State) (hmain : o.main = true)
    (hidx : idx = true) : s.tmgWrite o r idx f = f (s.cmdErr r o.grp 0) := by
  simp only [State.tmgWrite, hmain, hidx, Bool.not_true, Bool.false_eq_true, if_false]

/-! ## Shapers (R163, R174) -/

/-- DATA0 of a bucket read: OVH and RATE. -/
def Bucket.rateWord (b : Bucket) : Nat := fw 31 26 b.cfg.2.2.1 + fw 19 0 b.cfg.1

/-- DATA2 of a bucket read: WEIGHT and BURST. -/
def Bucket.burstWord (b : Bucket) : Nat := fw 31 20 b.cfg.2.2.2.2 + fw 15 0 b.cfg.2.1

/-- The whole seconds of the epoch that a bucket's settings wait for. -/
def Bucket.epochSec (b : Bucket) : Nat := (b.pendAt.getD 0 / unitsPerSec).toNat

/-- The shaper window of copy g shows a bucket. -/
def State.showBucket (s : State) (g : Nat) (b : Bucket) : State :=
  (((((((s.cmdErr .TMG_SHW_CMD g 0).setWord .TMG_SHW_DATA0 (BitVec.ofNat 32 b.rateWord) 0 g).setWord
    .TMG_SHW_DATA1 (BitVec.ofNat 32 b.cfg.2.2.2.1) 0 g).setWord .TMG_SHW_DATA2 (BitVec.ofNat 32 b.burstWord) 0 g).setWord
    .TMG_SHW_DATA3 (BitVec.ofInt 32 (b.tokens / 8)) 0 g).setWord .TMG_SHW_DATA4 (BitVec.ofNat 32 b.epochSec) 0 g).setWord
    .TMG_SHW_DATA5 (BitVec.ofNat 32 (b.epochSec / 2 ^ 32 % 65536)) 0 g).setWord
    .TMG_SHW_DATA6 (BitVec.ofNat 32 ((b.pendAt.getD 0 % unitsPerSec).toNat / 65536)) 0 g

theorem State.shwRead_inRange {s : State} {o : Origin} (hidx : s.shwIdx o.grp < shwSize (s.shwLvl o.grp)) :
    s.shwRead o = s.showBucket o.grp (s.bucket (s.shwLvl o.grp) (s.shwIdx o.grp)) :=
  if_neg (Nat.not_le.mpr hidx)

theorem State.word_showBucket_rate (s : State) (g : Nat) (b : Bucket) :
    (s.showBucket g b).word .TMG_SHW_DATA0 0 g = BitVec.ofNat 32 b.rateWord := by
  simp (disch := decide) only [State.showBucket, State.word_setWord_other, State.word_setWord]

theorem State.word_showBucket_burst (s : State) (g : Nat) (b : Bucket) :
    (s.showBucket g b).word .TMG_SHW_DATA2 0 g = BitVec.ofNat 32 b.burstWord := by
  simp (disch := decide) only [State.showBucket, State.word_setWord_other, State.word_setWord]

theorem State.word_showBucket_tokens (s : State) (g : Nat) (b : Bucket) :
    (s.showBucket g b).word .TMG_SHW_DATA3 0 g = BitVec.ofInt 32 (b.tokens / 8) := by
  simp (disch := decide) only [State.showBucket, State.word_setWord_other, State.word_setWord]

theorem bits_rateWord (b : Bucket) : bits (BitVec.ofNat 32 b.rateWord) 19 0 = b.cfg.1 % 2 ^ 20 := by
  rw [bits_ofNat _ _ (by decide) (by decide)]
  simp only [Bucket.rateWord, fw, Nat.reduceAdd, Nat.reduceSub, Nat.reducePow]
  omega

theorem bits_burstWord (b : Bucket) : bits (BitVec.ofNat 32 b.burstWord) 15 0 = b.cfg.2.1 % 2 ^ 16 := by
  rw [bits_ofNat _ _ (by decide) (by decide)]
  simp only [Bucket.burstWord, fw, Nat.reduceAdd, Nat.reduceSub, Nat.reducePow]
  omega

theorem State.onlyWords_showBucket (s : State) (g : Nat) (b : Bucket) :
    s.onlyWords (s.showBucket g b) [.TMG_SHW_CMD, .TMG_SHW_DATA0, .TMG_SHW_DATA1, .TMG_SHW_DATA2, .TMG_SHW_DATA3, .TMG_SHW_DATA4,
      .TMG_SHW_DATA5, .TMG_SHW_DATA6] g = true := by
  unfold State.showBucket
  iterate 7 refine State.onlyWords_setWord ?_ (by decide) (by decide) _
  exact State.onlyWords_cmdErr s (by decide) g 0

/-- The epoch that the shaper window of copy g holds. -/
def State.shwEpoch (s : State) (g : Nat) : Int :=
  timeSNs (s.fld F.TMG_SHW_DATA5_EPOCH_S 0 g * 2 ^ 32 + (s.word .TMG_SHW_DATA4 0 g).toNat) (s.fld F.TMG_SHW_DATA6_EPOCH_NS 0 g)

/-- Settings in range, for an epoch to come where they wait for one, are held for their bucket. -/
theorem State.shwWrite_held {s : State} {o : Origin} (epoch : Bool) (hmain : o.main = true)
    (hidx : s.shwIdx o.grp < shwSize (s.shwLvl o.grp))
    (hok : shwOk (s.shwLvl o.grp) (s.word .TMG_SHW_DATA0 0 o.grp) (s.word .TMG_SHW_DATA1 0 o.grp) (s.word .TMG_SHW_DATA2 0 o.grp) =
      true)
    (hepoch : epoch = true → s.fld F.TMG_SHW_DATA6_EPOCH_NS 0 o.grp < 1000000000 ∧ s.timeT < s.shwEpoch o.grp) :
    s.shwWrite o epoch = (s.cmdErr .TMG_SHW_CMD o.grp 0).holdBucket (s.shwLvl o.grp) (s.shwIdx o.grp)
      (s.word .TMG_SHW_DATA0 0 o.grp) (s.word .TMG_SHW_DATA1 0 o.grp) (s.word .TMG_SHW_DATA2 0 o.grp)
      (if epoch then some (s.shwEpoch o.grp) else none) := by
  have hns : (epoch && decide (1000000000 ≤ s.fld F.TMG_SHW_DATA6_EPOCH_NS 0 o.grp)) = false := by
    cases epoch with
    | false => rfl
    | true => exact decide_eq_false (Nat.not_le.mpr (hepoch rfl).1)
  have hpast : (epoch && decide (s.shwEpoch o.grp ≤ s.timeT)) = false := by
    cases epoch with
    | false => rfl
    | true => exact decide_eq_false (Int.not_le.mpr (hepoch rfl).2)
  unfold State.shwEpoch at hpast ⊢
  rw [State.shwWrite, State.tmgWrite_permitted _ hmain (decide_eq_true hidx)]
  simp (disch := decide) only [State.shwIdx, State.word_cmdErr_other, State.fld_cmdErr_other, State.timeT_cmdErr, hok, hns, hpast,
    Bool.not_true, Bool.or_self, Bool.false_eq_true, if_false]

/-! ## Queues (R167, R174) -/

/-- DATA0 of a queue read: QLIMIT and YLIMIT. -/
def Queue.limitWord (q : Queue) : Nat := fw 31 16 q.qlimit + fw 15 0 q.ylimit

/-- The queue window of copy g shows queue k. -/
def State.showQueue (s : State) (g k : Nat) : State :=
  (((s.cmdErr .TMG_QW_CMD g 0).setWord .TMG_QW_DATA0 (BitVec.ofNat 32 (s.queue k).limitWord) 0 g).setWord
    .TMG_QW_DATA1 (BitVec.ofNat 32 (s.fill k / 1024 % 2 ^ 28)) 0 g).setWord .TMG_QW_DATA2
    (BitVec.ofNat 32 (s.queue k).frames.length) 0 g

theorem State.qwRead_eq (s : State) (o : Origin) : s.qwRead o = s.showQueue o.grp (s.fld F.TMG_QW_IDX_QUEUE 0 o.grp) := rfl

theorem State.word_showQueue_limits (s : State) (g k : Nat) :
    (s.showQueue g k).word .TMG_QW_DATA0 0 g = BitVec.ofNat 32 (s.queue k).limitWord := by
  simp (disch := decide) only [State.showQueue, State.word_setWord_other, State.word_setWord]

theorem State.word_showQueue_fill (s : State) (g k : Nat) :
    (s.showQueue g k).word .TMG_QW_DATA1 0 g = BitVec.ofNat 32 (s.fill k / 1024 % 2 ^ 28) := by
  simp (disch := decide) only [State.showQueue, State.word_setWord_other, State.word_setWord]

theorem State.word_showQueue_frames (s : State) (g k : Nat) :
    (s.showQueue g k).word .TMG_QW_DATA2 0 g = BitVec.ofNat 32 (s.queue k).frames.length :=
  State.word_setWord ..

theorem bits_limitWord_qlimit (q : Queue) : bits (BitVec.ofNat 32 q.limitWord) 31 16 = q.qlimit % 2 ^ 16 := by
  rw [bits_ofNat _ _ (by decide) (by decide)]
  simp only [Queue.limitWord, fw, Nat.reduceAdd, Nat.reduceSub, Nat.reducePow]
  omega

theorem bits_limitWord_ylimit (q : Queue) : bits (BitVec.ofNat 32 q.limitWord) 15 0 = q.ylimit % 2 ^ 16 := by
  rw [bits_ofNat _ _ (by decide) (by decide)]
  simp only [Queue.limitWord, fw, Nat.reduceAdd, Nat.reduceSub, Nat.reducePow]
  omega

theorem State.onlyWords_showQueue (s : State) (g k : Nat) :
    s.onlyWords (s.showQueue g k) [.TMG_QW_CMD, .TMG_QW_DATA0, .TMG_QW_DATA1, .TMG_QW_DATA2] g = true := by
  unfold State.showQueue
  iterate 3 refine State.onlyWords_setWord ?_ (by decide) (by decide) _
  exact State.onlyWords_cmdErr s (by decide) g 0

theorem State.qwWrite_main {s : State} {o : Origin} (hmain : o.main = true) :
    s.qwWrite o = (s.cmdErr .TMG_QW_CMD o.grp 0).setQueue (s.fld F.TMG_QW_IDX_QUEUE 0 o.grp)
      { s.queue (s.fld F.TMG_QW_IDX_QUEUE 0 o.grp) with
        qlimit := s.fld F.TMG_QW_DATA0_QLIMIT 0 o.grp, ylimit := s.fld F.TMG_QW_DATA0_YLIMIT 0 o.grp } := by
  rw [State.qwWrite, State.tmgWrite_permitted _ hmain rfl]
  simp (disch := decide) only [State.fld_cmdErr_other, State.queue_cmdErr]

/-! ## Policers (R166, R174) -/

/-- DATA0 of a policer read: EN, RED_ACT and CIR. -/
def Policer.rateWord (p : Policer) : Nat := fw 31 31 (b2n p.en) + fw 30 30 (b2n p.redAct) + fw 19 0 p.cir

/-- The policer window of copy g shows a policer. -/
def State.showPolicer (s : State) (g : Nat) (p : Policer) : State :=
  (((s.cmdErr .TMG_POLW_CMD g 0).setWord .TMG_POLW_DATA0 (BitVec.ofNat 32 p.rateWord) 0 g).setWord
    .TMG_POLW_DATA1 (BitVec.ofNat 32 p.pir) 0 g).setWord .TMG_POLW_DATA2 (BitVec.ofNat 32 (fw 31 16 p.pbs + fw 15 0 p.cbs)) 0 g

theorem State.polwRead_eq (s : State) (o : Origin) :
    s.polwRead o = s.showPolicer o.grp (s.policer (s.fld F.TMG_POLW_IDX_POLICER 0 o.grp)) := rfl

theorem State.word_showPolicer_rate (s : State) (g : Nat) (p : Policer) :
    (s.showPolicer g p).word .TMG_POLW_DATA0 0 g = BitVec.ofNat 32 p.rateWord := by
  simp (disch := decide) only [State.showPolicer, State.word_setWord_other, State.word_setWord]

theorem State.word_showPolicer_pir (s : State) (g : Nat) (p : Policer) :
    (s.showPolicer g p).word .TMG_POLW_DATA1 0 g = BitVec.ofNat 32 p.pir := by
  simp (disch := decide) only [State.showPolicer, State.word_setWord_other, State.word_setWord]

theorem bits_policerRate_en (p : Policer) : bits (BitVec.ofNat 32 p.rateWord) 31 31 = b2n p.en := by
  have hen := b2n_lt p.en
  rw [bits_ofNat _ _ (by decide) (by decide)]
  simp only [Policer.rateWord, fw, Nat.reduceAdd, Nat.reduceSub, Nat.reducePow]
  omega

theorem bits_policerRate_cir (p : Policer) : bits (BitVec.ofNat 32 p.rateWord) 19 0 = p.cir % 2 ^ 20 := by
  rw [bits_ofNat _ _ (by decide) (by decide)]
  simp only [Policer.rateWord, fw, Nat.reduceAdd, Nat.reduceSub, Nat.reducePow]
  omega

theorem State.onlyWords_showPolicer (s : State) (g : Nat) (p : Policer) :
    s.onlyWords (s.showPolicer g p) [.TMG_POLW_CMD, .TMG_POLW_DATA0, .TMG_POLW_DATA1, .TMG_POLW_DATA2] g = true := by
  unfold State.showPolicer
  iterate 3 refine State.onlyWords_setWord ?_ (by decide) (by decide) _
  exact State.onlyWords_cmdErr s (by decide) g 0

/-- A policer takes rates and bursts in order. -/
theorem State.polwWrite_ok {s : State} {o : Origin} (hmain : o.main = true)
    (hok : polOk (s.word .TMG_POLW_DATA0 0 o.grp) (s.word .TMG_POLW_DATA1 0 o.grp) (s.word .TMG_POLW_DATA2 0 o.grp) = true) :
    s.polwWrite o = (s.cmdErr .TMG_POLW_CMD o.grp 0).setPolicer (s.fld F.TMG_POLW_IDX_POLICER 0 o.grp)
      ((s.policer (s.fld F.TMG_POLW_IDX_POLICER 0 o.grp)).load (s.word .TMG_POLW_DATA0 0 o.grp) (s.word .TMG_POLW_DATA1 0 o.grp)
        (s.word .TMG_POLW_DATA2 0 o.grp)) := by
  rw [State.polwWrite, State.tmgWrite_permitted _ hmain rfl]
  simp (disch := decide) only [State.fld_cmdErr_other, State.word_cmdErr_other, State.policer_cmdErr, hok, if_true]

/-! ## Gate lists (R170, R174) -/

/-- Inside a presence window an admin entry takes an interval in its range. -/
theorem State.gcwWrite_present {s : State} {o : Origin} (hpres : s.presence = true)
    (hlo : 256 ≤ s.fld F.TMG_GCW_DATA1_INTERVAL_NS 0 o.grp) (hhi : s.fld F.TMG_GCW_DATA1_INTERVAL_NS 0 o.grp ≤ 1000000000) :
    s.gcwWrite o = (s.cmdErr .TMG_GCW_CMD o.grp 0).setAdm (s.fld F.TMG_GCW_IDX_PORT 0 o.grp) (s.fld F.TMG_GCW_IDX_ENTRY 0 o.grp)
      (BitVec.ofNat 8 (s.fld F.TMG_GCW_DATA0_GATES 0 o.grp), s.fld F.TMG_GCW_DATA1_INTERVAL_NS 0 o.grp) := by
  simp only [State.gcwWrite, ivalOk, hpres, hlo, hhi, decide_true, Bool.and_self, Bool.not_true, Bool.false_eq_true, if_false,
    if_true]

theorem State.configChange_present {s : State} (o : Origin) (p : Nat) (hpres : s.presence = true) :
    s.configChange o p = s.gateConfig p :=
  if_pos hpres

/-- A port under its pending gate list. -/
def GatePort.operating (q : GatePort) (l : GateList) : GatePort := { q with oper := some l, pend := none }

/-- A gate list whose time has come operates. -/
theorem State.gateChange_due {s : State} {p : Nat} {l : GateList} {t : Int} (hpend : (s.gatePort p).pend = some (l, t))
    (hdue : t ≤ s.timeT) :
    s.gateChange p = (s.setGatePort p { (s.gatePort p).operating l with
      entry := (((s.gatePort p).operating l).now s.timeT).1
      gates := (((s.gatePort p).operating l).now s.timeT).2 }).setInt .TMG_INT_STAT 3 := by
  simp only [State.gateChange, hpend, Int.not_lt.mpr hdue, if_false]
  rfl

/-! ## Launch times (R172, R173) -/

/-- The head of a host port's privileged queue, due within the launch lead, lets its port select. -/
theorem State.launchDue_due {s : State} {n k : Nat} {f : Frame} (hk : k < 2) (hhead : s.pqHead n k = some f)
    (hdue : f.launch.all (fun t => decide (t - launchLead ≤ s.timeT)) = true) : s.launchDue n k = s.selectTx n := by
  simp only [State.launchDue, Nat.mod_eq_of_lt hk, hhead]
  split
  next t hl =>
    rw [hl, Option.all_some, decide_eq_true_eq] at hdue
    exact if_neg (Int.not_lt.mpr hdue)
  next => rfl

/-- A line port's frame may be released: its time has come, or it has none. -/
def State.dueAtRelease (s : State) (f : Frame) : Bool :=
  match f.launch with
  | some t => decide (t - lineLead ≤ s.timeT)
  | none => true

/-- A line port's frame would be released later than LATE_NS after its time. -/
def State.lateAtRelease (s : State) (x : Nat) (f : Frame) : Bool :=
  match f.launch with
  | some t => decide (t - lineLead + s.lateNs x < s.timeT)
  | none => false

theorem State.dueAtRelease_eq_all (s : State) (f : Frame) :
    s.dueAtRelease f = f.launch.all (fun t => decide (t - lineLead ≤ s.timeT)) := by
  unfold State.dueAtRelease
  cases f.launch <;> rfl

theorem State.lateAtRelease_eq_any (s : State) (x : Nat) (f : Frame) :
    s.lateAtRelease x f = f.launch.any (fun t => decide (t - lineLead + s.lateNs x < s.timeT)) := by
  unfold State.lateAtRelease
  cases f.launch <;> rfl

/-- A frame that is late for the first time is counted. -/
def State.noteFirstLate (s : State) (x : Nat) (f : Frame) (late : Bool) : State :=
  if late && !f.lateCnt then s.noteLate x else s

/-- A frame on its way into stage 2. -/
def Frame.released (f : Frame) (late : Bool) : Frame := { f with stage := .fifo, pages := [], lateCnt := f.lateCnt || late }

/-- Frame f of privileged queue k of line port x leaves it and is classified. -/
def State.releaseFrame (s : State) (x k : Nat) (f : Frame) (late : Bool) : State :=
  (((s.noteFirstLate x f late).unqueue (privQueue x k) f).setFrame (f.released late)).classifyEnc (f.released late)

/-- A launch frame not yet counted late that its SA, which is not hot, or frames before it in its queue keep. -/
def State.keptWaiting (s : State) (g : Frame) : Bool :=
  let cold := match s.curSa g.secy with
    | some a => !(s.sa a).hot
    | none => true
  g.launch.isSome && !g.lateCnt && (cold || !(s.queue g.queue).frames.isEmpty)

/-- A released frame that is kept back is counted late. -/
def State.noteKeptBack (s : State) (x id : Nat) : State :=
  match s.frame? id with
  | some g => if s.keptWaiting g then (s.setFrame { g with lateCnt := true }).noteLate x else s
  | none => s

/-- What becomes of the head of a line port's privileged queue at its release. -/
def State.releaseHead (s : State) (x k : Nat) (f : Frame) : State :=
  if !s.dueAtRelease f then s
  else if s.poisoned f then (s.dropFrame f).count .cel 0 (f.pages.headD 0 / 2 ^ 30) 12
  else if s.lateAtRelease x f && s.flag F.TMG_PORT_CFG_LATE_DROP x then
    ((s.noteFirstLate x f (s.lateAtRelease x f)).dropFrame f 2).count .tmg 2 x 2
  else (s.releaseFrame x k f (s.lateAtRelease x f)).noteKeptBack x f.id

/-- A release is what becomes of the head of the queue. -/
theorem State.launchRelease_head {s : State} {n k : Nat} {f : Frame} (hk : k < 2) (hhead : s.pqHead (64 + n) k = some f) :
    s.launchRelease n k = s.releaseHead (64 + n) k f := by
  simp only [State.launchRelease, Nat.mod_eq_of_lt hk, hhead]
  rfl

/-- A due frame that is not dropped is released. -/
theorem State.releaseHead_released {s : State} {x k : Nat} {f : Frame} {late : Bool} (hdue : s.dueAtRelease f = true)
    (hlate : s.lateAtRelease x f = late) (hgood : s.poisoned f = false)
    (hkeep : late = false ∨ s.flag F.TMG_PORT_CFG_LATE_DROP x = false) :
    s.releaseHead x k f = (s.releaseFrame x k f late).noteKeptBack x f.id := by
  have hdrop : (late && s.flag F.TMG_PORT_CFG_LATE_DROP x) = false := by
    rcases hkeep with h | h <;> simp [h]
  simp only [State.releaseHead, hdue, hlate, hgood, hdrop, Bool.not_true, Bool.false_eq_true, if_false]

/-- Under LATE_DROP a late frame is dropped. -/
theorem State.releaseHead_dropped {s : State} {x : Nat} {f : Frame} (k : Nat) (hdue : s.dueAtRelease f = true)
    (hlate : s.lateAtRelease x f = true) (hgood : s.poisoned f = false) (hflag : s.flag F.TMG_PORT_CFG_LATE_DROP x = true) :
    s.releaseHead x k f = ((if f.lateCnt then s else s.noteLate x).dropFrame f 2).count .tmg 2 x 2 := by
  have hnote : s.noteFirstLate x f true = if f.lateCnt then s else s.noteLate x := by
    cases h : f.lateCnt <;> simp [State.noteFirstLate, h]
  simp only [State.releaseHead, hdue, hgood, hlate, hflag, hnote, Bool.not_true, Bool.and_self, Bool.false_eq_true, if_false,
    if_true]

/-- A head past its time plus LATE_NS is counted late once, and dropped under LATE_DROP. -/
theorem State.launchLate_first {s : State} {p k : Nat} {f : Frame} {t : Int} (hk : k < 2)
    (hhead : s.pqHead p k = some f) (hl : f.launch = some t)
    (hlate : (if p < 64 then t else t - lineLead) + s.lateNs p < s.timeT) (hfirst : f.lateCnt = false) :
    s.launchLate p k = if s.flag F.TMG_PORT_CFG_LATE_DROP p then ((s.dropFrame f 2).count .tmg 2 p 2).noteLate p
      else (s.setFrame { f with lateCnt := true }).noteLate p := by
  have hnow : ¬(s.timeT ≤ (if p < 64 then t else t - lineLead) + s.lateNs p ∨ f.lateCnt = true) := by
    rw [hfirst]
    exact fun h => h.elim (Int.not_le.mpr hlate) Bool.false_ne_true
  simp only [State.launchLate, Nat.mod_eq_of_lt hk, hhead]
  split
  next hnone => cases hl.symm.trans hnone
  next u hsome =>
    cases hl.symm.trans hsome
    exact if_neg hnow

/-! ## PTP departures (R212) -/

/-- An event frame whose departure has passed is dropped before its commit point. -/
theorem State.ptpMissed_gone {s : State} {id : Nat} {f : Frame} {d : Int} (hf : s.frame? id = some f) (hl : f.launch = some d)
    (hgone : d + 131072 < s.timeT + launchLead) (hdep : f.ptpDep = true) (hstage : f.stage ≠ .committed) :
    s.ptpMissed id = ((s.dropFrame f 2).count .tim 0 0 2).setInt .TIM_INT_STAT 6 := by
  have hbefore : (f.stage != .committed) = true := bne_iff_ne.mpr hstage
  simp only [State.ptpMissed, hf, hl, hgone, hdep, hbefore, decide_true, Bool.and_self, if_true]

/-! ## The commands -/

/-- Settles O37: each window command by its operation's own rule once the ACU grants the write, each event by what it finds due. -/
theorem trafficManagerCommandsComplete : Obligations.TrafficManagerCommandsComplete := by
  refine ⟨?refill, ?shwRead, ?shwWrite, ?shwEpoch, ?qwRead, ?qwWrite, ?polwRead, ?polwWrite, ?gcwRead, ?gcwWrite, ?config, ?change,
    ?advance, ?due, ?release, ?releaseLate, ?late, ?departure⟩
  case refill => exact fun s => rfl
  case shwRead =>
    intro s o hg hidx
    have honly := State.onlyWords_showBucket s o.grp (s.bucket (s.shwLvl o.grp) (s.shwIdx o.grp))
    refine ⟨_, exec_of_granted_effect (c := .shwRead o) rfl hg (State.shwRead_inRange hidx), State.word_showBucket_tokens .., ?rate,
      ?burst, State.tmg_of_onlyWords honly, honly⟩
    case rate => rw [State.word_showBucket_rate, bits_rateWord]
    case burst => rw [State.word_showBucket_burst, bits_burstWord]
  case shwWrite =>
    exact fun s o hg hmain hidx hok =>
      exec_of_granted_effect (c := .shwWrite o) rfl hg (State.shwWrite_held false hmain hidx hok nofun)
  case shwEpoch =>
    exact fun s o hg hmain hidx hok hns hfuture =>
      exec_of_granted_effect (c := .shwWriteAtEpoch o) rfl hg (State.shwWrite_held true hmain hidx hok fun _ => ⟨hns, hfuture⟩)
  case qwRead =>
    intro s o hg
    have honly := State.onlyWords_showQueue s o.grp (s.fld F.TMG_QW_IDX_QUEUE 0 o.grp)
    refine ⟨_, exec_of_granted_effect (c := .qwRead o) rfl hg (State.qwRead_eq s o), ?qlimit, ?ylimit, State.word_showQueue_fill ..,
      ?frames, State.tmg_of_onlyWords honly, honly⟩
    case qlimit => rw [State.word_showQueue_limits, bits_limitWord_qlimit]
    case ylimit => rw [State.word_showQueue_limits, bits_limitWord_ylimit]
    case frames => rw [State.word_showQueue_frames, BitVec.toNat_ofNat]
  case qwWrite =>
    exact fun s o hg hmain => exec_of_granted_effect (c := .qwWrite o) rfl hg (State.qwWrite_main hmain)
  case polwRead =>
    intro s o hg
    have honly := State.onlyWords_showPolicer s o.grp (s.policer (s.fld F.TMG_POLW_IDX_POLICER 0 o.grp))
    refine ⟨_, exec_of_granted_effect (c := .polwRead o) rfl hg (State.polwRead_eq s o), ?en, ?cir, State.word_showPolicer_pir ..,
      State.tmg_of_onlyWords honly, honly⟩
    case en => rw [State.word_showPolicer_rate, bits_policerRate_en]
    case cir => rw [State.word_showPolicer_rate, bits_policerRate_cir]
  case polwWrite =>
    exact fun s o hg hmain hok => exec_of_granted_effect (c := .polwWrite o) rfl hg (State.polwWrite_ok hmain hok)
  case gcwRead => exact fun s o hg => exec_of_granted_effect (c := .gcwRead o) rfl hg rfl
  case gcwWrite =>
    exact fun s o hg hpres hlo hhi =>
      exec_of_granted_effect (c := .gcwWrite o) rfl hg (State.gcwWrite_present hpres hlo hhi)
  case config =>
    exact fun s o port hg hpres =>
      exec_of_granted_effect (c := .configChange o port) rfl hg (State.configChange_present o _ hpres)
  case change => exact fun s port l t hpend hdue => exec_of_effect rfl (State.gateChange_due hpend hdue)
  case advance => exact fun s port => rfl
  case due =>
    exact fun s port k f hhead hdue =>
      exec_of_effect rfl (congrArg State.pumpAll (State.launchDue_due (Nat.mod_lt k Nat.two_pos) hhead hdue))
  case release =>
    exact fun s port k f hhead hdue hgood hkeep =>
      exec_of_effect rfl (congrArg State.pumpAll ((State.launchRelease_head (Nat.mod_lt k Nat.two_pos) hhead).trans
        (State.releaseHead_released ((s.dueAtRelease_eq_all f).trans hdue) (s.lateAtRelease_eq_any _ f) hgood hkeep)))
  case releaseLate =>
    exact fun s port k f hhead hlate hdue hgood hflag =>
      exec_of_effect rfl (congrArg State.pumpAll ((State.launchRelease_head (Nat.mod_lt k Nat.two_pos) hhead).trans
        (State.releaseHead_dropped _ ((s.dueAtRelease_eq_all f).trans hdue) ((s.lateAtRelease_eq_any _ f).trans hlate) hgood
          hflag)))
  case late =>
    exact fun s port k f t hhead hl hlate hfirst =>
      exec_of_effect rfl (congrArg State.pumpAll (State.launchLate_first (Nat.mod_lt k Nat.two_pos) hhead hl hlate hfirst))
  case departure =>
    exact fun s frame f d hf hl hgone hdep hstage =>
      exec_of_effect rfl (congrArg State.pumpAll (State.ptpMissed_gone hf hl hgone hdep hstage))

end Sys2Proof.Machine
end

section
/-!
PROOFS. The cellar's lines (09): a read is issued and returns; a write of a whole line follows its region's protection, one of fewer
octets merges first (R180, R184, R187, R189).
-/

namespace Sys2Proof.Machine

/-! ## Line reads (R184, R189) -/

/-- Line a is among the reads in progress. -/
def State.issueRead (s : State) (a : Nat) : State := { s with cel := { s.cel with reads := s.cel.reads ++ [a] } }

/-- The cache is asked for the tag line of line a and the node lines of its path. -/
def State.askPath (s : State) (a : Nat) : State :=
  [1, 2, 3, 4, 5, 6].foldl (fun (t : State) h => t.celHit (hAddr (lineStk a) h (lineIdx a / 8 ^ h)))
    (s.celHit (tagAddr (lineStk a) (lineIdx a)))

theorem State.lineRead_issued {s : State} {a : Nat} {r : Region} (hr : s.region? a = some r) (hk : s.cel.keys.isNone = false)
    (hup : s.stkUp (lineStk a) = true) :
    s.lineRead a = if s.prot r.kind = 0 then (s.issueRead a).askPath a else s.issueRead a := by
  simp only [State.lineRead, hr, hk, hup, Bool.not_true, Bool.or_self, Bool.false_eq_true, if_false]
  rfl

theorem State.lineRead_refused {s : State} {a : Nat}
    (h : s.region? a = none ∨ s.cel.keys.isNone = true ∨ s.stkUp (lineStk a) = false) : s.lineRead a = s := by
  unfold State.lineRead
  split
  next => rfl
  next r hr =>
    have hclosed : (s.cel.keys.isNone || !s.stkUp (lineStk a)) = true := by
      rcases h with h | h | h
      · cases h.symm.trans hr
      · rw [h, Bool.true_or]
      · rw [h, Bool.not_false, Bool.or_true]
    exact if_pos hclosed

/-- Read a leaves the reads in progress with its result. -/
def State.endRead (s : State) (a : Nat) (w : Option (BitVec 512)) : State :=
  { s with cel := { s.cel with reads := s.cel.reads.erase a, result := w } }

theorem State.readComplete_issued {s : State} {a : Nat} (seen : List LineSeen) (h : s.cel.reads.contains a = true) :
    s.readComplete a seen = if (s.readData seen a).2.1 = PathRes.waiting then (s.readData seen a).1.celTidy
      else ((s.readData seen a).1.endRead a (s.readData seen a).2.2).celTidy := by
  simp only [State.readComplete, h, Bool.not_true, Bool.false_eq_true, if_false, beq_iff_eq]
  rfl

theorem State.readComplete_unissued {s : State} {a : Nat} (seen : List LineSeen) (h : s.cel.reads.contains a = false) :
    s.readComplete a seen = s := by
  simp only [State.readComplete, h, Bool.not_false, if_true]

/-! ## Line writes (R180, R184, R187) -/

/-- The path of line a comes into the cache for a write. -/
def State.writePath (s : State) (seen : List LineSeen) (a : Nat) : State × PathRes :=
  (((s.obsEvent .cellar 4 1 (lineStk a)).celHit (tagAddr (lineStk a) (lineIdx a))).celHit
    (hAddr (lineStk a) 1 (lineIdx a / 8))).fetchPath seen (lineStk a) (lineIdx a) 6 6

/-- The tag line of line a is read, its poison ends, and it draws a new version. -/
def State.drawVer (s : State) (seen : List LineSeen) (a : Nat) : Nat × State :=
  ((s.readTag seen (lineStk a) (lineIdx a)).1.unpoison a 1).newVer (lineStk a)

/-- What a line is stored as under version v. -/
def State.encrypted (s : State) (ks : Bool) (a v : Nat) (w : BitVec 512) : BitVec 512 :=
  if ks then s.keystream a v w else s.native true a v w

/-- The stored line x takes its tag and its version in the cache, where both are dirty. -/
def State.tagged (s : State) (a v : Nat) (x : BitVec 512) : State :=
  (s.dirty64 (tagAddr (lineStk a) (lineIdx a))
    (setSlot (s.metaLine (tagAddr (lineStk a) (lineIdx a))) (lineIdx a % 8) (s.lineTag a v 0 x))).setVer (lineStk a) 0 (lineIdx a) v

/-- Line a is stored encrypted and tagged under version v. -/
def State.sealLine (s : State) (ks : Bool) (a v : Nat) (w : BitVec 512) : State :=
  (s.storeLine a (s.encrypted ks a v w)).tagged a v (s.encrypted ks a v w)

theorem State.putData_encInt {s : State} {seen : List LineSeen} {a : Nat} {r : Region} (w : BitVec 512)
    (hr : s.region? a = some r) (hk : s.cel.keys.isNone = false) (hup : s.stkUp (lineStk a) = true) (hp : s.prot r.kind = 0)
    (hpath : (s.writePath seen a).2 ≠ .waiting) (hstk : ((s.writePath seen a).1.stk (lineStk a)).mode ≠ .lost) :
    s.putData seen a w = (((s.writePath seen a).1.drawVer seen a).2.sealLine (s.ksMode r.kind) a
      ((s.writePath seen a).1.drawVer seen a).1 w, true) := by
  have hwait : ((s.writePath seen a).2 == PathRes.waiting) = false := beq_eq_false_iff_ne.mpr hpath
  have hlost : (((s.writePath seen a).1.stk (lineStk a)).mode == StkMode.lost) = false := beq_eq_false_iff_ne.mpr hstk
  unfold State.writePath at hwait hlost ⊢
  simp only [State.putData, hr, hk, hup, hp, hwait, hlost, Bool.not_true, Bool.or_self, Bool.false_eq_true, if_false]
  rfl

theorem State.putData_enc {s : State} {a : Nat} {r : Region} (seen : List LineSeen) (w : BitVec 512) (hr : s.region? a = some r)
    (hk : s.cel.keys.isNone = false) (hup : s.stkUp (lineStk a) = true) (hp : s.prot r.kind = 1) :
    s.putData seen a w = (((s.obsEvent .cellar 4 1 (lineStk a)).unpoison a 1).storeLine a
      ((s.obsEvent .cellar 4 1 (lineStk a)).native true a 0 w), true) := by
  simp only [State.putData, hr, hk, hup, hp, Bool.not_true, Bool.or_self, Bool.false_eq_true, if_false]

theorem State.putData_none {s : State} {a : Nat} {r : Region} (seen : List LineSeen) (w : BitVec 512) (hr : s.region? a = some r)
    (hk : s.cel.keys.isNone = false) (hup : s.stkUp (lineStk a) = true) (hp : 2 ≤ s.prot r.kind) :
    s.putData seen a w = (((s.obsEvent .cellar 4 1 (lineStk a)).unpoison a 1).storeLine a w, true) := by
  simp only [State.putData, hr, hk, hup, Bool.not_true, Bool.or_self, Bool.false_eq_true, if_false]
  split
  next h => omega
  next h => omega
  next => rfl

theorem State.maskWrite_full (s : State) (a : Nat) (w : BitVec 512) (seen : List LineSeen) :
    s.maskWrite a w (BitVec.allOnes 64) seen = s.celWrite a w seen := if_pos rfl

/-- A write of fewer octets reads and verifies, then writes the merged line; without the old line nothing is merged. -/
theorem State.maskWrite_part {s : State} {a : Nat} {mask : W64} (w : BitVec 512) (seen : List LineSeen) (h : mask ≠ BitVec.allOnes 64) :
    s.maskWrite a w mask seen = match ((s.count .cel 0 (lineStk a) 2).readData seen a).2.2 with
      | some old => ((s.count .cel 0 (lineStk a) 2).readData seen a).1.celWrite a (mergeOct old w mask) seen
      | none => ((s.count .cel 0 (lineStk a) 2).readData seen a).1.celTidy := by
  simp only [State.maskWrite, h, if_false]
  rcases State.readData _ _ _ with ⟨t, p, _ | old⟩ <;> rfl

end Sys2Proof.Machine
end

section
/-!
PROOFS. The cellar's own commands on its lines (09): restored nodes, the write-back of dirty lines, the flush of the counters, the
patrol scrub. The lines that counters stand in are the model's choice (log entry 17).
-/

namespace Sys2Proof.Machine

/-! ## Restored nodes (R183, R190) -/

/-- Line a stands in its stack and in the cache with the content w of its copy. -/
def State.refill (s : State) (a : Nat) (w : BitVec 512) : State :=
  (s.storeLine a w (s.cel.check.look s.checkDef a)).fill64 a w

/-- Line a awaits no restore and is no longer bad. -/
def State.mended (s : State) (a : Nat) : State :=
  { s with cel := { s.cel with restore := s.cel.restore.filter (fun x => x != a), badOnce := s.cel.badOnce.filter (fun x => x != a) } }

/-- A node whose copy is good and fits its parent takes the copy's content. -/
theorem State.restoreLine_good {s : State} {a h n c : Nat} {seen : List LineSeen} {w : BitVec 512}
    (hkind : lineKind (lineIdx a) = .node h n) (hneed : s.cel.restore.contains a = true)
    (hcopy : s.copyAddr (lineStk a) (lineIdx a) = some c) (hread : (s.readData seen c).2 = (.ok, some w))
    (htag : (s.readData seen c).1.lineTag a ((s.readData seen c).1.verOf (lineStk a) h n) 1 w =
      ((s.readData seen c).1.cel.check.look (s.readData seen c).1.checkDef a).toNat) :
    s.restoreLine a seen =
      ((((s.readData seen c).1.refill a w).mended a).count .cel 0 (lineStk a) 7).celEvt 2 (h - 1) a := by
  have hpair : s.readData seen c = ((s.readData seen c).1, .ok, some w) := Prod.ext rfl hread
  generalize (s.readData seen c).1 = t at hpair htag ⊢
  simp only [State.restoreLine, hkind, hneed, hcopy, hpair, htag, Bool.not_true, Bool.false_eq_true, if_false, if_true]
  rfl

theorem State.nodeRestored_die (s : State) (st i : Nat) (seen : List LineSeen) {level : Nat} (hlo : 6 ≤ level) (hhi : level ≤ 9) :
    s.nodeRestored (.die st level i) seen = s.dieRestore (st % 4) level i := if_pos ⟨hlo, hhi⟩

/-! ## Write-back and the counters (R185, R187) -/

theorem State.writeBack_dirty {s : State} {a : Nat} {t : List Nat} (h : s.cel.dirty = a :: t) :
    s.writeBack = (s.writeLine [] a).celTidy := by
  simp only [State.writeBack, h]

theorem State.writeBack_clean {s : State} (h : s.cel.dirty = []) : s.writeBack = s := by
  simp only [State.writeBack, h]

/-- The counters that stand in line l of CNT, with their values. -/
def State.lineCnts (s : State) (l : Nat) : List (Nat × W64) := s.cnts.filter (fun (e : Nat × W64) => cntLine e.1 == some l)

/-- Counters are flushed at the values given. -/
def State.noteFlushed (s : State) (c : List (Nat × W64)) : State :=
  c.foldl (fun (u : State) (e : Nat × W64) =>
    { u with cel := { u.cel with cntFlushed := u.cel.cntFlushed.put (fun _ => 0#64) e.1 e.2 } }) s

/-- The line that holds counters at their values. -/
def cntWord (c : List (Nat × W64)) : BitVec 512 := c.foldl (fun w (e : Nat × W64) => setSlot w (e.1 % 8) e.2.toNat) 0

/-- Line l of CNT is written, where it stands; its counters are flushed when it was. -/
def State.flushLine (s : State) (l : Nat) : State :=
  match placeOf s.cel.layout 2 l with
  | none => s
  | some a =>
    match s.putData [] a (cntWord (s.lineCnts l)) with
    | (t, true) => (t.noteFlushed (s.lineCnts l)).celTidy
    | (t, false) => t.celTidy

theorem State.counterFlush_eq (s : State) :
    s.counterFlush = (s.flushKeys.filterMap cntLine).eraseDups.foldl State.flushLine s := by
  unfold State.counterFlush
  dsimp only
  congr 1
  funext t l
  unfold State.flushLine
  cases placeOf t.cel.layout 2 l with
  | none => rfl
  | some a =>
    dsimp only [State.lineCnts, State.noteFlushed, cntWord]
    rcases State.putData _ _ _ _ with ⟨u, _ | _⟩ <;> rfl

/-! ## The patrol scrub (R192) -/

/-- Line a has to be read again: it no longer stands in the cache. -/
def State.uncached (s : State) (a : Nat) : State := { s with cel := { s.cel with used := s.cel.used.filter (fun x => x != a) } }

theorem State.scrub_data {s : State} {a d : Nat} {r : Region} (seen : List LineSeen) (hk : s.cel.keys.isNone = false)
    (hup : s.stkUp (lineStk a) = true) (hkind : lineKind (lineIdx a) = .data d) (hr : s.region? a = some r) :
    s.scrub a seen = if 4 ≤ r.kind ∧ r.kind < 8 then (s.readData seen a).1.celTidy else s := by
  simp only [State.scrub, hk, hup, hkind, hr, Bool.not_true, Bool.or_self, Bool.false_eq_true, if_false]

theorem State.scrub_tag {s : State} {a t : Nat} (seen : List LineSeen) (hk : s.cel.keys.isNone = false)
    (hup : s.stkUp (lineStk a) = true) (hkind : lineKind (lineIdx a) = .tag t) (hclean : s.cel.dirty.contains a = false) :
    s.scrub a seen = ((s.uncached a).readTag seen (lineStk a) (t * 8)).1.celTidy := by
  simp only [State.scrub, hk, hup, hkind, hclean, Bool.not_true, Bool.or_self, Bool.false_eq_true, if_false]
  rfl

/-- Node n of height h is read and checked where its path is good. -/
def State.scrubNode (s : State) (seen : List LineSeen) (st h n : Nat) : State :=
  if (s.readPath seen st (n * 8 ^ h) (6 - h)).2 = PathRes.ok then
    ((s.readPath seen st (n * 8 ^ h) (6 - h)).1.readNode seen st h n).1
  else (s.readPath seen st (n * 8 ^ h) (6 - h)).1

/-- The last node line of a stack ends the pass. -/
def State.notePass (s : State) (a : Nat) : State := if lineIdx a = spareBase - 1 then s.count .cel 0 (lineStk a) 17 else s

theorem State.scrub_node {s : State} {a h n : Nat} (seen : List LineSeen) (hk : s.cel.keys.isNone = false)
    (hup : s.stkUp (lineStk a) = true) (hkind : lineKind (lineIdx a) = .node h n) (hclean : s.cel.dirty.contains a = false) :
    s.scrub a seen = (((s.uncached a).scrubNode seen (lineStk a) h n).notePass a).celTidy := by
  simp only [State.scrub, hk, hup, hkind, hclean, Bool.not_true, Bool.or_self, Bool.false_eq_true, if_false]
  unfold State.scrubNode State.uncached
  rcases State.readPath _ _ _ _ _ with ⟨u, _ | _ | _⟩ <;> rfl

theorem State.scrub_closed {s : State} {a : Nat} (seen : List LineSeen)
    (h : s.cel.keys.isNone = true ∨ s.stkUp (lineStk a) = false ∨ lineKind (lineIdx a) = .spare) : s.scrub a seen = s := by
  rcases h with h | h | h <;> simp only [State.scrub, h, Bool.true_or, Bool.not_false, Bool.or_true, if_true, ite_self]

end Sys2Proof.Machine
end

section
/-!
PROOFS. Stacks that come and go (09): what a mover takes off a draining stack, its last page, waking, copies, reloads of OVT. Where DIAG
and its lines go at a drain is the model's choice (log entry 16).
-/

namespace Sys2Proof.Machine

/-! ## Draining stacks (R168, R194, R195) -/

theorem State.pageMove_eq_moveFrame {s : State} {k g : Nat} {f : Frame} (seen : List LineSeen) (hm : (s.stk k).mode = .draining)
    (hf : s.frames.find? (fun f => f.pages.any (fun g => g / 2 ^ 30 == k)) = some f)
    (hg : f.pages.find? (fun g => g / 2 ^ 30 == k) = some g) : s.pageMove k seen = (s.moveFrame k g f seen).celTidy := by
  simp only [State.pageMove, hm, bne_self_eq_false, Bool.false_eq_true, if_false, hf, hg, Option.getD_some]

/-- Frame id holds page h where it held page g. -/
def State.swapPage (s : State) (id g h : Nat) : State :=
  { s with frames := s.frames.map (fun (x : Frame) =>
      if x.id == id then ({ x with pages := x.pages.map (fun y => if y == g then h else y) } : Frame) else x) }

theorem State.moveFrame_moved {s : State} {k g : Nat} {f : Frame} {p : Nat × State} {seen : List LineSeen}
    (hp : s.takePage 4 s.tmg.nextStk = some p)
    (hread : (p.2.moverRead seen (82 + g % 8) ((List.range 16).map (pageLine [g]))).2.1 = false) :
    s.moveFrame k g f seen =
      (((((p.2.moverRead seen (82 + g % 8) ((List.range 16).map (pageLine [g]))).1.moverWrite (82 + g % 8)
        (((List.range 16).map (pageLine [p.1])).zip (p.2.moverRead seen (82 + g % 8) ((List.range 16).map (pageLine [g]))).2.2)).swapPage
          f.id g p.1).giveBack [g]).count .cel 0 k 16).notePages := by
  obtain ⟨g1, s1⟩ := p
  dsimp only at hread ⊢
  rcases hmove : s1.moverRead seen (82 + g % 8) ((List.range 16).map (pageLine [g])) with ⟨t, wait, ws⟩
  obtain rfl : wait = false := by rwa [hmove] at hread
  simp only [State.moveFrame, hp, hmove, Bool.false_eq_true, if_false]
  rfl

theorem State.pageMove_full {s : State} {k : Nat} {f : Frame} (seen : List LineSeen) (hm : (s.stk k).mode = .draining)
    (hf : s.frames.find? (fun f => f.pages.any (fun g => g / 2 ^ 30 == k)) = some f)
    (hp : (s.takePage 4 s.tmg.nextStk).isNone = true) : s.pageMove k seen = s.shedOldest.celTidy := by
  simp only [State.pageMove, State.moveFrame, hm, bne_self_eq_false, Bool.false_eq_true, if_false, hf, Option.isNone_iff_eq_none.mp hp]

/-- No frame holds a page of stack k. -/
theorem State.find?_page_none {s : State} {k : Nat}
    (h : s.frames.all (fun f => f.pages.all (fun g => g / 2 ^ 30 != k)) = true) :
    s.frames.find? (fun f => f.pages.any (fun g => g / 2 ^ 30 == k)) = none := by
  simpa [List.find?_eq_none] using h

theorem State.pageMove_eq_moveRegion {s : State} {k n : Nat} {r : Region} (seen : List LineSeen) (hm : (s.stk k).mode = .draining)
    (hf : s.frames.all (fun f => f.pages.all (fun g => g / 2 ^ 30 != k)) = true) (hr : s.movePiece k = some (r, n)) :
    s.pageMove k seen = (s.moveRegion k r n seen).celTidy := by
  simp only [State.pageMove, hm, bne_self_eq_false, Bool.false_eq_true, if_false, State.find?_page_none hf, hr]

/-- The stored lines among the n lines from address b. -/
def State.storedIn (s : State) (b n : Nat) : List (Nat × BitVec 512) :=
  s.cel.lines.filter (fun (e : Nat × BitVec 512) => decide (b ≤ e.1) && decide (e.1 < b + n))

/-- The addresses that a mover reads of the first n lines of region piece r on stack k. -/
def State.moveSrc (s : State) (k : Nat) (r : Region) (n : Nat) : List Nat := (s.storedIn (k * 2 ^ 38 + r.first) n).map (·.1)

/-- Where those addresses stand in the layout of t, the state in which the piece has its new place. -/
def State.moveDst (s t : State) (k : Nat) (r : Region) (n : Nat) : List Nat :=
  (s.moveSrc k r n).map (fun a => (placeOf t.cel.layout r.kind (s.pieceBase r + (a - (k * 2 ^ 38 + r.first)))).getD 0)

theorem State.moveRegion_eq (s : State) (k : Nat) (r : Region) (n : Nat) (seen : List LineSeen) :
    s.moveRegion k r n seen =
      if (s.moverRead seen 82 (s.moveSrc k r n)).2.1 = true ∨
          ((s.moverRead seen 82 (s.moveSrc k r n)).1.stk k).mode ≠ StkMode.draining then
        (s.moverRead seen 82 (s.moveSrc k r n)).1
      else
        (((s.moverRead seen 82 (s.moveSrc k r n)).1.replace1 r n).moverWrite 82
          ((s.moveDst ((s.moverRead seen 82 (s.moveSrc k r n)).1.replace1 r n) k r n).zip
            (s.moverRead seen 82 (s.moveSrc k r n)).2.2)).count .cel 0 k 16 := rfl

/-- The DIAG lines that stack k holds: their places in DIAG and what they decrypt to. -/
def State.diagOn (s : State) (k : Nat) : List (Nat × BitVec 512) :=
  ((s.cel.layout.filter (fun (r : Region) => r.kind == 8 && r.stack == k)).map (fun (r : Region) =>
    (s.storedIn (k * 2 ^ 38 + r.first) r.lines).map (fun e => (e.1 - (k * 2 ^ 38 + r.first), s.plainOf e.1 e.2)))).flatten

/-- A DIAG line is written where DIAG stands. -/
def State.putDiag (s : State) (e : Nat × BitVec 512) : State :=
  match placeOf s.cel.layout 8 e.1 with
  | some a => (s.putData [] a e.2).1
  | none => s

/-- Stack k is OFF without a copy. -/
def State.stackOff (s : State) (k : Nat) : State :=
  s.setStk k { s.stk k with mode := .off, partner := none, copyValid := false, moves := false }

theorem State.stackDrained_empty {s : State} {k : Nat} (hm : (s.stk k).mode = .draining)
    (hf : s.frames.all (fun f => f.pages.all (fun g => g / 2 ^ 30 != k)) = true) (hr : (s.movePiece k).isNone = true) :
    s.stackDrained k = (((s.diagOn k).foldl State.putDiag (((s.stackOff k).rehome false).replaceDiag k)).celEvt 7 0
      (k * 2 ^ 38)).celTidy := by
  simp only [State.stackDrained, hm, hf, hr, beq_self_eq_true, Bool.and_self, if_true]
  rfl

theorem State.stackDrained_holding {s : State} {k : Nat} (h : (s.stk k).mode ≠ .draining ∨ (s.movePiece k).isNone = false) :
    s.stackDrained k = s := by
  rcases h with h | h <;> simp [State.stackDrained, h]

/-! ## Waking stacks (R194, R196) -/

/-- Stack k is ON, its rind empty. -/
def State.stackOn (s : State) (k : Nat) : State := s.setStk k { s.stk k with mode := .on, nodes := [], nodes2 := [] }

/-- Nothing of what stack k held is left: its lines, its cached tag and node lines, its poison. -/
def State.emptied (s : State) (k : Nat) : State :=
  { s with cel := { s.cel with
      lines := s.cel.lines.filter (fun e => lineStk e.1 != k)
      check := s.cel.check.filter (fun e => lineStk e.1 != k)
      cache := s.cel.cache.filter (fun e => !(lineStk e.1 == k && decide (tagBase ≤ lineIdx e.1)))
      used := s.cel.used.filter (fun a => !(lineStk a == k && decide (tagBase ≤ lineIdx a)))
      dirty := s.cel.dirty.filter (fun a => !(lineStk a == k && decide (tagBase ≤ lineIdx a)))
      poison := cutRange (k * 2 ^ 38) (2 ^ 38) s.cel.poison } }

theorem State.stackWakeDone_passed {s : State} {k : Nat} (hm : (s.stk k).mode = .waking) :
    s.stackWakeDone k true = ((s.stackOn k).emptied k).rehome false := by
  simp only [State.stackWakeDone, hm, bne_self_eq_false, Bool.not_true, Bool.false_eq_true, if_false]
  rfl

theorem State.stackWakeDone_failed {s : State} {k : Nat} (hm : (s.stk k).mode = .waking) : s.stackWakeDone k false = s.loseStack k := by
  simp only [State.stackWakeDone, hm, bne_self_eq_false, Bool.not_false, Bool.false_eq_true, if_false, if_true]

/-! ## Copies (R185) -/

theorem State.copyRebuilt_due {s : State} {k : Nat} (hp : (s.stk k).partner.isSome = true) (hv : (s.stk k).copyValid = false)
    (hk : s.cel.keys.isSome = true) :
    s.copyRebuilt k = (((s.copyNodes k (hBase 2) copyLines).setStk k
      { (s.copyNodes k (hBase 2) copyLines).stk k with copyValid := true }).celEvt 7 0 (k * 2 ^ 38)).celTidy := by
  simp only [State.copyRebuilt, ← Option.not_isSome, hp, hv, hk, Bool.not_true, Bool.or_self, Bool.false_eq_true, if_false]

/-! ## Interrupt bits (R326) -/

@[simp] theorem State.setInt_cel (s : State) (r : Reg) (b i : Nat) : (s.setInt r b i).cel = s.cel := by
  obtain ⟨g, w, p, o, h⟩ := State.setInt_frame s r b i
  rw [h]

/-- A bit that has been set is 1. -/
theorem State.getLsbD_setInt (s : State) (r : Reg) {b : Nat} (hb : b < 32) (i : Nat) :
    ((s.setInt r b i).word r i).getLsbD b = true := by
  have hbit := bits_or_twoPow (s.word r i) hb
  rwa [← State.word_setInt, bits_one, Bool.toNat_eq_one] at hbit

/-! ## Reloads of OVT (R191, R278) -/

/-- Lost lines stay poisoned: the failure is counted and STA_INT_STAT bit 7 is set. -/
def State.reloadFailed (s : State) : State :=
  { (s.setInt .STA_INT_STAT 7) with flash := { s.flash with reloadFails := s.flash.reloadFails + 1 } }

/-- No OVT line awaits its reload. -/
def State.ovtTaken (s : State) : State := { s with cel := { s.cel with ovtBad := [] } }

/-- Without an answer, or without a source copy, each range of lost lines is a failure. -/
theorem State.ovtReload_failed {s : State} {pass : Bool} (h : pass = false ∨ s.flash.src = 0) :
    s.ovtReload pass = s.cel.ovtBad.foldl (fun t _ => t.reloadFailed) s.ovtTaken := by
  have hno : (pass && s.flash.src != 0) = false := by rcases h with h | h <;> simp [h]
  simp only [State.ovtReload, hno, Bool.false_and, Bool.false_eq_true, if_false]
  rfl

theorem State.reloadFailed_cel (s : State) : s.reloadFailed.cel = s.cel := State.setInt_cel s .STA_INT_STAT 7 0

theorem State.reloadFailed_bit (s : State) : (s.reloadFailed.word .STA_INT_STAT).getLsbD 7 = true :=
  State.getLsbD_setInt s .STA_INT_STAT (by decide) 0

theorem State.foldl_reloadFailed_cel {α : Type} (s : State) (l : List α) : (l.foldl (fun t _ => t.reloadFailed) s).cel = s.cel :=
  foldl_keeps State.cel _ (fun t _ _ => State.reloadFailed_cel t) s

theorem State.foldl_reloadFailed_count {α : Type} (s : State) (l : List α) :
    (l.foldl (fun t _ => t.reloadFailed) s).flash.reloadFails = s.flash.reloadFails + l.length := by
  induction l generalizing s with
  | nil => rfl
  | cons a l ih =>
    rw [List.foldl_cons, ih, List.length_cons, Nat.add_comm l.length 1, ← Nat.add_assoc]
    rfl

theorem State.foldl_reloadFailed_bit {α : Type} (s : State) {l : List α} (h : l ≠ []) :
    ((l.foldl (fun t _ => t.reloadFailed) s).word .STA_INT_STAT).getLsbD 7 = true := by
  obtain ⟨l', a, rfl⟩ := l.eq_nil_or_concat'.resolve_left h
  rw [List.foldl_append, List.foldl_cons, List.foldl_nil]
  exact State.reloadFailed_bit _

/-- The image blocks of lost lines r agree with the running digest list in the source copy. -/
def State.ovtIntact (s : State) (r : Nat × Nat) : Bool :=
  (List.range (r.2 / 1024 + 2)).all (fun b => decide (r.1 + r.2 ≤ (r.1 / 1024 + b) * 1024) ||
    s.flash.blockOk s.flash.digests s.flash.src (r.1 / 1024 + b))

theorem State.ovtReload_intact {s : State} {r : Nat × Nat} (hbad : s.cel.ovtBad = [r]) (hsrc : s.flash.src ≠ 0)
    (hok : s.ovtIntact r = true) :
    s.ovtReload true = (s.ovtTaken.ovtWrite s.flash.src r.1 r.2).count .cel 0
      (((placeOf s.cel.layout 3 r.1).map lineStk).getD 0) 15 r.2 := by
  have hyes : (s.flash.src != 0) = true := bne_iff_ne.mpr hsrc
  unfold State.ovtIntact at hok
  simp only [State.ovtReload, hbad, List.foldl_cons, List.foldl_nil, hyes, hok, Bool.and_self, if_true]
  rfl

end Sys2Proof.Machine
end

section
/-!
PROOFS. The loss of a stack (R191, R196): nothing that it costs, SAs, counters, regions or copies, changes how the stack stands. That
CEL_EVT names a stack by its first line with LEVEL 0 is the model's choice (log entry 16).
-/

namespace Sys2Proof.Machine

/-! ## How a stack stands -/

/-- What the loss of a stack settles about it: its mode, its free pages, its share of the pool. -/
def State.standing (s : State) (k : Nat) : StkMode × Nat × Nat := ((s.stk k).mode, (s.stk k).free, (s.stk k).share)

theorem State.standing_of_stks {s t : State} (h : t.cel.stks = s.cel.stks) (k : Nat) : t.standing k = s.standing k := by
  simp only [State.standing, State.stk, h]

theorem State.standing_of_cel {s t : State} (h : t.cel = s.cel) (k : Nat) : t.standing k = s.standing k :=
  State.standing_of_stks (congrArg Cel.stks h) k

/-- A change of a stack's copies leaves how every stack stands. -/
theorem State.standing_setStk_same (s : State) {j : Nat} {v : Stack} (hm : v.mode = (s.stk j).mode) (hf : v.free = (s.stk j).free)
    (hs : v.share = (s.stk j).share) (k : Nat) : (s.setStk j v).standing k = s.standing k := by
  unfold State.standing
  by_cases h : k = j
  · subst h
    have hv : (s.setStk k v).stk k = v := Tab.look_put_self ..
    rw [hv, hm, hf, hs]
  · have hv : (s.setStk j v).stk k = s.stk k := Tab.look_put_ne _ _ _ h
    rw [hv]

theorem State.foldl_standing {α : Type} (f : State → α → State) (l : List α) (k : Nat)
    (h : ∀ t a, (f t a).standing k = t.standing k) (s : State) : (l.foldl f s).standing k = s.standing k :=
  foldl_keeps (State.standing · k) f (fun t a _ => h t a) s

theorem State.standing_rehomeOne (s : State) (fresh : Bool) (j k : Nat) : (s.rehomeOne fresh j).standing k = s.standing k := by
  unfold State.rehomeOne
  extract_lets x p n
  split
  · rfl
  · exact State.standing_setStk_same s (by rfl) (by rfl) (by rfl) k

theorem State.standing_rehome (s : State) (fresh : Bool) (k : Nat) : (s.rehome fresh).standing k = s.standing k := by
  unfold State.rehome
  extract_lets t
  refine (State.standing_of_stks (s := t) (by rfl) k).trans ?_
  exact State.foldl_standing _ _ k (fun u j => State.standing_rehomeOne u fresh j k) s

/-! ## SAs lost with their lines (R92, R191) -/

theorem State.cel_of_besideKeys {s t : State} (h : t.besideKeys = s.besideKeys) : t.cel = s.cel :=
  show t.besideKeys.cel = s.besideKeys.cel by rw [h]

@[simp] theorem State.demote_cel (s : State) (r : Nat) : (s.demote r).cel = s.cel := by
  unfold State.demote
  split <;> simp

@[simp] theorem State.pinHot_cel (s : State) (k : Nat) : (s.pinHot k).cel = s.cel := by
  simp only [State.pinHot, apply_ite State.cel, State.cel_of_besideKeys (State.warm_besideKeys ..), State.setSa_cel, State.demote_cel,
    ite_self]

@[simp] theorem State.pinNext_cel (s : State) : s.pinNext.cel = s.cel := by
  unfold State.pinNext
  split
  · rfl
  · split <;> simp

@[simp] theorem State.freeSa_cel (s : State) (k : Nat) : (s.freeSa k).cel = s.cel := by
  simp only [State.freeSa, State.cel_of_besideKeys (State.reapSlot_besideKeys ..), apply_ite State.cel, State.pinNext_cel,
    State.cel_of_besideKeys (State.trimKeys_besideKeys ..), State.setSa_cel, ite_self]

@[simp] theorem State.tell_cel (s : State) (kind : Nat) (body : TBody) : (s.tell kind body).cel = s.cel := by
  obtain ⟨p, c, o, h⟩ := State.tell_frame s kind body
  rw [h]

/-- A retired SA changes nothing in the cellar. -/
@[simp] theorem State.retireSa_cel (s : State) (k : Nat) : (s.retireSa k).cel = s.cel := by
  simp only [State.retireSa, State.tellSa, apply_ite State.cel, State.freeSa_cel, State.tell_cel, State.setSecy_cel,
    State.setSa_cel, ite_self]

theorem State.loseSas_cel (s : State) (st n k : Nat) : (s.loseSas st n k).cel = s.cel := by
  unfold State.loseSas
  exact foldl_keeps State.cel _ (fun t x _ => by simp) s

/-! ## Lost lines (R190, R191) -/

theorem State.loseCnt_stks (s : State) (n k : Nat) : (s.loseCnt n k).cel.stks = s.cel.stks := by
  unfold State.loseCnt
  extract_lets hit l
  refine foldl_keeps (fun t : State => t.cel.stks) _ (fun t x _ => ?_) s
  rfl

theorem State.loseIn_stks (s : State) (r : Region) (n k : Nat) : (s.loseIn r n k).cel.stks = s.cel.stks := by
  unfold State.loseIn
  split
  · exact congrArg Cel.stks (State.loseSas_cel ..)
  · exact State.loseCnt_stks ..
  · dsimp only
    split <;> rfl
  all_goals rfl

theorem State.standing_loseLines (s : State) (a n k : Nat) : (s.loseLines a n).standing k = s.standing k := by
  refine State.foldl_standing _ _ k (fun t r => ?_) s
  extract_lets lo hi
  split
  · exact State.standing_of_stks (State.loseIn_stks ..) k
  · rfl

@[simp] theorem State.celEvt_cel (s : State) (b lvl a : Nat) : (s.celEvt b lvl a).cel = s.cel := by
  simp only [State.celEvt, State.setInt_cel, State.setWord_cel]

theorem State.getLsbD_celEvt (s : State) {b : Nat} (hb : b < 32) (lvl a : Nat) :
    ((s.celEvt b lvl a).word .CEL_INT_STAT).getLsbD b = true :=
  State.getLsbD_setInt _ .CEL_INT_STAT hb 0

/-! ## A lost stack (R196) -/

/-- Stack k is lost: it holds no page, has no share of the pool and no copy. -/
def State.stackGone (s : State) (k : Nat) : State :=
  s.setStk k { s.stk k with mode := .lost, free := 0, share := 0, freed := [], partner := none, copyValid := false, moves := false }

theorem State.replace1_stks (s : State) (r : Region) (n : Nat) : (s.replace1 r n).cel.stks = s.cel.stks := rfl

theorem State.replaceDiag_stks (s : State) (k : Nat) : (s.replaceDiag k).cel.stks = s.cel.stks := rfl

theorem State.standing_stackGone (s : State) (k : Nat) : (s.stackGone k).standing k = (.lost, 0, 0) := by
  simp only [State.standing, State.stackGone, State.stk, State.setStk, Tab.look_put_self]

/-- A stack in service that is lost stands lost, and CEL_INT_STAT bit 5 says so. -/
theorem State.dropStack_standing {s : State} {k : Nat}
    (h : (s.stk k).mode = .on ∨ (s.stk k).mode = .draining ∨ (s.stk k).mode = .waking) :
    ∃ u : State, s.dropStack k = u.celEvt 5 0 (k * 2 ^ 38) ∧ u.standing k = (.lost, 0, 0) := by
  have hup : ((s.stk k).mode == .on || (s.stk k).mode == .draining || (s.stk k).mode == .waking) = true := by
    rcases h with h | h | h <;> rw [h] <;> rfl
  have hgone : ((((s.stackGone k).loseLines (k * 2 ^ 38) tagBase).raise 19).rehome false).standing k = (.lost, 0, 0) := by
    rw [State.standing_rehome, State.standing_of_cel (State.raise_cel ..), State.standing_loseLines, State.standing_stackGone]
  unfold State.dropStack
  extract_lets m stk s1 s2 gone off cel s3 s4 s5 fresh s6
  rw [if_pos hup]
  refine ⟨s6, rfl, ?_⟩
  have hforgot : s3.standing k = s2.standing k := by
    clear_value s2
    exact State.standing_of_stks (by rfl) k
  have hreplaced : s4.standing k = s3.standing k := by
    refine State.foldl_standing _ _ k (fun t r => ?_) s3
    split
    · exact State.standing_of_stks (State.replace1_stks ..) k
    · rfl
  have hpoisoned : s6.standing k = s5.standing k := by
    refine State.foldl_standing _ _ k (fun t r => ?_) s5
    exact State.standing_of_stks (by rfl) k
  rw [hpoisoned, State.standing_of_stks (State.replaceDiag_stks s4 k), hreplaced, hforgot]
  exact hgone

theorem State.dropStack_absent {s : State} {k : Nat}
    (h : (s.stk k).mode = .lost ∨ (s.stk k).mode = .off ∨ (s.stk k).mode = .absent) : s.dropStack k = s := by
  rcases h with h | h | h <;> simp only [State.dropStack, h] <;> rfl

end Sys2Proof.Machine
end

section
/-!
PROOFS. The region and DIAG windows (R199, R200), and where the commands of the cellar complete.
-/

namespace Sys2Proof.Machine

/-! ## The region window (R200) -/

/-- The stacks that pieces l stand on, a bit each. -/
def stackBits (l : List Region) : Nat :=
  (((List.range 4).filter (fun k => l.any (fun r => r.stack == k))).map (fun k => 2 ^ (20 + k))).sum

/-- DATA0 of a region read: VALID, the region, its protection, its mode, its stacks. -/
def State.regionStatus (s : State) (x : Nat) (l : List Region) : Nat :=
  2 ^ 31 + fw 30 27 x + fw 26 25 (s.prot x) + fw 24 24 (b2n (s.ksMode x)) + stackBits l

/-- The words of a read of region x, which stands in pieces r :: l. -/
def State.regionWords (s : State) (x : Nat) (r : Region) (l : List Region) : List W32 :=
  [BitVec.ofNat 32 (s.regionStatus x (r :: l)), BitVec.ofNat 32 (fw 17 0 ((r.lines + 16383) / 16384)),
    BitVec.ofNat 32 (fw 29 0 r.first)]

theorem State.rgwRead_placed {s : State} {o : Origin} {r : Region} {l : List Region}
    (hx : s.fld F.CEL_RGW_IDX_REGION 0 o.grp ≤ 8)
    (hl : s.cel.layout.filter (fun r => r.kind == s.fld F.CEL_RGW_IDX_REGION 0 o.grp) = r :: l) :
    s.rgwRead o = (s.cmdErr .CEL_RGW_CMD o.grp 0).setWords .CEL_RGW_DATA
      (s.regionWords (s.fld F.CEL_RGW_IDX_REGION 0 o.grp) r l) o.grp := by
  simp only [State.rgwRead, Nat.not_lt.mpr hx, hl, if_false]
  rfl

theorem stackBits_lt (l : List Region) : stackBits l < 2 ^ 24 := by
  have hsub := (List.filter_sublist (p := fun k => l.any (fun r => r.stack == k)) (l := List.range 4)).map (fun k => 2 ^ (20 + k))
  exact Nat.lt_of_le_of_lt (hsub.sum_le_sum fun _ _ => Nat.zero_le _) (by decide)

theorem bits_regionStatus_valid (s : State) (x : Nat) (l : List Region) :
    bits (BitVec.ofNat 32 (s.regionStatus x l)) 31 31 = 1 := by
  have hks := b2n_lt (s.ksMode x)
  have hstk := stackBits_lt l
  rw [bits_ofNat _ _ (by decide) (by decide)]
  simp only [State.regionStatus, fw, Nat.reduceAdd, Nat.reduceSub, Nat.reducePow] at hstk ⊢
  omega

theorem bits_regionStatus_region (s : State) {x : Nat} (hx : x ≤ 8) (l : List Region) :
    bits (BitVec.ofNat 32 (s.regionStatus x l)) 30 27 = x := by
  have hks := b2n_lt (s.ksMode x)
  have hstk := stackBits_lt l
  rw [bits_ofNat _ _ (by decide) (by decide)]
  simp only [State.regionStatus, fw, Nat.reduceAdd, Nat.reduceSub, Nat.reducePow] at hstk ⊢
  omega

theorem toNat_firstWord (n : Nat) : (BitVec.ofNat 32 (fw 29 0 n)).toNat = n % 2 ^ 30 := by
  rw [BitVec.toNat_ofNat, fw]
  omega

theorem State.onlyWords_regionWords (s : State) (x g : Nat) (r : Region) (l : List Region) :
    s.onlyWords ((s.cmdErr .CEL_RGW_CMD g 0).setWords .CEL_RGW_DATA (s.regionWords x r l) g) [.CEL_RGW_CMD, .CEL_RGW_DATA] g = true :=
  State.onlyWords_setWords (State.onlyWords_cmdErr s (by decide) g 0) (by decide) _ (by simp [State.regionWords])

theorem State.cel_of_onlyWords {s t : State} {l : List Reg} {g : Nat} (h : s.onlyWords t l g = true) : t.cel = s.cel := by
  simp only [State.onlyWords, Bool.and_eq_true, decide_eq_true_eq] at h
  rw [h.1]

/-! ## The DIAG window (R199) -/

/-- A permitted command on a DIAG line that stands in the cellar has its effect there. -/
theorem State.dgwCmd_placed {s : State} {o : Origin} {a : Nat} (f : State → Nat → State) (hmain : o.main = true)
    (hn : s.fld F.CEL_DGW_OFF_LINE 0 o.grp < s.diagLines)
    (ha : placeOf s.cel.layout 8 (s.fld F.CEL_DGW_OFF_LINE 0 o.grp) = some a) (hk : s.cel.keys.isNone = false) :
    s.dgwCmd o f = f (s.cmdErr .CEL_DGW_CMD o.grp 0) a := by
  simp only [State.dgwCmd, hmain, Nat.not_le.mpr hn, ha, hk, Bool.not_true, Bool.false_eq_true, if_false]

/-- A line beyond DIAG is error 2, with its event (log entry 16). -/
theorem State.dgwCmd_beyond {s : State} {o : Origin} (f : State → Nat → State) (hmain : o.main = true)
    (hn : s.diagLines ≤ s.fld F.CEL_DGW_OFF_LINE 0 o.grp) :
    s.dgwCmd o f = (s.cmdErr .CEL_DGW_CMD o.grp 2).celEvt 8 0 0 := by
  simp only [State.dgwCmd, hmain, hn, Bool.not_true, Bool.false_eq_true, if_false, if_true]

/-- The DIAG window of copy g shows line a, or its error. -/
def State.showDiag (s : State) (a g : Nat) : State :=
  match (s.readData [] a).2.2 with
  | some w => (s.readData [] a).1.celTidy.setWords .CEL_DGW_DATA ((List.range 16).map (fun j => wordOf w.toNat j)) g
  | none => ((s.readData [] a).1.celTidy.cmdErr .CEL_DGW_CMD g 3).celEvt 8 0 0

theorem State.dgwRead_eq (s : State) (o : Origin) : s.dgwRead o = s.dgwCmd o (fun t a => t.showDiag a o.grp) := by
  unfold State.dgwRead
  congr 1
  funext t a
  unfold State.showDiag
  rcases State.readData _ _ _ with ⟨u, p, _ | w⟩ <;> rfl

/-- The line that the 16 DATA words of a window spell. -/
def lineOfWords (l : List W32) : BitVec 512 :=
  BitVec.ofNat 512 ((l.zipIdx.map (fun (e : W32 × Nat) => e.1.toNat * 2 ^ (32 * e.2))).sum)

/-- A fresh result of a window's CMD register leaves the words of its DATA registers. -/
theorem State.words_cmdErr_other (s : State) {r q : Reg} {k g : Nat} (e : Nat) (hr : r.ctorIdx ≠ q.ctorIdx) (hk : k ≤ 2 ^ 20)
    (hg : g < 4) : (s.cmdErr q g e).words r k g = s.words r k g := by
  refine List.map_congr_left fun n hn => ?_
  have hn' := List.mem_range.mp hn
  exact State.word_setWord_ne s _ (regKey_ne hr (by omega) (by decide) hg hg)

theorem State.dgwWrite_placed {s : State} {o : Origin} {a : Nat} (hmain : o.main = true)
    (hn : s.fld F.CEL_DGW_OFF_LINE 0 o.grp < s.diagLines)
    (ha : placeOf s.cel.layout 8 (s.fld F.CEL_DGW_OFF_LINE 0 o.grp) = some a) (hk : s.cel.keys.isNone = false) :
    s.dgwWrite o = (s.cmdErr .CEL_DGW_CMD o.grp 0).celWrite a (lineOfWords (s.words .CEL_DGW_DATA 16 o.grp)) := by
  rw [State.dgwWrite, State.dgwCmd_placed _ hmain hn ha hk]
  dsimp only
  rw [State.words_cmdErr_other s 0 (by decide) (by decide) (Origin.grp_lt o)]
  rfl

/-! ## The commands -/

/-- Settles O38: each command of the cellar by its operation's own rule in the state that lets it complete, and in the state that does
not. -/
theorem cellarCommandsComplete : Obligations.CellarCommandsComplete := by
  refine ⟨?read, ?readRefused, ?complete, ?completeUnissued, ?writeEncInt, ?writeEnc, ?writeNone, ?writePart, ?nodeLine, ?nodeDie,
    ?writeBack, ?writeBackClean, ?flush, ?scrubData, ?scrubTag, ?scrubNode, ?scrubClosed, ?pageMoved, ?poolFull, ?regionMoved,
    ?drained, ?holding, ?wakePassed, ?wakeFailed, ?lost, ?lostAbsent, ?copyRebuilt, ?reloadFailed, ?reloadIntact, ?regionRead,
    ?diagRead, ?diagBeyond, ?diagWrite⟩
  case read => exact fun s line r hr hk hup => exec_of_effect rfl (State.lineRead_issued hr hk hup)
  case readRefused => exact fun s line h => exec_of_effect rfl (State.lineRead_refused h)
  case complete => exact fun s line seen h => exec_of_effect rfl (State.readComplete_issued seen h)
  case completeUnissued => exact fun s line seen h => exec_of_effect rfl (State.readComplete_unissued seen h)
  case writeEncInt =>
    rintro s line ⟨w, mask, seen⟩ r rfl hr hk hup hp hpath hstk
    exact exec_of_effect rfl ((State.maskWrite_full ..).trans
      (congrArg (fun x => x.1.celTidy) (State.putData_encInt w hr hk hup hp hpath hstk)))
  case writeEnc =>
    rintro s line ⟨w, mask, seen⟩ r rfl hr hk hup hp
    exact exec_of_effect rfl ((State.maskWrite_full ..).trans
      (congrArg (fun x => x.1.celTidy) (State.putData_enc seen w hr hk hup hp)))
  case writeNone =>
    rintro s line ⟨w, mask, seen⟩ r rfl hr hk hup hp
    exact exec_of_effect rfl ((State.maskWrite_full ..).trans
      (congrArg (fun x => x.1.celTidy) (State.putData_none seen w hr hk hup hp)))
  case writePart => exact fun s line w h => exec_of_effect rfl (State.maskWrite_part w.data w.seen h)
  case nodeLine =>
    exact fun s line seen h n c w hkind hneed hcopy hread htag => exec_of_effect rfl
      (congrArg (fun t => t.retryHeld.celTidy) (State.restoreLine_good hkind hneed hcopy hread htag))
  case nodeDie =>
    exact fun s stack level i seen hlo hhi => exec_of_effect rfl (State.nodeRestored_die s stack i seen hlo hhi)
  case writeBack => exact fun s a t h => exec_of_effect rfl (State.writeBack_dirty h)
  case writeBackClean => exact fun s h => exec_of_effect rfl (State.writeBack_clean h)
  case flush =>
    intro s W H L
    refine exec_of_effect rfl ((State.counterFlush_eq s).trans ?_)
    refine congrArg (fun f => L.foldl f s) (funext₂ fun t l => ?_)
    rfl
  case scrubData => exact fun s line seen d r hk hup hkind hr => exec_of_effect rfl (State.scrub_data seen hk hup hkind hr)
  case scrubTag => exact fun s line seen t hk hup hkind hclean => exec_of_effect rfl (State.scrub_tag seen hk hup hkind hclean)
  case scrubNode =>
    exact fun s line seen h n hk hup hkind hclean => exec_of_effect rfl (State.scrub_node seen hk hup hkind hclean)
  case scrubClosed => exact fun s line seen h => exec_of_effect rfl (State.scrub_closed seen h)
  case pageMoved =>
    exact fun s stack seen f g p hm hf hg hp hread => exec_of_effect rfl ((State.pageMove_eq_moveFrame seen hm hf hg).trans
      (congrArg State.celTidy (State.moveFrame_moved hp hread)))
  case poolFull => exact fun s stack seen f hm hf hp => exec_of_effect rfl (State.pageMove_full seen hm hf hp)
  case regionMoved =>
    exact fun s stack seen r n hm hf hr => exec_of_effect rfl ((State.pageMove_eq_moveRegion seen hm hf hr).trans
      (congrArg State.celTidy (State.moveRegion_eq ..)))
  case drained => exact fun s stack hm hf hr => exec_of_effect rfl (State.stackDrained_empty hm hf hr)
  case holding => exact fun s stack h => exec_of_effect rfl (State.stackDrained_holding h)
  case wakePassed =>
    rintro s stack pass hm rfl
    exact exec_of_effect rfl (State.stackWakeDone_passed hm)
  case wakeFailed =>
    rintro s stack pass hm rfl
    exact exec_of_effect rfl (State.stackWakeDone_failed hm)
  case lost =>
    intro s stack h
    obtain ⟨u, hu, hstanding⟩ := State.dropStack_standing h
    obtain ⟨hmode, hpages⟩ := Prod.mk.inj ((State.standing_of_cel (State.celEvt_cel u 5 0 _) _).trans hstanding)
    obtain ⟨hfree, hshare⟩ := Prod.mk.inj hpages
    exact ⟨_, exec_of_effect rfl (congrArg State.celTidy hu), hmode, hfree, hshare, State.getLsbD_celEvt u (by decide) ..⟩
  case lostAbsent => exact fun s stack h => exec_of_effect rfl (congrArg State.celTidy (State.dropStack_absent h))
  case copyRebuilt => exact fun s stack hp hv hk => exec_of_effect rfl (State.copyRebuilt_due hp hv hk)
  case reloadFailed =>
    intro s pass h
    have hcel := State.foldl_reloadFailed_cel s.ovtTaken s.cel.ovtBad
    have hlines := congrArg Cel.lines hcel
    exact ⟨_, exec_of_effect rfl (State.ovtReload_failed h), congrArg Cel.ovtBad hcel, State.foldl_reloadFailed_count ..,
      fun hbad => State.foldl_reloadFailed_bit _ hbad, hlines⟩
  case reloadIntact =>
    rintro s pass r hbad rfl hsrc hok
    exact exec_of_effect rfl (State.ovtReload_intact hbad hsrc hok)
  case regionRead =>
    intro s o r l hg hx hl
    have hword := State.word_setWords_add (s.cmdErr .CEL_RGW_CMD o.grp 0) .CEL_RGW_DATA
      (s.regionWords (s.fld F.CEL_RGW_IDX_REGION 0 o.grp) r l) o.grp 0
    have honly := State.onlyWords_regionWords s (s.fld F.CEL_RGW_IDX_REGION 0 o.grp) o.grp r l
    refine ⟨_, exec_of_granted_effect (c := .rgwRead o) rfl hg (State.rgwRead_placed hx hl), ?valid, ?region, ?first,
      State.cel_of_onlyWords honly, honly⟩
    case valid => exact (congrArg (bits · 31 31) (hword 0)).trans (bits_regionStatus_valid ..)
    case region => exact (congrArg (bits · 30 27) (hword 0)).trans (bits_regionStatus_region s hx _)
    case first => exact (congrArg BitVec.toNat (hword 2)).trans (toNat_firstWord r.first)
  case diagRead =>
    exact fun s o a hg hmain hn ha hk => exec_of_granted_effect (c := .dgwRead o) rfl hg
      ((State.dgwRead_eq s o).trans (State.dgwCmd_placed _ hmain hn ha hk))
  case diagBeyond =>
    exact fun s o hg hmain hn => exec_of_granted_effect (c := .dgwRead o) rfl hg (State.dgwCmd_beyond _ hmain hn)
  case diagWrite =>
    exact fun s o a hg hmain hn ha hk =>
      exec_of_granted_effect (c := .dgwWrite o) rfl hg (State.dgwWrite_placed hmain hn ha hk)

end Sys2Proof.Machine
end

section
/-!
PROOFS. The host-ring stamp (10, R214): what it holds of a time, and the time it gives back.
-/

namespace Sys2Proof.Machine

/-- The nanoseconds of a time within its second are below 10^9, so that they fit the 30 bits of their field. -/
theorem stampNs_lt (t : Int) : (t % unitsPerSec / 65536).toNat < 1000000000 := by
  unfold unitsPerSec
  omega

/-- Seconds below 2^34 fit the field of a stamp as they are. -/
theorem lowBits_seconds {t : Int} (h0 : 0 ≤ t) (ht : t < 2 ^ 34 * unitsPerSec) :
    lowBits 34 (t / unitsPerSec) = (t / unitsPerSec).toNat := by
  have hpos : 0 < unitsPerSec := by decide
  have hlt : t / unitsPerSec < 2 ^ 34 := Int.ediv_lt_of_lt_mul hpos ht
  rw [lowBits, Int.emod_eq_of_lt (Int.ediv_nonneg h0 hpos.le) hlt]

theorem toNat_stamp {t : Int} (h0 : 0 ≤ t) (ht : t < 2 ^ 34 * unitsPerSec) :
    (stamp t).toNat = (t / unitsPerSec).toNat * 2 ^ 30 + (t % unitsPerSec / 65536).toNat := by
  have hns := stampNs_lt t
  have hsec : (t / unitsPerSec).toNat < 2 ^ 34 := by
    rw [← lowBits_seconds h0 ht, lowBits]
    omega
  rw [stamp, lowBits_seconds h0 ht, BitVec.toNat_ofNat]
  exact Nat.mod_eq_of_lt (by omega)

theorem stamp_seconds {t : Int} (h0 : 0 ≤ t) (ht : t < 2 ^ 34 * unitsPerSec) :
    (stamp t).toNat / 2 ^ 30 = (t / unitsPerSec).toNat := by
  have hns := stampNs_lt t
  rw [toNat_stamp h0 ht]
  omega

theorem stamp_nanoseconds {t : Int} (h0 : 0 ≤ t) (ht : t < 2 ^ 34 * unitsPerSec) :
    (stamp t).toNat % 2 ^ 30 = (t % unitsPerSec / 65536).toNat := by
  have hns := stampNs_lt t
  rw [toNat_stamp h0 ht]
  omega

/-- A stamp gives its time back rounded down to a nanosecond. -/
theorem unstamp_stamp {t : Int} (h0 : 0 ≤ t) (ht : t < 2 ^ 34 * unitsPerSec) :
    unstamp (stamp t) = t / 65536 * 65536 := by
  rw [unstamp, stamp_seconds h0 ht, stamp_nanoseconds h0 ht]
  unfold unitsPerSec
  omega

/-- Settles O14: the seconds and the nanoseconds of the stamp are those of the time, rounded down. -/
theorem stampGivesTimeBack : Obligations.StampGivesTimeBack := by
  intro t h0 ht
  refine ⟨?_, ?_, ?_⟩
  · rw [unstamp_stamp h0 ht]
    omega
  · rw [unstamp_stamp h0 ht]
    omega
  · rw [stamp_nanoseconds h0 ht]
    exact stampNs_lt t

end Sys2Proof.Machine
end

section
/-!
PROOFS. The idle step (R103, R201): what the level events seen in a tick can change, and what a tick leaves alone.
-/

namespace Sys2Proof.Machine

/-- Ticks of a unit seen by one programmable counter (R353). -/
theorem State.obsTickOne_frame (s : State) (u : ObsUnit) (n c : Nat) : ∃ w, s.obsTickOne u n c = { s with obs := w } := by
  unfold State.obsTickOne State.obsAdd
  dsimp only
  split
  · exact ⟨s.obs, rfl⟩
  · split
    · exact ⟨s.obs, rfl⟩
    · exact ⟨_, rfl⟩

/-- Ticks of a unit change the observation block only. -/
theorem State.obsTick_frame (s : State) (u : ObsUnit) (n : Nat) : ∃ w, s.obsTick u n = { s with obs := w } := by
  unfold State.obsTick
  split
  · exact State.obsFold_frame _ (fun t c => State.obsTickOne_frame t u n c) _ s
  · exact ⟨s.obs, rfl⟩

/-- An engine's new record and what its unit then counts change the engines and the observation block. -/
theorem State.engCounted_frame (s : State) (e : Nat) (v : Eng) (code m n : Nat) :
    ∃ g w, ((s.setEng e v).obsEvent (.engine e) code m).obsTick (.engine e) n = { s with engs := g, obs := w } := by
  obtain ⟨w, h⟩ := State.obsEvent_frame (s.setEng e v) (.engine e) code m 0
  obtain ⟨w', h'⟩ := State.obsTick_frame ((s.setEng e v).obsEvent (.engine e) code m) (.engine e) n
  exact ⟨(s.setEng e v).engs, w', by rw [h', h]; rfl⟩

/-- An engine's handshake cycles (R351, R352). -/
theorem State.engTick_frame (s : State) (e : Nat) : ∃ g w, s.engTick e = { s with engs := g, obs := w } := by
  unfold State.engTick
  dsimp only
  split
  · exact ⟨s.engs, s.obs, rfl⟩
  · exact State.engCounted_frame ..

theorem State.foldl_engTick_frame (s : State) (l : List Nat) :
    ∃ g w, l.foldl State.engTick s = { s with engs := g, obs := w } := by
  induction l generalizing s with
  | nil => exact ⟨s.engs, s.obs, rfl⟩
  | cons e l ih =>
    obtain ⟨g, w, h⟩ := State.engTick_frame s e
    obtain ⟨g', w', h'⟩ := ih (s.engTick e)
    exact ⟨g', w', by rw [List.foldl_cons, h', h]⟩

/-- The level events of a tick change the engines and the observation block (R353). -/
theorem State.obsUnitsTick_frame (s : State) : ∃ g w, s.obsUnitsTick = { s with engs := g, obs := w } := by
  unfold State.obsUnitsTick
  dsimp only
  split
  · exact ⟨s.engs, s.obs, rfl⟩
  · obtain ⟨g, w, hengs⟩ := State.foldl_engTick_frame s (List.range 64)
    obtain ⟨w', hports⟩ := State.obsFold_frame (fun t p => t.obsTick (.port p) 1) (fun t p => State.obsTick_frame t (.port p) 1)
      (List.range 128) ((List.range 64).foldl State.engTick s)
    obtain ⟨w'', hcellar⟩ := State.obsTick_frame
      ((List.range 128).foldl (fun t p => t.obsTick (.port p) 1) ((List.range 64).foldl State.engTick s)) .cellar 1
    exact ⟨g, w'', by rw [hcellar, hports, hengs]⟩

/-- On an empty queue a step is a tick. -/
theorem step_idle {s : State} (h : s.pending = []) : step s = .next (s.done s.obsUnitsTick.clockTick.sendReady) := by
  unfold step
  rw [h]
  rfl

/-- Settles O2: the state in which the clocks have advanced, by what the level events of a tick leave alone. That a tick stands for
1 ns is the model's choice (log entry 1). -/
theorem idleStepCountsTime : Obligations.IdleStepCountsTime := by
  intro s hidle
  obtain ⟨g, w, h⟩ := State.obsUnitsTick_frame s
  refine ⟨s.obsUnitsTick.clockTick, step_idle hidle, ?_⟩
  rw [h]
  simp only [State.clockTick, Nat.reducePow, Nat.reduceMul, hidle, and_self]

end Sys2Proof.Machine
end

section
/-!
PROOFS. Time adjusted (10): the reference switch (R202), adjustments and their errors (R204), the owner of time (R205, R207) and its
snapshot (R206). That a switch of the reference adds up to 1 ns, a free value, is the model's choice (log entry 19).
-/

namespace Sys2Proof.Machine

/-! ## The reference (R202) -/

/-- The internal reference is in force: what the switch added to the counter, its count and its interrupt. -/
def State.onInternalRef (s : State) : State :=
  (({ s.draw.2 with tim := { s.tim with refInt := true, cnt := s.tim.cnt + BitVec.ofNat 112 (s.draw.1.toNat % 65537 * 65536) } } : State).count
    .tim 0 0 8).setInt .TIM_INT_STAT 3

theorem State.refSwitch_external {s : State} (h : s.tim.refInt = false) :
    s.refSwitch = if (s.tim.mode = .locked ∨ s.tim.mode = .acquiring) ∧ s.tim.ptp.master.isSome = true then
        (s.onInternalRef.timeTo .acquiring).setPtp (fun _ => { s.onInternalRef.tim.ptp with good := 0 })
      else s.onInternalRef := by
  simp only [State.refSwitch, h, Bool.false_eq_true, if_false, Bool.and_eq_true, Bool.or_eq_true, beq_iff_eq]
  rfl

theorem State.refSwitch_internal {s : State} (h : s.tim.refInt = true) : s.refSwitch = s := if_pos h

/-! ## Adjustments (R204) -/

/-- The error of an adjustment that would make the time unit T: the standby's, another master's, a rate beyond 200 ppm, a time
below 0; rated marks an adjustment with a rate. -/
def State.adjErr (s : State) (o : Origin) (rated : Bool) (T : Tim) : Nat :=
  if s.par.st = .standby then 4
  else if s.ownsTime o = false then 1
  else if rated = true ∧ 219902325 < (s.word .TIM_ADJ_RATE 0 o.grp).toInt.natAbs then 2
  else if T.timeOf s.counter < 0 then 3
  else 0

/-- The time unit is T; the command's error is cleared. -/
def State.adjDone (s : State) (o : Origin) (T : Tim) : State := ({ s with tim := T } : State).cmdErr .TIM_ADJ_CMD o.grp 0

/-- An adjustment is made exactly where it has no error, and else refused with it. -/
theorem State.adjust_eq (s : State) (o : Origin) (rated jump : Bool) (f : Tim → Tim) :
    s.adjust o rated jump f =
      if s.adjErr o rated (f s.tim) = 0 then
        (if jump = true then (s.adjDone o (f s.tim)).stepped else s.adjDone o (f s.tim))
      else s.adjRefuse o.grp (s.adjErr o rated (f s.tim)) := by
  by_cases hst : s.par.st = .standby
  · simp [State.adjust_standby _ _ _ _ hst, State.adjErr, hst]
  by_cases hown : s.ownsTime o = false
  · simp [State.adjust_notOwner _ _ _ hst hown, State.adjErr, hst, hown]
  by_cases hrate : rated = true ∧ 219902325 < (s.word .TIM_ADJ_RATE 0 o.grp).toInt.natAbs
  · simp [State.adjust, State.adjErr, hst, hown, hrate]
  by_cases hneg : (f s.tim).timeOf s.counter < 0
  · simp [State.adjust, State.adjErr, hst, hown, hrate, hneg]
  · simp [State.adjust, State.adjErr, State.adjDone, hst, hown, hrate, hneg]

theorem State.adjErr_rated (s : State) (o : Origin) (T : Tim) :
    s.adjErr o true T = if s.par.st = .standby then 4 else if s.ownsTime o = false then 1
      else if 219902325 < (s.word .TIM_ADJ_RATE 0 o.grp).toInt.natAbs then 2
      else if T.timeOf s.counter < 0 then 3 else 0 := by
  simp only [State.adjErr, true_and]

theorem State.adjErr_unrated (s : State) (o : Origin) (T : Tim) :
    s.adjErr o false T = if s.par.st = .standby then 4 else if s.ownsTime o = false then 1
      else if T.timeOf s.counter < 0 then 3 else 0 := by
  simp only [State.adjErr, Bool.false_eq_true, false_and, if_false]

/-- A granted adjustment of error e ends in u where e is 0, and is else refused; what it made of time is mirrored (R234). -/
theorem exec_adjusted {c : Instr} {s u : State} {o : Origin} {e : Nat} (rated jump : Bool) (f : State → Tim → Tim)
    (hc : exec c s = .next (s.done (s.mirrorTime (s.hostWrite o .TIM_ADJ_CMD 0 (fun t => t.adjust o rated jump (f t))))))
    (hg : s.grants o .TIM_ADJ_CMD = true) (he : s.adjErr o rated (f s s.tim) = e)
    (hu : (if jump = true then (s.adjDone o (f s s.tim)).stepped else s.adjDone o (f s s.tim)) = u) :
    exec c s = .next (s.done (s.mirrorTime (if e = 0 then u else s.adjRefuse o.grp e))) := by
  rw [hc, State.hostWrite_granted s o .TIM_ADJ_CMD 0 _ hg, State.adjust_eq, he, hu]

/-! ## The owner of time (R205, R207) -/

theorem State.writeOwner_taken {s : State} {o : Origin} {v : Nat} (hp : s.presence = true) (hnew : v % 4 ≠ s.fld F.TIM_CTL_OWNER)
    (hv : v % 4 ≠ 3) :
    s.writeOwner o v = if s.tim.mode = .following then s.setFld F.TIM_CTL_OWNER (v % 4)
      else (s.setFld F.TIM_CTL_OWNER (v % 4)).timeTo (if v % 4 = 2 then .freeRun else .holdover) := by
  simp only [State.writeOwner, hp, hnew, hv, State.setFld, State.setWord_tim, Bool.not_true, Bool.false_eq_true, if_false, beq_iff_eq]

theorem State.writeOwner_turnedAway {s : State} {o : Origin} {v : Nat}
    (h : v % 4 = s.fld F.TIM_CTL_OWNER ∨ s.presence = false ∨ v % 4 = 3) :
    s.writeOwner o v = if v % 4 = s.fld F.TIM_CTL_OWNER then s else if s.presence = false then s.fault5 o .TIM_CTL 0
      else s.cfgRej .TIM_CTL 0 := by
  by_cases hsame : v % 4 = s.fld F.TIM_CTL_OWNER
  · simp only [State.writeOwner, hsame, if_true]
  by_cases hp : s.presence = false
  · simp only [State.writeOwner, hsame, hp, Bool.not_false, if_false, if_true]
  · have hv : v % 4 = 3 := (h.resolve_left hsame).resolve_left hp
    simp only [State.writeOwner, hp, hv, Bool.not_eq_true', if_true]

/-! ## The snapshot (R206) -/

/-- The three words of a number of 96 bits. -/
def words96 (n : Nat) : List W32 := [wordOf n 0, wordOf n 1, wordOf n 2]

/-- The snapshot shows the counter, the state of discipline and T. -/
theorem State.timeSnap_eq (s : State) :
    s.timeSnap = ((((((((s.setWords .TIM_CNT (words96 s.counter) 0).setWords .TIM_OFS (words96 s.tim.ofs.toNat) 0).setWords
      .TIM_ANCHOR (words96 s.tim.anchor.toNat) 0).setWord .TIM_RATE s.tim.rate).setWord
      .TIM_DT_FRAC (BitVec.ofNat 32 ((s.timeT % unitsPerSec).toNat % 65536))).setWord
      .TIM_DT_NS (BitVec.ofNat 32 ((s.timeT % unitsPerSec).toNat / 65536))).setWord
      .TIM_DT_S_LO (wordOf (lowBits 48 (s.timeT / unitsPerSec)) 0)).setWord
      .TIM_DT_S_HI (wordOf (lowBits 48 (s.timeT / unitsPerSec)) 1)) := rfl

theorem State.onlyWords_timeSnap (s : State) :
    s.onlyWords s.timeSnap [.TIM_CNT, .TIM_DT_FRAC, .TIM_DT_NS, .TIM_DT_S_LO, .TIM_DT_S_HI, .TIM_OFS, .TIM_RATE, .TIM_ANCHOR] 0 = true := by
  rw [State.timeSnap_eq]
  iterate 5 refine State.onlyWords_setWord ?_ (by decide) (by decide) _
  iterate 3 refine State.onlyWords_setWords ?_ (by decide) _ (by simp [words96])
  exact State.onlyWords_self ..

theorem State.tim_of_onlyWords {s t : State} {l : List Reg} {g : Nat} (h : s.onlyWords t l g = true) : t.tim = s.tim := by
  simp only [State.onlyWords, Bool.and_eq_true, decide_eq_true_eq] at h
  rw [h.1]

/-- A word written to another register leaves every word of this one. -/
theorem State.word_setWord_otherReg (s : State) {r q : Reg} {i j : Nat} (w : W32) (hr : r.ctorIdx ≠ q.ctorIdx) (hi : i < 2 ^ 20)
    (hj : j < 2 ^ 20) : (s.setWord q w j).word r i = s.word r i :=
  State.word_setWord_ne s w (regKey_ne hr hi hj (by decide) (by decide))

theorem State.word_setWords96_other (s : State) {r q : Reg} {i : Nat} (n : Nat) (hr : r.ctorIdx ≠ q.ctorIdx) (hi : i < 2 ^ 20) :
    (s.setWords q (words96 n) 0).word r i = s.word r i :=
  State.word_setWords_ne s (words96 n) hr hi (by decide) (by simp [words96])

theorem State.word_timeSnap_cnt (s : State) {j : Nat} (hj : j < 3) :
    s.timeSnap.word .TIM_CNT j = (words96 s.counter).getD j (s.word .TIM_CNT j) := by
  have hcnt := State.word_setWords_add s .TIM_CNT (words96 s.counter) 0 0 j
  rw [Nat.zero_add] at hcnt
  have hj' : j < 2 ^ 20 := by omega
  rw [State.timeSnap_eq, ← hcnt]
  iterate 5 rw [State.word_setWord_otherReg _ _ (by decide) hj' (by decide)]
  iterate 2 rw [State.word_setWords96_other _ _ (by decide) hj']

theorem State.word_timeSnap_rate (s : State) : s.timeSnap.word .TIM_RATE = s.tim.rate := by
  rw [State.timeSnap_eq]
  iterate 4 rw [State.word_setWord_otherReg _ _ (by decide) (by decide) (by decide)]
  exact State.word_setWord ..

theorem State.word_timeSnap_ns (s : State) :
    s.timeSnap.word .TIM_DT_NS = BitVec.ofNat 32 ((s.timeT % unitsPerSec).toNat / 65536) := by
  rw [State.timeSnap_eq]
  iterate 2 rw [State.word_setWord_otherReg _ _ (by decide) (by decide) (by decide)]
  exact State.word_setWord ..

/-- The nanoseconds of T fit their word. -/
theorem toNat_nanoseconds (t : Int) :
    (BitVec.ofNat 32 ((t % unitsPerSec).toNat / 65536)).toNat = (t % unitsPerSec).toNat / 65536 := by
  rw [BitVec.toNat_ofNat]
  unfold unitsPerSec
  omega

/-! ## The commands -/

/-- Settles O39: the switch by the reference in force, the adjustments by their errors, owner and snapshot by what they write. -/
theorem timeAdjustmentsComplete : Obligations.TimeAdjustmentsComplete := by
  refine ⟨?switch, ?switched, ?rate, ?step, ?both, ?set, ?owner, ?ownerKept, ?snapshot⟩
  case switch => exact fun s h => exec_of_effect rfl (State.refSwitch_external h)
  case switched => exact fun s h => exec_of_effect rfl (State.refSwitch_internal h)
  case rate =>
    exact fun s o hg => exec_adjusted true false (fun t T => T.setRate t.counter (t.word .TIM_ADJ_RATE 0 o.grp)) rfl hg
      (State.adjErr_rated ..) (if_neg Bool.false_ne_true)
  case step =>
    exact fun s o hg => exec_adjusted false true (fun t T => T.move (t.adjStepOf o.grp)) rfl hg (State.adjErr_unrated ..) (if_pos rfl)
  case both =>
    exact fun s o hg => exec_adjusted true true
      (fun t T => (T.setRate t.counter (t.word .TIM_ADJ_RATE 0 o.grp)).move (t.adjStepOf o.grp)) rfl hg
      (State.adjErr_rated ..) (if_pos rfl)
  case set =>
    exact fun s o hg => exec_adjusted false true (fun t T => T.setT t.counter (t.adjSetOf o.grp)) rfl hg
      (State.adjErr_unrated ..) (if_pos rfl)
  case owner =>
    exact fun s o owner hg hp hnew hv => exec_of_granted_effect (c := .ownerWrite o owner) rfl hg (State.writeOwner_taken hp hnew hv)
  case ownerKept =>
    exact fun s o owner hg h => exec_of_granted_effect (c := .ownerWrite o owner) rfl hg (State.writeOwner_turnedAway h)
  case snapshot =>
    intro s o hg
    have honly := State.onlyWords_timeSnap s
    exact ⟨_, exec_granted (c := .timeSnapshot o) rfl hg, State.word_timeSnap_cnt s (by decide), State.word_timeSnap_cnt s (by decide),
      State.word_timeSnap_cnt s (by decide), State.word_timeSnap_rate s,
      (congrArg BitVec.toNat (State.word_timeSnap_ns s)).trans (toNat_nanoseconds s.timeT), State.tim_of_onlyWords honly, honly⟩

end Sys2Proof.Machine
end

section
/-!
PROOFS. Sources of time and its pins (10): the PTP service (R207, R209), the host's lock and the holdover age (R207, R208), captures
(R215) and outputs (R216).
-/

namespace Sys2Proof.Machine

/-! ## Sync and the other messages (R209) -/

theorem State.ptpSync_received {s : State} (port : W64) (seq : Nat) (two : Bool) (t1 corr : Int) (h : s.ptpOn = true) :
    s.ptpSync port seq two t1 corr =
      if s.tim.ptp.master ≠ some port then s.count .tim 0 0 6
      else if two then (s.count .tim 0 0 6).setPtp (fun p => { p with pendT1 := some (seq, s.timeT - corr) })
      else (s.count .tim 0 0 6).syncMeasured t1 (s.timeT - corr) := by
  simp only [State.ptpSync, h, Bool.not_true, Bool.false_eq_true, if_false, bne_iff_ne]

theorem State.ptpSync_off {s : State} (port : W64) (seq : Nat) (two : Bool) (t1 corr : Int) (h : s.ptpOn = false) :
    s.ptpSync port seq two t1 corr = s := by
  simp only [State.ptpSync, h, Bool.not_false, if_true]

theorem State.ptpMsg_off {s : State} (m : PtpMsg) (h : s.ptpOn = false) : s.ptpMsg m = s := by
  simp only [State.ptpMsg, h, Bool.not_false, if_true]

theorem State.ptpMsg_announce {s : State} (port gm : W64) (p1 c a v p2 st : Nat) (h : s.ptpOn = true) :
    s.ptpMsg (.announce port p1 c a v p2 gm st) = (s.setPtp (fun q => { q with
      foreign := q.foreign.filter (fun e => e.1 != port) ++ [(port, [p1, c, a, v, p2, gm.toNat, st, port.toNat])] })).bmca := by
  simp only [State.ptpMsg, h, Bool.not_true, Bool.false_eq_true, if_false]

theorem State.ptpMsg_followUp {s : State} {port : W64} {q : Nat} {t2 : Int} (t1 : Int) (h : s.ptpOn = true)
    (hpend : s.tim.ptp.pendT1 = some (q, t2)) (hmaster : s.tim.ptp.master = some port) :
    s.ptpMsg (.followUp port q t1) = s.syncMeasured t1 t2 := by
  simp only [State.ptpMsg, h, hpend, hmaster, beq_self_eq_true, Bool.and_self, Bool.not_true, Bool.false_eq_true, if_false, if_true]

theorem State.ptpMsg_delayReq {s : State} (port : W64) (q : Nat) (h : s.ptpOn = true) :
    s.ptpMsg (.delayReq port q) = if s.ptpMaster = true ∧ s.flag F.TIM_CTL_PROFILE = false then s.ptpOut 9 q else s := by
  simp only [State.ptpMsg, h, Bool.not_true, Bool.false_eq_true, if_false, Bool.and_eq_true, Bool.not_eq_true']

theorem State.ptpMsg_delayResp {s : State} {port : W64} {q : Nat} {t1 t2 t3 : Int} (t4 : Int) (h : s.ptpOn = true)
    (hpeer : s.flag F.TIM_CTL_PROFILE = false) (hmaster : s.tim.ptp.master = some port) (hreq : s.tim.ptp.reqT3 = some (q, t3))
    (ht : s.tim.ptp.t12 = some (t1, t2)) :
    s.ptpMsg (.delayResp port q t4) = s.setPtp (fun x => { x with delay := ((t2 - t1) + (t4 - t3)) / 2, reqT3 := none }) := by
  simp only [State.ptpMsg, h, hpeer, hmaster, hreq, ht, beq_self_eq_true, Bool.and_self, Bool.not_true, Bool.not_false,
    Bool.false_eq_true, if_false, if_true]

theorem State.ptpMsg_pdelayReq {s : State} (port : W64) (q : Nat) (h : s.ptpOn = true) :
    s.ptpMsg (.pdelayReq port q) = if s.flag F.TIM_CTL_PROFILE = true then (s.ptpOut 3 q).ptpOut 10 q else s := by
  simp only [State.ptpMsg, h, Bool.not_true, Bool.false_eq_true, if_false]

theorem State.ptpMsg_pdelayResp {s : State} (port : W64) {q : Nat} {t1 : Int} (t2 t3 : Int) (h : s.ptpOn = true)
    (hpeer : s.flag F.TIM_CTL_PROFILE = true) (hreq : s.tim.ptp.reqT3 = some (q, t1)) :
    s.ptpMsg (.pdelayResp port q t2 t3) =
      s.setPtp (fun x => { x with delay := ((s.timeT - t1) - (t3 - t2)) / 2, reqT3 := none }) := by
  simp only [State.ptpMsg, h, hpeer, hreq, beq_self_eq_true, Bool.and_self, Bool.not_true, Bool.false_eq_true, if_false, if_true]

/-! ## Messages that leave (R209) -/

@[simp] theorem State.mgtOne_tim (s : State) : s.mgtOne.tim = s.tim := by
  unfold State.mgtOne
  split
  · rfl
  · dsimp only
    split <;> rfl

@[simp] theorem State.mgtSend_tim (s : State) (o : Output) (n : Nat) : (s.mgtSend o n).tim = s.tim :=
  foldl_keeps State.tim (fun t _ => t.mgtOne) (fun t _ _ => State.mgtOne_tim t) _

@[simp] theorem State.ptpOut_tim (s : State) (kind seq : Nat) : (s.ptpOut kind seq).tim = s.tim := by
  unfold State.ptpOut
  dsimp only
  split
  · rw [State.mgtSend_tim]
    split <;> rfl
  · split <;> rfl

theorem State.ptpTimer_master {s : State} {k : PtpTimer} (hm : s.ptpMaster = true) (hk : k ≠ .delayReq) :
    s.ptpTimer k = if k = .sync then (s.ptpOut 8 s.tim.ptp.seq).ptpSend 0 else s.ptpSend 11 := by
  cases k with
  | sync => simp only [State.ptpTimer, hm, if_true]
  | announce => simp only [State.ptpTimer, hm, reduceCtorEq, if_true, if_false]
  | delayReq => exact absurd rfl hk

theorem State.ptpTimer_delayReq {s : State} (h : s.ptpOn = true)
    (hask : s.tim.ptp.master.isSome = true ∨ s.flag F.TIM_CTL_PROFILE = true) :
    s.ptpTimer .delayReq = (s.setPtp (fun p => { p with reqT3 := some (p.seq, s.timeT) })).ptpSend
      (if s.flag F.TIM_CTL_PROFILE = true then 2 else 1) := by
  have hsilent : (s.tim.ptp.master.isNone && !s.flag F.TIM_CTL_PROFILE) = false := by
    rw [← Option.not_isSome]
    rcases hask with h | h <;> simp [h]
  simp only [State.ptpTimer, h, hsilent, Bool.not_true, Bool.or_self, Bool.false_eq_true, if_false]

theorem State.ptpTimer_off {s : State} (k : PtpTimer) (h : s.ptpOn = false) : s.ptpTimer k = s := by
  have hmaster : s.ptpMaster = false := by simp only [State.ptpMaster, h, Bool.false_and]
  cases k with
  | sync => simp only [State.ptpTimer, hmaster, Bool.false_eq_true, if_false]
  | announce => simp only [State.ptpTimer, hmaster, Bool.false_eq_true, if_false]
  | delayReq => simp only [State.ptpTimer, h, Bool.not_false, Bool.true_or, if_true]

/-- The master m has been silent: it is forgotten, and its silence counted. -/
def State.masterLost (s : State) (m : W64) : State :=
  (s.setPtp (fun p => { p with foreign := p.foreign.filter (fun e => e.1 != m), master := none, good := 0 })).count .tim 0 0 7

theorem State.announceTimeout_master {s : State} {m : W64} (h : s.tim.ptp.master = some m) :
    s.announceTimeout =
      if s.tim.mode = .locked ∨ s.tim.mode = .acquiring then (s.masterLost m).timeTo .holdover else s.masterLost m := by
  have hmode : (s.masterLost m).tim.mode = s.tim.mode := by
    rw [State.masterLost, State.count_tim]
    rfl
  simp only [State.announceTimeout, h, Bool.or_eq_true, beq_iff_eq]
  rw [← hmode]
  rfl

theorem State.announceTimeout_free {s : State} (h : s.tim.ptp.master = none) : s.announceTimeout = s := by
  simp only [State.announceTimeout, h]

/-! ## The host's lock and the age (R207, R208) -/

theorem State.hostLock_eq (s : State) (o : Origin) (lock : Bool) :
    s.hostLock o lock =
      if (s.setFld F.TIM_HOST_HOST_LOCK (b2n lock)).fld F.TIM_CTL_OWNER ≠ 1 ∨ o.pfIa = false then
        s.setFld F.TIM_HOST_HOST_LOCK (b2n lock)
      else if lock = true ∧ (s.tim.mode = .freeRun ∨ s.tim.mode = .holdover) then
        (s.setFld F.TIM_HOST_HOST_LOCK (b2n lock)).timeTo .locked
      else if lock = false ∧ s.tim.mode = .locked then (s.setFld F.TIM_HOST_HOST_LOCK (b2n lock)).timeTo .holdover
      else s.setFld F.TIM_HOST_HOST_LOCK (b2n lock) := by
  have hmode : (s.setFld F.TIM_HOST_HOST_LOCK (b2n lock)).tim.mode = s.tim.mode := congrArg Tim.mode (State.setWord_tim ..)
  simp only [State.hostLock, hmode, Bool.and_eq_true, Bool.or_eq_true, Bool.not_eq_true', beq_iff_eq]

theorem State.ageExpired_ageing {s : State} (hl : s.tim.mode ≠ .locked) (hf : s.tim.mode ≠ .freeRun) :
    s.ageExpired = ({ s with tim := { s.tim with
      age0 := min s.tim.age0 ((s.counter : Int) - ((s.fld F.TIM_HOST_HOLD_S : Nat) : Int) * unitsPerSec) } } : State).relock := by
  unfold State.ageExpired
  split
  · contradiction
  · contradiction
  · rfl

theorem State.ageExpired_ageless {s : State} (h : s.tim.mode = .locked ∨ s.tim.mode = .freeRun) : s.ageExpired = s := by
  rcases h with h | h <;> simp only [State.ageExpired, h]

/-! ## Captures (R215) -/

theorem State.capEdge_enabled {s : State} {p : Nat} (hen : s.flag F.TIM_CAP_CFG_EN p = true)
    (hin : p = 0 ∨ s.flag F.TIM_CAP_CFG_OUT p = false) :
    s.capEdge p = if 16 ≤ (s.cap p).fifo.length then (s.count .tim 0 0 5).setInt .TIM_INT_STAT 5
      else (s.setCap p { fifo := (s.cap p).fifo ++ [(s.timeT, s.counter)] }).setInt .TIM_INT_STAT 4 := by
  have hinput : (p != 0 && s.flag F.TIM_CAP_CFG_OUT p) = false := by
    rcases hin with h | h <;> simp [h]
  simp only [State.capEdge, hen, hinput, Bool.not_true, Bool.or_self, Bool.false_eq_true, if_false]

theorem State.capEdge_disabled {s : State} {p : Nat} (hen : s.flag F.TIM_CAP_CFG_EN p = false) : s.capEdge p = s := by
  simp only [State.capEdge, hen, Bool.not_false, Bool.true_or, if_true]

/-- The capture registers of pin p show time t, its fraction in steps of 0.25 ns. -/
def State.showCapture (s : State) (p : Nat) (t : Int) : State :=
  ((s.setWord .TIM_CAP_S_LO (wordOf (lowBits 48 (t / unitsPerSec)) 0) p).setWord .TIM_CAP_S_HI
    (BitVec.ofNat 32 (fw 31 16 ((t % unitsPerSec).toNat % 65536 / 16384 * 16384) + lowBits 48 (t / unitsPerSec) / 2 ^ 32)) p).setWord
    .TIM_CAP_NS (BitVec.ofNat 32 ((t % unitsPerSec).toNat / 65536)) p

theorem State.capPop_oldest {s : State} {p c : Nat} {t : Int} {l : List (Int × Nat)} (h : (s.cap p).fifo = (t, c) :: l) :
    s.capPop p = (s.setCap p { fifo := l }).showCapture p t := by
  simp only [State.capPop, h, State.showCapture]

theorem State.capPop_empty {s : State} {p : Nat} (h : (s.cap p).fifo = []) : s.capPop p = s := by
  simp only [State.capPop, h]

@[simp] theorem State.cap_setCap (s : State) (p : Nat) (v : Cap) : (s.setCap p v).cap p = v := Tab.look_put_self ..

/-- A capture that is shown changes the registers that show it: time, frames and counters are as they were. -/
theorem State.showCapture_keeps (s : State) (p : Nat) (t : Int) :
    (s.showCapture p t).tim = s.tim ∧ (s.showCapture p t).frames = s.frames ∧ (s.showCapture p t).cnts = s.cnts := by
  simp only [State.showCapture, State.setWord_tim, State.setWord_frames, State.setWord_cnts, and_self]

theorem State.word_showCapture_ns (s : State) {p : Nat} (t : Int) :
    (s.showCapture p t).word .TIM_CAP_NS p = BitVec.ofNat 32 ((t % unitsPerSec).toNat / 65536) := State.word_setWord ..

theorem State.word_showCapture_seconds (s : State) {p : Nat} (t : Int) (hp : p < 2 ^ 20) :
    (s.showCapture p t).word .TIM_CAP_S_LO p = wordOf (lowBits 48 (t / unitsPerSec)) 0 := by
  unfold State.showCapture
  rw [State.word_setWord_otherReg _ _ (by decide) hp hp, State.word_setWord_otherReg _ _ (by decide) hp hp]
  exact State.word_setWord ..

/-! ## Outputs (R216) -/

/-- The level that drives a pin depends on its LOW, which the pin's own record does not touch. -/
theorem State.driveOut_setOut (s : State) (p : Nat) (v : OutPin) (high : Bool) :
    (s.setOut p v).driveOut p high = (s.setOut p v).emit (.pin p (high != s.flag F.TIM_OUT_CFG_LOW p)) := rfl

theorem State.outEdge_rising {s : State} {p : Nat} {t : Int} (hon : s.outOn p = true) (hnext : (s.outPin p).next = some t)
    (hlow : (s.outPin p).high = false) :
    s.outEdge p = if s.timeT < t then s else (s.setOut p { s.outPin p with high := true }).emit
      (.pin p (true != s.flag F.TIM_OUT_CFG_LOW p)) := by
  simp only [State.outEdge, hnext, hon, hlow, Bool.not_true, Bool.false_eq_true, if_false]
  rw [State.driveOut_setOut]

theorem State.outEdge_falling {s : State} {p : Nat} {t : Int} (hon : s.outOn p = true) (hnext : (s.outPin p).next = some t)
    (hhigh : (s.outPin p).high = true) (hend : t + ((s.fld F.TIM_OUT_WIDTH_NS p * 65536 : Nat) : Int) ≤ s.timeT) :
    s.outEdge p = (s.setOut p { s.outPin p with
      high := false, done := s.outPeriod p == 0,
      next := if s.outPeriod p = 0 then none else some (t + ((s.outPeriod p : Nat) : Int)) }).emit
        (.pin p (false != s.flag F.TIM_OUT_CFG_LOW p)) := by
  simp only [State.outEdge, hnext, hon, hhigh, Int.not_lt.mpr hend, Bool.not_true, Bool.false_eq_true, if_false, if_true]
  rw [State.driveOut_setOut]

theorem State.outEdge_idle {s : State} {p : Nat} (hnext : (s.outPin p).next = none) : s.outEdge p = s := by
  simp only [State.outEdge, hnext]

/-! ## The commands -/

/-- Settles O40: each command by its operation's own rule in the state that lets it complete, and in the state that does not. -/
theorem timeSourcesAndPinsComplete : Obligations.TimeSourcesAndPinsComplete := by
  refine ⟨?sync, ?syncOff, ?announce, ?followUp, ?delayReq, ?delayResp, ?pdelayReq, ?pdelayResp, ?messageOff, ?masterTimer, ?delayTimer,
    ?timerOff, ?silence, ?noMaster, ?hostLock, ?watchdog, ?ageing, ?ageless, ?capture, ?captureOff, ?pop, ?popEmpty, ?rising, ?falling,
    ?idle⟩
  case sync => exact fun s port seq two t1 corr h => exec_of_effect rfl (congrArg s.mirrorTime (State.ptpSync_received port seq two t1 corr h))
  case syncOff =>
    exact fun s port seq two t1 corr h => exec_of_effect rfl
      ((congrArg s.mirrorTime (State.ptpSync_off port seq two t1 corr h)).trans (State.mirrorTime_same rfl))
  case announce =>
    exact fun s port gm p1 c a v p2 st h => exec_of_effect rfl (congrArg s.mirrorTime (State.ptpMsg_announce port gm p1 c a v p2 st h))
  case followUp =>
    exact fun s port q t1 t2 h hpend hmaster => exec_of_effect rfl (congrArg s.mirrorTime (State.ptpMsg_followUp t1 h hpend hmaster))
  case delayReq =>
    intro s port q h
    have htim : (s.ptpMsg (.delayReq port q)).tim = s.tim := by
      rw [State.ptpMsg_delayReq port q h]
      split
      · exact State.ptpOut_tim ..
      · rfl
    exact exec_of_effect rfl ((State.mirrorTime_same htim).trans (State.ptpMsg_delayReq port q h))
  case delayResp =>
    exact fun s port q t1 t2 t3 t4 h hpeer hmaster hreq ht =>
      exec_of_effect rfl (congrArg s.mirrorTime (State.ptpMsg_delayResp t4 h hpeer hmaster hreq ht))
  case pdelayReq => exact fun s port q h => exec_of_effect rfl (congrArg s.mirrorTime (State.ptpMsg_pdelayReq port q h))
  case pdelayResp =>
    exact fun s port q t1 t2 t3 h hpeer hreq =>
      exec_of_effect rfl (congrArg s.mirrorTime (State.ptpMsg_pdelayResp port t2 t3 h hpeer hreq))
  case messageOff =>
    exact fun s m h => exec_of_effect rfl ((congrArg s.mirrorTime (State.ptpMsg_off m h)).trans (State.mirrorTime_same rfl))
  case masterTimer => exact fun s k hm hk => exec_of_effect rfl (State.ptpTimer_master hm hk)
  case delayTimer =>
    rintro s k h hask rfl
    exact exec_of_effect rfl (State.ptpTimer_delayReq h hask)
  case timerOff => exact fun s k h => exec_of_effect rfl (State.ptpTimer_off k h)
  case silence => exact fun s m h => exec_of_effect rfl (State.announceTimeout_master h)
  case noMaster => exact fun s h => exec_of_effect rfl (State.announceTimeout_free h)
  case hostLock => exact fun s o lock hg => exec_of_granted_effect (c := .hostLockWrite o lock) rfl hg (State.hostLock_eq s o lock)
  case watchdog => exact fun s => rfl
  case ageing => exact fun s hl hf => exec_of_effect rfl (State.ageExpired_ageing hl hf)
  case ageless => exact fun s h => exec_of_effect rfl (State.ageExpired_ageless h)
  case capture => exact fun s pin hen hin => exec_of_effect rfl (State.capEdge_enabled hen hin)
  case captureOff => exact fun s pin hen => exec_of_effect rfl (State.capEdge_disabled hen)
  case pop =>
    intro s o pin t c l hg h
    have hp : pin % 5 < 2 ^ 20 := by omega
    obtain ⟨htim, hframes, hcnts⟩ := State.showCapture_keeps (s.setCap (pin % 5) { fifo := l }) (pin % 5) t
    have hcap : (s.setCap (pin % 5) { fifo := l }).cap (pin % 5) = { fifo := l } := State.cap_setCap ..
    refine ⟨_, exec_of_granted_effect (c := .capturePop o pin) rfl hg (State.capPop_oldest h), ?fifo, ?ns,
      State.word_showCapture_seconds _ t hp, ?cnt, hframes, hcnts⟩
    case fifo => exact (congrArg (fun m : Tim => (m.caps.look (fun _ => {}) (pin % 5)).fifo) htim).trans (congrArg Cap.fifo hcap)
    case ns => exact (congrArg BitVec.toNat (State.word_showCapture_ns _ t)).trans (toNat_nanoseconds t)
    case cnt => exact (congrArg Tim.cnt htim).trans rfl
  case popEmpty =>
    exact fun s o pin hg h => exec_of_granted_effect (c := .capturePop o pin) rfl hg (State.capPop_empty h)
  case rising => exact fun s pin t hon hnext hlow => exec_of_effect rfl (State.outEdge_rising hon hnext hlow)
  case falling => exact fun s pin t hon hnext hhigh hend => exec_of_effect rfl (State.outEdge_falling hon hnext hhigh hend)
  case idle => exact fun s pin hnext => exec_of_effect rfl (State.outEdge_idle hnext)

end Sys2Proof.Machine
end

section
/-!
PROOFS. The pads (11, R224, R226): every command ends with the end of a step, whose pad logic has the last word.
-/

namespace Sys2Proof.Machine

open Host

/-! ## Where every command ends -/

/-- A command that does not stop ends in the end of a step. -/
theorem exec_next_done {c : Instr} {s t : State} (h : exec c s = .next t) : ∃ u, t = s.done u := by
  cases c with
  | supplyCrossing supply mv =>
    change execSupplyCrossing supply mv s = _ at h
    unfold execSupplyCrossing at h
    split at h
    · cases h
    · exact ⟨_, (Outcome.next.inj h).symm⟩
  | debugAccess k =>
    change execDebugAccess k s = _ at h
    unfold execDebugAccess at h
    split at h
    · exact ⟨_, (Outcome.next.inj h).symm⟩
    · cases k with
      | step c => cases h
      | scan => cases h
      | _ => exact ⟨_, (Outcome.next.inj h).symm⟩
  | _ => exact ⟨_, (Outcome.next.inj h).symm⟩

/-- So does every step, of a command and of the clock alike. -/
theorem step_next_done {s t : State} (h : step s = .next t) : ∃ r u, t = State.done r u := by
  unfold step at h
  split at h
  · exact ⟨s, _, (Outcome.next.inj h).symm⟩
  · exact ⟨_, exec_next_done h⟩

/-! ## The pins and the lease -/

/-- A driven pin changes its own flag of the pair's record, and what has left the part. -/
theorem State.setAct_frame (s : State) (on : Bool) : ∃ o, s.setAct on = { s with par := { s.par with actOut := on }, out := o } := by
  unfold State.setAct
  split
  · rename_i h; exact ⟨s.out, by rw [← eq_of_beq h]⟩
  · exact ⟨_, rfl⟩

theorem State.setBeat_frame (s : State) (on : Bool) : ∃ o, s.setBeat on = { s with par := { s.par with beatOut := on }, out := o } := by
  unfold State.setBeat
  split
  · rename_i h; exact ⟨s.out, by rw [← eq_of_beq h]⟩
  · exact ⟨_, rfl⟩

/-- The validity of a lease and the pads are read from the pair's record and the isolation alone. -/
theorem State.leaseValid_congr {s t : State} (hpar : t.par = s.par) (halarm : t.alarm = s.alarm) : t.leaseValid = s.leaseValid := by
  unfold State.leaseValid; rw [hpar, halarm]

theorem State.padsOk_congr {s t : State} (hpar : t.par = s.par) (halarm : t.alarm = s.alarm) : t.padsOk = s.padsOk := by
  unfold State.padsOk; rw [State.leaseValid_congr hpar halarm, hpar]

/-- A look at the gate changes its own flag, and what has left the part. -/
theorem State.gateLook_keeps (s : State) :
    s.gateLook.par = { s.par with gate := s.par.actOut && s.par.settled && !s.par.actIn && !s.par.fenceIn } ∧
      s.gateLook.alarm = s.alarm :=
  State.setGate_else s _

@[simp] theorem State.gateLook_actOut (s : State) : s.gateLook.par.actOut = s.par.actOut := by rw [(State.gateLook_keeps s).1]

@[simp] theorem State.gateLook_beatOut (s : State) : s.gateLook.par.beatOut = s.par.beatOut := by rw [(State.gateLook_keeps s).1]

@[simp] theorem State.gateLook_leaseValid (s : State) : s.gateLook.leaseValid = s.leaseValid := by
  obtain ⟨hpar, halarm⟩ := State.gateLook_keeps s
  unfold State.leaseValid; rw [hpar, halarm]

/-! ## The end of a step -/

/-- With an invalid lease the pad logic has ACT_OUT and BEAT_OUT fall (R226). -/
theorem State.padLogic_lease (s : State) :
    s.padLogic.leaseValid = true ∨ (s.padLogic.par.actOut = false ∧ s.padLogic.par.beatOut = false) := by
  unfold State.padLogic
  split
  case isTrue hlease => exact .inl ((State.gateLook_leaseValid s).trans hlease)
  case isFalse =>
    obtain ⟨o, hbeat⟩ := State.setBeat_frame s false
    obtain ⟨o', hact⟩ := State.setAct_frame (s.setBeat false) false
    right
    rw [State.gateLook_actOut, State.gateLook_beatOut, hact, hbeat]
    exact ⟨rfl, rfl⟩

theorem State.padsOk_padLogic (s : State) : s.padLogic.padsOk = true := by
  have hgate := State.padLogic_padsOk s
  unfold State.padsOk
  rw [← hgate]
  rcases State.padLogic_lease s with hlease | ⟨hact, hbeat⟩
  · simp [hlease]
  · simp [hact, hbeat]

/-- STATUS outputs are no part of the pair. -/
theorem State.driveLeds_keeps (s : State) : s.driveLeds.par = s.par ∧ s.driveLeds.alarm = s.alarm := by
  unfold State.driveLeds
  dsimp only
  split
  · exact ⟨rfl, rfl⟩
  · exact ⟨rfl, rfl⟩

/-- Nothing after the pad logic touches the pads: STATUS outputs follow, and the queue is as it was. -/
theorem State.padsOk_done (s t : State) : (s.done t).padsOk = true := by
  obtain ⟨hpar, halarm⟩ := State.driveLeds_keeps ((t.settleGo 4).s6Look.fenceLook.padLogic)
  exact (State.padsOk_congr hpar halarm).trans (State.padsOk_padLogic _)

/-- Settles O4: every step ends in the end of a step, where the pad logic has the last word on the pads. -/
theorem padsFollowTheirConditions : Obligations.PadsFollowTheirConditions := by
  intro s t _ hstep
  obtain ⟨r, u, rfl⟩ := step_next_done hstep
  exact State.padsOk_done r u

end Sys2Proof.Machine
end

section
/-!
PROOFS. The lines of the bolt (11): edges of ACT_IN, FENCE_IN and BEAT_IN, the settling time, a conflict's end, the end of a fence
pulse and the renewal of the lease (R224 to R228, R241). That BOLT_SETTLED is what opens the gate after ACT_IN falls, and that the
beat's and tether's silence is measured from the last edge and record accepted, is the model's choice (log entry 26).
-/

namespace Sys2Proof.Machine

/-! ## ACT_IN (R224, R225) -/

/-- ACT_IN rises beside an ACT_OUT that is low or high; a conflict keeps its claim with the gate open or from slot 0. -/
theorem State.actInRise_eq (s : State) :
    let A : State := ({ s with par := { s.par with actIn := true, settled := false } } : State).gateLook
    let B : State := (A.count .par 0 0 9).parInt 3
    s.actInRise = if s.par.actOut = false then A
      else if s.par.gate = true ∨ B.slotNo = 0 then { B with par := { B.par with conflict := true, keepClaim := true } }
      else B.endAct := by
  simp only [State.actInRise, State.gateLook_actOut, Bool.not_eq_true', Bool.or_eq_true, beq_iff_eq]

theorem State.actInFall_eq (s : State) :
    let A : State := { s with par := { s.par with actIn := false, conflict := false, keepClaim := false } }
    s.actInFall = if s.par.st = .standby ∧ s.par.synced = true then A.claim (s.par.handRec.getD .recovery) else A := by
  simp only [State.actInFall, Bool.and_eq_true, beq_iff_eq]

theorem State.conflictTimeout_kept {s : State} (hc : s.par.conflict = true) (hk : s.par.keepClaim = true)
    (ha : s.par.actIn = true) (hl : s.leaseValid = true) :
    s.conflictTimeout = ({ s with par := { s.par with conflict := false } } : State).fencePartner := by
  simp only [State.conflictTimeout, hc, hk, ha, hl, Bool.and_self, if_true]

theorem State.conflictTimeout_ended {s : State}
    (h : s.par.conflict = false ∨ s.par.keepClaim = false ∨ s.par.actIn = false ∨ s.leaseValid = false) :
    s.conflictTimeout = s := by
  rcases h with h | h | h | h <;> simp [State.conflictTimeout, h]

/-! ## FENCE_IN and FENCE_OUT (R228) -/

theorem State.fenceLow_eq (s : State) :
    s.fenceLow = if s.par.st = .fenced then { s with par := { s.par with fenceIn := false, st := .start } }
      else { s with par := { s.par with fenceIn := false } } := by
  simp only [State.fenceLow, beq_iff_eq]

theorem State.fencePulseEnd_eq (s : State) :
    s.fencePulseEnd = if s.par.fenceOut = true then ({ s with par := { s.par with fenceOut := false } } : State).emit (.pin 11 false)
      else s := by
  unfold State.fencePulseEnd State.setFence
  cases s.par.fenceOut <;> rfl

/-! ## BEAT_IN and the lease (R226, R227) -/

theorem State.beatEdge_eq (s : State) :
    let A : State := ({ s with par := { s.par with beatOk := true } } : State).level 21 false
    s.beatEdge = if A.par.synced = true ∧ msUnits (A.fld F.PAR_TIME0_LEASE_MS + 1) ≤ A.quiet then A.syncLost else A := by
  simp only [State.beatEdge, Bool.and_eq_true, decide_eq_true_eq]

/-- Only a synced standby acts on a lapse of BEAT_IN: it fences and claims where the tether is silent too. -/
theorem State.beatLapse_eq (s : State) :
    let A : State := { s with par := { s.par with beatOk := false } }
    s.beatLapse = if s.par.st = .standby ∧ s.par.synced = true then
        (if msUnits (s.fld F.PAR_TIME0_LEASE_MS) ≤ s.quiet then
          (if A.leaseValid = true then A.fencePartner.claim .recovery else A)
        else (A.parInt 8).level 21 true)
      else A := by
  intro A
  have hlease : A.fld F.PAR_TIME0_LEASE_MS = s.fld F.PAR_TIME0_LEASE_MS := rfl
  have hquiet : A.quiet = s.quiet := rfl
  by_cases h : s.par.st = .standby ∧ s.par.synced = true
  · simp only [State.beatLapse, ← hlease, ← hquiet, A, h.1, h.2, beq_self_eq_true, Bool.and_self, Bool.not_true,
      Bool.false_eq_true, and_self, if_true, if_false]
  · have hoff : (s.par.st == .standby && s.par.synced) = false := by simpa using h
    simp only [State.beatLapse, hoff, Bool.not_false, if_true, if_neg h, A]

theorem State.leaseRenew_running {s : State} (h : s.pairRuns = true) :
    s.leaseRenew = ((({ s with par := { s.par with leaseRun := true } } : State).leaseLook).soloTry).startClaim :=
  if_neg (by simp [h])

theorem State.leaseRenew_off {s : State} (h : s.pairRuns = false) : s.leaseRenew = s := if_pos (by simp [h])

/-! ## The commands -/

/-- Settles O41: each line's command by its operation's own equation. -/
theorem pairPadEdgesComplete : Obligations.PairPadEdgesComplete := by
  refine ⟨?rise, ?fall, ?settled, ?conflict, ?noConflict, ?fenceHigh, ?fenceLow, ?pulseEnd, ?beat, ?lapse, ?renewal, ?noRenewal⟩
  case rise => exact fun s => exec_of_effect rfl (State.actInRise_eq s)
  case fall => exact fun s => exec_of_effect rfl (State.actInFall_eq s)
  case settled => exact fun s => rfl
  case conflict => exact fun s hc hk ha hl => exec_of_effect rfl (State.conflictTimeout_kept hc hk ha hl)
  case noConflict => exact fun s h => exec_of_effect rfl (State.conflictTimeout_ended h)
  case fenceHigh => exact fun s => rfl
  case fenceLow => exact fun s => exec_of_effect rfl (State.fenceLow_eq s)
  case pulseEnd => exact fun s => exec_of_effect rfl (State.fencePulseEnd_eq s)
  case beat => exact fun s => exec_of_effect rfl (State.beatEdge_eq s)
  case lapse => exact fun s => exec_of_effect rfl (State.beatLapse_eq s)
  case renewal => exact fun s h => exec_of_effect rfl (State.leaseRenew_running h)
  case noRenewal => exact fun s h => exec_of_effect rfl (State.leaseRenew_off h)

end Sys2Proof.Machine
end

section
/-!
PROOFS. The pair's timers (11): the lease's end, STATUS, HELLO, resending, replay and time records, a lost tether, the end of
discovery, of a hand-over's drain and of a hand-over (R226, R229 to R234, R236, R239, R241, R243, R244). What becomes of records that
are not acknowledged, and of silence of the tether, is the model's choice where R233 leaves it open (log entry 26).
-/

namespace Sys2Proof.Machine

/-! ## The lease and STATUS (R226, R234) -/

theorem State.leaseLapse_eq (s : State) :
    s.leaseLapse = if s.par.leaseRun = true then
        ({ s with par := { s.par with leaseRun := false },
                  start := { s.start with fwDead := s.start.fwDead || !s.alarm.isolated } } : State).leaseLook
      else s := by
  unfold State.leaseLapse
  cases s.par.leaseRun <;> rfl

theorem State.statusTimer_eq (s : State) :
    s.statusTimer = if s.leaseValid = true ∧ s.onTether = true then s.sendStatus else s := by
  simp only [State.statusTimer, Bool.and_eq_true]

/-! ## Silence of the tether (R228, R233) -/

/-- An active member fences its standby and goes on alone. -/
theorem State.tetherLost_standby {s : State} (ha : s.isActive = true) (hs : s.hasStandby = true) (hl : s.leaseValid = true) :
    s.tetherLost = if s.fencePartner.ownConfirm.par.st = .solo then s.fencePartner.ownConfirm
      else s.fencePartner.ownConfirm.parTo .solo := by
  simp only [State.tetherLost, ha, hs, hl, Bool.not_true, Bool.false_eq_true, if_false, if_true, beq_iff_eq]

/-- An active member gives up a resync. -/
theorem State.tetherLost_resync {s : State} (ha : s.isActive = true) (hs : s.hasStandby = false) (hr : s.par.resync = true) :
    s.tetherLost = ({ s with par := { s.par with ptSt := .start } } : State).ownConfirm.parInt 4 := by
  simp only [State.tetherLost, ha, hs, hr, Bool.not_true, Bool.false_eq_true, if_false, if_true]

theorem State.tetherLost_inactive {s : State} (ha : s.isActive = false) : s.tetherLost = s := if_pos (by simp [ha])

/-! ## HELLO and discovery (R231, R241) -/

theorem State.helloTimer_start {s : State} (ht : s.onTether = true) (hsolo : s.soloRuns = false) (hst : s.par.st = .start)
    (hrx : s.par.keyedRx = false) (hk : s.drbgKOk = true) :
    s.helloTimer = if s.tetherKeyed = true then s.helloKeyed else s.helloPlain :=
  if_neg (by simp [ht, hsolo, hst, hrx, hk])

theorem State.helloTimer_over {s : State} (h : s.par.st ≠ .start ∨ s.par.keyedRx = true ∨ s.soloRuns = true) :
    s.helloTimer = s := by
  apply if_pos
  rcases h with h | h | h <;> simp [h]

/-- Discovery without an active partner ends in a claim, or with NO_TETHER under a partner's ACT_OUT. -/
theorem State.discovered_alone {s : State} (hst : s.par.st = .start) (hrun : s.pairRuns = true) (hsolo : s.soloRuns = false)
    (hpt : s.par.keyedRx = false ∨ s.par.ptSt.isAct = false) :
    s.discovered = if s.par.actIn = true then { s with par := { s.par with noTether := true } } else s.claimSolo := by
  have halone : (s.par.keyedRx && s.par.ptSt.isAct) = false := Bool.and_eq_false_iff.mpr hpt
  simp only [State.discovered, hst, hrun, hsolo, halone, bne_self_eq_false, Bool.not_true, Bool.or_self, Bool.false_eq_true, if_false]

theorem State.discovered_over {s : State} (h : s.par.st ≠ .start ∨ s.soloRuns = true) : s.discovered = s := by
  apply if_pos
  rcases h with h | h <;> simp [h]

/-! ## Records sent again and mirrored (R233, R234) -/

theorem State.resend_tethered {s : State} (h : s.mayTether = true) :
    s.resend = s.par.unacked.foldl (fun (t : State) (r : TxRec) => (t.count .par 0 0 2).emit (.tether r.seq r.body true)) s :=
  if_neg (by simp [h])

theorem State.resend_off {s : State} (h : s.mayTether = false) : s.resend = s := if_pos (by simp [h])

theorem State.rxMirror_eq (s : State) :
    let A : State := { s with par := { s.par with rxDirty := [] } }
    s.rxMirror = if s.par.rxDirty = [] then s else A.tell 0x13 (.rxReplay (A.replayOf s.par.rxDirty)) := by
  simp only [State.rxMirror, List.isEmpty_iff]
  rfl

/-! ## The hand-over (R244) -/

/-- The drain's end sends the hand-over record and waits for its SEQ. -/
theorem State.drainEnd_draining {s : State} {role : PairState} (h : s.par.handing = some (role, 0)) :
    let A : State := s.sendRec 0x50 (.handover
      ((s.sas.filter (fun (e : Nat × Sa) => decide (e.1 < 8192) && e.2.installed)).map (fun (e : Nat × Sa) => (e.1, e.2.pn - 1)))
      ((s.cas.filter (fun (e : Nat × Ca) => e.2.active)).map (fun (e : Nat × Ca) => (e.1, e.2.mn))) role)
    s.drainEnd = { A with par := { A.par with handing := some (role, A.par.txSeq) } } := by
  simp only [State.drainEnd, h]

theorem State.drainEnd_none {s : State} (h : s.par.handing = none) : s.drainEnd = s := by
  simp only [State.drainEnd, h]

/-! ## The commands -/

/-- Settles O42: each timer's command by its operation's own rule in the states that it takes or leaves. -/
theorem pairTimersComplete : Obligations.PairTimersComplete := by
  refine ⟨?lease, ?status, ?lost, ?lostResync, ?lostInactive, ?hello, ?helloOver, ?resend, ?resendOff, ?replay, ?time, ?discover,
    ?discoverOver, ?drain, ?noDrain, ?late⟩
  case lease => exact fun s => exec_of_effect rfl (State.leaseLapse_eq s)
  case status => exact fun s => exec_of_effect rfl (State.statusTimer_eq s)
  case lost => exact fun s ha hs hl => exec_of_effect rfl (State.tetherLost_standby ha hs hl)
  case lostResync => exact fun s ha hs hr => exec_of_effect rfl (State.tetherLost_resync ha hs hr)
  case lostInactive => exact fun s ha => exec_of_effect rfl (State.tetherLost_inactive ha)
  case hello => exact fun s ht hsolo hst hrx hk => exec_of_effect rfl (State.helloTimer_start ht hsolo hst hrx hk)
  case helloOver => exact fun s h => exec_of_effect rfl (State.helloTimer_over h)
  case resend => exact fun s h => exec_of_effect rfl (State.resend_tethered h)
  case resendOff => exact fun s h => exec_of_effect rfl (State.resend_off h)
  case replay => exact fun s => exec_of_effect rfl (State.rxMirror_eq s)
  case time => exact fun s => rfl
  case discover => exact fun s hst hrun hsolo hpt => exec_of_effect rfl (State.discovered_alone hst hrun hsolo hpt)
  case discoverOver => exact fun s h => exec_of_effect rfl (State.discovered_over h)
  case drain => exact fun s role h => exec_of_effect rfl (State.drainEnd_draining h)
  case noDrain => exact fun s h => exec_of_effect rfl (State.drainEnd_none h)
  case late => exact fun s => rfl

end Sys2Proof.Machine
end

section
/-!
PROOFS. PAR_CMD (11): its checks in their order, what each code does or is refused with, and the ends of the times of TEST and RECOVERY
(R238, R241, R242, R244, R246).
-/

namespace Sys2Proof.Machine

/-! ## The checks (R246) -/

/-- The error code of a PAR_CMD: its master, then presence where it needs one, its state, and the partner where it needs one. -/
def State.parErr (s : State) (o : Origin) (pres okState needStandby : Bool) : Nat :=
  if o ≠ .pf0 ∧ o ≠ .iaholt then 1
  else if pres = true ∧ s.presence = false then 3
  else if okState = false then 2
  else if needStandby = true ∧ s.hasStandby = false then 4
  else 0

/-- A PAR_CMD has its effect where its checks find no error, and is refused with its code otherwise, one without presence as a fault
too. -/
theorem State.parCmd_eq (s : State) (o : Origin) (pres okState needStandby : Bool) (f : State → State) :
    let E := s.parErr o pres okState needStandby
    let A := s.cmdErr .PAR_CMD o.grp E
    s.parCmd o pres okState needStandby f =
      if E = 0 then f A else if E = 3 then (A.parInt 9).fault5 o .PAR_CMD 0 else A.parInt 9 := by
  intro E A
  have hmaster : (!(o == .pf0 || o == .iaholt)) = decide (o ≠ .pf0 ∧ o ≠ .iaholt) := Bool.eq_iff_iff.mpr (by simp)
  unfold State.parCmd
  rw [hmaster]
  unfold A E State.parErr
  by_cases hm : o ≠ .pf0 ∧ o ≠ .iaholt
  · simp [hm, State.parRefuse]
  by_cases hp : pres = true ∧ s.presence = false
  · simp [hm, hp, State.parRefuse]
  by_cases hst : okState = false
  · simp [hm, hp, hst, State.parRefuse]
  by_cases hs : needStandby = true ∧ s.hasStandby = false
  · simp [hm, hp, hst, hs, State.parRefuse]
  · simp [hm, hp, hst, hs]

/-- A granted PAR_CMD whose checks give code e: how it ends, its effect on the register shown. -/
theorem exec_parCmd {c : Instr} {s : State} {o : Origin} {pres okState needStandby : Bool} {f : State → State} {u : State} {e : Nat}
    (hc : exec c s = .next (s.done (s.hostWrite o .PAR_CMD 0 (fun t => t.parCmd o pres okState needStandby f))))
    (hg : s.grants o .PAR_CMD = true) (he : s.parErr o pres okState needStandby = e) (hf : f (s.cmdErr .PAR_CMD o.grp e) = u) :
    exec c s = .next (s.done (if e = 0 then u
      else if e = 3 then ((s.cmdErr .PAR_CMD o.grp e).parInt 9).fault5 o .PAR_CMD 0 else (s.cmdErr .PAR_CMD o.grp e).parInt 9)) := by
  subst he hf
  exact exec_of_granted_effect hc hg (State.parCmd_eq s o pres okState needStandby f)

/-- The error code of TEST. -/
theorem State.parErr_test (s : State) (o : Origin) :
    s.parErr o true (s.par.st == .active) true = if o ≠ Origin.pf0 ∧ o ≠ Origin.iaholt then 1 else if s.presence = false then 3
      else if s.par.st ≠ .active then 2 else if s.hasStandby = false then 4 else 0 := by
  simp only [State.parErr, true_and, beq_eq_false_iff_ne]

theorem State.parErr_exit (s : State) (o : Origin) :
    s.parErr o false (s.par.st == .test) false = if o ≠ Origin.pf0 ∧ o ≠ Origin.iaholt then 1
      else if s.par.st ≠ .test then 2 else 0 := by
  simp only [State.parErr, Bool.false_eq_true, false_and, if_false, beq_eq_false_iff_ne]

theorem State.parErr_switch (s : State) (o : Origin) :
    s.parErr o true (s.par.st == .test || s.par.st == .recovery) true = if o ≠ Origin.pf0 ∧ o ≠ Origin.iaholt then 1
      else if s.presence = false then 3 else if s.par.st ≠ .test ∧ s.par.st ≠ .recovery then 2
      else if s.hasStandby = false then 4 else 0 := by
  simp only [State.parErr, true_and, Bool.or_eq_false_iff, beq_eq_false_iff_ne]

theorem State.parErr_acceptDigest (s : State) (o : Origin) :
    s.parErr o true s.isActive false = if o ≠ Origin.pf0 ∧ o ≠ Origin.iaholt then 1 else if s.presence = false then 3
      else if s.isActive = false then 2 else 0 := by
  simp only [State.parErr, true_and, Bool.false_eq_true, false_and, if_false]

/-! ## The effects (R238, R244) -/

@[simp] theorem State.cmdErr_par (s : State) (r : Reg) (g e : Nat) : (s.cmdErr r g e).par = s.par := State.setWord_par ..

/-- SWITCH begins a hand-over to the role that a member in TEST or RECOVERY gives up; one under way is not begun anew. -/
theorem State.handOff_cmdErr (s : State) (r : Reg) (g e : Nat) :
    let A := s.cmdErr r g e
    A.handOff (if A.par.st == .test then .test else .active) =
      if s.par.handing.isSome = true then A
      else { A with par := { s.par with
        handing := some (if s.par.st = .test then .test else .active, 0), draining := true } } := by
  simp only [State.handOff, State.cmdErr_par, beq_iff_eq]

/-- ACCEPT_DIGEST takes the digest that the partner shows. -/
theorem State.acceptDigest_cmdErr (s : State) (r : Reg) (g e : Nat) :
    let A := s.cmdErr r g e
    ({ A with par := { A.par with accDigest := some A.par.ptDigest } } : State) =
      { A with par := { s.par with accDigest := some s.par.ptDigest } } := by
  simp only [State.cmdErr_par]

/-! ## The times of TEST and RECOVERY (R241) -/

theorem State.testMax_eq (s : State) : s.testMax = if s.par.st = .test then s.parTo .active else s := by
  simp only [State.testMax, beq_iff_eq]

theorem State.recoverHold_eq (s : State) :
    s.recoverHold = if s.par.st = .recovery ∧ s.hasStandby = true then s.parTo .active else s := by
  simp only [State.recoverHold, Bool.and_eq_true, beq_iff_eq]

theorem State.recoverMax_eq (s : State) :
    s.recoverMax = if s.par.st = .recovery ∧ s.hasStandby = false then s.parTo .solo else s := by
  simp only [State.recoverMax, Bool.and_eq_true, beq_iff_eq, Bool.not_eq_true']

/-! ## The commands -/

/-- Settles O43: each code by the shared checks of PAR_CMD, each time by its operation's own equation. -/
theorem pairCommandsComplete : Obligations.PairCommandsComplete := by
  refine ⟨?test, ?exit, ?switch, ?acceptDigest, ?testMax, ?recoverHold, ?recoverMax⟩
  case test => exact fun s o hg => exec_parCmd (c := .parTest o) rfl hg (State.parErr_test s o) rfl
  case exit => exact fun s o hg => exec_parCmd (c := .parExit o) rfl hg (State.parErr_exit s o) rfl
  case switch =>
    exact fun s o hg => exec_parCmd (c := .parSwitch o) rfl hg (State.parErr_switch s o) (State.handOff_cmdErr s _ _ _)
  case acceptDigest =>
    exact fun s o hg =>
      exec_parCmd (c := .parAcceptDigest o) rfl hg (State.parErr_acceptDigest s o) (State.acceptDigest_cmdErr s _ _ _)
  case testMax => exact fun s => exec_of_effect rfl (State.testMax_eq s)
  case recoverHold => exact fun s => exec_of_effect rfl (State.recoverHold_eq s)
  case recoverMax => exact fun s => exec_of_effect rfl (State.recoverMax_eq s)

end Sys2Proof.Machine
end

section
/-!
PROOFS. Records received on the tether (11): what a member takes, acknowledges or turns away (R231, R233, R234), and HELLO, STATUS, ACK
and the records of SAs (R232 to R238). That a record is discarded without a count where there is no tether key is the model's
choice (log entry 26).
-/

namespace Sys2Proof.Machine

/-! ## The next record with a good tag (R233) -/

/-- A record that a member on a keyed tether takes: its tag is good and its SEQ the next. -/
structure State.TakesRecord (s : State) (seq : Nat) (tag : TTag) : Prop where
  tether : s.onTether = true
  keyed : s.tetherKeyed = true
  good : tag = .ok
  next : seq = s.par.rxSeq + 1

/-- The tether as a record leaves it that has been taken and counted. -/
def State.taken (s : State) (seq : Nat) : State :=
  ({ s with par := { s.par with tetherUp := 3#2, rxSeq := seq, lastRx := s.counter } } : State).count .par 0 0 1

@[simp] theorem State.taken_par (s : State) (seq : Nat) :
    (s.taken seq).par = { s.par with tetherUp := 3#2, rxSeq := seq, lastRx := s.counter } := State.count_par ..

@[simp] theorem State.taken_isActive (s : State) (seq : Nat) : (s.taken seq).isActive = s.isActive := by
  unfold State.isActive; rw [State.taken_par]

@[simp] theorem State.taken_sa (s : State) (seq k : Nat) : (s.taken seq).sa k = s.sa k := by
  unfold State.sa State.taken; rw [State.count_sas]

@[simp] theorem State.taken_ca (s : State) (seq n : Nat) : (s.taken seq).ca n = s.ca n := by
  unfold State.ca State.taken; rw [State.count_cas]

@[simp] theorem State.taken_mirKey (s : State) (seq : Nat) : (s.taken seq).mirKey = s.mirKey := by
  have hkey : (s.taken seq).tetherKey = s.tetherKey := State.count_tetherKey ..
  simp only [State.mirKey, State.ttKey, State.taken_par, hkey]

/-! ## What receiving a record can do (R231, R233, R234) -/

theorem State.recvRec_taken {s : State} {seq : Nat} {tag : TTag} (h : s.TakesRecord seq tag) (ackIt : Bool) (f : State → State) :
    s.recvRec seq tag ackIt f = if ackIt then (f (s.taken seq)).sendAck else f (s.taken seq) := by
  obtain ⟨ht, hk, rfl, rfl⟩ := h
  simp only [State.recvRec, ht, hk, Bool.not_true, Bool.or_self, Bool.false_eq_true, bne_self_eq_false, ne_eq, not_true, if_false]
  rfl

/-- A bad tag costs the sync. -/
theorem State.recvRec_badTag {s : State} {tag : TTag} (ht : s.onTether = true) (hk : s.tetherKeyed = true) (htag : tag ≠ .ok)
    (seq : Nat) (ackIt : Bool) (f : State → State) :
    s.recvRec seq tag ackIt f = (((s.count .par 0 0 4).parInt 7).raise 22).syncLost := by
  have hbad : (tag != .ok) = true := bne_iff_ne.mpr htag
  simp only [State.recvRec, ht, hk, hbad, Bool.not_true, Bool.or_self, Bool.false_eq_true, if_false, if_true]

/-- A record out of turn is counted and what has been applied acknowledged anew. -/
theorem State.recvRec_outOfTurn {s : State} {seq : Nat} {tag : TTag} (ht : s.onTether = true) (hk : s.tetherKeyed = true)
    (htag : tag = .ok) (hseq : seq ≠ s.par.rxSeq + 1) (f : State → State) :
    s.recvRec seq tag true f = (s.count .par 0 0 3).sendAck := by
  subst htag
  simp only [State.recvRec, ht, hk, hseq, Bool.not_true, Bool.or_self, Bool.false_eq_true, bne_self_eq_false, ne_eq, not_false_iff,
    if_false, if_true]

theorem State.recvRec_discarded {s : State} (h : s.onTether = false ∨ s.tetherKeyed = false) (seq : Nat) (tag : TTag) (ackIt : Bool)
    (f : State → State) : s.recvRec seq tag ackIt f = s := by
  apply if_pos
  rcases h with h | h <;> simp [h]

/-- A mirroring record takes effect on a member that is not active and is acknowledged by either. -/
theorem State.mirrorRec_taken {s : State} {seq : Nat} {tag : TTag} (h : s.TakesRecord seq tag) (f : State → State) :
    s.mirrorRec seq tag f = (if s.isActive = true then s.taken seq else f (s.taken seq)).sendAck := by
  unfold State.mirrorRec
  rw [State.recvRec_taken h, State.taken_isActive]
  rfl

/-! ## Commands that receive a record -/

section
variable {c : Instr} {s u : State} {seq : Nat} {tag : TTag} {f : State → State}

/-- A record that is taken ends in its effect and an acknowledgement. -/
theorem exec_taken (hc : exec c s = .next (s.done (s.recvRec seq tag true f))) (h : s.TakesRecord seq tag)
    (hf : f (s.taken seq) = u) : exec c s = .next (s.done u.sendAck) :=
  exec_of_effect hc ((State.recvRec_taken h true f).trans (congrArg State.sendAck hf))

theorem exec_mirrored (hc : exec c s = .next (s.done (s.mirrorRec seq tag f))) (h : s.TakesRecord seq tag)
    (hact : s.isActive = false) (hf : f (s.taken seq) = u) : exec c s = .next (s.done u.sendAck) :=
  exec_of_effect hc ((State.mirrorRec_taken h f).trans (congrArg State.sendAck ((if_neg (by simp [hact])).trans hf)))

theorem exec_notMirrored (hc : exec c s = .next (s.done (s.mirrorRec seq tag f))) (h : s.TakesRecord seq tag)
    (hact : s.isActive = true) : exec c s = .next (s.done (s.taken seq).sendAck) :=
  exec_of_effect hc ((State.mirrorRec_taken h f).trans (congrArg State.sendAck (if_pos hact)))

end

/-! ## HELLO (R230, R231) -/

theorem State.recvHello_zero (s : State) (seq : Nat) (serial : W64) (st : PairState) (fmt : Nat) (digest : List Byte)
    (base : BitVec 48) (nonce : List Byte) (prefer actOut : Bool) :
    s.recvHello seq .zero serial st fmt digest base nonce prefer actOut =
      if s.onTether = true ∧ s.soloByConfig = false ∧ s.drbgKOk = true then s.helloZero seq serial fmt digest base nonce else s := by
  simp only [State.recvHello, Bool.and_eq_true, Bool.not_eq_true', and_assoc]

/-! ## Records of SAs (R234, R236, R239) -/

/-- What an SA command other than raise and arm mirrors. -/
theorem State.saCmdIn_other (s : State) {op : Nat} (hraise : op ≠ 4) (harm : op ≠ 5) (k pn : Nat) :
    s.saCmdIn op k pn = if op = 2 then s.mirrorInstall k pn else if op = 3 then s.retireSa k
      else if op = 6 then s.disarmSa k else if op = 7 then s.switchSa k else s := by
  unfold State.saCmdIn
  split
  case h_3 => exact absurd rfl hraise
  case h_4 => exact absurd rfl harm
  case h_7 h2 h3 _ _ h6 h7 => rw [if_neg h2, if_neg h3, if_neg h6, if_neg h7]
  all_goals simp

/-- An armed SA waits for its CA's epoch, where there is one. -/
theorem State.saCmdIn_arm {s : State} {k : Nat} {t : Int} (h : (s.caOf (k / 4)).bind (fun n => (s.ca n).epoch) = some t) (pn : Nat) :
    s.saCmdIn 5 k pn = s.armSa k t := by
  unfold State.saCmdIn; dsimp only; rw [h]; rfl

theorem State.saCmdIn_noEpoch {s : State} {k : Nat} (h : (s.caOf (k / 4)).bind (fun n => (s.ca n).epoch) = none) (pn : Nat) :
    s.saCmdIn 5 k pn = s := by
  unfold State.saCmdIn; dsimp only; rw [h]; rfl

theorem State.saCmdIn_raise_taken (s : State) (seq k pn : Nat) :
    (s.taken seq).saCmdIn 4 k pn = (s.taken seq).setSa k { s.sa k with pn := max (s.sa k).pn pn } := by
  rw [← State.taken_sa s seq]; rfl

theorem State.pnLeaseIn_taken (s : State) (seq k e : Nat) :
    (s.taken seq).pnLeaseIn k e = { s.taken seq with par := { (s.taken seq).par with
      saLease := s.par.saLease.put (fun _ => 0) k (max (s.par.saLease.look (fun _ => 0) k) e) } } := by
  simp only [State.pnLeaseIn, State.taken_par]

theorem State.replayIn_taken (s : State) (seq : Nat) (l : List (Nat × Nat × Nat × W64)) :
    (s.taken seq).replayIn l = { s.taken seq with par := { (s.taken seq).par with
      mirRx := l.foldl (fun (t : Tab (Nat × Nat × W64)) (e : Nat × Nat × Nat × W64) => t.put (fun _ => (0, 0, 0#64)) e.1 e.2)
        s.par.mirRx } } := by
  simp only [State.replayIn, State.taken_par]

/-- A SAK is mirrored by a member that is not active where its wrapping has the length of its key. -/
theorem exec_sakRecord {s : State} {seq : Nat} {tag : TTag} (h : s.TakesRecord seq tag) (ca : Nat) (wrap : List Byte) (klen : Nat)
    (kn : W32) (an : Nat) (sscis : List (W64 × W32)) (salt : BitVec 96) :
    exec (.sakRecord seq tag ca wrap klen kn an sscis salt) s =
      .next (s.done (if s.isActive = true ∨ wrap.length ≠ klen + 8 then s.taken seq
        else (s.taken seq).sakIn (ca % 2048) wrap kn (an % 4) sscis salt).sendAck) := by
  refine exec_of_effect rfl ((State.mirrorRec_taken h _).trans (congrArg State.sendAck ?_))
  by_cases hact : s.isActive = true <;> by_cases hlen : wrap.length = klen + 8 <;> simp [hact, hlen]

/-! ## The commands -/

/-- Settles O44: each record by what receiving it does, and by its own effect where it is taken. -/
theorem tetherRecordsComplete : Obligations.TetherRecordsComplete := by
  refine ⟨?hello, ?helloZero, ?status, ?statusBad, ?statusSeq, ?statusOff, ?ack, ?sak, ?raise, ?saCommand, ?arm, ?saActive, ?pnLease,
    ?pnLeaseActive, ?replay, ?replayActive⟩
  case hello =>
    rintro s seq tag serial slot st fmt digest base nonce prefer actOut ht hk rfl hseq
    exact exec_taken (f := fun u => u.helloIn st digest base prefer actOut) rfl ⟨ht, hk, rfl, hseq⟩ rfl
  case helloZero =>
    rintro s seq tag serial slot st fmt digest base nonce prefer actOut rfl
    exact exec_of_effect rfl (State.recvHello_zero s seq serial st fmt digest base nonce prefer actOut)
  case status => exact fun s seq tag st shed lease synced ht hk htag hseq => exec_taken rfl ⟨ht, hk, htag, hseq⟩ rfl
  case statusBad => exact fun s seq tag st shed lease synced ht hk htag => exec_of_effect rfl (State.recvRec_badTag ht hk htag _ _ _)
  case statusSeq =>
    exact fun s seq tag st shed lease synced ht hk htag hseq => exec_of_effect rfl (State.recvRec_outOfTurn ht hk htag hseq _)
  case statusOff => exact fun s seq tag st shed lease synced h => exec_of_effect rfl (State.recvRec_discarded h _ _ _ _)
  case ack =>
    exact fun s seq tag upTo ht hk htag hseq => exec_of_effect rfl (State.recvRec_taken ⟨ht, hk, htag, hseq⟩ false _)
  case sak =>
    exact fun s seq tag ca wrap klen kn an sscis salt ht hk htag hseq =>
      exec_sakRecord ⟨ht, hk, htag, hseq⟩ ca wrap klen kn an sscis salt
  case raise =>
    rintro s seq tag op sa pn ht hk htag hseq hact rfl
    exact exec_mirrored rfl ⟨ht, hk, htag, hseq⟩ hact (State.saCmdIn_raise_taken s seq sa pn)
  case saCommand =>
    exact fun s seq tag op sa pn ht hk htag hseq hact h4 h5 =>
      exec_mirrored rfl ⟨ht, hk, htag, hseq⟩ hact (State.saCmdIn_other (s.taken seq) h4 h5 sa pn)
  case arm =>
    rintro s seq tag op sa pn ht hk htag hseq hact rfl A
    refine exec_mirrored (f := fun t => t.saCmdIn 5 sa pn) rfl ⟨ht, hk, htag, hseq⟩ hact ?_
    change A.saCmdIn 5 sa pn = _
    split
    case h_1 t hepoch => exact State.saCmdIn_arm hepoch pn
    case h_2 hepoch => exact State.saCmdIn_noEpoch hepoch pn
  case saActive => exact fun s seq tag op sa pn ht hk htag hseq hact => exec_notMirrored rfl ⟨ht, hk, htag, hseq⟩ hact
  case pnLease =>
    exact fun s seq tag sa lease ht hk htag hseq hact =>
      exec_mirrored rfl ⟨ht, hk, htag, hseq⟩ hact (State.pnLeaseIn_taken s seq sa lease)
  case pnLeaseActive => exact fun s seq tag sa lease ht hk htag hseq hact => exec_notMirrored rfl ⟨ht, hk, htag, hseq⟩ hact
  case replay =>
    exact fun s seq tag batch ht hk htag hseq hact =>
      exec_mirrored rfl ⟨ht, hk, htag, hseq⟩ hact (State.replayIn_taken s seq batch)
  case replayActive => exact fun s seq tag batch ht hk htag hseq hact => exec_notMirrored rfl ⟨ht, hk, htag, hseq⟩ hact

end Sys2Proof.Machine
end

section
/-!
PROOFS. Records that a member which is not active mirrors (11): key agreement, time, epochs, CAKs and the hand-over (R232 to R237). A
peer's priority as 0 or 128, and an epoch taken by the key number of the mirrored SAK, are the model's choice (log entry 26).
-/

namespace Sys2Proof.Machine

/-! ## CAs (R234, R236) -/

theorem State.caIn_taken (s : State) (seq n : Nat) (mi : BitVec 96) (isKs : Bool) (ksSci : W64) (kn : W32) (an oldAn : Nat) :
    (s.taken seq).caIn n mi isKs ksSci kn (an % 4) (oldAn % 4) = (s.taken seq).setCa n { s.ca n with
      active := true, peers := if (s.ca n).mi ≠ mi ∧ kn = 0 then [] else (s.ca n).peers, mi := mi, isKs := isKs, ksSci := ksSci,
      kn := kn, latestAn := an % 4, oldAn := oldAn % 4 } := by
  simp only [State.caIn, State.taken_ca, Nat.mod_mod, Bool.and_eq_true, bne_iff_ne, beq_iff_eq]

theorem State.mnLeaseIn_taken (s : State) (seq n e : Nat) :
    (s.taken seq).mnLeaseIn n e = { s.taken seq with par := { (s.taken seq).par with
      mnLease := s.par.mnLease.put (fun _ => 0) n (max (s.par.mnLease.look (fun _ => 0) n) e) } } := by
  simp only [State.mnLeaseIn, State.taken_par]

/-! ## Peers (R234) -/

/-- A peer that is not live and not known joins its CA's list. -/
theorem State.peerIn_unknown {s : State} {n : Nat} {mi : BitVec 96}
    (hp : (s.ca n).peers.find? (fun p => p.mi == mi) = none) (mn : Nat) (sci : W64) :
    s.peerIn n mi mn sci false = s.setCa n { s.ca n with
      peers := (s.ca n).peers ++ [({
        mi := mi, mn := mn, sci := sci, prio := if sci = (s.ca n).ksSci then 0 else 128, live := false, rsc := none } : Peer)] } := by
  unfold State.peerIn
  dsimp only
  rw [hp]
  rfl

/-- The pair's record with peer mi of CA n as the one mirrored last, where that peer is live. -/
def State.lastHeard (s : State) (n : Nat) (mi : BitVec 96) (live : Bool) (old : Option (Nat × BitVec 96)) : State :=
  { s with par := { s.par with lastPeer := if live = true then some (n, mi) else old } }

/-- A known peer is kept up to date, one that is live no longer leaves the list; a receive SC of its own needs no search. -/
theorem State.peerIn_known {s : State} {n : Nat} {mi : BitVec 96} {live : Bool} {p : Peer}
    (hp : (s.ca n).peers.find? (fun p => p.mi == mi) = some p) (hrsc : p.rsc.isSome = true ∨ live = false) (mn : Nat) (sci : W64) :
    let A := s.lastHeard n mi live s.par.lastPeer
    s.peerIn n mi mn sci live = if live = true then A.setPeer n { p with mn := mn, sci := sci, live := true }
      else if p.live = true then
        (A.setCa n { s.ca n with peers := (s.ca n).peers.filter (fun x => x.mi != mi) }).freePeerRsc n p
      else A.setPeer n { p with mn := mn, sci := sci } := by
  intro A
  unfold State.peerIn
  dsimp only
  rw [hp]
  cases live with
  | false => rfl
  | true =>
    have hown : p.rsc.isSome = true := hrsc.resolve_right (by decide)
    simp only [hown, if_true]
    rfl

theorem State.peerIn_taken_unknown {s : State} {n : Nat} {mi : BitVec 96}
    (hp : (s.ca n).peers.find? (fun p => p.mi == mi) = none) (seq mn : Nat) (sci : W64) :
    (s.taken seq).peerIn n mi mn sci false = (s.taken seq).setCa n { s.ca n with
      peers := (s.ca n).peers ++ [({
        mi := mi, mn := mn, sci := sci, prio := if sci = (s.ca n).ksSci then 0 else 128, live := false, rsc := none } : Peer)] } := by
  rw [← State.taken_ca s seq] at hp ⊢
  exact State.peerIn_unknown hp mn sci

theorem State.peerIn_taken_known {s : State} {n : Nat} {mi : BitVec 96} {live : Bool} {p : Peer}
    (hp : (s.ca n).peers.find? (fun p => p.mi == mi) = some p) (hrsc : p.rsc.isSome = true ∨ live = false) (seq mn : Nat) (sci : W64) :
    let A := (s.taken seq).lastHeard n mi live s.par.lastPeer
    (s.taken seq).peerIn n mi mn sci live = if live = true then A.setPeer n { p with mn := mn, sci := sci, live := true }
      else if p.live = true then
        (A.setCa n { s.ca n with peers := (s.ca n).peers.filter (fun x => x.mi != mi) }).freePeerRsc n p
      else A.setPeer n { p with mn := mn, sci := sci } := by
  have hold : s.par.lastPeer = (s.taken seq).par.lastPeer := by rw [State.taken_par]
  rw [← State.taken_ca s seq] at hp ⊢
  rw [hold]
  exact State.peerIn_known hp hrsc mn sci

/-! ## Epochs, CAKs and the hand-over (R126, R234, R244) -/

/-- An epoch is taken where there is none or its key number is the mirrored SAK's. -/
theorem State.epochFor_taken (s : State) (seq n an : Nat) (kn : W32) (e : Option Int) :
    (s.taken seq).epochFor n an kn e =
      if e = none ∨ (s.par.mirSak.look (fun _ => ({} : MirSak)) (n * 4 + an)).kn = kn then
        (s.taken seq).setCa n { s.ca n with epoch := e }
      else s.taken seq := by
  simp only [State.epochFor, State.epochIn, State.taken_par, State.taken_ca, Option.isNone_iff_eq_none]

theorem State.cakIn_taken {s : State} {wrap key : List Byte} (h : keyUnwrap s.mirKey wrap = some key) (seq slot : Nat)
    (ckn : List Byte) : (s.taken seq).cakIn slot ckn wrap = (((s.taken seq).storeCak slot key ckn).1).notice (.cakSlot slot) := by
  simp only [State.cakIn, State.taken_mirKey, h]

theorem State.handoverIn_taken (s : State) (seq : Nat) (leases mns : List (Nat × Nat)) (role : PairState) :
    (s.taken seq).handoverIn leases mns role = { s.taken seq with par := { (s.taken seq).par with
      saLease := leases.foldl (fun (t : Tab Nat) (e : Nat × Nat) => t.put (fun _ => 0) e.1 e.2) s.par.saLease
      mnLease := mns.foldl (fun (t : Tab Nat) (e : Nat × Nat) => t.put (fun _ => 0) e.1 e.2) s.par.mnLease
      handRec := some role } } := by
  simp only [State.handoverIn, State.taken_par]

/-- A CAK record that an active member, or one whose length is not its key's, leaves the CAK slots alone. -/
theorem exec_cakRecord_left {s : State} {seq : Nat} {tag : TTag} {klen : Nat} {wrap : List Byte} (h : s.TakesRecord seq tag)
    (hleft : s.isActive = true ∨ wrap.length ≠ klen + 8) (slot : Nat) (ckn : List Byte) :
    exec (.cakRecord seq tag slot ckn klen wrap) s = .next (s.done (s.taken seq).sendAck) := by
  refine exec_of_effect rfl ((State.mirrorRec_taken h _).trans (congrArg State.sendAck ?_))
  rcases hleft with hact | hlen
  · exact if_pos hact
  · rw [if_neg hlen, ite_self]

/-! ## The commands -/

/-- Settles O45: a member that is not active mirrors each record by its own effect, an active one takes and acknowledges it. -/
theorem mirrorRecordsComplete : Obligations.MirrorRecordsComplete := by
  refine ⟨?mkaState, ?mkaStateActive, ?mnLease, ?mnLeaseActive, ?peerUnknown, ?peerKnown, ?peerActive, ?time, ?timeActive, ?epoch,
    ?epochActive, ?cak, ?cakLeft, ?handover, ?handoverActive⟩
  case mkaState =>
    exact fun s seq tag ca mi isKs ksSci kn an oldAn ht hk htag hseq hact =>
      exec_mirrored rfl ⟨ht, hk, htag, hseq⟩ hact (State.caIn_taken s seq (ca % 2048) mi isKs ksSci kn an oldAn)
  case mkaStateActive =>
    exact fun s seq tag ca mi isKs ksSci kn an oldAn ht hk htag hseq hact => exec_notMirrored rfl ⟨ht, hk, htag, hseq⟩ hact
  case mnLease =>
    exact fun s seq tag ca lease ht hk htag hseq hact =>
      exec_mirrored rfl ⟨ht, hk, htag, hseq⟩ hact (State.mnLeaseIn_taken s seq (ca % 2048) lease)
  case mnLeaseActive => exact fun s seq tag ca lease ht hk htag hseq hact => exec_notMirrored rfl ⟨ht, hk, htag, hseq⟩ hact
  case peerUnknown =>
    rintro s seq tag ca mi mn sci live ht hk htag hseq hact rfl hp
    exact exec_mirrored rfl ⟨ht, hk, htag, hseq⟩ hact (State.peerIn_taken_unknown hp seq mn sci)
  case peerKnown =>
    exact fun s seq tag ca mi mn sci live p ht hk htag hseq hact hp hrsc =>
      exec_mirrored rfl ⟨ht, hk, htag, hseq⟩ hact (State.peerIn_taken_known hp hrsc seq mn sci)
  case peerActive =>
    exact fun s seq tag ca mi mn sci live ht hk htag hseq hact => exec_notMirrored rfl ⟨ht, hk, htag, hseq⟩ hact
  case time => exact fun s seq tag rate t ht hk htag hseq hact => exec_mirrored rfl ⟨ht, hk, htag, hseq⟩ hact rfl
  case timeActive => exact fun s seq tag rate t ht hk htag hseq hact => exec_notMirrored rfl ⟨ht, hk, htag, hseq⟩ hact
  case epoch =>
    exact fun s seq tag ca an kn epoch ht hk htag hseq hact =>
      exec_mirrored rfl ⟨ht, hk, htag, hseq⟩ hact (State.epochFor_taken s seq (ca % 2048) (an % 4) kn epoch)
  case epochActive => exact fun s seq tag ca an kn epoch ht hk htag hseq hact => exec_notMirrored rfl ⟨ht, hk, htag, hseq⟩ hact
  case cak =>
    exact fun s seq tag slot ckn klen wrap key ht hk htag hseq hact hlen hkey =>
      exec_mirrored rfl ⟨ht, hk, htag, hseq⟩ hact ((if_pos hlen).trans (State.cakIn_taken hkey seq (slot % 1024) ckn))
  case cakLeft =>
    exact fun s seq tag slot ckn klen wrap ht hk htag hseq hleft => exec_cakRecord_left ⟨ht, hk, htag, hseq⟩ hleft slot ckn
  case handover =>
    exact fun s seq tag leases mns role ht hk htag hseq hact =>
      exec_mirrored rfl ⟨ht, hk, htag, hseq⟩ hact (State.handoverIn_taken s seq leases mns role)
  case handoverActive =>
    exact fun s seq tag leases mns role ht hk htag hseq hact => exec_notMirrored rfl ⟨ht, hk, htag, hseq⟩ hact

end Sys2Proof.Machine
end

section
/-!
PROOFS. The register map (R361, R362): no two registers share an offset, so that an element's address finds that element.
-/

namespace Sys2Proof.Machine

/-! ## Where the elements of a register lie -/

/-- The offset of inner element j of outer element o. -/
def RegInfo.elem (x : RegInfo) (o j : Nat) : Nat := x.base + o * x.ostride + j * x.stride

/-- How far the multiples of a stride reach beyond 0 when offsets are taken modulo M. -/
def strideSpan (M stride n : Nat) : Nat := if stride % M = 0 then 0 else (n - 1) * stride

/-- How far the elements of a register reach beyond its base modulo M. -/
def RegInfo.span (x : RegInfo) (M : Nat) : Nat := strideSpan M x.ostride x.ocount + strideSpan M x.stride x.count

/-- Modulo M the elements of y and of x lie in two intervals without a common offset. -/
def RegInfo.apartMod (M : Nat) (y x : RegInfo) : Bool :=
  decide (y.base % M + y.span M < M) && decide (x.base % M + x.span M < M) &&
    (decide (y.base % M + y.span M < x.base % M) || decide (x.base % M + x.span M < y.base % M))

/-- Two registers apart in the whole space, or within each element of the array they are part of. -/
def RegInfo.apart (y x : RegInfo) : Bool := [2 ^ 26, x.stride, x.ostride].any fun M => apartMod M y x

/-- Word-aligned, and its inner elements follow one another before the next outer element begins. -/
def RegInfo.laidOut (x : RegInfo) : Bool :=
  decide (x.base % 4 = 0 ∧ x.ostride % 4 = 0 ∧ x.stride % 4 = 0) && (decide (x.count ≤ 1) || decide (0 < x.stride)) &&
    (decide (x.ocount ≤ 1) || decide ((x.count - 1) * x.stride < x.ostride))

theorem exists_le_strideSpan {M stride n i : Nat} (h : i < max n 1) :
    ∃ a ≤ strideSpan M stride n, i * stride ≡ a [MOD M] := by
  unfold strideSpan
  split
  next h0 => exact ⟨0, le_rfl, (Nat.modEq_zero_iff_dvd.mpr ((Nat.dvd_of_mod_eq_zero h0).mul_left i))⟩
  next => exact ⟨i * stride, Nat.mul_le_mul_right _ (by omega), rfl⟩

/-- Modulo M every element lies in the interval that begins at the base. -/
theorem RegInfo.elem_mod {x : RegInfo} {M o j : Nat} (hM : x.base % M + x.span M < M) (ho : o < max x.ocount 1)
    (hj : j < x.count) : x.base % M ≤ x.elem o j % M ∧ x.elem o j % M ≤ x.base % M + x.span M := by
  obtain ⟨a, ha, hoa⟩ := exists_le_strideSpan (M := M) (stride := x.ostride) ho
  obtain ⟨b, hb, hjb⟩ := exists_le_strideSpan (M := M) (stride := x.stride) (n := x.count) (lt_max_of_lt_left hj)
  have hlt : x.base % M + a + b < M := by unfold RegInfo.span at hM; omega
  have heq : x.elem o j % M = x.base % M + a + b := by
    have h := ((Nat.mod_modEq x.base M).symm.add hoa).add hjb
    rwa [Nat.ModEq, Nat.mod_eq_of_lt hlt] at h
  unfold RegInfo.span
  omega

theorem RegInfo.elem_ne_of_apart {x y : RegInfo} (h : y.apart x = true) {o j o' j' : Nat} (ho : o < max x.ocount 1)
    (hj : j < x.count) (ho' : o' < max y.ocount 1) (hj' : j' < y.count) : x.elem o j ≠ y.elem o' j' := by
  obtain ⟨M, -, hM⟩ := List.any_eq_true.mp h
  simp only [RegInfo.apartMod, Bool.and_eq_true, Bool.or_eq_true, decide_eq_true_eq] at hM
  obtain ⟨⟨hy, hx⟩, hor⟩ := hM
  have hxe := RegInfo.elem_mod hx ho hj
  have hye := RegInfo.elem_mod hy ho' hj'
  intro heq
  rw [heq] at hxe
  omega

/-! ## The search of one block -/

/-- The search passes a register over when the address is none of its elements'. -/
theorem findIn_cons_miss {y : RegInfo} (t : List RegInfo) {a : Nat}
    (h : ∀ o j, o < max y.ocount 1 → j < y.count → a ≠ y.elem o j) : findIn (y :: t) a = findIn t a := by
  have hq : (if y.ocount ≤ 1 then 0 else (a - y.base) / y.ostride) * y.ostride ≤ a - y.base := by
    split
    next => simp
    next => exact Nat.div_mul_le_self _ _
  simp only [findIn]
  generalize (if y.ocount ≤ 1 then 0 else (a - y.base) / y.ostride) = q at hq ⊢
  generalize (if y.count ≤ 1 then 0 else (a - y.base - q * y.ostride) / y.stride) = i
  split
  next => rfl
  next hle =>
    refine if_neg fun ⟨ho, hj, he⟩ => h q i ho hj ?_
    rw [RegInfo.elem, ← he]
    omega

/-- The search ends at a register that the address is an element of. -/
theorem findIn_cons_hit {x : RegInfo} (t : List RegInfo) (hx : x.laidOut = true) {o j : Nat} (ho : o < max x.ocount 1)
    (hj : j < x.count) : findIn (x :: t) (x.elem o j) = some (x, o * x.count + j) := by
  simp only [RegInfo.laidOut, Bool.and_eq_true, Bool.or_eq_true, decide_eq_true_eq] at hx
  obtain ⟨⟨-, hstride⟩, hostride⟩ := hx
  have hd : x.elem o j - x.base = j * x.stride + o * x.ostride := by unfold RegInfo.elem; omega
  have hge : ¬ x.elem o j < x.base := by unfold RegInfo.elem; omega
  have hq : (if x.ocount ≤ 1 then 0 else (j * x.stride + o * x.ostride) / x.ostride) = o := by
    split
    next h1 => omega
    next h1 =>
      have hlt : (x.count - 1) * x.stride < x.ostride := hostride.resolve_left h1
      have hjs : j * x.stride ≤ (x.count - 1) * x.stride := Nat.mul_le_mul_right _ (by omega)
      rw [Nat.add_mul_div_right _ _ (by omega), Nat.div_eq_of_lt (by omega), Nat.zero_add]
  have hi : (if x.count ≤ 1 then 0 else j * x.stride / x.stride) = j := by
    split
    next h1 => omega
    next h1 => exact Nat.mul_div_cancel _ (hstride.resolve_left h1)
  simp only [findIn, hge, if_false, hd, hq, Nat.add_sub_cancel, hi, ho, hj, and_self, if_true]

/-- Among registers that lie apart, the search finds the element an address belongs to. -/
theorem findIn_elem {l : List RegInfo} (hl : l.Pairwise fun y x => y.apart x = true)
    (hlaid : ∀ y ∈ l, y.laidOut = true) {x : RegInfo} (hx : x ∈ l) {o j : Nat} (ho : o < max x.ocount 1)
    (hj : j < x.count) : findIn l (x.elem o j) = some (x, o * x.count + j) := by
  induction l with
  | nil => cases hx
  | cons y t ih =>
    obtain ⟨hhead, htail⟩ := List.pairwise_cons.mp hl
    rcases List.mem_cons.mp hx with rfl | hmem
    · exact findIn_cons_hit t (hlaid _ hx) ho hj
    · rw [findIn_cons_miss t fun o' j' ho' hj' => RegInfo.elem_ne_of_apart (hhead x hmem) ho hj ho' hj']
      exact ih htail (fun z hz => hlaid z (List.mem_cons_of_mem _ hz)) hmem

/-! ## The map's own blocks -/

/-- A block's registers lie apart and inside it. -/
def blockOk (b : Nat × Nat × List RegInfo) : Bool :=
  decide (b.2.2.Pairwise fun y x => y.apart x = true) && b.2.2.all fun x => x.laidOut &&
    decide (b.1 ≤ x.base ∧ x.base + (x.ocount - 1) * x.ostride + (x.count - 1) * x.stride < b.2.1)

theorem regBlocks_ok : regBlocks.all blockOk = true := by decide +kernel

theorem regBlocks_ascend : regBlocks.Pairwise fun b c => b.2.1 ≤ c.1 := by decide +kernel

/-- An address lies in one block at most. -/
theorem regBlocks_disjoint {b c : Nat × Nat × List RegInfo} (hb : b ∈ regBlocks) (hc : c ∈ regBlocks) {a : Nat}
    (hab : b.1 ≤ a ∧ a < b.2.1) (hac : c.1 ≤ a ∧ a < c.2.1) : b = c := by
  have hsymm : Std.Symm fun b c : Nat × Nat × List RegInfo => b.2.1 ≤ c.1 ∨ c.2.1 ≤ b.1 := ⟨fun _ _ => Or.symm⟩
  have hp : regBlocks.Pairwise fun b c => b.2.1 ≤ c.1 ∨ c.2.1 ≤ b.1 := regBlocks_ascend.imp Or.inl
  by_contra hne
  have := hp.forall hb hc hne
  omega

theorem regBlocks_below : ∀ b ∈ regBlocks, b.2.1 ≤ 2 ^ 26 := by decide +kernel

theorem allRegs_eq_flatMap : allRegs = regBlocks.flatMap fun b => b.2.2 := by decide +kernel

/-- The map lists every register once, in the order of Reg. -/
theorem allRegs_keys : allRegs.map (fun x => x.reg.ctorIdx) = List.range 419 := by decide +kernel

theorem allRegs_reg_inj {x y : RegInfo} (hx : x ∈ allRegs) (hy : y ∈ allRegs) (h : x.reg = y.reg) : x = y := by
  have hnd : (allRegs.map fun x => x.reg.ctorIdx).Nodup := allRegs_keys ▸ List.nodup_range
  exact List.inj_on_of_nodup_map hnd hx hy (congrArg Reg.ctorIdx h)

/-- The address of element i of a register of the map. -/
theorem regAddr_eq_elem {x : RegInfo} (hx : x ∈ allRegs) (i : Nat) :
    regAddr x.reg i = x.elem (i / x.count % x.ocount) (i % x.count) := by
  unfold regAddr
  split
  next y hy =>
    have hreg : y.reg = x.reg := by simpa using List.find?_some hy
    rw [allRegs_reg_inj (List.mem_of_find?_eq_some hy) hx hreg, RegInfo.elem]
  next hnone => simpa using List.find?_eq_none.mp hnone x hx

theorem RegInfo.elem_mem_block {b : Nat × Nat × List RegInfo} (hb : blockOk b = true) {x : RegInfo} (hx : x ∈ b.2.2)
    {o j : Nat} (ho : o < max x.ocount 1) (hj : j < x.count) : b.1 ≤ x.elem o j ∧ x.elem o j < b.2.1 := by
  simp only [blockOk, Bool.and_eq_true, List.all_eq_true, decide_eq_true_eq] at hb
  obtain ⟨-, hlo, hhi⟩ := hb.2 x hx
  have h1 : o * x.ostride ≤ (x.ocount - 1) * x.ostride := Nat.mul_le_mul_right _ (by omega)
  have h2 : j * x.stride ≤ (x.count - 1) * x.stride := Nat.mul_le_mul_right _ (by omega)
  unfold RegInfo.elem
  omega

/-- An address finds its own element: its block is the only one around it. -/
theorem findReg_elem {b : Nat × Nat × List RegInfo} (hb : b ∈ regBlocks) {x : RegInfo} (hx : x ∈ b.2.2)
    {o j : Nat} (ho : o < max x.ocount 1) (hj : j < x.count) :
    findReg (x.elem o j) = some (x, o * x.count + j) := by
  have hok : blockOk b = true := List.all_eq_true.mp regBlocks_ok b hb
  obtain ⟨hlo, hhi⟩ := RegInfo.elem_mem_block hok hx ho hj
  have hfind : findIn b.2.2 (x.elem o j) = some (x, o * x.count + j) := by
    simp only [blockOk, Bool.and_eq_true, List.all_eq_true, decide_eq_true_eq] at hok
    exact findIn_elem hok.1 (fun y hy => (hok.2 y hy).1) hx ho hj
  unfold findReg
  split
  next c hc =>
    have hin := List.find?_some hc
    simp only [Bool.and_eq_true, decide_eq_true_eq] at hin
    obtain ⟨⟨hclo, hchi⟩, -⟩ := hin
    rw [regBlocks_disjoint (List.mem_of_find?_eq_some hc) hb ⟨hclo, hchi⟩ ⟨hlo, hhi⟩, hfind]
  next hnone =>
    have := List.find?_eq_none.mp hnone b hb
    simp [hlo, hhi, hfind] at this

/-- Settles O5: within a block the registers' elements lie apart modulo the block's own strides, the blocks themselves lie
apart, and the map lists every register once. -/
theorem registerAddressesRoundTrip : Obligations.RegisterAddressesRoundTrip := by
  intro x i hx hi
  obtain ⟨b, hb, hxb⟩ := List.mem_flatMap.mp (allRegs_eq_flatMap ▸ hx)
  have hok : blockOk b = true := List.all_eq_true.mp regBlocks_ok b hb
  have hcount : 0 < x.count := Nat.pos_of_mul_pos_right (Nat.zero_lt_of_lt hi)
  have hj : i % x.count < x.count := Nat.mod_lt _ hcount
  have ho : i / x.count < max x.ocount 1 := Nat.div_lt_of_lt_mul hi
  have hmod : i / x.count % x.ocount = i / x.count := by
    rcases Nat.eq_zero_or_pos x.ocount with h0 | h0
    · simp [h0]
    · exact Nat.mod_eq_of_lt (by omega)
  rw [regAddr_eq_elem hx, hmod]
  obtain ⟨-, hhi⟩ := RegInfo.elem_mem_block hok hxb ho hj
  refine ⟨?aligned, hhi.trans_le (regBlocks_below b hb), ?found⟩
  case aligned =>
    simp only [blockOk, RegInfo.laidOut, Bool.and_eq_true, List.all_eq_true, decide_eq_true_eq] at hok
    obtain ⟨hbase, hos, hst⟩ := (hok.2 x hxb).1.1.1
    exact Nat.mod_eq_zero_of_dvd (by
      unfold RegInfo.elem
      exact ((Nat.dvd_of_mod_eq_zero hbase).add ((Nat.dvd_of_mod_eq_zero hos).mul_left _)).add
        ((Nat.dvd_of_mod_eq_zero hst).mul_left _))
  case found => rw [findReg_elem hb hxb ho hj, Nat.div_add_mod']

end Sys2Proof.Machine
end

section
/-!
PROOFS. What every command has in common: where it ends, what its ACU's refusal leaves, and the queue.
-/

namespace Sys2Proof.Machine

open Host

/-! ## Where commands end and where they stop (R346, R369) -/

/-- A command that does not stop ends in the end of a step. -/
theorem exec_completes {c : Instr} {s : State} (h : ¬ stops c s) : ∃ t, exec c s = .next (s.done t) := by
  cases c with
  | supplyCrossing supply mv => exact ⟨_, if_neg h⟩
  | debugAccess k =>
    by_cases hu : s.jtag.unlocked = true
    · have hopen : ¬ (!s.jtag.unlocked) = true := by simp [hu]
      cases k with
      | step c => exact absurd hu h
      | scan => exact absurd hu h
      | _ => exact ⟨_, if_neg hopen⟩
    · exact ⟨_, if_pos (by simpa using hu)⟩
  | _ => exact ⟨_, rfl⟩

/-- A supply past its absolute maximum ends the run (R369). -/
theorem exec_supplyCrossing_past {supply mv : Nat} (s : State) (h : supMax (supply % 10) < mv) :
    exec (.supplyCrossing supply mv) s = .fault .absoluteMaximum := if_pos h

theorem exec_debugStep {s : State} (c : Nat) (h : s.jtag.unlocked = true) :
    exec (.debugAccess (.step c)) s = .refused .debugStep := if_neg (by simp [h])

theorem exec_debugScan {s : State} (h : s.jtag.unlocked = true) :
    exec (.debugAccess .scan) s = .refused .internalScan := if_neg (by simp [h])

/-- Settles O22: only a supply past its absolute maximum, a step of a core and the internal scan stop a command. -/
theorem everyCommandCompletes : Obligations.EveryCommandCompletes :=
  ⟨fun _ _ => exec_completes, fun _ _ s => exec_supplyCrossing_past s,
    fun c _ h => ⟨exec_debugStep c h, exec_debugScan h⟩⟩

/-! ## The ACU's refusal (R340, R344) -/

/-- A denied adjustment of time changes no time, so that there is none to mirror (R204, R234). -/
theorem State.mirrorTime_denied {s : State} {o : Origin} {r : Reg} {i : Nat} (f : State → State)
    (h : s.grants o r i = false) : s.mirrorTime (s.hostWrite o r i f) = s.hostWrite o r i f := by
  obtain ⟨c, g, w, p, x, hframe⟩ := State.recordFault_frame s o (regAddr r i) true (s.acuKind o (regAddr r i) true)
  refine State.mirrorTime_same ?_
  rw [State.hostWrite_denied s o r i f h, hframe]

/-- A command that is a write of one register passes that register's ACU check before anything else. -/
theorem exec_target_denied {c : Instr} {s : State} {o : Origin} {r : Reg} {i : Nat} (htarget : target c = some (o, r, i))
    (hdenied : s.grants o r i = false) : ∃ f, exec c s = .next (s.done (s.hostWrite o r i f)) := by
  cases c with
  | adjRate | adjStep | adjRateAndStep | adjSet =>
    cases htarget
    exact ⟨_, congrArg (fun t => Outcome.next (s.done t)) (State.mirrorTime_denied _ hdenied)⟩
  | _ => cases htarget <;> exact ⟨_, rfl⟩

/-- Settles O23: a command's ACU check comes before its effect. -/
theorem deniedWriteRecordsItsFault : Obligations.DeniedWriteRecordsItsFault := by
  refine ⟨fun c s o r i htarget hdenied => ?_, fun c s o hc hdenied => ?_⟩
  · obtain ⟨f, hf⟩ := exec_target_denied htarget hdenied
    rw [hf, State.hostWrite_denied s o r i f hdenied]
  · rcases hc with rfl | rfl | rfl
    all_goals
      exact congrArg (fun t => Outcome.next (s.done (State.firmware t)))
        (State.hostWrite_denied s o .SEC_SAW_CMD 0 _ hdenied)

/-! ## The queue -/

/-- A step runs the command at the front of the queue on the state with the queue's rest. -/
theorem step_cons {c : Instr} {rest : List Instr} {s : State} (h : s.pending = c :: rest) :
    step s = exec c { s with pending := rest } := by
  unfold step
  rw [h]

/-- Settles O1: by the definition of a step on a queue that is not empty. -/
theorem stepRunsFrontCommand : Obligations.StepRunsFrontCommand := fun _ _ _ => step_cons

theorem exec_pending {c : Instr} {s t : State} (h : exec c s = .next t) : t.pending = s.pending := by
  obtain ⟨u, rfl⟩ := exec_next_done h
  exact State.done_pending s u

/-- A step takes the front command off the queue and leaves the others. -/
theorem step_pending {s t : State} (h : step s = .next t) : t.pending = s.pending.tail := by
  cases hq : s.pending with
  | nil =>
    unfold step at h
    rw [hq] at h
    cases h
    exact (State.done_pending s _).trans hq
  | cons c rest =>
    rw [step_cons hq] at h
    exact exec_pending h

/-- Settles O3: every command ends with the queue as it was, and a step takes one command off it. -/
theorem execKeepsQueue : Obligations.ExecKeepsQueue := by
  refine ⟨fun c s t => exec_pending, fun s t hwf h => ?_⟩
  unfold State.queueWf at hwf ⊢
  rw [step_pending h]
  exact List.all_eq_true.mpr fun c hc => List.all_eq_true.mp hwf c (List.mem_of_mem_tail hc)

end Sys2Proof.Machine
end

section
/-!
PROOFS. Shedding (14): what the stages withdraw leaves the demands and the stage in force alone, so that the shed controller ends
at the highest demand (R288, R292).
-/

namespace Sys2Proof.Machine

/-- The power record without the fewest free reorder cells, which every frame that ends may lower (R364). -/
def State.pwrCore (s : State) : Pwr := { s.pwr with minRo := [] }

theorem State.pwrCore_of_pwr {s t : State} (h : t.pwr = s.pwr) : t.pwrCore = s.pwrCore := by
  rw [State.pwrCore, State.pwrCore, h]

theorem State.foldl_pwrCore {α : Type} (f : State → α → State) (l : List α) (h : ∀ t a, (f t a).pwrCore = t.pwrCore)
    (s : State) : (l.foldl f s).pwrCore = s.pwrCore :=
  foldl_keeps State.pwrCore f (fun t a _ => h t a) s

/-! ## Tables, words and counters -/

@[simp] theorem State.setWord_pwrCore (s : State) (r : Reg) (w : W32) (i g : Nat) :
    (s.setWord r w i g).pwrCore = s.pwrCore := State.pwrCore_of_pwr (State.setWord_pwr ..)

@[simp] theorem State.setInt_pwrCore (s : State) (r : Reg) (b i : Nat) : (s.setInt r b i).pwrCore = s.pwrCore := by
  obtain ⟨g, w, c, o, h⟩ := State.setInt_frame s r b i
  rw [h, State.pwrCore, State.pwrCore]

@[simp] theorem State.obsEvent_pwrCore (s : State) (u : ObsUnit) (code n stack : Nat) :
    (s.obsEvent u code n stack).pwrCore = s.pwrCore := by
  obtain ⟨w, h⟩ := State.obsEvent_frame s u code n stack
  rw [h, State.pwrCore, State.pwrCore]

@[simp] theorem State.setPort_pwrCore (s : State) (p : Nat) (v : Port) : (s.setPort p v).pwrCore = s.pwrCore := rfl
@[simp] theorem State.setEng_pwrCore (s : State) (k : Nat) (v : Eng) : (s.setEng k v).pwrCore = s.pwrCore := rfl
@[simp] theorem State.setRing_pwrCore (s : State) (k : Nat) (v : Ring) : (s.setRing k v).pwrCore = s.pwrCore := rfl
@[simp] theorem State.setStk_pwrCore (s : State) (k : Nat) (v : Stack) : (s.setStk k v).pwrCore = s.pwrCore := rfl
@[simp] theorem State.setQueue_pwrCore (s : State) (k : Nat) (v : Queue) : (s.setQueue k v).pwrCore = s.pwrCore := rfl
@[simp] theorem State.setBucket_pwrCore (s : State) (lvl k : Nat) (v : Bucket) : (s.setBucket lvl k v).pwrCore = s.pwrCore := rfl
@[simp] theorem State.setScSet_pwrCore (s : State) (k : Nat) (v : ScSet) : (s.setScSet k v).pwrCore = s.pwrCore := rfl
@[simp] theorem State.emit_pwrCore (s : State) (o : Output) : (s.emit o).pwrCore = s.pwrCore := rfl
@[simp] theorem State.rmFrame_pwrCore (s : State) (id : Nat) : (s.rmFrame id).pwrCore = s.pwrCore := rfl

@[simp] theorem State.count_pwrCore (s : State) (b : CntBlk) (kd i c n : Nat) : (s.count b kd i c n).pwrCore = s.pwrCore :=
  State.pwrCore_of_pwr (State.count_pwr ..)

@[simp] theorem State.portInt_pwrCore (s : State) (p b : Nat) : (s.portInt p b).pwrCore = s.pwrCore := by
  obtain ⟨g, w, c, o, h⟩ := State.portInt_frame s p b
  rw [h, State.pwrCore, State.pwrCore]

@[simp] theorem State.portCnt_pwrCore (s : State) (p c n : Nat) : (s.portCnt p c n).pwrCore = s.pwrCore := by
  obtain ⟨x, h⟩ := State.portCnt_frame s p c n
  rw [h, State.pwrCore, State.pwrCore]

/-! ## Engines and their sets (R139, R147, R155) -/

@[simp] theorem State.remaskSa_pwrCore (s : State) (k : Nat) : (s.remaskSa k).pwrCore = s.pwrCore := rfl

@[simp] theorem State.busLoad_pwrCore (s : State) (k : Nat) : (s.busLoad k).pwrCore = s.pwrCore := by
  unfold State.busLoad
  split <;> simp

@[simp] theorem State.loadKeys_pwrCore (s : State) (e : Nat) (l : List Nat) : (s.loadKeys e l).pwrCore = s.pwrCore := by
  unfold State.loadKeys
  dsimp only
  rw [State.obsEvent_pwrCore, State.foldl_pwrCore _ _ State.busLoad_pwrCore, State.setEng_pwrCore]

@[simp] theorem State.growSet_pwrCore (s : State) (k n : Nat) : (s.growSet k n).pwrCore = s.pwrCore := by
  induction n generalizing s with
  | zero => rfl
  | succ n ih =>
    unfold State.growSet
    split
    · simp [ih]
    · rfl

@[simp] theorem State.fitSet_pwrCore (s : State) (k : Nat) : (s.fitSet k).pwrCore = s.pwrCore := by
  simp [State.fitSet]

@[simp] theorem State.refit_pwrCore (s : State) : s.refit.pwrCore = s.pwrCore :=
  State.foldl_pwrCore _ _ State.fitSet_pwrCore s

@[simp] theorem State.dropKeys_pwrCore (s : State) (e : Nat) : (s.dropKeys e).pwrCore = s.pwrCore := rfl

@[simp] theorem State.leaveSet_pwrCore (s : State) (k e : Nat) : (s.leaveSet k e).pwrCore = s.pwrCore := rfl

@[simp] theorem State.leaveAll_pwrCore (s : State) (e : Nat) : (s.leaveAll e).pwrCore = s.pwrCore := by
  unfold State.leaveAll
  dsimp only
  rw [State.foldl_pwrCore _ _ State.fitSet_pwrCore, State.foldl_pwrCore _ _ (fun t k => State.leaveSet_pwrCore t k e)]

@[simp] theorem State.shedEngine_pwrCore (s : State) (e : Nat) : (s.shedEngine e).pwrCore = s.pwrCore := by
  unfold State.shedEngine
  dsimp only
  split <;> simp

@[simp] theorem State.shedEngines_pwrCore (s : State) : s.shedEngines.pwrCore = s.pwrCore := by
  unfold State.shedEngines
  dsimp only
  split
  · rfl
  · rw [State.foldl_pwrCore _ _ State.shedEngine_pwrCore]
    rfl

@[simp] theorem State.endTest_pwrCore (s : State) (st : TestSt) : (s.endTest st).pwrCore = s.pwrCore := by
  unfold State.endTest
  dsimp only
  split
  · rw [State.setInt_pwrCore]
    rfl
  · rfl

@[simp] theorem State.abortTest_pwrCore (s : State) : s.abortTest.pwrCore = s.pwrCore := by
  unfold State.abortTest
  split
  · split <;> simp
  · rfl

/-! ## Frames that end (R14, R149, R168) -/

@[simp] theorem State.freeSeg_pwrCore (s : State) (id j e : Nat) : (s.freeSeg id j e).pwrCore = s.pwrCore := rfl

@[simp] theorem State.credit_pwrCore (s : State) (e n cls : Nat) : (s.credit e n cls).pwrCore = s.pwrCore := by
  simp [State.credit]

@[simp] theorem State.dropSegs_pwrCore (s : State) (f : Frame) (only : Option Nat) : (s.dropSegs f only).pwrCore = s.pwrCore :=
  State.foldl_pwrCore _ _ (fun t g => by simp) s

@[simp] theorem State.dsc_pwrCore (s : State) (f : Frame) (res : Nat) (t : Int) : (s.dsc f res t).pwrCore = s.pwrCore := by
  unfold State.dsc
  split
  · dsimp only
    split <;> simp
  · rfl

@[simp] theorem State.giveBack_pwrCore (s : State) (l : List Nat) : (s.giveBack l).pwrCore = s.pwrCore := by
  refine Eq.trans rfl (State.foldl_pwrCore _ l (fun t g => ?_) s)
  dsimp only
  split <;> simp

@[simp] theorem State.unqueue_pwrCore (s : State) (q : Nat) (f : Frame) : (s.unqueue q f).pwrCore = s.pwrCore := by
  unfold State.unqueue
  dsimp only
  split <;> split <;> simp

/-- A look at the reorder store's fill changes the fewest free cells, and nothing else of the power record. -/
@[simp] theorem State.noteRo_pwrCore (s : State) : s.noteRo.pwrCore = s.pwrCore := by
  unfold State.noteRo
  dsimp only
  split
  · rw [State.setInt_pwrCore, State.count_pwrCore]
    rfl
  · split <;> rfl

@[simp] theorem State.queueCtl_pwrCore (s : State) (p : Nat) (o : List Byte) : (s.queueCtl p o).pwrCore = s.pwrCore := rfl

@[simp] theorem State.sendPause_pwrCore (s : State) (p : Nat) : (s.sendPause p).pwrCore = s.pwrCore := rfl

@[simp] theorem State.sendPfc_pwrCore (s : State) (p n : Nat) : (s.sendPfc p n).pwrCore = s.pwrCore := by
  unfold State.sendPfc
  dsimp only
  split <;> rfl

@[simp] theorem State.sendXon_pwrCore (s : State) (p : Nat) : (s.sendXon p).pwrCore = s.pwrCore := by
  unfold State.sendXon
  dsimp only
  repeat' split
  all_goals rfl

@[simp] theorem State.noteFill_pwrCore (s : State) (p : Nat) : (s.noteFill p).pwrCore = s.pwrCore := by
  unfold State.noteFill
  split
  · rfl
  · simp only [apply_ite State.pwrCore, State.sendXon_pwrCore, State.sendPause_pwrCore, State.sendPfc_pwrCore,
      State.setPort_pwrCore, ite_self]

@[simp] theorem State.endFrame_pwrCore (s : State) (f : Frame) (res : Nat) : (s.endFrame f res).pwrCore = s.pwrCore := by
  unfold State.endFrame
  dsimp only
  split <;> simp only [apply_ite State.pwrCore, State.noteFill_pwrCore, State.noteRo_pwrCore, State.rmFrame_pwrCore,
      State.setPort_pwrCore, State.unqueue_pwrCore, State.giveBack_pwrCore, State.dsc_pwrCore, State.dropSegs_pwrCore, ite_self]

@[simp] theorem State.discardAll_pwrCore (s : State) (l : List Frame) : (s.discardAll l).pwrCore = s.pwrCore := by
  unfold State.discardAll
  split
  · rfl
  · rw [State.setInt_pwrCore]
    refine State.foldl_pwrCore _ _ (fun t f => ?_) s
    split <;> simp

@[simp] theorem State.discard_pwrCore (s : State) (p : Frame → Bool) : (s.discard p).pwrCore = s.pwrCore :=
  State.discardAll_pwrCore ..

/-! ## Ports and stacks (R43, R194, R294) -/

@[simp] theorem State.bringUp_pwrCore (s : State) (p : Nat) : (s.bringUp p).pwrCore = s.pwrCore := by
  unfold State.bringUp
  dsimp only
  split <;> rfl

@[simp] theorem State.discardDown_pwrCore (s : State) (p : Nat) : (s.discardDown p).pwrCore = s.pwrCore := by
  unfold State.discardDown
  split <;> simp

@[simp] theorem State.linkDown_pwrCore (s : State) (p : Nat) : (s.linkDown p).pwrCore = s.pwrCore := by
  simp only [State.linkDown, apply_ite State.pwrCore, State.bringUp_pwrCore, State.discardDown_pwrCore, State.portCnt_pwrCore,
    State.portInt_pwrCore, State.setPort_pwrCore, ite_self]

@[simp] theorem State.goDormant_pwrCore (s : State) (p : Nat) (byS3 : Bool) : (s.goDormant p byS3).pwrCore = s.pwrCore := by
  simp only [State.goDormant, apply_ite State.pwrCore, State.setPort_pwrCore, ite_self]

@[simp] theorem State.celShed_pwrCore (s : State) (s3 : Bool) : (s.celShed s3).pwrCore = s.pwrCore := by
  unfold State.celShed
  split
  · exact State.foldl_pwrCore (fun t k => t.setStk k { t.stk k with mode := .draining, moves := true }) _
      (fun t k => State.setStk_pwrCore ..) s
  · refine State.foldl_pwrCore _ _ (fun t k => ?_) s
    dsimp only
    split <;> rfl

@[simp] theorem State.dropUnkept_pwrCore (s : State) : s.dropUnkept.pwrCore = s.pwrCore := by
  unfold State.dropUnkept
  dsimp only
  rw [State.discard_pwrCore]
  refine State.foldl_pwrCore _ _ (fun t p => ?_) s
  split <;> simp

/-! ## The stage in force (R292, R293) -/

@[simp] theorem State.obsOff_pwrCore (s : State) : s.obsOff.pwrCore = s.pwrCore := rfl

/-- What a stage withdraws is no demand, and not the stage. -/
@[simp] theorem State.takeStage_pwrCore (s : State) (n : Nat) : (s.takeStage n).pwrCore = s.pwrCore := by
  unfold State.takeStage
  split
  case h_3 =>
    rw [State.foldl_pwrCore _ _ (fun t p => State.goDormant_pwrCore t p true), State.celShed_pwrCore]
  all_goals simp

/-- The climb ends at its last stage and leaves every demand as it is. -/
theorem State.climb_pwrCore (s : State) (k n : Nat) :
    (s.climb k (n + 1)).pwrCore = { s.pwrCore with stage := k + n } := by
  induction n generalizing s k with
  | zero => rw [State.climb, State.climb, State.takeStage_pwrCore, State.count_pwrCore]; rfl
  | succ n ih =>
    rw [State.climb, ih, State.takeStage_pwrCore, State.count_pwrCore, Nat.add_right_comm, Nat.add_assoc]
    rfl

@[simp] theorem State.sendStatus_pwrCore (s : State) : s.sendStatus.pwrCore = s.pwrCore := by
  unfold State.sendStatus
  split <;> rfl

theorem State.noteStage_pwrCore (s : State) (old n : Nat) :
    (s.noteStage old n).pwrCore = { s.pwrCore with stageAt := s.nowNs } := by
  unfold State.noteStage
  dsimp only
  rw [State.sendStatus_pwrCore, State.setInt_pwrCore, State.setWord_pwrCore]
  rfl

/-- The shed controller at work: the stage is the highest demand, and the demands are as they were. -/
theorem State.shed_pwrCore_of_lt {s : State} (hs : s.pwr.started = true) (hlt : s.pwr.stage < s.topDemand) :
    ∃ at', s.shed.pwrCore = { s.pwrCore with stage := s.topDemand, stageAt := at' } := by
  obtain ⟨n, hn⟩ : ∃ n, s.topDemand - s.pwr.stage = n + 1 := ⟨s.topDemand - s.pwr.stage - 1, by omega⟩
  have htop : s.pwr.stage + 1 + n = s.topDemand := by omega
  refine ⟨(s.climb (s.pwr.stage + 1) (s.topDemand - s.pwr.stage)).nowNs, ?_⟩
  simp only [State.shed, hs, hlt, decide_true, Bool.and_self, if_true]
  rw [State.noteStage_pwrCore, hn, State.climb_pwrCore, htop]

theorem State.shed_of_le {s : State} (h : s.pwr.started = false ∨ s.topDemand ≤ s.pwr.stage) : s.shed = s := by
  refine if_neg ?_
  rcases h with h | h <;> simp [h]

/-- Whatever the shed controller does, of the power record it changes the stage and its time alone. -/
theorem State.shed_pwrCore (s : State) :
    ∃ n at', s.shed.pwrCore = { s.pwrCore with stage := n, stageAt := at' } := by
  by_cases h : s.pwr.started = true ∧ s.pwr.stage < s.topDemand
  · exact ⟨_, State.shed_pwrCore_of_lt h.1 h.2⟩
  · rw [State.shed_of_le (by simpa [← Bool.not_eq_true, imp_iff_not_or] using h)]
    exact ⟨s.pwr.stage, s.pwr.stageAt, rfl⟩

/-- Settles O12: the climb ends at the highest demand, and without one above the stage in force there is none. -/
theorem shedReachesTheHighestDemand : Obligations.ShedReachesTheHighestDemand := by
  refine fun s => ⟨fun hs hlt => ?_, State.shed_of_le⟩
  obtain ⟨at', h⟩ := State.shed_pwrCore_of_lt hs hlt
  exact congrArg Pwr.stage h

end Sys2Proof.Machine
end

section
/-!
PROOFS. The demands of supplies and of temperature (14, R289, R290), and a forced stage turned away (R288).
-/

namespace Sys2Proof.Machine

/-! ## Sources and samples leave the demands alone -/

@[simp] theorem State.raise_pwrCore (s : State) (k : Nat) : (s.raise k).pwrCore = s.pwrCore := rfl

@[simp] theorem State.level_pwrCore (s : State) (src : Nat) (on : Bool) : (s.level src on).pwrCore = s.pwrCore := by
  unfold State.level
  dsimp only
  split
  · rfl
  · split <;> rfl

@[simp] theorem State.monEvent_pwrCore (s : State) (src : Nat) : (s.monEvent src).pwrCore = s.pwrCore := by
  unfold State.monEvent
  split <;> rfl

theorem State.demand_of_pwrCore {s t : State} (h : t.pwrCore = s.pwrCore) :
    t.pwr.dVcore = s.pwr.dVcore ∧ t.pwr.dTj = s.pwr.dTj ∧ t.pwr.tjLeft = s.pwr.tjLeft := by
  have hv := congrArg Pwr.dVcore h
  have ht := congrArg Pwr.dTj h
  have hl := congrArg Pwr.tjLeft h
  exact ⟨hv, ht, hl⟩

/-! ## VCORE (R289) -/

/-- A reading of VCORE sets off no loss of a rail: its lower level is 0. -/
theorem railLost_vcore (mv : Nat) : railLost 0 mv = false := by simp [railLost, supLevels]

/-- A crossing of VCORE raises its demand to the stage of the level, and then sheds. -/
theorem State.crossing_vcore (s : State) (mv : Nat) :
    ∃ t : State, s.crossing 0 mv = t.shed ∧ t.pwrCore.dVcore = max s.pwr.dVcore (vcoreStage mv) := by
  refine ⟨_, rfl, ?_⟩
  have hother : ¬ (0 = 8 ∨ 0 = 9) := by omega
  rw [railLost_vcore, if_neg hother, if_neg Bool.false_ne_true, if_neg (by omega)]
  refine congrArg (max · _) (State.demand_of_pwrCore (s := s.setSupply 0 mv) ?_).1
  simp only [State.level_pwrCore, apply_ite State.pwrCore, State.setInt_pwrCore, ite_self]

theorem State.crossing_vcore_demand (s : State) (mv : Nat) :
    (s.crossing 0 mv).pwr.dVcore = max s.pwr.dVcore (vcoreStage mv) := by
  obtain ⟨t, ht, hdemand⟩ := State.crossing_vcore s mv
  obtain ⟨n, at', hshed⟩ := State.shed_pwrCore t
  rw [ht]
  exact (congrArg Pwr.dVcore hshed).trans hdemand

theorem State.vcoreReturn_demand (s : State) (mv : Nat) : (s.vcoreReturn mv).pwr.dVcore =
    min s.pwr.dVcore (if mv < 655 then 5 else if mv < 685 then 4 else if mv < 715 then 2 else 0) := rfl

/-- Settles O8: a crossing raises the VCORE demand to the stage of its level, a return lowers it to that of the level above. -/
theorem vcoreDemandFollowsItsLevels : Obligations.VcoreDemandFollowsItsLevels := by
  refine fun s mv => ⟨fun hmax => ⟨s.crossing 0 mv, if_neg (Nat.not_lt.mpr hmax), ?_⟩, s.vcoreReturn mv, rfl, ?_⟩
  · rw [State.crossing_vcore_demand, vcoreStage]
    refine ⟨fun h => ?_, fun h1 h2 => ?_, fun h1 h2 => ?_, fun h => ?_⟩
    · rw [if_pos (by omega)]
    · rw [if_neg (by omega), if_pos (by omega)]
    · rw [if_neg (by omega), if_neg (by omega), if_pos (by omega)]
    · rw [if_neg (by omega), if_neg (by omega), if_neg (by omega), Nat.max_zero]
  · rw [State.vcoreReturn_demand]
    refine ⟨fun h => ?_, fun h1 h2 => ?_, fun h1 h2 => ?_⟩
    · rw [if_neg (by omega), if_neg (by omega), if_neg (by omega), Nat.min_zero]
    · rw [if_neg (by omega), if_neg (by omega), if_pos (by omega)]
    · rw [if_neg (by omega), if_pos (by omega)]

/-! ## The median of the readings (R308) -/

theorem mem_insInt {x y : Int} {l : List Int} : y ∈ insInt x l ↔ y = x ∨ y ∈ l := by
  induction l with
  | nil => simp [insInt]
  | cons z r ih =>
    unfold insInt
    split
    · simp
    · simp [ih, or_left_comm]

theorem mem_foldr_insInt {y : Int} {l : List Int} : y ∈ l.foldr insInt [] ↔ y ∈ l := by
  induction l with
  | nil => simp
  | cons x l ih => rw [List.foldr_cons, mem_insInt, ih, List.mem_cons]

/-- Twice the median is the sum of two readings. -/
theorem exists_median2 {l : List Int} (h : l ≠ []) : ∃ a ∈ l, ∃ b ∈ l, median2 l = a + b := by
  have hne : 0 < (l.foldr insInt []).length := by
    obtain ⟨x, hx⟩ := List.exists_mem_of_ne_nil l h
    exact List.length_pos_of_mem (mem_foldr_insInt.mpr hx)
  have hmem : ∀ k, k < (l.foldr insInt []).length → (l.foldr insInt []).getD k 0 ∈ l := fun k hk => by
    rw [List.getD_eq_getElem _ _ hk]
    exact mem_foldr_insInt.mp (List.getElem_mem hk)
  exact ⟨_, hmem _ (by omega), _, hmem _ (by omega), rfl⟩

/-- Among readings that agree to within 25 °C none is far from the median (R308). -/
theorem near_median2 {l : List Int} (h : ∀ x ∈ l, ∀ y ∈ l, (x - y).natAbs ≤ 100) {x : Int} (hx : x ∈ l) :
    (2 * x - median2 l).natAbs ≤ 200 := by
  obtain ⟨a, ha, b, hb, hm⟩ := exists_median2 (List.ne_nil_of_mem hx)
  have h1 := h x hx a ha
  have h2 := h x hx b hb
  omega

/-! ## The highest reading (R285) -/

/-- The higher of two readings with their sensors, the earlier one of two equal ones. -/
def higherReading (a : Option (Int × Nat)) (x : Int × Nat) : Option (Int × Nat) :=
  match a with
  | none => some x
  | some b => if b.1 < x.1 then some x else some b

theorem foldl_higherReading (l : List (Int × Nat)) (b : Int × Nat) :
    ∃ m, l.foldl higherReading (some b) = some m ∧ (m = b ∨ m ∈ l) ∧ b.1 ≤ m.1 ∧ ∀ x ∈ l, x.1 ≤ m.1 := by
  induction l generalizing b with
  | nil => exact ⟨b, rfl, .inl rfl, le_rfl, fun x hx => absurd hx List.not_mem_nil⟩
  | cons y l ih =>
    rw [List.foldl_cons, higherReading]
    split
    next hlt =>
      obtain ⟨m, hm, hmem, hle, hall⟩ := ih y
      refine ⟨m, hm, .inr (List.mem_cons.mpr hmem), by omega, fun x hx => ?_⟩
      rcases List.mem_cons.mp hx with rfl | hx
      · exact hle
      · exact hall x hx
    next hge =>
      obtain ⟨m, hm, hmem, hle, hall⟩ := ih b
      refine ⟨m, hm, hmem.imp_right (List.mem_cons_of_mem _), hle, fun x hx => ?_⟩
      rcases List.mem_cons.mp hx with rfl | hx
      · omega
      · exact hall x hx

/-- With no sensor left out Tj is the highest reading, and its demand rises to the stage of its threshold. -/
theorem State.takeTj_highest {s : State} {l : List Int} (hleft : s.pwr.tjLeft = []) (hl : l ≠ []) :
    (s.takeTj l).pwr.tj ∈ l ∧ (∀ x ∈ l, x ≤ (s.takeTj l).pwr.tj) ∧
      (s.takeTj l).pwr.dTj = max s.pwr.dTj (tjStage (s.takeTj l).pwr.tj) := by
  obtain ⟨y, r, hz⟩ : ∃ y r, l.zipIdx = y :: r :=
    List.exists_cons_of_ne_nil fun h => hl (List.zipIdx_eq_nil_iff.mp h)
  obtain ⟨m, hm, hmem, hle, hall⟩ := foldl_higherReading r y
  have hfold : (l.zipIdx.filter fun x => !s.pwr.tjLeft.contains x.2).foldl higherReading none = some m := by
    simpa [hleft, hz, higherReading] using hm
  have htake : s.takeTj l = { s with pwr := { s.pwr with
      tj := m.1, tjSensor := m.2, dTj := max s.pwr.dTj (tjStage m.1),
      maxTj := [0, 1, 2].foldl (fun u g => Tab.put (fun _ => (-2048 : Int)) u g
        (max (Tab.look (fun _ => (-2048 : Int)) u g) m.1)) s.pwr.maxTj } } := by
    unfold State.takeTj
    change (match (l.zipIdx.filter fun x => !s.pwr.tjLeft.contains x.2).foldl higherReading none with
      | none => s
      | some (t, n) => _) = _
    rw [hfold]
  rw [htake]
  refine ⟨?_, fun x hx => ?_, rfl⟩
  · have hin : m ∈ l.zipIdx := by rw [hz]; exact List.mem_cons.mpr hmem
    exact List.fst_mem_of_mem_zipIdx hin
  · obtain ⟨k, hk, rfl⟩ := List.getElem_of_mem hx
    have hin : (l[k], k) ∈ l.zipIdx := List.mk_mem_zipIdx_iff_getElem?.mpr (List.getElem?_eq_getElem hk)
    rw [hz] at hin
    rcases List.mem_cons.mp hin with h | h
    · exact (congrArg Prod.fst h).trans_le hle
    · exact hall _ h

/-! ## Junction temperature (R290, R297) -/

theorem State.survival_pwrCore (s : State) : ∃ b, s.survival.pwrCore = { s.pwrCore with surv := b } := by
  unfold State.survival
  dsimp only
  split
  · refine ⟨decide (500 ≤ s.pwr.tj) && decide (s.pwr.tj ≤ 560), ?_⟩
    rw [apply_ite State.pwrCore, State.raise_pwrCore, State.setInt_pwrCore, State.setInt_pwrCore, ite_self]
    rfl
  · exact ⟨_, rfl⟩

/-- What follows a sample of Tj leaves Tj and its demand as the sample set them. -/
theorem State.afterTj_keeps (s : State) (above : Bool) : (((s.survTime above).survival).shed).pwr.tj = s.pwr.tj ∧
    (((s.survTime above).survival).shed).pwr.dTj = s.pwr.dTj := by
  obtain ⟨b, hsurv⟩ := State.survival_pwrCore (s.survTime above)
  obtain ⟨n, at', hshed⟩ := State.shed_pwrCore (s.survTime above).survival
  change (State.pwrCore _).tj = s.pwrCore.tj ∧ (State.pwrCore _).dTj = s.pwrCore.dTj
  rw [hshed, hsurv]
  exact ⟨rfl, rfl⟩

/-- The state in which a sample of agreeing readings takes Tj still has its demand, and no sensor left out. -/
theorem State.tjSample_agreeing {s : State} {l : List Int} (tack : Int) (hleft : s.pwr.tjLeft = [])
    (h : ∀ x ∈ l, ∀ y ∈ l, (x - y).natAbs ≤ 100) :
    ∃ (t : State) (above : Bool), s.tjSample l tack = (((t.takeTj l).survTime above).survival).shed ∧ t.pwr.tjLeft = [] ∧
      t.pwr.dTj = s.pwr.dTj := by
  have hodd : (l.zipIdx.filter fun x => decide (200 < (2 * x.1 - median2 l).natAbs) && !s.pwr.tjLeft.contains x.2) = [] := by
    refine List.filter_eq_nil_iff.mpr fun x hx => ?_
    have := near_median2 h (List.fst_mem_of_mem_zipIdx hx)
    simp only [Bool.and_eq_true, decide_eq_true_eq]
    omega
  unfold State.tjSample
  dsimp only
  rw [hodd]
  have hcore : ∀ (n : Nat) (u : State) (on : Bool),
      (((List.range n).foldl (fun t _ => t.monEvent 14) u).level 5 on).pwrCore = u.pwrCore := fun n u on => by
    rw [State.level_pwrCore, State.foldl_pwrCore _ _ (fun t _ => State.monEvent_pwrCore t 14)]
  obtain ⟨-, hdTj, htjLeft⟩ := State.demand_of_pwrCore (hcore ([].length + (l.filter fun x =>
    decide (x < -180) || decide (600 < x)).length) { s with pwr := { s.pwr with tjLeft := s.pwr.tjLeft ++ [] } }
    (decide (tack < -200) || decide (600 < tack)))
  exact ⟨_, _, rfl, htjLeft.trans (by simp [hleft]), hdTj⟩

theorem State.tjReturn_falls {s : State} (hd : s.pwr.dTj ≠ 0)
    (ht : s.pwr.tj ≤ tjLevel s.pwr.dTj - 4 * (s.fld F.PWR_CTL_TJ_HYST : Int)) :
    s.tjReturn.pwr.dTj = if s.pwr.dTj = 6 then 5 else if s.pwr.dTj = 5 then 4 else if s.pwr.dTj = 4 then 2 else 0 := by
  unfold State.tjReturn
  dsimp only
  rw [if_pos ⟨hd, by push_cast; linarith⟩]

/-- Settles O9: agreeing readings leave no sensor out, so that Tj is the highest of them; nothing after the sample lowers the
demand it raises. -/
theorem tjDemandFollowsItsThresholds : Obligations.TjDemandFollowsItsThresholds := by
  refine fun s => ⟨fun l tack => ⟨s.tjSample l tack, rfl, fun hleft hl hagree => ?_⟩, s.tjReturn, rfl, ?_⟩
  · obtain ⟨t, above, hsample, htleft, htdemand⟩ := State.tjSample_agreeing tack hleft hagree
    obtain ⟨htj, hdTj⟩ := State.afterTj_keeps (t.takeTj l) above
    obtain ⟨hmem, hmax, hdemand⟩ := State.takeTj_highest htleft hl
    rw [hsample, htj, hdTj, hdemand, htdemand, tjStage]
    refine ⟨⟨_, hmem, rfl⟩, hmax, fun h => ?_, fun h1 h2 => ?_, fun h1 h2 => ?_, fun h1 h2 => ?_, fun h => ?_⟩
    · rw [if_pos h]
    · rw [if_neg (by omega), if_pos h1]
    · rw [if_neg (by omega), if_neg (by omega), if_pos h1]
    · rw [if_neg (by omega), if_neg (by omega), if_neg (by omega), if_pos h1]
    · rw [if_neg (by omega), if_neg (by omega), if_neg (by omega), if_neg (by omega), Nat.max_zero]
  · refine ⟨fun hd ht => ?_, fun hd ht => ?_, fun hd ht => ?_, fun hd ht => ?_⟩
    all_goals
      rw [State.tjReturn_falls (by omega) (by rw [hd]; exact ht), hd]
      rfl

/-! ## A forced stage outside a presence window (R288, R301) -/

/-- A serving part whose PWR_CTL holds a word with TJ_HYST 0, below its range. -/
def hystBelowRange : State := { start := { step := 15, held := false }, regs := [(regKey .PWR_CTL 0 0, 0#32)] }

theorem hystBelowRange_rejected :
    (hystBelowRange.done (hystBelowRange.forceStage .pf0 1)).word .PWR_INT_STAT = 128#32 := by decide

theorem hystBelowRange_faulted :
    (hystBelowRange.done (hystBelowRange.fault5 .pf0 .PWR_CTL 0).shed).word .PWR_INT_STAT = 0#32 := by decide

theorem hystBelowRange_granted : hystBelowRange.grants .pf0 .PWR_CTL = true := by decide

theorem hystBelowRange_runs : exec (.forceStageWrite .pf0 1) hystBelowRange =
    .next (hystBelowRange.done (hystBelowRange.forceStage .pf0 1)) :=
  exec_granted (f := fun t => t.forceStage .pf0 1) rfl hystBelowRange_granted

/-- Refutes O50: its clause of a stage forced outside a presence window has the fault of kind 5 alone for every word PWR_CTL holds,
but over a word out of range the write is refused as a whole, which sets CFG_REJ too (R301). -/
theorem not_suppliesAndShedComplete : ¬ Obligations.SuppliesAndShedComplete := by
  rintro ⟨-, -, -, -, -, -, -, -, -, hclosed⟩
  have hclaim : exec (.forceStageWrite .pf0 1) hystBelowRange =
      .next (hystBelowRange.done (hystBelowRange.fault5 .pf0 .PWR_CTL 0).shed) :=
    hclosed hystBelowRange .pf0 1 hystBelowRange_granted rfl (by decide) (by decide) (by decide)
  have hword := congrArg (fun t => t.word .PWR_INT_STAT) (Host.Outcome.next.inj (hystBelowRange_runs.symm.trans hclaim))
  simp only [hystBelowRange_rejected, hystBelowRange_faulted] at hword
  cases hword

end Sys2Proof.Machine
end

section
/-!
PROOFS. Core memory (R339), access control (R340, R343, R344) and interrupt messages (R327).
-/

namespace Sys2Proof.Machine

/-! ## Core memory (R339) -/

theorem Memory.read_writes_of_lt {l : List Byte} {a b : Nat} (m : List Host.Cell) (h : b < a) :
    Memory.read (Memory.writes m a l) b = Memory.read m b := by
  induction l generalizing m a with
  | nil => rfl
  | cons x r ih =>
    rw [Memory.writes, ih _ (by omega), Memory.read_write, if_neg (by omega)]

theorem Memory.read_writes_of_ge {l : List Byte} {a b : Nat} (m : List Host.Cell) (h : a + l.length ≤ b) :
    Memory.read (Memory.writes m a l) b = Memory.read m b := by
  induction l generalizing m a with
  | nil => rfl
  | cons x r ih =>
    simp only [List.length_cons] at h
    rw [Memory.writes, ih _ (by omega), Memory.read_write, if_neg (by omega)]

/-- The octet read at a written address is the one written there. -/
theorem Memory.read_writes {l : List Byte} {k : Nat} (m : List Host.Cell) (a : Nat) (hk : k < l.length) :
    Memory.read (Memory.writes m a l) (a + k) = l[k] := by
  induction l generalizing m a k with
  | nil => cases hk
  | cons x r ih =>
    rw [Memory.writes]
    cases k with
    | zero => rw [Memory.read_writes_of_lt _ (by omega), Memory.read_write, if_pos (by omega), List.getElem_cons_zero]
    | succ k =>
      have h := ih (Memory.write m a x) (a + 1) (by simpa using hk)
      rw [List.getElem_cons_succ, ← h, Nat.add_right_comm, Nat.add_assoc]

/-- Settles O10: by the octet each address holds after a write, within what was written and beside it. -/
theorem writtenMemoryReadsBack : Obligations.WrittenMemoryReadsBack := by
  refine fun s a l => ⟨List.ext_getElem (by simp [State.rdMem]) fun k h1 h2 => ?_, fun b hb => ?_,
    fun h => Memory.wf_writes s.mem a l h⟩
  · simp [State.rdMem, State.wrMem, Memory.read_writes s.mem a h2]
  · rcases hb with hb | hb
    · exact Memory.read_writes_of_lt s.mem hb
    · exact Memory.read_writes_of_ge s.mem hb

/-! ## The check of an access (R340) -/

theorem State.acuKind_region {s : State} {o : Origin} {a : Nat} {q : Nat × Nat × BitVec 5} (wr : Bool)
    (h : (s.acu o.acu).region? a = some q) : s.acuKind o a wr =
      if (o.user && !attrU q.2.2) || (if wr then !attrW q.2.2 else !attrR q.2.2) || (wr && attrP q.2.2 && !s.presence)
      then 2 else 0 := by
  simp only [State.acuKind, h]

theorem State.acuKind_outside {s : State} {o : Origin} {a : Nat} (wr : Bool) (h : (s.acu o.acu).region? a = none) :
    s.acuKind o a wr = if o.user then 1 else if defaultMap o a wr then 0 else 3 := by
  simp only [State.acuKind, h]

/-- Settles O17: inside a region by its attributes, outside every region by the default map. -/
theorem acuChecksEachAccess : Obligations.AcuChecksEachAccess := by
  refine fun s o a wr => ⟨fun q hq => ?_, fun hq => ?_⟩
  · rw [State.acuKind_region wr hq]
    refine ⟨(ite_eq_or_eq _ 2 0).symm, ?_⟩
    rw [Ne.ite_eq_left_iff (by omega)]
    cases wr <;> simp [attrR, attrW, attrU, attrP, or_assoc]
  · rw [State.acuKind_outside wr hq]
    refine ⟨fun hu => if_pos hu, fun hu => ?_⟩
    rw [if_neg (by simp [hu])]
    exact ⟨ite_eq_or_eq _ 0 3, fun ha => if_pos (by simp [defaultMap, hu, show a < 0x4000000 by omega])⟩

/-! ## COMMIT (R343, R344) -/

theorem State.acu_setInt (s : State) (r : Reg) (b i u : Nat) : (s.setInt r b i).acu u = s.acu u := by
  obtain ⟨g, w, p, o, h⟩ := State.setInt_frame s r b i
  rw [h]
  rfl

/-- An interrupt bit that hardware has set reads 1. -/
theorem State.bits_setInt (s : State) (r : Reg) {b : Nat} (hb : b < 32) (i : Nat) :
    bits ((s.setInt r b i).word r i) b b = 1 := by
  rw [bits_one, State.getLsbD_setInt s r hb i]
  rfl

/-- A COMMIT of an allowed master that is refused, by the fence first and then by the rules. -/
theorem State.acuCommit_refused {s : State} {o : Origin} {u : Nat} (hm : acuMaster o u = true)
    (hp : (u ≠ 80 ∧ u ≠ 81) ∨ s.presence = true) (h : (s.acu u).drained = false ∨ rulesOk (s.acuShadow u) = false) :
    s.acuCommit o u = s.acuRefuse u (if (s.acu u).drained = false then 3 else 2) := by
  have hopen : ¬ ((u = 80 ∨ u = 81) ∧ (!s.presence) = true) := by
    rintro ⟨hu, hclosed⟩
    rcases hp with hp | hp
    · omega
    · simp [hp] at hclosed
  simp only [State.acuCommit, hm, Bool.not_true, Bool.false_eq_true, if_false, hopen]
  rcases h with h | h
  · simp [h]
  · cases hd : (s.acu u).drained <;> simp [h]

/-- Settles O18: a refused COMMIT writes its error and sets OVERLAP. -/
theorem commitIsRefusedWhileOldRulesDrain : Obligations.CommitIsRefusedWhileOldRulesDrain := by
  intro s o acu u hg hm hp h
  refine ⟨_, exec_granted (c := .acuCommit o acu) rfl hg, ?_⟩
  rw [State.acuCommit_refused hm hp h, State.acuRefuse, State.acu_setInt, State.acu_setAcu]
  exact ⟨rfl, rfl, rfl, State.bits_setInt _ _ (by omega) 0⟩

/-! ## Interrupt messages (R327) -/

theorem getLsbD_xor_twoPow {w : BitVec 33} {n k : Nat} (hk : k < 33) :
    (w ^^^ BitVec.ofNat 33 (2 ^ n)).getLsbD k = (w.getLsbD k ^^ decide (k = n)) := by
  rw [BitVec.getLsbD_xor, BitVec.getLsbD_ofNat, Nat.testBit_two_pow]
  simp [hk, eq_comm]

theorem nbit_toNat (w : BitVec 33) (n : Nat) : nbit w.toNat n = w.getLsbD n := by
  rw [nbit, BitVec.getLsbD, Nat.testBit_eq_decide_div_mod_eq]
  rfl

/-- A source that has not changed sends nothing. -/
theorem State.irq_same {s : State} {n : Nat} (h : s.pci.srcs.getLsbD n = s.srcSet n) : s.irq n = s := by
  simp [State.irq, nbit_toNat, h]

/-- A source that has changed is noted, and sends its message when it has become set and its entry is enabled. -/
theorem State.irq_changed {s : State} {n : Nat} (h : s.pci.srcs.getLsbD n ≠ s.srcSet n) :
    s.irq n = if s.srcSet n && s.flag F.PCI_IVEC_EN n then
        ({ s with pci := { s.pci with srcs := s.pci.srcs ^^^ BitVec.ofNat 33 (2 ^ n) } } : State).message
          (s.fld F.PCI_IVEC_PF n) (s.fld F.PCI_IVEC_VECTOR n)
      else { s with pci := { s.pci with srcs := s.pci.srcs ^^^ BitVec.ofNat 33 (2 ^ n) } } := by
  have h' : ¬ (s.srcSet n == nbit s.pci.srcs.toNat n) = true := by simpa [nbit_toNat] using h.symm
  simp only [State.irq, h']
  rfl

@[simp] theorem State.message_srcs (s : State) (pf v : Nat) : (s.message pf v).pci.srcs = s.pci.srcs := by
  unfold State.message
  split <;> rfl

/-- An unmasked vector's message leaves at once. -/
theorem State.message_unmasked {s : State} {pf v : Nat}
    (h : bits (s.pci.table.look msixDflt (pf * 65536 + v * 4 + 3)) 0 0 = 0) : (s.message pf v).out = .msix pf v :: s.out := by
  have h' : ¬ bits (s.pci.table.look msixDflt (pf * 2 ^ 16 + v * 4 + 3)) 0 0 = 1 := by
    rw [show (2 : Nat) ^ 16 = 65536 from rfl, h]
    omega
  rw [State.message, if_neg h']
  rfl

theorem State.irq_changed_srcs {s : State} {n : Nat} (h : s.pci.srcs.getLsbD n ≠ s.srcSet n) :
    (s.irq n).pci.srcs = s.pci.srcs ^^^ BitVec.ofNat 33 (2 ^ n) := by
  rw [State.irq_changed h]
  split
  · rw [State.message_srcs]
  · rfl

/-- Settles O19: a look at a source notes its change, and only its rise sends a message. -/
theorem oneMessagePerSource : Obligations.OneMessagePerSource := by
  intro s n hn
  by_cases h : s.pci.srcs.getLsbD n = s.srcSet n
  · rw [State.irq_same h]
    refine ⟨h, fun _ _ _ => rfl, fun _ => rfl, fun hwas hnow => ?_, fun _ => rfl⟩
    rw [hwas, hnow] at h
    cases h
  · refine ⟨?_, fun k hk hne => ?_, fun hsame => absurd hsame h, fun _ hnow hen hmask => ?_, fun hoff => ?_⟩
    · rw [State.irq_changed_srcs h, getLsbD_xor_twoPow hn]
      revert h
      cases s.pci.srcs.getLsbD n <;> cases s.srcSet n <;> simp
    · rw [State.irq_changed_srcs h, getLsbD_xor_twoPow hk]
      simp [hne]
    · rw [State.irq_changed h, hnow, hen]
      exact State.message_unmasked hmask
    · rw [State.irq_changed h, if_neg]
      rcases hoff with hoff | hoff <;> simp [hoff]

end Sys2Proof.Machine
end

section
/-!
PROOFS. What ends a step in a state in which nothing waits (R313, R224, R226, R228, R241, R382), and the function-level resets (R328).
-/

namespace Sys2Proof.Machine

/-! ## The end of a step -/

theorem State.settleGo_idle {s : State} (hq : s.alarm.queue = []) (hm : s.mail = []) (n : Nat) : s.settleGo n = s := by
  cases n with
  | zero => rfl
  | succ n => simp [State.settleGo, hq, hm]

theorem State.s6Look_of_stage {s : State} (h : s.pwr.stage ≠ 6) : s.s6Look = s := by
  simp [State.s6Look, h]

theorem State.fenceLook_of_beat {s : State} (h : (s.par.st == .standby && s.par.synced && !s.par.beatOk) = false) :
    s.fenceLook = s := by
  simp [State.fenceLook, h]

theorem State.setBeat_same {s : State} {on : Bool} (h : s.par.beatOut = on) : s.setBeat on = s := by
  simp [State.setBeat, h]

theorem State.setAct_same {s : State} {on : Bool} (h : s.par.actOut = on) : s.setAct on = s := by
  simp [State.setAct, h]

theorem State.gateLook_same {s : State} (h : s.par.gate = (s.par.actOut && s.par.settled && !s.par.actIn && !s.par.fenceIn)) :
    s.gateLook = s := by
  simp [State.gateLook, State.setGate, h]

/-- Pads that follow their conditions stay as they are. -/
theorem State.padLogic_of_padsOk {s : State} (h : s.padsOk = true) : s.padLogic = s := by
  simp only [State.padsOk, Bool.and_eq_true, Bool.or_eq_true, Bool.not_eq_true', beq_iff_eq] at h
  obtain ⟨⟨hact, hbeat⟩, hgate⟩ := h
  unfold State.padLogic
  split
  next => exact State.gateLook_same hgate
  next hlease =>
    rw [State.setBeat_same (hbeat.resolve_right hlease), State.setAct_same (hact.resolve_right hlease), State.gateLook_same hgate]

theorem State.driveLeds_same {s : State} (h : s.leds = s.ledsNow) : s.driveLeds = s := by
  simp [State.driveLeds, h.symm]

/-- Settles O20: each part of a step's end in turn finds nothing to do. -/
theorem calmStepsEndWhereTheyStand : Obligations.CalmStepsEndWhereTheyStand := by
  intro s t h
  simp only [State.calm, Bool.and_eq_true, Bool.not_eq_true', List.isEmpty_iff, bne_iff_ne, ne_eq, beq_iff_eq] at h
  obtain ⟨⟨⟨⟨⟨hqueue, hmail⟩, hstage⟩, hbeat⟩, hpads⟩, hleds⟩ := h
  rw [State.done, State.settle, State.settleGo_idle hqueue hmail, State.s6Look_of_stage hstage, State.fenceLook_of_beat hbeat,
    State.padLogic_of_padsOk hpads, State.driveLeds_same hleds]

/-! ## Registers after a function-level reset (R328) -/

/-- Every register stands in the list at its own place. -/
theorem regList_ctorIdx (r : Reg) : regList[r.ctorIdx]? = some r := by
  have hlist : regList = (List.range 419).map Reg.ofNat := by decide +kernel
  have hr : r.ctorIdx < 419 := by cases r <;> decide
  simp [hlist, hr, Reg.ofNat_ctorIdx]

theorem regKey_reg (r : Reg) {i g : Nat} (hi : i < 2 ^ 20) (hg : g < 4) : regKey r i g / 2 ^ 22 = r.ctorIdx := by
  unfold regKey
  omega

theorem regDflt_regKey (r : Reg) {i g : Nat} (hi : i < 2 ^ 20) (hg : g < 4) : regDflt (regKey r i g) = r.rst i := by
  have helem : regKey r i g % 2 ^ 20 = i := by
    unfold regKey
    omega
  rw [regDflt, regKey_reg r hi hg, regList_ctorIdx, helem]

/-- An index that a filter keeps looks up as before. -/
theorem Tab.look_filter_of_keep {α : Type} {d : Nat → α} {q : Nat → Bool} {k : Nat} (t : Tab α) (h : q k = true) :
    Tab.look d (t.filter fun e => q e.1) k = Tab.look d t k := by
  induction t with
  | nil => rfl
  | cons e t ih =>
    obtain ⟨i, v⟩ := e
    by_cases hik : i = k
    · subst hik
      simp [h, Tab.look]
    · cases hq : q i <;> simp [hq, Tab.look, hik, ih]

/-- An index that a filter leaves out looks up as the table's default. -/
theorem Tab.look_filter_of_drop {α : Type} {d : Nat → α} {q : Nat → Bool} {k : Nat} (t : Tab α) (h : q k = false) :
    Tab.look d (t.filter fun e => q e.1) k = d k := by
  induction t with
  | nil => rfl
  | cons e t ih =>
    obtain ⟨i, v⟩ := e
    by_cases hik : i = k
    · subst hik
      simp [h, ih]
    · cases hq : q i <;> simp [hq, Tab.look, hik, ih]

/-- PCI_IVEC's entries of one physical function go back to reset, the others stay. -/
def State.ivecReset (s : State) (l : List Nat) : State :=
  l.foldl (fun t n => t.setWord .PCI_IVEC (Reg.PCI_IVEC.rst n) n) s

theorem State.ivecReset_frame (s : State) (l : List Nat) : ∃ g, s.ivecReset l = { s with regs := g } := by
  induction l generalizing s with
  | nil => exact ⟨s.regs, rfl⟩
  | cons n l ih =>
    obtain ⟨g, h⟩ := ih (s.setWord .PCI_IVEC (Reg.PCI_IVEC.rst n) n)
    exact ⟨g, by rw [State.ivecReset, List.foldl_cons, ← State.ivecReset, h]; rfl⟩

theorem State.word_ivecReset_other (s : State) {l : List Nat} (hl : ∀ n ∈ l, n < 2 ^ 20) {r : Reg} {i g : Nat}
    (hr : r ≠ .PCI_IVEC) (hi : i < 2 ^ 20) (hg : g < 4) : (s.ivecReset l).word r i g = s.word r i g := by
  have hidx : r.ctorIdx ≠ Reg.PCI_IVEC.ctorIdx := fun h => hr (by rw [← Reg.ofNat_ctorIdx r, h, Reg.ofNat_ctorIdx])
  exact foldl_keeps (fun t : State => t.word r i g) _
    (fun t n hn => State.word_setWord_ne t _ (regKey_ne hidx hi (hl n hn) hg (by decide))) s

theorem State.word_ivecReset_out (s : State) {l : List Nat} {i : Nat} (hi : i ∉ l) :
    (s.ivecReset l).word .PCI_IVEC i = s.word .PCI_IVEC i :=
  foldl_keeps (fun t : State => t.word .PCI_IVEC i) _
    (fun t _ hn => State.word_setWord_ne t _ (regKey_index_ne _ _ (fun h => hi (h ▸ hn)))) s

theorem State.word_ivecReset_in (s : State) {l : List Nat} {i : Nat} (hi : i ∈ l) :
    (s.ivecReset l).word .PCI_IVEC i = Reg.PCI_IVEC.rst i := by
  induction l generalizing s with
  | nil => cases hi
  | cons n l ih =>
    rw [State.ivecReset, List.foldl_cons, ← State.ivecReset]
    by_cases h : i ∈ l
    · exact ih _ h
    · rw [State.word_ivecReset_out _ h, (List.mem_cons.1 hi).resolve_right h, State.word_setWord]

/-- The entries of PCI_IVEC that belong to a physical function. -/
def State.ivecsOf (s : State) (pf : Nat) : List Nat := (List.range 33).filter fun n => s.fld F.PCI_IVEC_PF n == pf

theorem State.mem_ivecsOf {s : State} {pf n : Nat} : n ∈ s.ivecsOf pf ↔ n < 33 ∧ s.fld F.PCI_IVEC_PF n = pf := by
  simp [State.ivecsOf]

theorem State.vecReset_frame (s : State) (pf : Nat) : ∃ g p, s.vecReset pf = { s with regs := g, pci := p } := by
  obtain ⟨g, h⟩ := State.ivecReset_frame s (s.ivecsOf pf)
  exact ⟨g, _, by rw [State.vecReset, ← State.ivecsOf, ← State.ivecReset, h]⟩

theorem State.word_vecReset (s : State) (pf : Nat) (r : Reg) (i g : Nat) :
    (s.vecReset pf).word r i g = (s.ivecReset (s.ivecsOf pf)).word r i g := rfl

theorem State.word_vecReset_other (s : State) {pf : Nat} {r : Reg} {i g : Nat} (hr : r ≠ .PCI_IVEC) (hi : i < 2 ^ 20) (hg : g < 4) :
    (s.vecReset pf).word r i g = s.word r i g :=
  State.word_ivecReset_other s (fun n hn => by have := (State.mem_ivecsOf.1 hn).1; omega) hr hi hg

theorem State.word_vecReset_out (s : State) {pf n : Nat} (h : s.fld F.PCI_IVEC_PF n ≠ pf) :
    (s.vecReset pf).word .PCI_IVEC n = s.word .PCI_IVEC n :=
  State.word_ivecReset_out s (fun hn => h (State.mem_ivecsOf.1 hn).2)

theorem State.word_vecReset_in (s : State) {pf n : Nat} (hn : n < 33) (h : s.fld F.PCI_IVEC_PF n = pf) :
    (s.vecReset pf).word .PCI_IVEC n = Reg.PCI_IVEC.rst n :=
  State.word_ivecReset_in s (State.mem_ivecsOf.2 ⟨hn, h⟩)

/-! ## The reset of PF0 -/

/-- Whether a register table's index stays in a reset of PF0: all but HFR's rings. -/
def keptByFlr0 (k : Nat) : Bool :=
  match regList[k / 2 ^ 22]? with
  | some r => !r.within .HFR_TX_BASE_LO .HFR_RING_EN
  | none => true

theorem keptByFlr0_regKey (r : Reg) {i g : Nat} (hi : i < 2 ^ 20) (hg : g < 4) :
    keptByFlr0 (regKey r i g) = !r.within .HFR_TX_BASE_LO .HFR_RING_EN := by
  rw [keptByFlr0, regKey_reg r hi hg, regList_ctorIdx]

/-- The rings' state and registers are gone, and frames on the path forget their descriptors. -/
def State.ringsReset (s : State) : State :=
  { s with
    rings := []
    regs := s.regs.filter fun e => keptByFlr0 e.1
    frames := s.frames.map fun f => { f with ringDsc := none } }

theorem State.flr0_eq (s : State) : s.flr0 = ((List.range 16).foldl State.irq s.ringsReset).vecReset 0 := rfl

theorem State.irqs_frame (s : State) (l : List Nat) : ∃ p o, l.foldl State.irq s = { s with pci := p, out := o } := by
  induction l generalizing s with
  | nil => exact ⟨s.pci, s.out, rfl⟩
  | cons n l ih =>
    obtain ⟨p, o, h⟩ := State.irq_frame s n
    obtain ⟨p', o', h'⟩ := ih (s.irq n)
    exact ⟨p', o', by rw [List.foldl_cons, h', h]⟩

theorem State.word_ringsReset_other (s : State) {r : Reg} {i g : Nat} (hi : i < 2 ^ 20) (hg : g < 4)
    (hr : r.within .HFR_TX_BASE_LO .HFR_RING_EN = false) : s.ringsReset.word r i g = s.word r i g :=
  Tab.look_filter_of_keep s.regs (by rw [keptByFlr0_regKey r hi hg, hr]; rfl)

theorem State.word_ringsReset_rings (s : State) {r : Reg} {i : Nat} (hi : i < 2 ^ 20)
    (hr : r.within .HFR_TX_BASE_LO .HFR_RING_EN = true) : s.ringsReset.word r i = r.rst i := by
  rw [← regDflt_regKey r hi (g := 0) (by decide)]
  exact Tab.look_filter_of_drop s.regs (by rw [keptByFlr0_regKey r hi (by decide), hr]; rfl)

/-- What a reset of PF0 leaves but its registers, MSI-X state and messages. -/
theorem State.flr0_frame (s : State) : ∃ g p o, s.flr0 = { s.ringsReset with regs := g, pci := p, out := o } := by
  obtain ⟨p, o, h⟩ := State.irqs_frame s.ringsReset (List.range 16)
  obtain ⟨g, p', h'⟩ := State.vecReset_frame ((List.range 16).foldl State.irq s.ringsReset) 0
  exact ⟨g, p', o, by rw [State.flr0_eq, h', h]⟩

theorem State.word_ringsReset_irqs (s : State) (r : Reg) (i g : Nat) :
    ((List.range 16).foldl State.irq s.ringsReset).word r i g = s.ringsReset.word r i g := by
  obtain ⟨p, o, h⟩ := State.irqs_frame s.ringsReset (List.range 16)
  rw [h]
  rfl

theorem State.word_flr0_other (s : State) {r : Reg} {i g : Nat} (hi : i < 2 ^ 20) (hg : g < 4) (hv : r ≠ .PCI_IVEC)
    (hr : r.within .HFR_TX_BASE_LO .HFR_RING_EN = false) : s.flr0.word r i g = s.word r i g := by
  rw [State.flr0_eq, State.word_vecReset_other _ hv hi hg, State.word_ringsReset_irqs, State.word_ringsReset_other s hi hg hr]

theorem State.word_flr0_rings (s : State) {r : Reg} {i : Nat} (hi : i < 2 ^ 20)
    (hr : r.within .HFR_TX_BASE_LO .HFR_RING_EN = true) : s.flr0.word r i = r.rst i := by
  have hv : r ≠ .PCI_IVEC := by
    rintro rfl
    exact absurd hr (by decide)
  rw [State.flr0_eq, State.word_vecReset_other _ hv hi (by decide), State.word_ringsReset_irqs, State.word_ringsReset_rings s hi hr]

theorem State.word_ivec_ringsReset (s : State) {n : Nat} (hn : n < 33) :
    ((List.range 16).foldl State.irq s.ringsReset).word .PCI_IVEC n = s.word .PCI_IVEC n := by
  rw [State.word_ringsReset_irqs, State.word_ringsReset_other s (by omega) (by decide) (by decide)]

theorem State.word_flr0_ivec_out (s : State) {n : Nat} (hn : n < 33) (h : s.fld F.PCI_IVEC_PF n ≠ 0) :
    s.flr0.word .PCI_IVEC n = s.word .PCI_IVEC n := by
  have hw := State.word_ivec_ringsReset s hn
  rw [State.flr0_eq, State.word_vecReset_out, hw]
  rw [State.fld, show F.PCI_IVEC_PF.reg = Reg.PCI_IVEC from rfl, hw]
  exact h

theorem State.word_flr0_ivec_in (s : State) {n : Nat} (hn : n < 33) (h : s.fld F.PCI_IVEC_PF n = 0) :
    s.flr0.word .PCI_IVEC n = Reg.PCI_IVEC.rst n := by
  rw [State.flr0_eq, State.word_vecReset_in _ hn]
  rw [State.fld, show F.PCI_IVEC_PF.reg = Reg.PCI_IVEC from rfl, State.word_ivec_ringsReset s hn]
  exact h

/-- Settles O13: the registers of each function by their entries, everything else by the resets' frames. -/
theorem functionResetTouchesOnlyItsFunction : Obligations.FunctionResetTouchesOnlyItsFunction := by
  refine fun s => ⟨⟨s.flr0, rfl, ?_⟩, ⟨s.flr1, rfl, ?_⟩⟩
  · have hother := fun r i g hi hg hv hr => State.word_flr0_other s (r := r) (i := i) (g := g) hi hg hv hr
    have hrings := fun r i hi hr => State.word_flr0_rings s (r := r) (i := i) hi hr
    have hout := fun n hn h => State.word_flr0_ivec_out s (n := n) hn h
    have hin := fun n hn h => State.word_flr0_ivec_in s (n := n) hn h
    obtain ⟨g, p, o, h⟩ := State.flr0_frame s
    rw [h] at hother hrings hout hin ⊢
    refine ⟨rfl, fun f hf => ?_, ?_, hother, hrings, hout, hin, rfl, rfl, rfl, rfl, rfl, rfl, rfl, rfl, rfl, rfl, rfl, rfl, rfl, rfl⟩
    · obtain ⟨f', _, rfl⟩ := List.mem_map.1 hf
      rfl
    · simp [State.ringsReset]
  · have hother := fun r i g hi hg hv => State.word_vecReset_other s (pf := 1) (r := r) (i := i) (g := g) hv hi hg
    have hout := fun n (_ : n < 33) h => State.word_vecReset_out s (pf := 1) (n := n) h
    have hin := fun n hn h => State.word_vecReset_in s (pf := 1) (n := n) hn h
    rw [State.flr1]
    obtain ⟨g, p, h⟩ := State.vecReset_frame s 1
    rw [h] at hother hout hin ⊢
    exact ⟨rfl, rfl, hother, hout, hin, rfl, rfl, rfl, rfl, rfl, rfl, rfl, rfl, rfl, rfl, rfl, rfl, rfl, rfl⟩

end Sys2Proof.Machine
end

section
/-!
PROOFS. The PCIe functions' resets (R328) and the host rings (R329-R334).
-/

namespace Sys2Proof.Machine

/-! ## Resets of the endpoint (R328) -/

theorem State.flr0_keeps (s : State) : s.flr0.rings = [] ∧ s.flr0.cas = s.cas ∧ s.flr0.saSlots = s.saSlots := by
  obtain ⟨g, p, o, h⟩ := State.flr0_frame s
  rw [h]
  exact ⟨rfl, rfl, rfl⟩

theorem State.pcieReset_keeps (s : State) : s.pcieReset.rings = [] ∧ s.pcieReset.cas = s.cas := by
  obtain ⟨hrings, hcas, -⟩ := State.flr0_keeps s
  obtain ⟨g, p, h⟩ := State.vecReset_frame s.flr0 1
  rw [State.pcieReset, State.flr1, h]
  exact ⟨hrings, hcas⟩

/-! ## TX descriptors (R330, R331) -/

/-- The ring once its next descriptor is fetched. -/
def State.fetched (s : State) (r : Nat) (d : TxDesc) : State :=
  s.setRing r { s.ring r with
    fetch := ((s.ring r).fetch + 1) % s.txSize r
    flight := (s.ring r).flight ++ [((s.ring r).fetch, nbit d.flags.toNat 2)] }

@[simp] theorem State.fetched_launchFar (s : State) (r : Nat) (d : TxDesc) : (s.fetched r d).launchFar d = s.launchFar d := rfl

@[simp] theorem State.fetched_dscBad (s : State) (r : Nat) (d : TxDesc) : (s.fetched r d).dscBad r d = s.dscBad r d := rfl

/-- A ring that runs and has a descriptor posted fetches it. -/
theorem State.txFetch_posted {s : State} {ring : Nat} {d : TxDesc} (hen : s.flag F.HFR_TX_CTL_EN (ring % 8) = true)
    (hposted : (s.ring (ring % 8)).fetch ≠ s.fld F.HFR_TX_TAIL_IDX (ring % 8)) :
    s.txFetch (ring % 8) d =
      if s.dscBad (ring % 8) d = true then
        (if (s.launchFar d && decide (d.port.toNat < 128)) = true then (s.fetched (ring % 8) d).count .tmg 2 d.port.toNat 3
          else s.fetched (ring % 8) d).dscDone (ring % 8) (s.ring (ring % 8)).fetch 3 (nbit d.flags.toNat 2)
      else if d.readOk = false then
        (s.fetched (ring % 8) d).dscDone (ring % 8) (s.ring (ring % 8)).fetch 5 (nbit d.flags.toNat 2)
      else (s.fetched (ring % 8) d).dscSend (ring % 8) (s.ring (ring % 8)).fetch d := by
  have hgo : (!s.flag F.HFR_TX_CTL_EN (ring % 8) || (s.ring (ring % 8)).fetch == s.fld F.HFR_TX_TAIL_IDX (ring % 8)) = false := by
    simp [hen, hposted]
  simp only [State.txFetch, Nat.mod_mod, hgo, Bool.false_eq_true, if_false, Bool.not_eq_true']
  rfl

theorem State.txFetch_sent {s : State} {ring : Nat} {d : TxDesc} (hen : s.flag F.HFR_TX_CTL_EN (ring % 8) = true)
    (hposted : (s.ring (ring % 8)).fetch ≠ s.fld F.HFR_TX_TAIL_IDX (ring % 8)) (hgood : s.dscBad (ring % 8) d = false)
    (hread : d.readOk = true) : s.txFetch (ring % 8) d = (s.fetched (ring % 8) d).dscSend (ring % 8) (s.ring (ring % 8)).fetch d := by
  rw [State.txFetch_posted hen hposted, if_neg (by simp [hgood]), if_neg (by simp [hread])]

theorem State.txFetch_refused {s : State} {ring : Nat} {d : TxDesc} (hen : s.flag F.HFR_TX_CTL_EN (ring % 8) = true)
    (hposted : (s.ring (ring % 8)).fetch ≠ s.fld F.HFR_TX_TAIL_IDX (ring % 8))
    (hbad : s.dscBad (ring % 8) d = true ∨ d.readOk = false) :
    s.txFetch (ring % 8) d =
      if s.dscBad (ring % 8) d = true then
        (if s.launchFar d = true ∧ d.port.toNat < 128 then (s.fetched (ring % 8) d).count .tmg 2 d.port.toNat 3
          else s.fetched (ring % 8) d).dscDone (ring % 8) (s.ring (ring % 8)).fetch 3 (nbit d.flags.toNat 2)
      else (s.fetched (ring % 8) d).dscDone (ring % 8) (s.ring (ring % 8)).fetch 5 (nbit d.flags.toNat 2) := by
  rw [State.txFetch_posted hen hposted]
  simp only [Bool.and_eq_true, decide_eq_true_eq]
  by_cases hb : s.dscBad (ring % 8) d = true
  · simp only [hb, if_true]
  · rw [if_neg hb, if_neg hb, if_pos (hbad.resolve_left hb)]

/-- A stopped ring, or one with no descriptor posted, fetches none. -/
theorem State.txFetch_none {s : State} {ring : Nat} (d : TxDesc)
    (h : s.flag F.HFR_TX_CTL_EN (ring % 8) = false ∨ (s.ring (ring % 8)).fetch = s.fld F.HFR_TX_TAIL_IDX (ring % 8)) :
    s.txFetch (ring % 8) d = s := by
  have hstop : (!s.flag F.HFR_TX_CTL_EN (ring % 8) || (s.ring (ring % 8)).fetch == s.fld F.HFR_TX_TAIL_IDX (ring % 8)) = true := by
    rcases h with h | h <;> simp [h]
  simp only [State.txFetch, Nat.mod_mod, hstop, if_true]

/-! ## Write-backs (R331, R333) -/

theorem State.txBack_done {s : State} {ring d res : Nat} {t : Int} {irq : Bool}
    (h : (s.ring (ring % 8)).done.find? (fun e => decide (e.1 = (s.ring (ring % 8)).head)) = some (d, t, res, irq)) :
    s.txBack (ring % 8) =
      let A : State := s.setRing (ring % 8) { s.ring (ring % 8) with
        head := ((s.ring (ring % 8)).head + 1) % s.txSize (ring % 8)
        done := (s.ring (ring % 8)).done.filter (fun e => e.1 != d)
        flight := (s.ring (ring % 8)).flight.filter (fun e => e.1 != d) }
      let B : State := A.emit (.hostWrite (s.dscAddr true (ring % 8) d + 16)
        ((if res ≤ 1 then leOctets 8 (stamp t).toNat else zeros 8) ++ leOctets 4 (0x80000000 + res * 0x10000000) ++ zeros 4))
      (if irq = true then B.setRing' (ring % 8) else B).ringRest true (ring % 8) := by
  have h' : (s.ring (ring % 8)).done.find? (fun e => e.1 == (s.ring (ring % 8)).head) = some (d, t, res, irq) := h
  simp only [State.txBack, Nat.mod_mod, h']
  rfl

theorem State.txBack_none {s : State} {ring : Nat} (h : (s.ring (ring % 8)).done = []) : s.txBack (ring % 8) = s := by
  simp only [State.txBack, Nat.mod_mod, h, List.find?_nil]

theorem State.rxBack_none {s : State} {ring : Nat} (addr : W64) (h : (s.ring (8 + ring % 8)).rxq = []) :
    s.rxBack (ring % 8) addr = s := by
  simp only [State.rxBack, Nat.mod_mod, h]

theorem State.rxBack_cons {s : State} {ring : Nat} (addr : W64) {b : List Byte} {port flags : BitVec 8} {trap : Nat} {ts : Int}
    {l : List (List Byte × BitVec 8 × BitVec 8 × Nat × Int)} (h : (s.ring (8 + ring % 8)).rxq = (b, port, flags, trap, ts) :: l) :
    s.rxBack (ring % 8) addr =
      let A : State := s.setRing (8 + ring % 8) { s.ring (8 + ring % 8) with
        head := ((s.ring (8 + ring % 8)).head + 1) % s.rxSize (ring % 8)
        rxq := l
        coal := decide (s.fld F.HFR_RX_CTL_COAL_US (ring % 8) ≠ 0) }
      let B : State := (((A.emit (.hostWrite addr.toNat b)).emit (.hostWrite
        (s.dscAddr false (ring % 8) (s.ring (8 + ring % 8)).head + 8) (leOctets 2 b.length ++ [port, flags] ++
          leOctets 4 (trap % 16) ++ leOctets 8 (stamp ts).toNat ++ leOctets 4 0x80000000 ++ zeros 4))).count
            .hfr 1 (ring % 8) 0).count .hfr 1 (ring % 8) 1 b.length
      (if s.fld F.HFR_RX_CTL_COAL_US (ring % 8) = 0 then B.setRing' (8 + ring % 8) else B).ringRest false (ring % 8) := by
  have hcoal : (!(s.fld F.HFR_RX_CTL_COAL_US (ring % 8) == 0)) = decide (s.fld F.HFR_RX_CTL_COAL_US (ring % 8) ≠ 0) := by
    simp [beq_eq_decide]
  simp only [State.rxBack, Nat.mod_mod, h, hcoal, beq_iff_eq]
  rfl

/-- A ring's bit of HFR_RING_STAT is set. -/
theorem State.setRing'_eq (s : State) {b : Nat} (h : b < 16) :
    s.setRing' b = (s.setWord .HFR_RING_STAT (s.word .HFR_RING_STAT ||| BitVec.ofNat 32 (2 ^ b))).irq b := by
  rw [State.setRing', if_pos h]

theorem State.rxCoal_eq (s : State) (ring : Nat) : s.rxCoal (ring % 8) =
    if (s.ring (8 + ring % 8)).coal = true then
      ((s.setRing (8 + ring % 8) { s.ring (8 + ring % 8) with coal := false }).setWord .HFR_RING_STAT
        (s.word .HFR_RING_STAT ||| BitVec.ofNat 32 (2 ^ (8 + ring % 8)))).irq (8 + ring % 8)
    else s := by
  rw [State.rxCoal]
  simp only [Nat.mod_mod, State.setRing'_eq _ (show 8 + ring % 8 < 16 by omega)]
  rfl

/-! ## Masters' ring commands (R334) -/

/-- Ring registers accept PF0 only. -/
theorem State.ringCmd_other {s : State} {o : Origin} (r : Reg) (i : Nat) (f : State → State) (h : o ≠ .pf0) :
    s.ringCmd o r i f = s.fault4 o r i := by
  rw [State.ringCmd, if_neg (by simpa using h)]

theorem bits_depo_top_zero (w : W32) : bits (depo w 31 31 0) 31 31 = 0 := by
  have := w.isLt
  simp only [bits, depo, BitVec.toNat_ofNat]
  omega

theorem State.ring_setWord (s : State) (r : Reg) (w : W32) (i g k : Nat) : (s.setWord r w i g).ring k = s.ring k := by
  rw [State.ring, State.setWord_rings, State.ring]

/-- A ring whose EN is clear is stopped once nothing that was fetched awaits its write-back. -/
theorem State.ringOff_eq (s : State) (tx : Bool) (r : Nat) : s.ringOff tx r =
    let A : State := s.setWord (ringCtl tx) (depo (s.word (ringCtl tx) (r % 8)) 31 31 0) (r % 8)
    if (s.ring (ringIx tx r)).flight = [] ∧ (s.ring (ringIx tx r)).done = [] ∧ (s.ring (ringIx tx r)).rxq = [] then
      A.setRing (ringIx tx r) { s.ring (ringIx tx r) with stopped := true }
    else A := by
  simp only [State.ringOff, State.ringRest, State.word_setWord, bits_depo_top_zero, State.ring_setWord]
  exact if_congr (by simp [and_assoc]) rfl rfl

theorem State.ringEnable_eq (s : State) (tx : Bool) (r : Nat) : s.ringEnable .pf0 tx r =
    (s.setWord (ringCtl tx) (depo (s.word (ringCtl tx) (r % 8)) 31 31 1) (r % 8)).setRing (ringIx tx r)
      { s.ring (ringIx tx r) with stopped := false } := by
  rw [State.ringEnable, State.ringCmd, if_pos (beq_self_eq_true _)]
  simp only [State.ringOn, State.ring_setWord]

theorem State.ringDisable_eq (s : State) (tx : Bool) (r : Nat) : s.ringDisable .pf0 tx r = s.ringOff tx r := by
  rw [State.ringDisable, State.ringCmd, if_pos (beq_self_eq_true _)]

theorem State.tailWrite_eq (s : State) (tx : Bool) (r : Nat) (v : W32) : s.tailWrite .pf0 tx r v =
    if 2 ^ (6 + bits (s.word (ringCtl tx) (r % 8)) 3 0) ≤ bits v 15 0 then
      s.recordFault .pf0 (regAddr (ringTail tx) (r % 8)) true 6
    else (if bits v 31 16 = 0 then s else s.fault4 .pf0 (ringTail tx) (r % 8)).setWord (ringTail tx)
      (BitVec.ofNat 32 (bits v 15 0)) (r % 8) := rfl

theorem State.tailWrite_other {s : State} {o : Origin} (tx : Bool) (r : Nat) (v : W32) (h : o ≠ .pf0) :
    s.tailWrite o tx r v = s.fault4 o (ringTail tx) (r % 8) := by
  rw [State.tailWrite]
  exact State.ringCmd_other _ _ _ h

/-- Settles O54: each command by its ring operation. -/
theorem hostRingsComplete : Obligations.HostRingsComplete := by
  refine ⟨?pf0, ?pf1, ?pcie, ?sent, ?refused, ?unposted, ?txBack, ?txNone, ?rxBack, ?rxNone, ?coalesce, ?enable, ?enableOther,
    ?disable, ?disableOther, ?tail, ?tailOther⟩
  case pf0 => exact fun s => ⟨s.flr0, rfl, State.flr0_keeps s⟩
  case pf1 => exact fun s => rfl
  case pcie => exact fun s => ⟨s.pcieReset, rfl, rfl, rfl, rfl, State.pcieReset_keeps s⟩
  case sent =>
    exact fun s ring d hen hposted hgood hread =>
      exec_of_effect rfl (congrArg State.pumpAll (State.txFetch_sent hen hposted hgood hread))
  case refused =>
    exact fun s ring d hen hposted hbad =>
      exec_of_effect rfl (congrArg State.pumpAll (State.txFetch_refused hen hposted hbad))
  case unposted => exact fun s ring d h => exec_of_effect rfl (congrArg State.pumpAll (State.txFetch_none d h))
  case txBack => exact fun s ring d t res irq h => exec_of_effect rfl (State.txBack_done h)
  case txNone => exact fun s ring h => exec_of_effect rfl (State.txBack_none h)
  case rxBack => exact fun s ring addr b port flags trap ts l h => exec_of_effect rfl (State.rxBack_cons addr h)
  case rxNone => exact fun s ring addr h => exec_of_effect rfl (State.rxBack_none addr h)
  case coalesce => exact fun s ring => exec_of_effect rfl (State.rxCoal_eq s ring)
  case enable =>
    rintro s o tx ring rfl hg
    exact exec_of_granted_effect (c := .ringEnable .pf0 tx ring) rfl hg (State.ringEnable_eq s tx ring)
  case enableOther =>
    exact fun s o tx ring ho hg => exec_of_granted_effect (c := .ringEnable o tx ring) rfl hg
      (State.ringCmd_other (ringCtl tx) (ring % 8) _ ho)
  case disable =>
    rintro s o tx ring rfl hg
    exact exec_of_granted_effect (c := .ringDisable .pf0 tx ring) rfl hg
      ((State.ringDisable_eq s tx ring).trans (State.ringOff_eq s tx ring))
  case disableOther =>
    exact fun s o tx ring ho hg => exec_of_granted_effect (c := .ringDisable o tx ring) rfl hg
      (State.ringCmd_other (ringCtl tx) (ring % 8) _ ho)
  case tail =>
    rintro s o tx ring v rfl hg
    exact exec_of_granted_effect (c := .tailWrite .pf0 tx ring v) rfl hg (State.tailWrite_eq s tx ring v)
  case tailOther =>
    exact fun s o tx ring v ho hg => exec_of_granted_effect (c := .tailWrite o tx ring v) rfl hg
      (State.tailWrite_other tx ring v ho)

end Sys2Proof.Machine
end

section
/-!
PROOFS. Resets (R247) and the start's steps, deadlines and commands (R248-R263).
-/

namespace Sys2Proof.Machine

/-! ## Resets (R247) -/

theorem State.setInt_tck (s : State) (r : Reg) (b i : Nat) : (s.setInt r b i).tck = s.tck := by
  obtain ⟨g, w, p, o, h⟩ := State.setInt_frame s r b i
  rw [h]

theorem State.setInt_fuses (s : State) (r : Reg) (b i : Nat) : (s.setInt r b i).fuses = s.fuses := by
  obtain ⟨g, w, p, o, h⟩ := State.setInt_frame s r b i
  rw [h]

theorem State.provErr_keeps (s : State) (e g : Nat) : (s.provErr e g).tck = s.tck ∧ (s.provErr e g).fuses = s.fuses := by
  unfold State.provErr
  dsimp only
  split
  · exact ⟨State.setWord_tck .., State.setWord_fuses ..⟩
  · exact ⟨(State.setInt_tck ..).trans (State.setWord_tck ..), (State.setInt_fuses ..).trans (State.setWord_fuses ..)⟩

/-- The end of the presence window leaves the tack room and the fuses. -/
theorem State.windowEnds_keeps (s : State) : s.windowEnds.tck = s.tck ∧ s.windowEnds.fuses = s.fuses := by
  change (s.provEnd 2).tck = s.tck ∧ (s.provEnd 2).fuses = s.fuses
  unfold State.provEnd
  split
  · rw [State.count_tck, State.count_fuses]
    exact State.provErr_keeps _ 2 s.prov.window
  · exact ⟨rfl, rfl⟩

/-- A change of the presence window leaves the flags and the fuses. -/
theorem State.presLook_keeps (s : State) (was : Bool) :
    (s.presLook was).tck.flags = s.tck.flags ∧ (s.presLook was).fuses = s.fuses := by
  obtain ⟨htck, hfuses⟩ := State.windowEnds_keeps s
  unfold State.presLook
  dsimp only
  split
  · exact ⟨rfl, rfl⟩
  · split
    · exact ⟨by rw [State.setInt_tck]; rfl, by rw [State.setInt_fuses]; rfl⟩
    · rw [State.setInt_tck, State.setInt_fuses]
      exact ⟨(congrArg Tck.flags htck : s.windowEnds.tck.flags = s.tck.flags), hfuses⟩

theorem State.setGate_frame (s : State) (on : Bool) : ∃ o, s.setGate on = { s with par := { s.par with gate := on }, out := o } := by
  unfold State.setGate
  split
  next h => exact ⟨s.out, by rw [← eq_of_beq h]⟩
  next => exact ⟨_, rfl⟩

theorem State.setFence_frame (s : State) (on : Bool) :
    ∃ o, s.setFence on = { s with par := { s.par with fenceOut := on }, out := o } := by
  unfold State.setFence
  split
  next h => exact ⟨s.out, by rw [← eq_of_beq h]⟩
  next => exact ⟨_, rfl⟩

/-- The pins go down: the pair's record, and what has left the part. -/
theorem State.pinsDown_frame (s : State) : ∃ p o, s.pinsDown = { s with par := p, out := o } := by
  obtain ⟨o1, h1⟩ := State.setAct_frame s false
  obtain ⟨o2, h2⟩ := State.setGate_frame (s.setAct false) false
  obtain ⟨o3, h3⟩ := State.setBeat_frame ((s.setAct false).setGate false) false
  obtain ⟨o4, h4⟩ := State.setFence_frame (((s.setAct false).setGate false).setBeat false) false
  exact ⟨_, o4, by rw [State.pinsDown, h4, h3, h2, h1]⟩

/-- The LOCKED flag of the time unit is looked at again. -/
theorem State.relock_frame (s : State) :
    ∃ l g w p o, s.relock = { s with tim := { s.tim with locked := l }, regs := g, obs := w, pci := p, out := o } := by
  unfold State.relock
  split
  next => exact ⟨s.tim.locked, s.regs, s.obs, s.pci, s.out, rfl⟩
  next =>
    obtain ⟨g, w, p, o, h⟩ := State.setInt_frame { s with tim := { s.tim with locked := s.locked } } .TIM_INT_STAT 1 0
    exact ⟨s.locked, g, w, p, o, h⟩

/-- A change of the time unit's state leaves its counter, OFFSET, RATE and ANCHOR. -/
theorem State.timeTo_frame (s : State) (m : TimeMode) : ∃ m' a l g w p o,
    s.timeTo m = { s with tim := { s.tim with mode := m', age0 := a, locked := l }, regs := g, obs := w, pci := p, out := o } := by
  unfold State.timeTo
  split
  next => exact ⟨s.tim.mode, s.tim.age0, s.tim.locked, s.regs, s.obs, s.pci, s.out, rfl⟩
  next =>
    obtain ⟨g, w, p, o, h⟩ := State.setInt_frame { s with tim := { s.tim with
      mode := m, age0 := if s.tim.mode == .locked then (s.counter : Int) else s.tim.age0 } } .TIM_INT_STAT 0 0
    obtain ⟨l, g', w', p', o', h'⟩ := State.relock_frame (({ s with tim := { s.tim with
      mode := m, age0 := if s.tim.mode == .locked then (s.counter : Int) else s.tim.age0 } } : State).setInt .TIM_INT_STAT 0)
    exact ⟨m, _, l, g', w', p', o', by rw [h', h]⟩

theorem State.timeReset_frame (s : State) : ∃ m a l g w p o,
    s.timeReset = { s with tim := { s.tim with mode := m, age0 := a, locked := l }, regs := g, obs := w, pci := p, out := o } := by
  unfold State.timeReset
  split
  · exact State.timeTo_frame s _
  · exact ⟨s.tim.mode, s.tim.age0, s.tim.locked, s.regs, s.obs, s.pci, s.out, rfl⟩
  · exact State.timeTo_frame s _
  · exact ⟨s.tim.mode, s.tim.age0, s.tim.locked, s.regs, s.obs, s.pci, s.out, rfl⟩
  · exact State.timeTo_frame s _

/-- The state that a reset builds anew: what stays is taken from the time unit's and the tack room's part of the reset. -/
def State.beforeReset (s : State) (kind : Nat) : State :=
  if kind = 0 then ({ s.pinsDown with tck := { s.pinsDown.tck with strap := false } } : State).windowClose else s.pinsDown.timeReset

/-- What every reset clears, and what it starts with. -/
theorem State.resetTo_clears (s : State) (kind cause : Nat) :
    (s.resetTo kind cause).start.held = true ∧ (s.resetTo kind cause).start.kind = kind ∧
      (s.resetTo kind cause).start.cause = cause ∧ (s.resetTo kind cause).frames = [] ∧ (s.resetTo kind cause).sas = [] ∧
      (s.resetTo kind cause).saSlots = [] ∧ (s.resetTo kind cause).engs = [] ∧ (s.resetTo kind cause).mem = [] ∧
      (s.resetTo kind cause).flash.run = [] := by
  simp only [State.resetTo, State.schedule, State.setFld, State.setWord_start, State.setWord_frames, State.setWord_sas,
    State.setWord_saSlots, State.setWord_engs, State.setWord_mem, State.setWord_flash, and_self]

/-- What a reset takes over from the state before it. -/
theorem State.resetTo_takes (s : State) (kind cause : Nat) :
    (s.resetTo kind cause).tim = (if kind = 0 then {} else (s.beforeReset kind).tim.kept) ∧
      (s.resetTo kind cause).pwr =
        (if kind = 0 then { sup := (s.beforeReset kind).pwr.sup } else { (s.beforeReset kind).pwr with tjLeft := [] }) ∧
      (s.resetTo kind cause).fuses = (s.beforeReset kind).fuses ∧
      (s.resetTo kind cause).tck.flags = (s.beforeReset kind).tck.flags := by
  simp only [State.resetTo, State.schedule, State.setFld, State.setWord_tim, State.setWord_pwr, State.setWord_fuses,
    State.setWord_tck, State.beforeReset, and_self]

theorem State.beforeReset_power (s : State) :
    (s.beforeReset 0).fuses = s.fuses ∧ (s.beforeReset 0).tck.flags = s.tck.flags := by
  obtain ⟨p, o, h⟩ := State.pinsDown_frame s
  rw [State.beforeReset, if_pos rfl, h]
  obtain ⟨hflags, hfuses⟩ := State.presLook_keeps { s with par := p, out := o, tck := { s.tck with strap := false, pressWin := none } }
    ({ s with par := p, out := o, tck := { s.tck with strap := false } } : State).presence
  exact ⟨hfuses, hflags⟩

theorem State.beforeReset_service (s : State) {kind : Nat} (h : kind ≠ 0) :
    (s.beforeReset kind).tim.cnt = s.tim.cnt ∧ (s.beforeReset kind).tim.ofs = s.tim.ofs ∧
      (s.beforeReset kind).pwr = s.pwr ∧ (s.beforeReset kind).fuses = s.fuses ∧ (s.beforeReset kind).tck = s.tck := by
  obtain ⟨p, o, h1⟩ := State.pinsDown_frame s
  obtain ⟨m, a, l, g, w, p', o', h2⟩ := State.timeReset_frame s.pinsDown
  rw [State.beforeReset, if_neg h, h2, h1]
  exact ⟨rfl, rfl, rfl, rfl, rfl⟩

/-- A power-on reset keeps the fuses and the flags, and its counter begins at 0. -/
theorem State.resetTo_power (s : State) (cause : Nat) :
    (s.resetTo 0 cause).tim.cnt = 0 ∧ (s.resetTo 0 cause).fuses = s.fuses ∧ (s.resetTo 0 cause).tck.flags = s.tck.flags := by
  obtain ⟨htim, -, hfuses, hflags⟩ := State.resetTo_takes s 0 cause
  obtain ⟨hf, hg⟩ := State.beforeReset_power s
  exact ⟨by rw [htim]; rfl, hfuses.trans hf, hflags.trans hg⟩

/-- A cold or warm reset keeps the counter, OFFSET, the shed stage, the fuses and the flags. -/
theorem State.resetTo_service (s : State) {kind : Nat} (cause : Nat) (h : kind ≠ 0) :
    (s.resetTo kind cause).tim.cnt = s.tim.cnt ∧ (s.resetTo kind cause).tim.ofs = s.tim.ofs ∧
      (s.resetTo kind cause).pwr.stage = s.pwr.stage ∧ (s.resetTo kind cause).fuses = s.fuses ∧
      (s.resetTo kind cause).tck.flags = s.tck.flags := by
  obtain ⟨htim, hpwr, hfuses, hflags⟩ := State.resetTo_takes s kind cause
  obtain ⟨hcnt, hofs, hp, hf, ht⟩ := State.beforeReset_service s h
  rw [htim, hpwr, if_neg h, if_neg h]
  have hstage : (s.beforeReset kind).pwr.stage = s.pwr.stage := congrArg Pwr.stage hp
  exact ⟨hcnt, hofs, hstage, hfuses.trans hf, hflags.trans (congrArg Tck.flags ht)⟩

end Sys2Proof.Machine
end

section
/-!
PROOFS. The start's steps (R248-R255).
-/

namespace Sys2Proof.Machine

/-! ## The steps that do not run -/

section
variable {s : State}

theorem State.st01_idle (h : s.inStep 1 = false) (answers advances monitors : Bool) : s.st01 answers advances monitors = s := by
  rw [State.st01, h]; rfl

theorem State.st02_idle (h : s.inStep 2 = false) (fuseOk : Bool) : s.st02 fuseOk = s := by
  rw [State.st02, h]; rfl

theorem State.st03_idle (h : s.inStep 3 = false) (trips : Bool) (rings : Nat) (health refPin refT : Bool) :
    s.st03 trips rings health refPin refT = s := by
  rw [State.st03, h]; rfl

theorem State.st04_idle (h : s.inStep 4 = false) (readable : Bool) : s.st04 readable = s := by
  rw [State.st04, h]; rfl

theorem State.st05_idle (h : s.inStep 5 = false) : s.st05 = s := by
  rw [State.st05, h]; rfl

theorem State.st06_idle (h : s.inStep 6 = false) : s.st06 = s := by
  rw [State.st06, h]; rfl

theorem State.st07_idle (h : s.inStep 7 = false) : s.st07 = s := by
  rw [State.st07, h]; rfl

theorem State.st08_idle (h : s.inStep 8 = false) (failing : List Nat) : s.st08 failing = s := by
  rw [State.st08, h]; rfl

theorem State.st09_idle (h : s.inStep 9 = false) (bad lines : List Nat) : s.st09 bad lines = s := by
  rw [State.st09, h]; rfl

theorem State.st10_idle (h : s.inStep 10 = false) (coefs : List (Nat × W32)) (failing : List Nat) : s.st10 coefs failing = s := by
  rw [State.st10, h]; rfl

theorem State.st11_idle (h : s.inStep 11 = false) (failing : List Nat) (cal : List (Nat × Nat × Nat)) : s.st11 failing cal = s := by
  rw [State.st11, h]; rfl

theorem State.st12_idle (h : s.inStep 12 = false) : s.st12 = s := by
  rw [State.st12, h]; rfl

theorem State.st13_idle (h : s.inStep 13 = false) : s.st13 = s := by
  rw [State.st13, h]; rfl

theorem State.st14_idle (h : s.inStep 14 = false) : s.st14 = s := by
  rw [State.st14, h]; rfl

end

/-! ## The beginning and ST01 to ST05 -/

/-- A start that is not due, or that FENCE_IN or a supply holds, does not begin. -/
theorem State.startBegin_held {s : State} (h : s.start.held = false ∨ s.par.fenceIn = true ∨ s.suppliesOk = false) :
    s.startBegin = s := by
  have hheld : (!s.start.held || s.par.fenceIn || !s.suppliesOk) = true := by
    rcases h with h | h | h <;> simp [h]
  rw [State.startBegin, if_pos hheld]

/-- Settles O46: resets by what they clear and take over, the steps by their checks. -/
theorem resetsAndFirstStepsComplete : Obligations.ResetsAndFirstStepsComplete := by
  refine ⟨?power, ?cold, ?warm, ?begin, ?held, ?st01, fun s a b c h => exec_of_effect rfl (State.st01_idle h a b c), ?st02,
    fun s a h => exec_of_effect rfl (State.st02_idle h a), ?st03,
    fun s a b c d e h => exec_of_effect rfl (State.st03_idle h a b (startUpOk c) d e), ?blank, ?st04,
    fun s a h => exec_of_effect rfl (State.st04_idle h a), ?st05, fun s h => exec_of_effect rfl (State.st05_idle h)⟩
  case power =>
    intro s cause
    obtain ⟨c, hc, hcause⟩ : ∃ c, s.powerOn cause = s.resetTo 0 c ∧ c = match cause with | .powerGood => 0 | .vcoreReset => 1 :=
      ⟨_, rfl, by cases cause <;> rfl⟩
    obtain ⟨hheld, hkind, hcs, hframes, hsas, hslots, hengs, hmem, hrun⟩ := State.resetTo_clears s 0 c
    obtain ⟨hcnt, hfuses, hflags⟩ := State.resetTo_power s c
    refine ⟨s.powerOn cause, rfl, ?_⟩
    rw [hc]
    exact ⟨hheld, hkind, hcs.trans hcause, hframes, hsas, hslots, hengs, hmem, hrun, hcnt, hfuses, hflags⟩
  case cold =>
    intro s
    obtain ⟨hheld, hkind, hcs, hframes, hsas, hslots, hengs, hmem, hrun⟩ := State.resetTo_clears s 1 2
    exact ⟨s.resetTo 1 2, rfl, hheld, hkind, hcs, hframes, hsas, hslots, hengs, hmem, hrun, State.resetTo_service s 2 (by decide)⟩
  case warm =>
    intro s
    obtain ⟨hheld, hkind, hcs, hframes, hsas, hslots, hengs, hmem, hrun⟩ := State.resetTo_clears s 2 7
    exact ⟨s.resetTo 2 7, rfl, hheld, hkind, hcs, hframes, hsas, hslots, hengs, hmem, hrun, State.resetTo_service s 7 (by decide)⟩
  case begin =>
    intro s hheld hfence hsup
    refine exec_of_effect rfl ?_
    simp only [State.startBegin, hheld, hfence, hsup, Bool.not_true, Bool.or_false, Bool.false_eq_true, if_false]
    cases s.ledger.log <;> rfl
  case held => exact fun s h => exec_of_effect rfl (State.startBegin_held h)
  case st01 =>
    intro s answers advances monitors h
    refine exec_of_effect rfl ?_
    simp only [State.st01, h, Bool.not_true, Bool.false_eq_true, if_false, Bool.or_eq_true, Bool.not_eq_true', or_assoc]
  case st02 =>
    intro s fuseOk h
    refine exec_of_effect rfl ?_
    rw [State.st02, h]
    rfl
  case st03 =>
    intro s trips rings test refPin refT h
    refine exec_of_effect rfl ?_
    simp only [State.st03, h, Bool.not_true, Bool.false_eq_true, if_false, Bool.not_eq_true']
  case blank =>
    intro s readable h hblank
    refine exec_of_effect rfl ?_
    have hb : (!s.flash.sfdp || (s.flash.blank 1 && s.flash.blank 2)) = true := by simpa using hblank
    simp only [State.st04, h, hb, Bool.not_true, Bool.false_eq_true, if_false, if_true]
  case st04 =>
    intro s readable h hsfdp himage
    refine exec_of_effect rfl ?_
    have hb : (s.flash.blank 1 && s.flash.blank 2) = false := by
      rcases himage with hi | hi <;> simp [hi]
    have htake : ((if s.wantsB then 2 else 1) == 2) = s.wantsB := by cases s.wantsB <;> rfl
    simp only [State.st04, h, hb, hsfdp, Bool.not_true, Bool.or_self, Bool.false_eq_true, if_false, Bool.and_eq_true, htake]
  case st05 =>
    intro s h
    refine exec_of_effect rfl ?_
    rw [State.st05, h]
    rfl

/-! ## ST06 to ST14 -/

/-- Settles O47: each step by its checks. -/
theorem laterStartStepsComplete : Obligations.LaterStartStepsComplete := by
  refine ⟨?st06, fun s h => exec_of_effect rfl (State.st06_idle h), ?st07, fun s h => exec_of_effect rfl (State.st07_idle h), ?st08,
    fun s a h => exec_of_effect rfl (State.st08_idle h a), ?st09, fun s a h => exec_of_effect rfl (State.st09_idle h a.absent a.lines),
    ?st10, ?st10Fails, fun s a b h => exec_of_effect rfl (State.st10_idle h a b), ?st11,
    fun s a b h => exec_of_effect rfl (State.st11_idle h a b), ?st12, fun s h => exec_of_effect rfl (State.st12_idle h), ?st13,
    fun s h => exec_of_effect rfl (State.st13_idle h), ?st14, fun s h => exec_of_effect rfl (State.st14_idle h)⟩
  case st06 =>
    intro s h
    refine exec_of_effect rfl ?_
    rw [State.st06, h]
    rfl
  case st07 =>
    intro s h
    refine exec_of_effect rfl ?_
    rw [State.st07, h]
    rfl
  case st08 =>
    intro s failing h
    refine exec_of_effect rfl ?_
    simp only [State.st08, h, Bool.not_true, Bool.false_eq_true, if_false, Bool.or_eq_true, decide_eq_true_eq, List.isEmpty_iff] <;> rfl
  case st09 =>
    intro s test h
    refine exec_of_effect rfl ?_
    rw [State.st09, h]
    rfl
  case st10 =>
    intro s coefs failing h hgood
    refine exec_of_effect rfl ?_
    simp only [State.st10, h, hgood, Bool.not_true, Bool.false_eq_true, if_false, Bool.and_eq_true, Bool.not_eq_true']
  case st10Fails =>
    intro s coefs failing l k h hbad
    refine exec_of_effect rfl ?_
    simp only [State.st10, h, hbad, Bool.not_true, Bool.false_eq_true, if_false, List.isEmpty_iff]
  case st11 =>
    intro s failing cal h
    refine exec_of_effect rfl ?_
    simp only [State.st11, h, Bool.not_true, Bool.false_eq_true, if_false, Bool.or_eq_true, beq_iff_eq] <;> rfl
  case st12 =>
    intro s h
    refine exec_of_effect rfl ?_
    simp only [State.st12, h, Bool.true_and, Bool.or_eq_true, beq_iff_eq]
  case st13 =>
    intro s h
    refine exec_of_effect rfl ?_
    simp only [State.st13, h, Bool.true_and]
  case st14 =>
    intro s h
    refine exec_of_effect rfl ?_
    simp only [State.st14, h, Bool.not_true, Bool.false_eq_true, if_false, Bool.and_eq_true, Bool.not_eq_true']

end Sys2Proof.Machine
end

section
/-!
PROOFS. The start's deadlines (R248, R249), STA_CMD and the start log (R254, R263), the survival count (R257), and the commands of the
configuration flash (R279-R281).
-/

namespace Sys2Proof.Machine

/-! ## Masters of STA_CMD and XSPI_CMD -/

/-- PF0, Iaholt and SMBus: every master but PF1 and the cores. -/
def Origin.outside (o : Origin) : Bool := o == .pf0 || o == .iaholt || o == .smbus

theorem Origin.outside_iff (o : Origin) : Origin.outside o = true ↔ o ≠ .pf1 ∧ o.isCore = false := by
  cases o with
  | core c => simp [Origin.outside, Origin.isCore]
  | task c ca => simp [Origin.outside, Origin.isCore]
  | pf0 => simp [Origin.outside, Origin.isCore]
  | pf1 => simp [Origin.outside, Origin.isCore]
  | smbus => simp [Origin.outside, Origin.isCore]
  | iaholt => simp [Origin.outside, Origin.isCore]

theorem Origin.outside_eq_false {o : Origin} (h : o = .pf1 ∨ o.isCore = true) : Origin.outside o = false := by
  rw [Bool.eq_false_iff, Ne, Origin.outside_iff]
  rintro ⟨hpf1, hcore⟩
  rcases h with h | h
  · exact hpf1 h
  · rw [hcore] at h
    cases h

/-! ## STA_CMD (R254, R263) -/

/-- An accepted STA_CMD runs with its error cleared. -/
theorem State.staCmd_accepted {s : State} {o : Origin} (f : State → State) (hpf1 : o ≠ .pf1) (hcore : o.isCore = false)
    (hpres : s.presence = true) : s.staCmd o f = f (s.cmdErr .STA_CMD o.grp 0) := by
  have ho : (o == .pf0 || o == .iaholt || o == .smbus) = true := (Origin.outside_iff o).2 ⟨hpf1, hcore⟩
  simp only [State.staCmd, ho, hpres, Bool.not_true, Bool.false_eq_true, if_false]

/-- A refused STA_CMD records its error, outside a presence window its fault too. -/
theorem State.staCmd_refused {s : State} {o : Origin} (f : State → State)
    (h : o = .pf1 ∨ o.isCore = true ∨ s.presence = false) : s.staCmd o f =
      if o = .pf1 ∨ o.isCore = true then (s.cmdErr .STA_CMD o.grp 1).setInt .STA_INT_STAT 6
      else ((s.cmdErr .STA_CMD o.grp 2).setInt .STA_INT_STAT 6).fault5 o .STA_CMD 0 := by
  by_cases hm : o = .pf1 ∨ o.isCore = true
  · have ho : (o == .pf0 || o == .iaholt || o == .smbus) = false := Origin.outside_eq_false hm
    simp only [if_pos hm, State.staCmd, ho, Bool.not_false, if_true, State.staRefuse, OfNat.one_ne_ofNat, if_false]
  · have ho : (o == .pf0 || o == .iaholt || o == .smbus) = true := by
      simp only [not_or, Bool.not_eq_true] at hm
      exact (Origin.outside_iff o).2 hm
    have hpres : s.presence = false := by
      rcases h with h | h | h
      · exact absurd (.inl h) hm
      · exact absurd (.inr h) hm
      · exact h
    simp only [if_neg hm, State.staCmd, ho, hpres, Bool.not_true, Bool.not_false, Bool.false_eq_true, if_false, if_true, State.staRefuse]

/-! ## The start log (R263) -/

/-- The words that the window shows of a start record. -/
def startWords (r : StartRec) : List W32 :=
  [BitVec.ofNat 32 r.num,
    BitVec.ofNat 32 (fw 31 28 r.result + fw 27 24 r.step + fw 23 22 r.kind + fw 21 18 r.cause + fw 17 16 r.image + fw 15 8 r.failCode +
      fw 7 0 r.failDet),
    wordOf r.ts 0, wordOf r.ts 1,
    BitVec.ofNat 32 (fw 29 16 r.started.toNat + r.finished.toNat),
    BitVec.ofNat 32 (fw 29 16 r.alt.toNat + min r.entryMs 65535)]

theorem State.staLogRead_some {s : State} {o : Origin} {r : StartRec}
    (h : s.ledger.log[s.fld F.STA_LOGW_IDX_AGE 0 o.grp]? = some r) :
    s.staLogRead o = s.setWords .STA_LOGW_DATA (startWords r) o.grp := by
  simp only [State.staLogRead, h]
  rfl

theorem State.staLogRead_none {s : State} {o : Origin} (h : s.ledger.log[s.fld F.STA_LOGW_IDX_AGE 0 o.grp]? = none) :
    s.staLogRead o = s.setWords .STA_LOGW_DATA [0#32, 0#32, 0#32, 0#32, 0#32, 0#32] o.grp := by
  simp only [State.staLogRead, h]

theorem startWords_step (r : StartRec) : bits ((startWords r).getD 1 0#32) 27 24 = r.step % 16 := by
  rw [startWords, List.getD_cons_succ, List.getD_cons_zero, bits_ofNat _ _ (by decide) (by decide)]
  simp only [fw]
  omega

theorem startWords_cause (r : StartRec) : bits ((startWords r).getD 1 0#32) 21 18 = r.cause % 16 := by
  rw [startWords, List.getD_cons_succ, List.getD_cons_zero, bits_ofNat _ _ (by decide) (by decide)]
  simp only [fw]
  omega

theorem State.onlyWords_startWords (s : State) (r : StartRec) (g : Nat) :
    s.onlyWords (s.setWords .STA_LOGW_DATA (startWords r) g) [.STA_LOGW_CMD, .STA_LOGW_DATA] g = true :=
  State.onlyWords_setWords (State.onlyWords_self ..) (by decide) _ (by simp [startWords])

theorem State.ledger_of_onlyWords {s t : State} {l : List Reg} {g : Nat} (h : s.onlyWords t l g = true) : t.ledger = s.ledger := by
  simp only [State.onlyWords, Bool.and_eq_true, decide_eq_true_eq] at h
  rw [h.1]

/-! ## Deadlines (R248, R249) -/

/-- Settles O48: the deadlines by the step that runs, STA_CMD by its shared checks, the window by the record it shows. -/
theorem startDeadlinesAndCommandsComplete : Obligations.StartDeadlinesAndCommandsComplete := by
  refine ⟨?st12, ?st12Idle, ?wait, ?waitIdle, ?dog, ?restart, ?warm, ?warmNo, ?cold, ?coldNo, ?hold, ?holdNo, ?alt, ?altNo, ?log,
    ?logEnd, ?count⟩
  case count =>
    intro s
    refine exec_of_effect rfl ?_
    rw [State.survWrite]
  case st12 => exact fun s h => exec_of_effect rfl (if_pos h)
  case st12Idle => exact fun s h => exec_of_effect rfl (if_neg (by simp [h]))
  case wait => exact fun s h => exec_of_effect rfl (if_pos h)
  case waitIdle => exact fun s h => exec_of_effect rfl (if_neg (by simp [h]))
  case dog =>
    intro s
    refine exec_of_effect rfl ?_
    simp only [State.stepDog, Bool.and_eq_true, Bool.or_eq_true, decide_eq_true_eq, beq_iff_eq]
  case restart => exact fun s => exec_of_effect rfl rfl
  case warm =>
    exact fun s o hg hpf1 hcore hpres =>
      exec_of_granted_effect (c := .staResetWarm o) rfl hg (State.staCmd_accepted _ hpf1 hcore hpres)
  case warmNo => exact fun s o hg h => exec_of_granted_effect (c := .staResetWarm o) rfl hg (State.staCmd_refused _ h)
  case cold =>
    exact fun s o hg hpf1 hcore hpres =>
      exec_of_granted_effect (c := .staResetCold o) rfl hg (State.staCmd_accepted _ hpf1 hcore hpres)
  case coldNo => exact fun s o hg h => exec_of_granted_effect (c := .staResetCold o) rfl hg (State.staCmd_refused _ h)
  case hold =>
    intro s o hg hpf1 hcore hpres
    refine exec_of_granted_effect (c := .clearHold o) rfl hg ?_
    rw [State.clearHold, State.staCmd_accepted _ hpf1 hcore hpres]
    simp only [State.cmdErr, State.setWord_start, State.setWord_ledger, Bool.not_eq_true']
  case holdNo => exact fun s o hg h => exec_of_granted_effect (c := .clearHold o) rfl hg (State.staCmd_refused _ h)
  case alt =>
    intro s o hg hpf1 hcore hpres
    refine exec_of_granted_effect (c := .clearAlt o) rfl hg ?_
    rw [State.clearAlt, State.staCmd_accepted _ hpf1 hcore hpres]
    simp only [State.cmdErr, State.setWord_ledger]
  case altNo => exact fun s o hg h => exec_of_granted_effect (c := .clearAlt o) rfl hg (State.staCmd_refused _ h)
  case log =>
    intro s o r hg h
    have honly := State.onlyWords_startWords s r o.grp
    refine ⟨_, exec_of_granted_effect (c := .staLogwRead o) rfl hg (State.staLogRead_some h), ?_, ?_, ?_,
      State.ledger_of_onlyWords honly, honly⟩
    · exact State.word_setWords_add s .STA_LOGW_DATA (startWords r) o.grp 0 0
    · rw [show (1 : Nat) = 0 + 1 from rfl, State.word_setWords_add]
      exact startWords_step r
    · rw [show (1 : Nat) = 0 + 1 from rfl, State.word_setWords_add]
      exact startWords_cause r
  case logEnd => exact fun s o hg h => exec_of_granted_effect (c := .staLogwRead o) rfl hg (State.staLogRead_none h)

end Sys2Proof.Machine
end

section
/-!
PROOFS. The commands of the configuration flash (R279-R281).
-/

namespace Sys2Proof.Machine

/-- The states in which a pass-through command is refused before its own checks: BUSY, or the master. -/
theorem State.xspiBegin_refused {s : State} {o : Origin} (op : Nat) (e : State → Nat)
    (h : s.flash.op.isSome = true ∨ o = .pf1 ∨ o.isCore = true) :
    s.xspiBegin o op e = if s.flash.op.isSome = true then s else s.xspiErr o.grp 1 := by
  by_cases hbusy : s.flash.op.isSome = true
  · simp only [State.xspiBegin, hbusy, if_true]
  · have ho : (o == .pf0 || o == .iaholt || o == .smbus) = false := Origin.outside_eq_false (h.resolve_left hbusy)
    simp only [State.xspiBegin, hbusy, ho, Bool.not_false, Bool.false_eq_true, if_false, if_true]

/-- A pass-through command of an allowed master, while none runs, goes on with its own checks. -/
theorem State.xspiBegin_checked {s : State} {o : Origin} (op : Nat) (e : State → Nat) (hidle : s.flash.op = none) (hpf1 : o ≠ .pf1)
    (hcore : o.isCore = false) : s.xspiBegin o op e =
      if e s = 0 then { s.setWord .STA_XSPI_CMD (depo (depo (s.word .STA_XSPI_CMD 0 o.grp) 30 28 0) 31 31 1) 0 o.grp with
        flash := { s.flash with op := some (o.grp, op, (s.word .STA_XSPI_ADDR 0 o.grp).toNat) } }
      else if e s = 2 then (s.xspiErr o.grp 2).fault5 o .STA_XSPI_CMD 0 else s.xspiErr o.grp (e s) := by
  have ho : (o == .pf0 || o == .iaholt || o == .smbus) = true := (Origin.outside_iff o).2 ⟨hpf1, hcore⟩
  simp only [State.xspiBegin, hidle, ho, Option.isSome_none, Bool.not_true, Bool.false_eq_true, if_false]
  split
  next h => rw [if_pos h]
  next k h => rw [if_neg h]

/-- Why PROGRAM or ERASE of n octets is refused; 0 when it is not. -/
def State.xspiWriteErr (s : State) (o : Origin) (n : Nat) : Nat :=
  if s.presence = false then 2
  else if (s.word .STA_XSPI_ADDR 0 o.grp).toNat % n ≠ 0 ∨ s.flash.size < (s.word .STA_XSPI_ADDR 0 o.grp).toNat + n then 4
  else if s.flash.inSource (s.word .STA_XSPI_ADDR 0 o.grp).toNat n = true then 3
  else if s.flash.writable = false then 5 else 0

theorem State.xspiWrite_checked {s : State} {o : Origin} (op n : Nat) (hidle : s.flash.op = none) (hpf1 : o ≠ .pf1)
    (hcore : o.isCore = false) : s.xspiWrite o op n =
      if s.xspiWriteErr o n = 0 then
        { s.setWord .STA_XSPI_CMD (depo (depo (s.word .STA_XSPI_CMD 0 o.grp) 30 28 0) 31 31 1) 0 o.grp with
          flash := { s.flash with op := some (o.grp, op, (s.word .STA_XSPI_ADDR 0 o.grp).toNat) } }
      else if s.xspiWriteErr o n = 2 then (s.xspiErr o.grp 2).fault5 o .STA_XSPI_CMD 0
      else s.xspiErr o.grp (s.xspiWriteErr o n) := by
  rw [State.xspiWrite, State.xspiBegin_checked op _ hidle hpf1 hcore]
  simp only [State.xspiWriteErr, Bool.not_eq_true']
  rfl

/-- Why READ is refused; 0 when it is not. -/
def State.xspiReadErr (s : State) (o : Origin) : Nat :=
  if s.flash.sfdp = false then 5
  else if s.flash.size < (s.word .STA_XSPI_ADDR 0 o.grp).toNat +
    (if s.fld F.STA_XSPI_CMD_LEN 0 o.grp = 0 then 256 else s.fld F.STA_XSPI_CMD_LEN 0 o.grp) then 4 else 0

theorem State.xspiReadErr_ne_two (s : State) (o : Origin) : s.xspiReadErr o ≠ 2 := by
  unfold State.xspiReadErr
  split_ifs <;> decide

theorem State.xspiRead_refused {s : State} {o : Origin} (len : Nat) (h : s.flash.op.isSome = true ∨ o = .pf1 ∨ o.isCore = true) :
    s.xspiRead o len = if s.flash.op.isSome = true then s else s.xspiErr o.grp 1 := by
  have hstop : (s.flash.op.isSome || !(o == .pf0 || o == .iaholt || o == .smbus)) = true := by
    rcases h with h | h
    · simp [h]
    · have ho : (o == .pf0 || o == .iaholt || o == .smbus) = false := Origin.outside_eq_false h
      simp [ho]
  rw [State.xspiRead, if_pos hstop]
  exact State.xspiBegin_refused _ _ h

theorem State.xspiRead_checked {s : State} {o : Origin} (len : Nat) (hidle : s.flash.op = none) (hpf1 : o ≠ .pf1)
    (hcore : o.isCore = false) : s.xspiRead o len =
      let T : State := s.setFld F.STA_XSPI_CMD_LEN len 0 o.grp
      if T.xspiReadErr o = 0 then
        { T.setWord .STA_XSPI_CMD (depo (depo (T.word .STA_XSPI_CMD 0 o.grp) 30 28 0) 31 31 1) 0 o.grp with
          flash := { s.flash with op := some (o.grp, 1, (T.word .STA_XSPI_ADDR 0 o.grp).toNat) } }
      else T.xspiErr o.grp (T.xspiReadErr o) := by
  have ho : (o == .pf0 || o == .iaholt || o == .smbus) = true := (Origin.outside_iff o).2 ⟨hpf1, hcore⟩
  have hgo : (s.flash.op.isSome || !(o == .pf0 || o == .iaholt || o == .smbus)) = false := by simp [hidle, ho]
  have hidle' : (s.setFld F.STA_XSPI_CMD_LEN len 0 o.grp).flash.op = none := hidle
  rw [State.xspiRead, hgo, if_neg Bool.false_ne_true, State.xspiBegin_checked 1 _ hidle' hpf1 hcore]
  have herr := (s.setFld F.STA_XSPI_CMD_LEN len 0 o.grp).xspiReadErr_ne_two o
  simp only [State.xspiReadErr] at herr ⊢
  simp only [Bool.not_eq_true', if_neg herr]
  rfl

theorem State.xspiVerify_checked {s : State} {o : Origin} (hidle : s.flash.op = none) (hpf1 : o ≠ .pf1) (hcore : o.isCore = false) :
    s.xspiVerify o =
      if s.flash.sfdp = true then
        { s.setWord .STA_XSPI_CMD (depo (depo (s.word .STA_XSPI_CMD 0 o.grp) 30 28 0) 31 31 1) 0 o.grp with
          flash := { s.flash with op := some (o.grp, 4, (s.word .STA_XSPI_ADDR 0 o.grp).toNat) } }
      else s.xspiErr o.grp 5 := by
  rw [State.xspiVerify, State.xspiBegin_checked 4 _ hidle hpf1 hcore]
  cases s.flash.sfdp with
  | true => simp only [if_true]
  | false => simp

/-- The end of the running command. -/
theorem State.xspiDone_running {s : State} {g op a : Nat} (ok : Bool) (h : s.flash.op = some (g, op, a)) : s.xspiDone ok =
    let A : State := ({ s with flash := { s.flash with op := none } } : State).setFld F.STA_XSPI_CMD_BUSY 0 0 g
    if ok = false then A.xspiErr g 5 else if op = 1 then A.xspiData g a else if op = 2 then A.xspiProgram g a
      else if op = 3 then A.xspiErase a else A.xspiVerified g a := by
  simp only [State.xspiDone, h, Bool.not_eq_true']

theorem State.xspiDone_idle {s : State} (ok : Bool) (h : s.flash.op = none) : s.xspiDone ok = s := by
  simp only [State.xspiDone, h]

/-- Settles O49: each command by its checks, its end by what runs. -/
theorem flashCommandsComplete : Obligations.FlashCommandsComplete := by
  refine ⟨?read, ?readNo, ?program, ?programNo, ?erase, ?eraseNo, ?verify, ?verifyNo, ?ends, ?idle⟩
  case read =>
    exact fun s o len hg hidle hpf1 hcore =>
      exec_of_granted_effect (c := .xspiRead o len) rfl hg (State.xspiRead_checked len hidle hpf1 hcore)
  case readNo => exact fun s o len hg h => exec_of_granted_effect (c := .xspiRead o len) rfl hg (State.xspiRead_refused len h)
  case program =>
    exact fun s o hg hidle hpf1 hcore =>
      exec_of_granted_effect (c := .xspiProgram o) rfl hg (State.xspiWrite_checked 2 256 hidle hpf1 hcore)
  case programNo => exact fun s o hg h => exec_of_granted_effect (c := .xspiProgram o) rfl hg (State.xspiBegin_refused _ _ h)
  case erase =>
    exact fun s o hg hidle hpf1 hcore =>
      exec_of_granted_effect (c := .xspiErase o) rfl hg (State.xspiWrite_checked 3 65536 hidle hpf1 hcore)
  case eraseNo => exact fun s o hg h => exec_of_granted_effect (c := .xspiErase o) rfl hg (State.xspiBegin_refused _ _ h)
  case verify =>
    exact fun s o hg hidle hpf1 hcore =>
      exec_of_granted_effect (c := .xspiVerify o) rfl hg (State.xspiVerify_checked hidle hpf1 hcore)
  case verifyNo => exact fun s o hg h => exec_of_granted_effect (c := .xspiVerify o) rfl hg (State.xspiBegin_refused _ _ h)
  case ends => exact fun s ok g op a h => exec_of_effect rfl (State.xspiDone_running ok h)
  case idle => exact fun s ok h => exec_of_effect rfl (State.xspiDone_idle ok h)

end Sys2Proof.Machine
end

section
/-!
PROOFS. The tack room's samples and monitors (R304-R307, R312) and its commands (R315-R324).
-/

namespace Sys2Proof.Machine

/-! ## Samples and monitors -/

/-- A clock monitor that runs. -/
theorem State.clockWindow_running {s : State} {ref : Nat} (res : ClkRes) (href : ref < 7) (ht : ref ≠ 5 ∨ s.start.refT = true)
    (hstim : s.stimulated 12 = false) : s.clockWindow ref res =
      let A : State := if (res != ClkRes.inRange) = s.tck.clkBad.getLsbD ref then s
        else { s with tck := { s.tck with clkBad := s.tck.clkBad ^^^ BitVec.ofNat 7 (2 ^ ref) } }
      let B : State := A.level 12 (A.tck.clkBad != 0#7)
      if res ≠ ClkRes.inRange ∧ s.tck.clkBad.getLsbD ref = false then B.clockLost ref else B := by
  have hrun : ¬ (7 ≤ ref ∨ (ref = 5 ∧ (!s.start.refT) = true) ∨ s.stimulated 12 = true) := by
    rcases ht with ht | ht <;> simp [ht, hstim, href]
  rw [State.clockWindow, if_neg hrun]
  simp only [beq_iff_eq, Bool.and_eq_true, bne_iff_ne, Bool.not_eq_true']

/-- A clock monitor that does not run, or that is being stimulated. -/
theorem State.clockWindow_idle {s : State} {ref : Nat} (res : ClkRes)
    (h : 7 ≤ ref ∨ (ref = 5 ∧ s.start.refT = false) ∨ s.stimulated 12 = true) : s.clockWindow ref res = s := by
  rw [State.clockWindow, if_pos (by simpa using h)]

theorem State.clockGlitch_eq (s : State) (ref : Nat) : s.clockGlitch ref =
    if ref < 7 ∧ (ref ≠ 5 ∨ s.start.refT = true) ∧ s.stimulated 13 = false then s.raise 13 else s := by
  unfold State.clockGlitch State.monEvent
  by_cases hidle : 7 ≤ ref ∨ (ref = 5 ∧ (!s.start.refT) = true)
  · rw [if_pos hidle, if_neg]
    rintro ⟨href, ht, -⟩
    rcases hidle with h | ⟨h, hoff⟩
    · omega
    · rcases ht with ht | ht
      · exact ht h
      · simp [ht] at hoff
  · rw [if_neg hidle]
    have hrun : ref < 7 ∧ (ref ≠ 5 ∨ s.start.refT = true) := by
      simp only [not_or, not_and, Bool.not_eq_true', Bool.not_eq_false] at hidle
      exact ⟨by omega, or_iff_not_imp_left.2 fun h => hidle.2 (not_not.1 h)⟩
    cases s.stimulated 13 with
    | true => simp
    | false => simp [hrun]

theorem State.supplyGlitch_eq (s : State) (k : Nat) : s.supplyGlitch k =
    if (k = 0 ∨ k = 1 ∨ k = 3 ∨ k = 6) ∧ s.stimulated 11 = false then s.raise 11 else s := by
  unfold State.supplyGlitch State.monEvent
  by_cases hk : k = 0 ∨ k = 1 ∨ k = 3 ∨ k = 6
  · cases s.stimulated 11 <;> simp [hk]
  · rw [if_neg hk, if_neg (fun h => hk h.1)]

/-- Settles O51: each sample and monitor by its operation. -/
theorem monitorsComplete : Obligations.MonitorsComplete := by
  refine ⟨?sample, ?window, ?windowIdle, fun s ref => exec_of_effect rfl (State.clockGlitch_eq s ref),
    fun s inRange => exec_of_effect rfl rfl, fun s supply => exec_of_effect rfl (State.supplyGlitch_eq s (supply % 10)), ?hold, ?holdIdle⟩
  case sample =>
    intro s r10 tmp strap
    refine exec_of_effect rfl ?_
    simp only [State.sealSample, State.tmpLook, beq_iff_eq]
  case window =>
    exact fun s ref res href ht hstim => exec_of_effect rfl (State.clockWindow_running res href ht hstim)
  case windowIdle => exact fun s ref res h => exec_of_effect rfl (State.clockWindow_idle res h)
  case hold =>
    intro s src h
    refine exec_of_effect rfl ?_
    rw [if_pos h, State.holdExpired]
  case holdIdle => exact fun s src h => exec_of_effect rfl (if_neg (by omega))

/-! ## TCK_CMD (R315, R318, R319, R323) -/

/-- TCK_CMD accepts PF0, Iaholt and SMBus. -/
theorem State.tckCmd_accepted {s : State} {o : Origin} (f : State → State) (hpf1 : o ≠ .pf1) (hcore : o.isCore = false) :
    s.tckCmd o f = f s := if_pos ((Origin.outside_iff o).2 ⟨hpf1, hcore⟩)

theorem State.tckCmd_refused {s : State} {o : Origin} (f : State → State) (h : o = .pf1 ∨ o.isCore = true) :
    s.tckCmd o f = s.cmdErr .TCK_CMD o.grp 1 := by
  have ho : ¬ (o == .pf0 || o == .iaholt || o == .smbus) = true := by
    rw [show (o == .pf0 || o == .iaholt || o == .smbus) = false from Origin.outside_eq_false h]
    decide
  rw [State.tckCmd, if_neg ho]

/-- Why ACK is refused; 0 when it is not. -/
def State.ackErr (s : State) : Nat :=
  if s.presence = false then 2 else if s.heldLevel = true then 3 else if s.zeroized = true then 4
  else if s.tck.anyPend = false then 5 else 0

/-- What an accepted ACK ends: isolation but EXTEST's, and everything pending. -/
def State.ackClear (s : State) : State :=
  { s with
    alarm := { s.alarm with isolated := s.jtag.extest }
    tck := { s.tck with pendI := false, pendF := false, pendS := false, zDone := false, pendStg := 0, pendSrc := 0 } }

theorem State.ack_eq {s : State} {o : Origin} (hpf1 : o ≠ .pf1) (hcore : o.isCore = false) : s.ack o =
    let B : State := if s.ackClear.pairRuns = true then s.ackClear.parTo .start else s.ackClear
    if s.ackErr = 0 then (((B.cmdErr .TCK_CMD o.grp 0).tckLog 4 0 0 0 0).setInt .TCK_INT_STAT 5).leaseLook
    else if s.ackErr = 2 then (s.cmdErr .TCK_CMD o.grp 2).fault5 o .TCK_CMD 0 else s.cmdErr .TCK_CMD o.grp s.ackErr := by
  rw [State.ack, State.tckCmd_accepted _ hpf1 hcore]
  unfold State.ackErr
  cases hpres : s.presence
  · simp
  cases hlevel : s.heldLevel
  · cases hz : s.zeroized
    · cases hpend : s.tck.anyPend
      · simp
      · simp [State.ackClear, hz]
    · simp
  · simp

theorem State.stim_eq {s : State} {o : Origin} (src : Nat) (hpf1 : o ≠ .pf1) (hcore : o.isCore = false) : s.stim o src =
    let A : State := s.setFld F.TCK_CMD_SRC (src % 32) 0 o.grp
    if s.tck.raised.getLsbD (src % 32) = true ∨ monitored (src % 32) = false ∨ s.tck.stimSt = 1 ∨ s.tck.onBat = true then
      A.cmdErr .TCK_CMD o.grp 6
    else { A.cmdErr .TCK_CMD o.grp 0 with tck := { s.tck with stimSt := 1, stimSrc := src % 32 } } := by
  rw [State.stim, State.tckCmd_accepted _ hpf1 hcore]
  simp only [State.setFld, State.setWord_tck, State.stimBegin, State.cmdErr, Bool.or_eq_true, Bool.not_eq_true', beq_iff_eq, or_assoc]

theorem State.ack_refused {s : State} {o : Origin} (h : o = .pf1 ∨ o.isCore = true) : s.ack o = s.cmdErr .TCK_CMD o.grp 1 := by
  rw [State.ack]
  exact State.tckCmd_refused _ h

theorem State.tckClose_eq {s : State} {o : Origin} (hpf1 : o ≠ .pf1) (hcore : o.isCore = false) : s.tckClose o =
    ({ s.cmdErr .TCK_CMD o.grp 0 with tck := { s.tck with pressWin := none } } : State).presLook s.presence := by
  rw [State.tckClose, State.tckCmd_accepted _ hpf1 hcore, State.windowClose]
  simp only [State.cmdErr, State.setWord_tck, State.presence]

/-! ## Stimulation (R318) -/

theorem State.stimRotate_eq (s : State) : s.stimRotate =
    let K : Nat := s.tck.stimNext
    let A : State := { s with tck := { s.tck with stimNext := if K = 14 then 12 else K + 1 } }
    if s.fld F.TCK_CTL_STIM_ROT_S = 0 ∨ s.tck.stimSt = 1 then s
    else if s.tck.raised.getLsbD K = true then A else { A with tck := { A.tck with stimSt := 1, stimSrc := K } } := by
  simp only [State.stimRotate, State.stimBegin]

theorem State.stimEnd_running {s : State} (pass holds : Bool) (h : s.tck.stimSt = 1) : s.stimEnd pass holds =
    let K : Nat := s.tck.stimSrc
    let A : State := (({ s with tck := { s.tck with stimSt := if pass then 2 else 3 } } : State).tckLog 3 0 0 0 K).setInt .TCK_INT_STAT 6
    let B : State := if pass = true then A else A.raise 25
    if holds = true ∧ K ≠ 11 ∧ K ≠ 13 ∧ K ≠ 14 then B.level K true else B := by
  simp only [State.stimEnd, h, bne_self_eq_false, Bool.false_eq_true, if_false, Bool.and_eq_true, bne_iff_ne, and_assoc]

theorem State.stimEnd_idle {s : State} (pass holds : Bool) (h : s.tck.stimSt ≠ 1) : s.stimEnd pass holds = s :=
  if_pos (by simpa using h)

/-! ## The presence window (R319) -/

/-- Closing a press's window ends presence or leaves the strap's. -/
theorem State.windowClose_eq (s : State) : s.windowClose =
    let A : State := { s with tck := { s.tck with pressWin := none } }
    if A.presence = s.presence then A else (A.windowEnds.tckLog 6 0 0 0 0).setInt .TCK_INT_STAT 3 := by
  rw [State.windowClose, State.presLook]
  dsimp only
  by_cases hsame : ({ s with tck := { s.tck with pressWin := none } } : State).presence = s.presence
  · rw [if_pos hsame, if_pos (by rw [hsame]; exact beq_self_eq_true _)]
  · have hclosed : ({ s with tck := { s.tck with pressWin := none } } : State).presence = false := by
      by_contra hopen
      have hstrap : (s.tck.strap && !s.tck.sealBad) = true := by simpa [State.presence] using hopen
      exact hsame (by simp [State.presence, hstrap])
    rw [if_neg hsame, if_neg (by simpa using hsame), if_neg (by simp [hclosed])]

/-! ## Flags, response records, the log window (R316, R323, R324) -/

theorem State.flagClear_eq (s : State) (o : Origin) (v : W32) : s.flagClear o v =
    if s.tck.flags &&& v.setWidth 26 = s.tck.flags then s
    else if s.presence = true then { s with tck := { s.tck with flags := s.tck.flags &&& v.setWidth 26 } }
    else s.fault5 o .TCK_FLAG 0 := by
  simp only [State.flagClear, beq_iff_eq]

/-- The response records have one copy for every master. -/
theorem copyOf_resp (o : Origin) (win : Bool) : copyOf o (if win then .TCK_RESP_WIN else .TCK_RESP) = 0 := by
  cases win
  · exact if_neg (by decide +kernel)
  · exact if_neg (by decide +kernel)

/-- A legal write of a response record that names a stage with its S stores it and restarts the source's count. -/
theorem State.respWrite_legal {s : State} {o : Origin} {src : Nat} {win : Bool} {v : W32} (hsrc : src < 26)
    (hpres : s.presence = true) (hl : s.legal o (if win then .TCK_RESP_WIN else .TCK_RESP) src v = true)
    (hstage : win = true ∨ bits (s.wouldBe o (if win then .TCK_RESP_WIN else .TCK_RESP) src 0 v) 28 28 = 0 ∨
      bits (s.wouldBe o (if win then .TCK_RESP_WIN else .TCK_RESP) src 0 v) 27 25 ≠ 0) :
    s.respWrite o src win v = { s.written o (if win then .TCK_RESP_WIN else .TCK_RESP) src v with
      tck := { s.tck with raises := s.tck.raises.put (fun _ => []) src [] } } := by
  have hrange : s.outOfRange (fieldsFor o (if win then .TCK_RESP_WIN else .TCK_RESP)) v = false := by
    simp only [State.legal, Bool.and_eq_true, Bool.not_eq_true'] at hl
    exact hl.1.2
  have hok : (win || !(bits (s.wouldBe o (if win then .TCK_RESP_WIN else .TCK_RESP) src 0 v) 28 28 == 1 &&
      bits (s.wouldBe o (if win then .TCK_RESP_WIN else .TCK_RESP) src 0 v) 27 25 == 0)) = true := by
    rcases hstage with h | h | h <;> simp [h]
  have hput := State.putReg_legal (ok := fun w => win || !(bits w 28 28 == 1 && bits w 27 25 == 0)) hl (by rw [copyOf_resp]; exact hok)
  simp only [State.respWrite, if_neg (show ¬ 26 ≤ src by omega), hput, hpres, hrange, hok, Bool.not_false, Bool.and_self, if_true,
    State.written, State.setWord_tck]

theorem State.tckLogRead_some {s : State} {o : Origin} {e : TckEnt} (h : s.tck.log[s.fld F.TCK_LOGW_IDX_AGE 0 o.grp]? = some e) :
    s.tckLogRead o = s.setWords .TCK_LOGW_DATA e.words o.grp := by
  simp only [State.tckLogRead, h]

theorem State.tckLogRead_none {s : State} {o : Origin} (h : s.tck.log[s.fld F.TCK_LOGW_IDX_AGE 0 o.grp]? = none) :
    s.tckLogRead o = s.setWords .TCK_LOGW_DATA [0#32, 0#32, 0#32, 0#32] o.grp := by
  simp only [State.tckLogRead, h]

/-- Settles O52: TCK_CMD by its masters and each command's checks, the others by their operations. -/
theorem tackCommandsComplete : Obligations.TackCommandsComplete := by
  refine ⟨?ack, ?ackNo, ?close, ?closeNo, ?stim, ?stimNo, ?stimEnd, ?stimIdle, fun s => exec_of_effect rfl (State.stimRotate_eq s),
    fun s => exec_of_effect rfl (State.windowClose_eq s), ?flag, ?resp, ?log, ?logEnd, fun s => rfl⟩
  case ack => exact fun s o hg hpf1 hcore => exec_of_granted_effect (c := .ack o) rfl hg (State.ack_eq hpf1 hcore)
  case ackNo => exact fun s o hg h => exec_of_granted_effect (c := .ack o) rfl hg (State.ack_refused h)
  case close =>
    exact fun s o hg hpf1 hcore => exec_of_granted_effect (c := .close o) rfl hg (State.tckClose_eq hpf1 hcore)
  case closeNo => exact fun s o hg h => exec_of_granted_effect (c := .close o) rfl hg (State.tckCmd_refused _ h)
  case stim => exact fun s o src hg hpf1 hcore => exec_of_granted_effect (c := .stim o src) rfl hg (State.stim_eq src hpf1 hcore)
  case stimNo => exact fun s o src hg h => exec_of_granted_effect (c := .stim o src) rfl hg (State.tckCmd_refused _ h)
  case stimEnd => exact fun s pass holds h => exec_of_effect rfl (State.stimEnd_running pass holds h)
  case stimIdle => exact fun s pass holds h => exec_of_effect rfl (State.stimEnd_idle pass holds h)
  case flag => exact fun s o v hg => exec_of_granted_effect (c := .flagClear o v) rfl hg (State.flagClear_eq s o v)
  case resp =>
    intro s o src win v hg hsrc hpres hl hstage
    have hmod : src % 32 = src := Nat.mod_eq_of_lt (by omega)
    refine exec_of_granted_effect (c := .responseRecordWrite o src win v)
      (f := fun t => t.respWrite o (src % 32) win v) (i := src % 32) rfl (hmod.symm ▸ hg) ?_
    rw [hmod]
    exact State.respWrite_legal hsrc hpres hl hstage
  case log => exact fun s o e hg h => exec_of_granted_effect (c := .tckLogwRead o) rfl hg (State.tckLogRead_some h)
  case logEnd => exact fun s o hg h => exec_of_granted_effect (c := .tckLogwRead o) rfl hg (State.tckLogRead_none h)

end Sys2Proof.Machine
end

section
/-!
PROOFS. KEY_ZERO outside a presence window (R10, R129, R342).
-/

namespace Sys2Proof.Machine

/-- A part in service, no presence window open, whose KEY_ZERO word already holds the pattern. -/
def patternStored : State := { start := { step := 15, held := false }, regs := [(regKey .KEY_ZERO 0 0, 0x5A3C#32)] }

theorem patternStored_granted : patternStored.grants .pf0 .KEY_ZERO = true := by decide

/-- The write that changes no refused field makes no access fault. -/
theorem patternStored_unfaulted :
    ((patternStored.done (patternStored.keyZero .pf0 0x5A3C#32)).acu 80).faultCnt = 0 := by decide

theorem patternStored_faulted :
    ((patternStored.done (patternStored.recordFault .pf0 (regAddr .KEY_ZERO 0) true 5)).acu 80).faultCnt = 1 := by decide

theorem patternStored_runs : exec (.keyZero .pf0 0x5A3C#32) patternStored =
    .next (patternStored.done (patternStored.keyZero .pf0 0x5A3C#32)) :=
  exec_granted (c := .keyZero .pf0 0x5A3C#32) (f := fun t => t.keyZero .pf0 0x5A3C#32) rfl patternStored_granted

/-- Refutes O59: its clause of KEY_ZERO has the fault of kind 5 for every word that KEY_ZERO holds, but a write of an RWP field is a
fault where it would change the field (R10), and over a word that holds the pattern it changes nothing. -/
theorem not_closedWindowRefusesGatedCommands : ¬ Obligations.ClosedWindowRefusesGatedCommands := by
  rintro ⟨-, -, -, -, hzero, -⟩
  have hclaim : exec (.keyZero .pf0 0x5A3C#32) patternStored =
      .next (patternStored.done (patternStored.recordFault .pf0 (regAddr .KEY_ZERO 0) true 5)) :=
    hzero patternStored .pf0 0x5A3C#32 patternStored_granted rfl rfl
  have hcnt := congrArg (fun t => (t.acu 80).faultCnt) (Host.Outcome.next.inj (patternStored_runs.symm.trans hclaim))
  simp only [patternStored_unfaulted, patternStored_faulted] at hcnt
  cases hcnt

end Sys2Proof.Machine
end

section
/-!
PROOFS. Register writes (R8-R10, R325-R327, R339, R361-R363).
-/

namespace Sys2Proof.Machine

/-! ## The path of a write -/

/-- An address outside the MSI-X tables and pending bits of the writing function. -/
def offTables (o : Origin) (a : Nat) : Prop := (o ≠ .pf0 ∧ o ≠ .pf1) ∨ a < 0x3000000 ∨ 0x3001008 ≤ a

theorem State.registerWrite_offTables (s : State) {o : Origin} {a : Nat} (v : W32) (h : offTables o a) :
    s.registerWrite o a v = (s.busWrite o a v).1 := by
  have htable : ((o == .pf0 || o == .pf1) && decide (0x3000000 ≤ a) && decide (a < 0x3000400) && decide (a % 4 = 0)) = false := by
    rcases h with ⟨h0, h1⟩ | h | h
    · simp [h0, h1]
    · simp [show ¬ 0x3000000 ≤ a by omega]
    · simp [show ¬ a < 0x3000400 by omega]
  have hpend : ((o == .pf0 || o == .pf1) && decide (0x3001000 ≤ a) && decide (a < 0x3001008)) = false := by
    rcases h with ⟨h0, h1⟩ | h | h
    · simp [h0, h1]
    · simp [show ¬ 0x3001000 ≤ a by omega]
    · simp [show ¬ a < 0x3001008 by omega]
  unfold State.registerWrite
  extract_lets pf w t n
  rw [if_neg (by rw [htable]; exact Bool.false_ne_true), if_neg (by rw [hpend]; exact Bool.false_ne_true)]

theorem State.registerWrite_denied {s : State} {o : Origin} {a : Nat} (v : W32) (h : offTables o a) (hk : s.acuKind o a true ≠ 0) :
    s.registerWrite o a v = s.recordFault o a true (s.acuKind o a true) := by
  rw [State.registerWrite_offTables s v h, State.busWrite]
  simp only [if_pos hk]

theorem State.registerWrite_memory {s : State} {o : Origin} {a : Nat} (v : W32) (h : offTables o a) (hk : s.acuKind o a true = 0)
    (hmem : coreMem a = true) : s.registerWrite o a v = s.wrMem a (leOctets 4 v.toNat) := by
  rw [State.registerWrite_offTables s v h, State.busWrite]
  simp only [if_neg (not_not.2 hk), hmem, if_true]

theorem State.registerWrite_unmapped {s : State} {o : Origin} {a : Nat} (v : W32) (h : offTables o a) (hk : s.acuKind o a true = 0)
    (hmem : coreMem a = false) (hreg : findReg a = none) :
    s.registerWrite o a v = if lptHole a = true then s else s.recordFault o a true 6 := by
  rw [State.registerWrite_offTables s v h, State.busWrite]
  simp only [if_neg (not_not.2 hk), hmem, hreg, Bool.false_eq_true, if_false, apply_ite Prod.fst]

theorem State.registerWrite_register {s : State} {o : Origin} {a : Nat} (v : W32) {x : RegInfo} {i : Nat} (h : offTables o a)
    (hk : s.acuKind o a true = 0) (hmem : coreMem a = false) (hreg : findReg a = some (x, i)) :
    s.registerWrite o a v = s.regWrite o x.reg i v := by
  rw [State.registerWrite_offTables s v h, State.busWrite]
  simp only [if_neg (not_not.2 hk), hmem, hreg, Bool.false_eq_true, if_false]

theorem State.msix_table (s : State) (t : Tab W32) :
    ({ s with pci := { s.pci with table := t } } : State).pci.msix = s.pci.msix := rfl

/-- Once the table holds an entry's word, unmasking a pending vector sends its message. -/
theorem State.unmask_eq {s T : State} (v : W32) (pf w n : Nat) (h : T.pci.msix = s.pci.msix) :
    (if (decide (w % 4 = 3) && bits v 0 0 == 0 && T.pci.msix.getLsbD n) = true then
      ({ T with pci := { T.pci with msix := T.pci.msix &&& ~~~(BitVec.ofNat 128 (2 ^ n)) } } : State).emit (.msix pf (w / 4))
    else T) =
    if w % 4 = 3 ∧ bits v 0 0 = 0 ∧ s.pci.msix.getLsbD n = true then
      ({ T with pci := { T.pci with msix := s.pci.msix &&& ~~~(BitVec.ofNat 128 (2 ^ n)) } } : State).emit (.msix pf (w / 4))
    else T := by
  rw [h]
  exact if_congr (by simp only [Bool.and_eq_true, decide_eq_true_eq, beq_iff_eq, and_assoc]) rfl rfl

/-- A write into the function's own MSI-X table (R327, R361). -/
theorem State.registerWrite_table {s : State} {o : Origin} {a : Nat} (v : W32) (ho : o = .pf0 ∨ o = .pf1) (hlo : 0x3000000 ≤ a)
    (hhi : a < 0x3000400) (hal : a % 4 = 0) : s.registerWrite o a v =
      let P : Nat := if o = .pf1 then 1 else 0
      let T : State := { s with pci := { s.pci with table := s.pci.table.put msixDflt (P * 2 ^ 16 + (a - 0x3000000) / 4) v } }
      if (a - 0x3000000) / 4 % 4 = 3 ∧ bits v 0 0 = 0 ∧ s.pci.msix.getLsbD (P * 64 + (a - 0x3000000) / 4 / 4) = true then
        ({ T with pci := { T.pci with
          msix := s.pci.msix &&& ~~~(BitVec.ofNat 128 (2 ^ (P * 64 + (a - 0x3000000) / 4 / 4))) } } : State).emit
            (.msix P ((a - 0x3000000) / 4 / 4))
      else T := by
  have htable : ((o == .pf0 || o == .pf1) && decide (0x3000000 ≤ a) && decide (a < 0x3000400) && decide (a % 4 = 0)) = true := by
    rcases ho with rfl | rfl <;> simp [hlo, hhi, hal]
  have hpf : (if (o == .pf1) = true then 1 else 0) = if o = .pf1 then 1 else 0 := if_congr beq_iff_eq rfl rfl
  unfold State.registerWrite
  rw [hpf]
  extract_lets P w src T n
  rw [if_pos htable]
  exact State.unmask_eq v P w n (State.msix_table s _)

/-- The registers whose write is a command or an operation of their block. -/
def ownWrite : List Reg :=
  [.PWR_CTL, .TCK_FLAG, .TCK_RESP, .TCK_RESP_WIN, .TIM_CTL, .TIM_HOST, .TIM_CAP_CFG, .HPT_CFG, .LPT_CFG, .HPT_MAX_FRAME, .HPT_FC_THR,
    .HPT_DORMANT, .LPT_DORMANT, .HPT_RECAL, .LPT_RECAL, .CLS_AGE, .CLS_LP_MODE, .SEC_CTL, .SEC_SECY_CFG, .SEC_SECY_WIN, .YRD_TEST,
    .MKA_TIME0, .MKA_TIME1, .MKA_TIME2, .MKA_TIME3, .KEY_ZERO, .KEY_PROV_CMD, .KEY_PROV_DATA, .SVC_CTL, .TMG_PORT_CFG, .PCI_IVEC,
    .HFR_TX_BASE_LO, .HFR_TX_BASE_HI, .HFR_TX_CTL, .HFR_TX_TAIL, .HFR_RX_BASE_LO, .HFR_RX_BASE_HI, .HFR_RX_CTL, .HFR_RX_TAIL]

/-- A register with no operation of its own takes the plain write, and its interrupt sources are looked at again. -/
theorem State.regWrite_plain (s : State) (o : Origin) {r : Reg} (i : Nat) (v : W32) (hcmd : isCmd r = false)
    (hobs : r.within .OBS_CTL .OBS_CEL_CNT_HI = false) (hout : r.within .TIM_OUT_CFG .TIM_OUT_WIDTH = false)
    (hown : ownWrite.contains r = false) : s.regWrite o r i v = (s.putRegPlain o r i v).irqs r := by
  simp only [State.regWrite, hcmd, hobs, hout, Bool.false_eq_true, if_false]
  congr 1
  split
  case h_40 => rfl
  all_goals exact absurd hown (by decide)

/-- Settles O53: each write by where its address stands. -/
theorem registerWritesComplete : Obligations.RegisterWritesComplete := by
  refine ⟨?plain, ?memory, ?table, ?denied, ?unmapped, ?register⟩
  case plain =>
    intro s o addr v x i haddr hk hmem hreg hcmd hobs hout hown hl
    have hoff : offTables o addr := haddr.imp_right .inl
    refine exec_of_effect rfl (congrArg State.firmware ?_)
    rw [State.registerWrite_register v hoff hk hmem hreg, State.regWrite_plain s o i v hcmd hobs hout hown, State.putRegPlain,
      State.putReg_legal hl rfl]
  case memory =>
    exact fun s o addr v ho hk hmem =>
      exec_of_effect rfl (congrArg State.firmware (State.registerWrite_memory v (.inl ho) hk hmem))
  case table =>
    exact fun s o addr v ho hlo hhi hal =>
      exec_of_effect rfl (congrArg State.firmware (State.registerWrite_table v ho hlo hhi hal))
  case denied =>
    exact fun s o addr v h hk => exec_of_effect rfl (congrArg State.firmware (State.registerWrite_denied v h hk))
  case unmapped =>
    exact fun s o addr v h hk hmem hreg =>
      exec_of_effect rfl (congrArg State.firmware (State.registerWrite_unmapped v h hk hmem hreg))
  case register =>
    exact fun s o addr v x i h hk hmem hreg =>
      exec_of_effect rfl (congrArg State.firmware (State.registerWrite_register v h hk hmem hreg))

end Sys2Proof.Machine
end

section
/-!
PROOFS. SMBus (R335) and Iaholt (R336, R337).
-/

namespace Sys2Proof.Machine

/-! ## SMBus (R335) -/

theorem State.smbAddr_good (s : State) (a : Nat) : s.smbAddr true a = { s with smb := { s.smb with off := a % 4294967296 } } := by
  rw [State.smbAddr, if_pos rfl, State.setSmb, show 2 ^ 32 = 4294967296 from rfl]

theorem State.smbAddr_bad (s : State) (a : Nat) :
    s.smbAddr false a = ({ s with smb := { s.smb with pecErr := true } } : State).emit .smbNack := by
  rw [State.smbAddr, if_neg Bool.false_ne_true, State.smbBad, State.setSmb]

theorem State.smbNext_eq (s : State) (f : Bool) :
    s.smbNext f = { s with smb := { s.smb with fault := f, off := (s.smb.off + 4) % 4294967296 } } := by
  rw [State.smbNext, State.setSmb, show 2 ^ 32 = 4294967296 from rfl]

theorem State.smbRead_eq (s : State) : s.smbRead =
    let B : State × W32 × Bool := s.busRead .smbus s.smb.off
    ({ B.1 with smb := { B.1.smb with fault := B.2.2, off := (B.1.smb.off + 4) % 4294967296 } } : State).emit
      (.smbData (leOctets 4 B.2.1.toNat)) := by
  simp only [State.smbRead, State.smbNext_eq]

theorem State.smbWrite_eq (s : State) (pec : Bool) (v : W32) : s.smbWrite pec v =
    let B : State × Bool := s.busWrite .smbus s.smb.off v
    if pec = true then { B.1 with smb := { B.1.smb with fault := B.2, off := (B.1.smb.off + 4) % 4294967296 } }
    else ({ s with smb := { s.smb with pecErr := true } } : State).emit .smbNack := by
  simp only [State.smbWrite, State.smbNext_eq, State.smbBad, State.setSmb]

theorem State.smbStatus_eq (s : State) : s.smbStatus = ({ s with smb := { s.smb with pecErr := false } } : State).emit
    (.smbData [BitVec.ofNat 8 ((if s.smb.fault then 1 else 0) + (if s.smb.pecErr then 4 else 0) +
      (if s.start.safeHold then 8 else 0))]) := by
  have hbits : ∀ a b c : Bool, b2n a + 4 * b2n b + 8 * b2n c =
      (if a then 1 else 0) + (if b then 4 else 0) + (if c then 8 else 0) := by decide
  rw [State.smbStatus, hbits, State.setSmb]

/-! ## Sessions of Iaholt (R336, R337) -/

/-- OPEN while Iaholt runs, a slot is free and the client may open: the draws, then the answer when the client's key is valid. -/
theorem State.iahOpen_drawn {s : State} {nonce pub : List Byte} {k : Nat}
    (hfree : firstIdx (fun j => !(s.sess.look (fun _ => {}) j).open_) 0 4 = some k) (hen : s.flag F.MGT_CFG_IAH_EN = true)
    (hmay : s.cakKey 1022 ≠ [] ∨ s.presence = true) (hlen : nonce.length = 16) (hdrbg : s.drbgKOk = true) :
    s.iahOpen nonce pub =
      let A : BitVec 512 × State := s.drbgReq.draw
      let B : BitVec 512 × State := A.2.draw
      let N : List Byte := beOctets 16 (A.1.toNat % 2 ^ 128)
      let I : W32 := BitVec.ofNat 32 (A.1.toNat / 2 ^ 128)
      let P : List Byte := ecPub (privOf B.1)
      let T : List Byte := nonce ++ pub ++ N ++ P
      match ecdh (privOf B.1) pub with
      | none => s
      | some z => ({ B.2 with sess := B.2.sess.put (fun _ => {}) k {
          open_ := true, id := I, byWin := (s.cakKey 1022).isEmpty
          key := if (s.cakKey 1022).isEmpty then (sha384 (z ++ T)).take 32 else kdf (s.cakKey 1022) "SVT Iaholt" (z ++ T) 32 } } :
          State).mgtSend (.iaholt (beOctets 4 I.toNat ++ N ++ P)) (B.2.mgtUdp 145) := by
  have hgo : (!s.flag F.MGT_CFG_IAH_EN || ((s.cakKey 1022).isEmpty && !s.presence) || decide (nonce.length ≠ 16)) = false := by
    rcases hmay with h | h <;> simp [hen, hlen, h]
  simp only [State.iahOpen, hfree, hdrbg, Bool.not_true, Bool.false_eq_true, if_false]
  rw [if_neg (by simpa using hgo)] <;> rfl

/-- OPEN while Iaholt does not run, or by a client that may not open. -/
theorem State.iahOpen_refused {s : State} {nonce pub : List Byte}
    (h : s.flag F.MGT_CFG_IAH_EN = false ∨ (s.cakKey 1022 = [] ∧ s.presence = false) ∨ nonce.length ≠ 16) :
    s.iahOpen nonce pub = s := by
  have hstop : (!s.flag F.MGT_CFG_IAH_EN || ((s.cakKey 1022).isEmpty && !s.presence) || decide (nonce.length ≠ 16)) = true := by
    rcases h with h | ⟨h, h'⟩ | h <;> simp [*]
  unfold State.iahOpen
  dsimp only
  split
  next => rfl
  next => rw [if_pos hstop]

/-- A datagram of a known session, with a good tag and a new SEQ. -/
theorem State.iahTake_accepts {s : State} {h : IahHdr} {k : Nat} {x : IahSess} (f : State → Nat → State)
    (hsess : s.sessOf h.session = some (k, x)) (hen : s.flag F.MGT_CFG_IAH_EN = true) (htag : h.tagOk = true) (hseq : x.seq < h.seq) :
    s.iahTake h f = f { s with sess := s.sess.put (fun _ => {}) k { x with seq := h.seq } } k := by
  have hgood : (!h.tagOk || decide (h.seq ≤ x.seq)) = false := by simp [htag, hseq]
  simp only [State.iahTake, hsess, hen, hgood, Bool.not_true, Bool.false_eq_true, if_false]

/-- A datagram of no session, or with a bad tag while Iaholt runs. -/
theorem State.iahTake_unknown {s : State} {h : IahHdr} (f : State → Nat → State)
    (hbad : s.sessOf h.session = none ∨ (s.flag F.MGT_CFG_IAH_EN = true ∧ h.tagOk = false)) :
    s.iahTake h f = { s with iahDrop := s.iahDrop + 1 } := by
  cases hsess : s.sessOf h.session with
  | none => simp only [State.iahTake, hsess]
  | some e =>
    obtain ⟨hen, htag⟩ := hbad.resolve_left (by simp [hsess])
    exact State.iahTake_discards f hsess hen (.inl htag)

theorem State.sessClose_closed (s : State) (k : Nat) : (s.sessClose k).sess.look (fun _ => {}) k = {} :=
  Tab.look_put_self (fun _ => ({} : IahSess)) s.sess k {}

/-- Settles O55: SMBus by its operations, Iaholt by what takes its datagrams. -/
theorem smbusAndIaholtComplete : Obligations.SmbusAndIaholtComplete := by
  refine ⟨?addr, ?addrBad, fun s => exec_of_effect rfl (State.smbRead_eq s), ?write,
    fun s => exec_of_effect rfl (State.smbStatus_eq s), fun s => rfl, fun s => rfl, ?open_, ?openNo, ?read, ?readNo, ?iahWrite,
    ?iahWriteNo, ?close, fun s slot => rfl⟩
  case addr =>
    rintro s pec addr rfl
    exact exec_of_effect rfl (State.smbAddr_good s addr)
  case addrBad =>
    rintro s pec addr rfl
    exact exec_of_effect rfl (State.smbAddr_bad s addr)
  case write => exact fun s pec v => exec_of_effect rfl (congrArg State.firmware (State.smbWrite_eq s pec v))
  case open_ =>
    exact fun s nonce pub k hfree hen hmay hlen hdrbg => exec_of_effect rfl (State.iahOpen_drawn hfree hen hmay hlen hdrbg)
  case openNo => exact fun s nonce pub h => exec_of_effect rfl (State.iahOpen_refused h)
  case read =>
    exact fun s h start count k x hsess hen htag hseq => exec_of_effect rfl (State.iahTake_accepts _ hsess hen htag hseq)
  case readNo => exact fun s h start count hbad => exec_of_effect rfl (State.iahTake_unknown _ hbad)
  case iahWrite =>
    exact fun s h pairs k x hsess hen htag hseq =>
      exec_of_effect rfl (congrArg State.firmware (State.iahTake_accepts _ hsess hen htag hseq))
  case iahWriteNo =>
    exact fun s h pairs k x hsess hen hbad =>
      exec_of_effect rfl (congrArg State.firmware (State.iahTake_discards _ hsess hen hbad))
  case close =>
    exact fun s h k x hsess hen htag hseq =>
      ⟨_, exec_of_effect rfl (State.iahTake_accepts _ hsess hen htag hseq), State.sessClose_closed _ k, rfl, rfl⟩

end Sys2Proof.Machine
end

section
/-!
PROOFS. COMMIT of an ACU (R343, R344), the TAP and the debug unlock (R346, R347).
-/

namespace Sys2Proof.Machine

/-! ## COMMIT (R343, R344) -/

theorem acu_open {s : State} {u : Nat} (hp : (u ≠ 80 ∧ u ≠ 81) ∨ s.presence = true) :
    ¬ ((u = 80 ∨ u = 81) ∧ (!s.presence) = true) := by
  rintro ⟨hu, hclosed⟩
  rcases hp with hp | hp
  · omega
  · simp [hp] at hclosed

/-- A COMMIT of drained, lawful rules. -/
theorem State.acuCommit_taken {s : State} {o : Origin} {u : Nat} (hm : acuMaster o u = true)
    (hp : (u ≠ 80 ∧ u ≠ 81) ∨ s.presence = true) (hd : (s.acu u).drained = true) (hr : rulesOk (s.acuShadow u) = true) :
    s.acuCommit o u = s.setAcu u { s.acu u with rules := s.acuShadow u, drained := false, err := 0 } := by
  simp only [State.acuCommit, hm, hd, hr, Bool.not_true, Bool.false_eq_true, if_false, acu_open hp]
  rfl

/-- A COMMIT refused for its master, the fence or the rules, in this order. -/
theorem State.acuCommit_error {s : State} {o : Origin} {u : Nat}
    (h : acuMaster o u = false ∨ (s.acu u).drained = false ∨ rulesOk (s.acuShadow u) = false)
    (hp : (u ≠ 80 ∧ u ≠ 81) ∨ s.presence = true) :
    s.acuCommit o u = s.acuRefuse u (if acuMaster o u = false then 1 else if (s.acu u).drained = false then 3 else 2) := by
  cases hm : acuMaster o u with
  | false => simp [State.acuCommit, hm]
  | true =>
    rw [State.acuCommit_refused hm hp (h.resolve_left (by simp [hm])), if_neg (show ¬ true = false by simp)]

/-! ## The TAP (R346) -/

/-- Inside a presence window a gated instruction is loaded and acts. -/
theorem State.gatedIr_open {s : State} (c : BitVec 8) (f : State → State) (hpres : s.presence = true) : s.gatedIr c f = f (s.ir c) := by
  rw [State.gatedIr, if_pos hpres]

theorem State.extest_open {s : State} (c : BitVec 8) (hpres : s.presence = true) :
    s.extest c = ({ s with jtag := { s.jtag with ir := c, extest := true } } : State).isolate := by
  rw [State.extest, State.gatedIr_open c _ hpres, State.ir]

/-- Settles O56: COMMIT by its checks, the TAP by the presence window. -/
theorem commitsAndTapInstructionsComplete : Obligations.CommitsAndTapInstructionsComplete := by
  refine ⟨?commit, ?commitNo, fun s acu => rfl, fun s h => exec_of_effect rfl (State.extest_open _ h),
    fun s h => exec_of_effect rfl (State.gatedIr_closed _ _ h), fun s h => exec_of_effect rfl (State.extest_open _ h),
    fun s h => exec_of_effect rfl (State.gatedIr_closed _ _ h), fun s h => exec_of_effect rfl (State.extest_open _ h),
    fun s h => exec_of_effect rfl (State.gatedIr_closed _ _ h), fun s h => exec_of_effect rfl (State.gatedIr_open _ _ h),
    fun s h => exec_of_effect rfl (State.gatedIr_closed _ _ h), fun s h => exec_of_effect rfl (State.gatedIr_open _ _ h),
    fun s h => exec_of_effect rfl (State.gatedIr_closed _ _ h), fun s => rfl, fun s => rfl, fun s => rfl⟩
  case commit =>
    exact fun s o acu hg hm hp hd hr =>
      exec_of_granted_effect (c := .acuCommit o acu) rfl hg (State.acuCommit_taken hm hp hd hr)
  case commitNo =>
    exact fun s o acu hg h hp => exec_of_granted_effect (c := .acuCommit o acu) rfl hg (State.acuCommit_error h hp)

/-! ## The debug unlock (R347) -/

theorem State.dbgChal_drawn {s : State} (h : s.drbgKOk = true) : s.dbgChal =
    let A : BitVec 512 × State := ({ s with jtag := { s.jtag with ir := 0x20#8 } } : State).drbgReq.draw
    ({ A.2 with jtag := { A.2.jtag with nonce := some (beOctets 16 (A.1.toNat % 2 ^ 128)) } } : State).emit
      (.tdo (beOctets 8 s.fuses.serial.toNat ++ beOctets 16 (A.1.toNat % 2 ^ 128))) := by
  have hok : (s.ir 0x20).drbgKOk = true := h
  simp only [State.dbgChal, hok, Bool.not_true, Bool.false_eq_true, if_false]
  rfl

theorem State.dbgChal_refused {s : State} (h : s.drbgKOk = false) :
    s.dbgChal = ({ s with jtag := { s.jtag with ir := 0x20#8 } } : State).drbgRefused := by
  have hno : (s.ir 0x20).drbgKOk = false := h
  simp only [State.dbgChal, hno, Bool.not_false, if_true]
  rfl

/-- A response in a presence window, from the fused key, to the nonce given. -/
theorem State.dbgCheck_nonce {s : State} {pub n : List Byte} (r sg : List Byte) (hn : s.jtag.nonce = some n) (hp : s.presence = true)
    (hpub : sha384 pub = s.fuses.keyHash) : s.dbgCheck pub r sg =
      if ecdsaOk pub (ascii "SVT debug unlock" ++ beOctets 8 s.fuses.serial.toNat ++ n) r sg = false then 3
      else if s.start.safeHold = false ∧ s.alarm.isolated = false then 4 else 0 := by
  simp only [State.dbgCheck, hn, hp, hpub, ne_eq, not_true_eq_false, Bool.not_true, Bool.false_eq_true, if_false, Bool.not_eq_true',
    Bool.or_eq_false_iff]

theorem State.dbgCheck_none {s : State} (pub r sg : List Byte) (h : s.presence = false ∨ s.jtag.nonce = none) :
    s.dbgCheck pub r sg = if s.presence = false then 1 else 5 := by
  unfold State.dbgCheck
  cases hn : s.jtag.nonce with
  | none => cases s.presence <;> rfl
  | some n =>
    have hp : s.presence = false := h.resolve_right (by simp [hn])
    simp [hp]

/-- What a response does once it is checked: a nonce serves once. -/
theorem State.dbgResp_eq (s : State) (pub r sg : List Byte) : s.dbgResp pub r sg =
    if s.dbgCheck pub r sg = 0 then (({ s with
        svc := []
        mem := s.mem.filter (fun c => decide (0x31000000 ≤ c.1))
        jtag := { s.jtag with ir := 0x21#8, nonce := none, lastErr := 0, unlocked := true } } : State).setInt .ACU_INT_STAT 2).raise 24
    else ({ s with jtag := { s.jtag with ir := 0x21#8, nonce := none, lastErr := s.dbgCheck pub r sg } } : State).setInt
      .ACU_INT_STAT 2 := by
  unfold State.dbgResp State.ir
  generalize s.dbgCheck pub r sg = e
  by_cases he : e = 0
  · subst he
    rfl
  · simp only [if_neg he]
    rfl

theorem exec_debugLocked {s : State} (k : DbgKind) (h : s.jtag.unlocked = false) :
    exec (.debugAccess k) s = .next (s.done (s.ir 0xFF#8)) :=
  if_pos (by simp [h])

theorem exec_debugHalt {s : State} (c : Nat) (h : s.jtag.unlocked = true) :
    exec (.debugAccess (.halt c)) s = .next (s.done (s.dbgHalt c true)) := if_neg (by simp [h])

theorem exec_debugResume {s : State} (c : Nat) (h : s.jtag.unlocked = true) :
    exec (.debugAccess (.resume c)) s = .next (s.done (s.dbgHalt c false)) := if_neg (by simp [h])

theorem exec_debugRead {s : State} (c a : Nat) (h : s.jtag.unlocked = true) :
    exec (.debugAccess (.read c a)) s = .next (s.done (s.dbgRead c a)) := if_neg (by simp [h])

theorem exec_debugWrite {s : State} (c a : Nat) (v : W32) (h : s.jtag.unlocked = true) :
    exec (.debugAccess (.write c a v)) s = .next (s.done (s.dbgWrite c a v)) := if_neg (by simp [h])

/-- Settles O57: the unlock by its checks, each instruction by the unlock. -/
theorem debugCommandsComplete : Obligations.DebugCommandsComplete := by
  refine ⟨fun s h => exec_of_effect rfl (State.dbgChal_drawn h), fun s h => exec_of_effect rfl (State.dbgChal_refused h), ?resp, ?respNo,
    ?halt, fun s k h => exec_debugLocked k h, ?read, ?write, ?step, ?scan⟩
  case resp =>
    intro s pub r sg n hn hp hpub M E
    refine exec_of_effect rfl ?_
    rw [State.dbgResp_eq, State.dbgCheck_nonce r sg hn hp hpub]
  case respNo =>
    intro s pub r sg h
    refine exec_of_effect rfl ?_
    rw [State.dbgResp_eq, State.dbgCheck_none pub r sg h, if_neg (by split_ifs <;> decide)]
  case halt =>
    intro s k c hu hk
    rcases hk with rfl | rfl
    · exact exec_of_effect (exec_debugHalt c hu) (by rw [if_pos rfl]; rfl)
    · exact exec_of_effect (exec_debugResume c hu) (by rw [if_neg (by simp), List.append_nil]; rfl)
  case read =>
    rintro s k c a hu rfl
    exact exec_of_effect (exec_debugRead c a hu) rfl
  case write =>
    rintro s k c a v hu rfl
    exact exec_of_effect (exec_debugWrite c a v hu) rfl
  case step =>
    rintro s k c hu rfl
    exact exec_debugStep c hu
  case scan =>
    rintro s k hu rfl
    exact exec_debugScan hu

end Sys2Proof.Machine
end

section
/-!
PROOFS. The observation unit's samples, FREEZE, windows and event log (R354-R360).
-/

namespace Sys2Proof.Machine

/-! ## Samples (R354, R360) -/

/-- The sample that the occurrence after a wrap gives. -/
def State.sampleOf (s : State) (u : ObsUnit) (c : Nat) (d1 d2 : W32) (wrap : Nat) : Sample :=
  { unit := u.code, idx := u.idx, cnt := c
    d1 := match u with
      | .port n => BitVec.ofNat 32 (s.fifoFill (n % 128) / 256)
      | _ => d1
    d2 := match u with
      | .port _ => 0#32
      | _ => d2
    occ := match u with
      | .engine e => (s.eng (e % 64)).slots.length
      | _ => 0
    ns := s.nowNs, wrap := wrap }

/-- A wrapped counter's sample is stored, or lost when 256 are held. -/
theorem State.wrapSample_wrapped {s : State} {u : ObsUnit} {c : Nat} (d1 d2 : W32) {w : Nat × Nat}
    (hw : s.obs.wrapped.find? (fun e => e.1 == obsKey u c) = some w) (hon : s.obs.on = true) : s.wrapSample u c d1 d2 =
      let A : State := { s with obs := { s.obs with wrapped := s.obs.wrapped.filter (fun j => j.1 != obsKey u c) } }
      let B : State := { A with obs := { A.obs with samples := putSample A.obs.samples (s.sampleOf u c d1 d2 w.2) } }
      if 256 ≤ s.obs.samples.length then A.setInt .OBS_INT_STAT 1
      else if s.obs.samples.length = 127 then B.setInt .OBS_INT_STAT 0 else B := by
  simp only [State.wrapSample, hw, hon, Bool.not_true, Bool.false_eq_true, if_false]
  rfl

theorem State.wrapSample_none {s : State} {u : ObsUnit} {c : Nat} (d1 d2 : W32)
    (h : s.obs.wrapped.find? (fun e => e.1 == obsKey u c) = none ∨ s.obs.on = false) : s.wrapSample u c d1 d2 = s := by
  cases hw : s.obs.wrapped.find? (fun e => e.1 == obsKey u c) with
  | none => simp only [State.wrapSample, hw]
  | some w =>
    have hoff : s.obs.on = false := h.resolve_left (by simp [hw])
    simp only [State.wrapSample, hw, hoff, Bool.not_false, if_true]

theorem State.smpPop_accepted {s : State} {o : Origin} (h : s.accepts o .OBS_SMPW_CMD 0 = true) : s.smpPop o =
    if s.obs.on = false then s
    else match s.obs.samples with
      | [] => s.setWord .OBS_SMPW_DATA 0#32 0 o.grp
      | x :: l => ({ s with obs := { s.obs with samples := l } } : State).setWords .OBS_SMPW_DATA x.words o.grp := by
  simp only [State.smpPop, h, Bool.not_true, Bool.false_eq_true, if_false, Bool.not_eq_true'] <;> rfl

theorem State.smpPop_refused {s : State} {o : Origin} (h : s.accepts o .OBS_SMPW_CMD 0 = false) :
    s.smpPop o = s.fault4 o .OBS_SMPW_CMD 0 := by
  rw [State.smpPop, if_pos (by simp [h])]

/-! ## FREEZE (R355) -/

theorem State.freeze_legal {s : State} {o : Origin} {on : Bool}
    (h : s.legal o .OBS_CTL 0 (depo (s.word .OBS_CTL) 31 31 (if on then 1 else 0)) = true) :
    s.freeze o on = s.written o .OBS_CTL 0 (depo (s.word .OBS_CTL) 31 31 (if on then 1 else 0)) := by
  rw [State.freeze, State.putRegPlain, show b2n on = if on then 1 else 0 from rfl]
  exact State.putReg_legal h rfl

/-! ## The event log (R359, R360) -/

theorem State.logEvent_next {s : State} {x : LogPend} (h : nextLog s.obs.pend = some x) : s.logEvent =
    let L : Nat := s.obs.lastLog.look (fun _ => 0) x.key
    if 0 < L ∧ x.ns < L - 1 + 1000000 then
      { s with obs := { s.obs with
        pend := s.obs.pend.erase x
        supp := s.obs.supp.put (fun _ => 0) x.key (min (s.obs.supp.look (fun _ => 0) x.key + 1) 255) } }
    else ({ s with obs := { s.obs with
        pend := s.obs.pend.erase x
        log := (({ t := x.t, src := x.src, port := if x.src = 16 ∨ x.src = 17 then x.port else 0, bit := x.bit
                   supp := s.obs.supp.look (fun _ => 0) x.key, evt := x.evt, seq := s.obs.logSeq + 1 } : LogEnt) ::
          s.obs.log).take 1024
        logSeq := s.obs.logSeq + 1
        supp := s.obs.supp.put (fun _ => 0) x.key 0
        lastLog := s.obs.lastLog.put (fun _ => 0) x.key (x.ns + 1) } } : State).setInt .OBS_INT_STAT 2 := by
  simp only [State.logEvent, h]

theorem State.logEvent_none {s : State} (h : nextLog s.obs.pend = none) : s.logEvent = s := by
  simp only [State.logEvent, h]

theorem State.logRead_accepted {s : State} {o : Origin} (h : s.accepts o .OBS_LOGW_CMD 0 = true) : s.logRead o =
    match s.obs.log[s.fld F.OBS_LOGW_IDX_AGE 0 o.grp]? with
    | some e => (s.setWords .OBS_LOGW_DATA e.words o.grp).setWord .OBS_LOGW_SEQ (BitVec.ofNat 32 e.seq) 0 o.grp
    | none => (s.setWords .OBS_LOGW_DATA [0#32, 0#32, 0#32, 0#32] o.grp).setWord .OBS_LOGW_SEQ 0#32 0 o.grp := by
  simp only [State.logRead, h, Bool.not_true, Bool.false_eq_true, if_false] <;> rfl

theorem State.logRead_refused {s : State} {o : Origin} (h : s.accepts o .OBS_LOGW_CMD 0 = false) :
    s.logRead o = s.fault4 o .OBS_LOGW_CMD 0 := by
  rw [State.logRead, if_pos (by simp [h])]

/-- Settles O58: each command by its operation. -/
theorem observationCommandsComplete : Obligations.ObservationCommandsComplete := by
  refine ⟨?sample, fun s u c d1 d2 h => exec_of_effect rfl (State.wrapSample_none d1 d2 h), ?pop, ?popNo, ?freeze,
    fun s x h => exec_of_effect rfl (State.logEvent_next h), fun s h => exec_of_effect rfl (State.logEvent_none h), ?log, ?logNo⟩
  case sample =>
    exact fun s u c d1 d2 w hw hon => (exec_of_effect rfl (State.wrapSample_wrapped d1 d2 hw hon)).trans rfl
  case pop => exact fun s o hg h => (exec_of_granted_effect (c := .smpwPop o) rfl hg (State.smpPop_accepted h)).trans rfl
  case popNo => exact fun s o hg h => exec_of_granted_effect (c := .smpwPop o) rfl hg (State.smpPop_refused h)
  case freeze => exact fun s o on hg h => exec_of_granted_effect (c := .freeze o on) rfl hg (State.freeze_legal h)
  case log => exact fun s o hg h => (exec_of_granted_effect (c := .obsLogwRead o) rfl hg (State.logRead_accepted h)).trans rfl
  case logNo => exact fun s o hg h => exec_of_granted_effect (c := .obsLogwRead o) rfl hg (State.logRead_refused h)

end Sys2Proof.Machine
end
